-- ==== Sys2Proof/Word.lean ====
section
/-! DEFINITION. The word types of the module (R13: bit 0 is the least significant bit) and the
sparse table type that holds every numbered collection of State. -/

namespace Sys2Proof

abbrev Byte := BitVec 8
abbrev W16 := BitVec 16
abbrev W32 := BitVec 32
abbrev W64 := BitVec 64

/-- A sparse collection by number, in rising order of the number. An absent number reads as the
collection's default. -/
abbrev Table (α : Type) := List (Nat × α)

/-- One 64-lane vector register (R33): 64 elements of 32 bits. -/
abbrev Lanes := Vector (BitVec 32) 64

end Sys2Proof
end

