-- ==== Sys2Proof/Syntax.lean ====
section
/-! DEFINITION. The commands: one constructor of `Instr` for each row of the operation table, with
the row's operands. An operand that selects one of a fixed number of parts is a `Fin`; a field that
the manual checks keeps its whole width, so that an out-of-range value can be sent and refused. A
verdict of a published cryptographic check (a GCM tag, a signature) and a finding of the hardware
(a passed test, an uncorrectable word) come as Bool operands (DESIGN CHOICE, log entry 6). -/

set_option linter.unusedVariables false

namespace Sys2Proof

/-! ## Identifiers (R4 to R10) -/

abbrev FieldId := Fin 100
abbrev ClusterId := Fin 1600
abbrev CoreId := Fin 51200
/-- Physical core, 576·f + n (R60, R497). -/
abbrev PhysId := Fin 57600
abbrev CtxId := Fin 8
abbrev RegionId := Fin 256
abbrev GroupId := Fin 1024
abbrev UnitId := Fin 128
abbrev MboxId := Fin 16
abbrev StackId := Fin 24

/-! ## Core instructions -/

/-- What SEC-DED (72,64) finds in a word that is read (R55). -/
inductive Ecc | good | corrected | uncorrectable
  deriving DecidableEq, Repr

/-- What the core's codes find while an instruction issues (R33, R39, R42, R55, R61): in the word fetched
from the instruction buffer, in a word read at byte `offset` of the Pocket, and whether a word of the
accumulator that is read is uncorrectable. -/
structure CoreFinding where
  fetch : Ecc := .good
  pocket : Ecc := .good
  offset : BitVec 18 := 0
  acc : Bool := false
  deriving DecidableEq, Repr

/-- The fields of an instruction word below MAJOR (R62). `opt` holds the option bits of MINOR that
R528 names for the group and is no part of the word of a group that has none; `immForm` selects MAJOR
0x02 for the ALU operations and is read by no other; `finding` is no part of the word. -/
structure CoreArgs where
  finding : CoreFinding := {}
  opt : BitVec 5 := 0
  immForm : Bool := false
  rd : BitVec 5 := 0
  ra : BitVec 5 := 0
  rb : BitVec 5 := 0
  men : Bool := false
  msel : BitVec 3 := 0
  var : BitVec 2 := 0
  imm : BitVec 32 := 0
  deriving DecidableEq, Repr

/-- The unit whose checker found the mismatch (R50, R61). -/
inductive ResidueUnit | scalar | vector | tensor | parity
  deriving DecidableEq, Repr

/-! ## Tiles, lanes, records held in State as well -/

/-- Tile header (R140), without its check. `fmt` is the whole FMT byte. -/
structure TileHeader where
  bitmap : W64 := 0
  fmt : Byte := 0
  storedLen : W16 := 0
  elemNz : W16 := 0
  deriving DecidableEq, Repr

/-- One lane-stream generator (R123, R132): 128-bit state, buffer, slices left. -/
structure LaneState where
  a : W64 := 1
  b : W64 := 0
  buffer : W32 := 0
  nibbles : Byte := 0
  deriving DecidableEq, Repr

/-- The record of RSAVE (R132). -/
structure LaneRec where
  seed : W64 := 0
  sid : W64 := 0
  laneBase : W32 := 0
  laneCount : W32 := 0
  indexBase : W64 := 0
  lanes : Vector LaneState 64 := Vector.replicate 64 {}
  deriving DecidableEq, Repr

/-- A region entry of a context record (R452). -/
structure RegionEntry where
  status : W64
  progress : W64
  laneFirst : W32
  laneCount : W32
  openStreams : W16
  deriving DecidableEq, Repr

/-- A context record (R452). `crcOk` is the verdict of its CRC when it is read back. -/
structure CtxRecord where
  serial : BitVec 48
  time : W64
  ctx : Byte
  hold : Bool
  serving : Bool
  sumFp32 : Bool
  stepOpen : Bool
  job : W16
  step : W32
  version : W32
  wslot : W32
  aTag : W32
  bTag : W32
  batch : W64
  ledger : W32
  regions : List RegionEntry
  lanes : List LaneRec
  crcOk : Bool := true
  deriving DecidableEq, Repr

/-! ## Mesh, memory and streams -/

/-- Wire form of a reduction packet (R173) and of a gradient record (R294). -/
inductive WireForm | bf16 | fw64 | fp32
  deriving DecidableEq, Repr

/-- A RED packet (R167, R173). `data` holds the element codes of each present block, 64 to a block,
lower block first; `mixed` is the word of a Tub that met two window exponents (R174). -/
structure RedPacket where
  dest : BitVec 12
  src : BitVec 12 := 0
  ctx : CtxId
  job : W16
  step : W32
  handle : W32
  frag : Fin 32
  form : WireForm
  sumFp32 : Bool
  bmap : BitVec 2
  poison : Bool := false
  detour : Bool := false
  bypass : Bool := false
  notub : Bool := false
  count : W16
  total : W16
  wexp : W16 := 0
  mixed : Bool := false
  hcheckOk : Bool := true
  data : List W64
  deriving DecidableEq, Repr

/-- R166: the ports of a router; an edge router has outward ports as well. -/
inductive MeshPort | north | east | south | west | localPort | outward
  deriving DecidableEq, Repr

/-- What the tier found when it served a transfer (R206, R149). `channels` marks the implicated
channels of a Hamper pair (R530); `offset` is the byte of the Pocket, for a word of a Pocket (R39). `dropped` is no reply:
the router of cluster k discards the request, or its reply, for a failed HCHECK (R169). -/
inductive Reply
  | data
  | corrected (channels : BitVec 2) (softDecode : Bool) (offset : BitVec 18)
  | uncorrectable (channels : BitVec 2) (offset : BitVec 18)
  | badHeader
  | dropped (k : ClusterId)
  deriving DecidableEq, Repr

/-- A reply, to the transfer that its TAG names, or with `fill` to a read of an image for a fill: context, binding and tile
index (R263). -/
structure TaggedReply where
  reply : Reply
  fill : Option (CtxId × Fin 16 × W32) := none
  deriving DecidableEq, Repr

/-- A heartbeat as a core sends it (R53): the core, and whether its residue checker is good. -/
structure CoreBeat where
  core : PhysId
  good : Bool
  deriving DecidableEq, Repr

/-- What a field takes with it when it stops carrying traffic: a context for each request or reply of it that is still
inside (R180), and the Peg groups of which one of the field's Line nodes held a count (R189). -/
structure FieldLoss where
  inside : List CtxId := []
  counts : List GroupId := []
  deriving DecidableEq, Repr

/-- A field whose controller has failed (R395). -/
structure ControllerLoss where
  field : FieldId
  loss : FieldLoss := {}
  deriving DecidableEq, Repr

inductive ScrubPlace
  | basket (k : ClusterId) (tile : Option W32) (bank : Fin 32)
  | hamper (h : StackId) (pair : Fin 15) (tile : Option W32)
  deriving DecidableEq, Repr

inductive ScrubResult
  | clean
  | corrected (channels : BitVec 2)
  | uncorrectable (channels : BitVec 2)
  deriving DecidableEq, Repr

/-! ## Seam messages -/

/-- A weight record (R266) after decryption: `tagOk` is the GCM verdict; `sealed` are the CIPHERTEXT and the TAG as they
stand on the wire. -/
structure WeightRecord where
  job : W16
  node : W16
  stream : W32
  object : W64
  version : W32
  tile : W32
  seq : BitVec 48
  last : Bool := false
  refuse : Bool := false
  tagOk : Bool := true
  header : TileHeader
  hcheck : W16
  body : List Byte
  crcs : List W32
  sealed : List Byte := []
  deriving DecidableEq, Repr

/-- A gradient record acknowledgement (R295). -/
structure GradAck where
  job : W16
  node : W16
  stream : W32
  seq : BitVec 48
  status : Byte
  step : W32
  tagOk : Bool := true
  deriving DecidableEq, Repr

/-- A PEG message (R340); its KIND is the row. -/
structure PegMsg where
  job : W16
  node : W16
  tree : Byte
  group : GroupId
  step : W32
  gen : W32
  count : W16
  nan : Bool
  deriving DecidableEq, Repr

/-- The header of a STEP message (R341); its SUBTYPE is the row. -/
structure StepMsg where
  job : W16
  node : W16
  step : W32
  cause : Byte := 0
  status : Byte := 0
  version : W32 := 0
  okCount : W16 := 0
  failNode : W16 := 0xFFFF
  deriving DecidableEq, Repr

/-- STEP_BEGIN's arguments (R380). -/
structure BeginArgs where
  step : W32
  version : W32
  doneGroup : W16
  batch : W64 := 0
  deriving DecidableEq, Repr

/-- A COLL message (R342); its direction is the row. `body` holds the element codes of each set
block, 64 to a block. -/
structure CollMsg where
  job : W16
  node : W16
  coll : Fin 16
  poison : Bool := false
  nan : Bool := false
  fp32 : Bool
  wexp : W16 := 0
  step : W32
  tile : W32
  chunk : Bool
  bitmap : W32
  count : W16
  body : List W64
  crc : W32
  deriving DecidableEq, Repr

inductive FlitKind | idle | data | control
  deriving DecidableEq, Repr

/-- A Seam flit (R315). `reservedSet`: some reserved bit is not 0. -/
structure Flit where
  kind : FlitKind
  vc : Fin 4 := 0
  som : Bool := false
  eom : Bool := false
  resync : Bool := false
  mtype : Byte := 0
  seq : BitVec 12 := 0
  ack : BitVec 12 := 0
  nak : Bool := false
  credit : BitVec 10 := 0
  cvc : Fin 4 := 0
  job : W16 := 0
  fill : BitVec 4 := 0
  reservedSet : Bool := false
  payload : List Byte := []
  crc : W32 := 0
  deriving DecidableEq, Repr

/-- A flit as it is received, with the symbols that arrived wrong in the codeword that ends with it (R307). -/
structure FlitArrival where
  flit : Flit
  wrong : List (Fin 544)
  deriving DecidableEq, Repr

inductive PeerKind | module | server
  deriving DecidableEq, Repr

/-- LINK messages (R311, R322, R486). -/
inductive LinkMsg
  | ident (kind : PeerKind) (serial : BitVec 48) (unit : BitVec 7) (gangAgrees : Bool)
  | laneCopy (lane : Fin 9)
  | equaliserCheck
  deriving DecidableEq, Repr

/-- TIME messages (R327): a child's request, or the parent's answer with the four stamps. -/
inductive TimeMsg
  | request (t1 : W64)
  | answer (t1 t2 t3 t4 : W64) (parentDepth : Byte)
  deriving DecidableEq, Repr

/-- How a training stage ended well (R311). -/
inductive StageOutcome
  | wait (signal : BitVec 9)
  | lock (lanes : BitVec 576)
  | eq (lanes : BitVec 576)
  | align (badTx badRx : BitVec 9)
  | ident (kind : PeerKind) (serial : BitVec 48) (unit : BitVec 7) (gangAgrees : Bool)
  | rtt (ns : W16)
  deriving DecidableEq, Repr

/-! ## Host commands -/

/-- The header of a fetched command (R368) as the MMP holds it. `rsv`: some reserved byte or bit of
the arguments is not 0. -/
structure Hdr where
  mbox : MboxId
  seq : W32
  ctx : Byte := 0xFF
  job : W16 := 0
  opt : Byte := 0
  rsv : Bool := false
  deriving DecidableEq, Repr

/-- How a host-memory read ended (R358). -/
inductive HostRead | ok | failed | late
  deriving DecidableEq, Repr

/-- A descriptor as read from host memory (R368). `inlineBeyond`: an inline byte beyond LEN, or the
inline area of an EXT descriptor, is not 0. -/
structure Descriptor where
  fetch : HostRead := .ok
  opcode : W16
  flags : Byte := 0
  opt : Byte := 0
  seq : W32
  ctx : Byte := 0xFF
  rsv9 : Byte := 0
  job : W16 := 0
  len : W32 := 0
  extAddr : W64 := 0
  rsv24 : BitVec 48 := 0
  hcheck : W16
  inlineBeyond : Bool := false
  args : HostRead := .ok
  deriving DecidableEq, Repr

/-- A host-memory access that failed (`late` false) or passed its deadline (R358). -/
inductive HostAccess
  | descriptor (m : MboxId) (late : Bool)
  | completion (m : MboxId) (seq : W32) (late : Bool)
  | exportRing (cls : Fin 4)
  deriving DecidableEq, Repr

/-- CTX_CREATE (R376). -/
structure CtxCreateArgs where
  sumf : Byte := 0
  tubHold : W16 := 0
  pocket : W16
  basket : W16
  hamper : W32
  press : W32 := 0
  deriving DecidableEq, Repr

/-- CTX_SAVE and CTX_RESTORE (R378). -/
structure BufArgs where
  source : Byte := 0
  addr : W64 := 0
  len : W64 := 0
  deriving DecidableEq, Repr

/-- A region record of REGION_MAP (R241). -/
structure RegionRec where
  region : RegionId
  ctx : Byte
  x0 : Byte
  y0 : Byte
  width : Byte
  height : Byte
  sampler : W16 := 0
  ibufBase : Byte := 0
  ibufSize : Byte := 1
  deriving DecidableEq, Repr

/-- An operand condition of a stage record (R245). -/
structure OperRec where
  base : W32
  stride : W16
  kind : Byte
  div : Byte
  deriving DecidableEq, Repr

/-- A stage record (R245). -/
structure StageRec where
  tileCount : W32 := 1
  donePeg : W16 := 0
  noper : Byte := 0
  dist : Byte := 0x11
  opers : List OperRec := []
  deriving DecidableEq, Repr

/-- A tile declaration (R379, R198); `fmt` holds the format in [3:0] and BUFFER in [4]. -/
structure Decl where
  first : W32
  count : W32
  fmt : Byte
  flags : W16
  deriving DecidableEq, Repr

/-- A Peg group record (R379). -/
structure PegRec where
  group : W16
  count : W16
  link : Byte := 0
  scope : BitVec 256
  deriving DecidableEq, Repr

/-- A collective declaration (R351). -/
structure CollRec where
  coll : Byte
  form : Byte
  wexp : W16 := 0
  treeA : Byte
  treeB : Byte
  tilePeg : W16 := 0
  src : W32
  dst : W32
  tiles : W32
  window : W16
  deadline : W16
  deriving DecidableEq, Repr

/-- PROGRAM_LOAD (R379). NCOLL, NDECL, NPEG are the lengths of the lists. -/
structure ProgramArgs where
  region : RegionId
  len : W32
  codeLen : W32
  stage : StageRec
  code : List W64
  decls : List Decl
  pegs : List PegRec := []
  colls : List CollRec := []
  deriving DecidableEq, Repr

/-- A tree record of TREE_SET (R336). -/
structure TreeRec where
  tree : Byte
  parent : Byte
  subtree : W16
  size : W16
  children : BitVec 96
  deriving DecidableEq, Repr

/-- TREE_SET (R336). -/
structure TreeSetArgs where
  ctx : Byte
  flags : Byte := 0
  node : W16
  nodes : W16
  manager : W16
  ctrlTree : Byte
  stepLimit : W32
  trees : List TreeRec
  deriving DecidableEq, Repr

/-- A binding record (R260). -/
structure BindRec where
  binding : Byte
  mode : Byte
  source : Byte
  fmt : Byte
  first : W32
  count : W32
  flags : W16
  tree : W16 := 0
  object : W64
  version : W32 := 0
  key : W16
  deriving DecidableEq, Repr

/-- WEIGHT_SWAP (R382). -/
structure SwapArgs where
  version : W32
  pairs : List (Byte × W64) := []
  deriving DecidableEq, Repr

/-- STREAM_CANCEL (R383). -/
structure CancelArgs where
  scope : Byte
  region : RegionId := 0
  lcore : W32 := 0
  ticket : W16 := 0
  deriving DecidableEq, Repr

/-- PRESS_WRITE (R275), its OP being the row. -/
structure PressArgs where
  slot : Byte
  ctx : Byte
  flags : Byte := 0
  version : W32 := 0
  imageId : W64 := 0
  tileCount : W32 := 0
  fmt : Byte := 0
  key : W16 := 0
  deriving DecidableEq, Repr

/-- A LINK_SET record (R384). -/
structure LinkRec where
  unit : Byte
  flags : Byte
  gang : Byte := 0xFF
  deriving DecidableEq, Repr

/-- A part as Patch entries and DARN_REQUEST name it (R467): KIND and the six TARGET bytes. -/
structure Part where
  kind : Byte
  t0 : Byte := 0
  t1 : Byte := 0
  t2 : Byte := 0
  t3 : Byte := 0
  t4 : Byte := 0
  t5 : Byte := 0
  deriving DecidableEq, Repr

/-- BIST_WINDOW (R481). -/
structure WindowArgs where
  flags : Byte
  clusters : W16
  duration : W32
  fields : BitVec 128
  deriving DecidableEq, Repr

/-- A key blob (R411) with the verdicts of its signature and of its unwrapping tag. `body` are bytes 16 to 271. -/
structure KeyBlob where
  format : W16 := 1
  slot : W16
  job : W16
  auth : W16
  serial : W64
  body : List Byte := []
  sigOk : Bool := true
  tagOk : Bool := true
  deriving DecidableEq, Repr

/-- ATTEST (R414). -/
structure AttestArgs where
  nonce : BitVec 256
  flags : Byte := 0
  addr : W64
  len : W32
  peer : BitVec 776 := 0
  deriving DecidableEq, Repr

/-- FW_STAGE WRITE (R406); `data` is what the module reads at BUF_ADDR. -/
structure FwWriteArgs where
  offset : W32
  len : W32
  addr : W64
  data : List Byte := []
  deriving DecidableEq, Repr

/-- The verdicts of the cryptographic checks of R403 on a firmware slot: SHA-384 of the body, SIG_EC and SIG_LMS. -/
structure FwVerdict where
  digestOk : Bool := true
  ecOk : Bool := true
  lmsOk : Bool := true
  deriving DecidableEq, Repr

/-- TELEM_READ (R385). -/
structure TelemArgs where
  space : Byte
  field : Byte := 0
  offset : W32
  len : W32
  addr : W64 := 0
  deriving DecidableEq, Repr

/-- MODE_SET (R386). -/
structure ModeArgs where
  function : Byte
  mode : Byte
  scope : Byte
  units : BitVec 128 := 0
  deriving DecidableEq, Repr

/-- HOST_REPLY (R387). -/
structure ReplyArgs where
  reqId : W32
  len : W32
  data : List Byte
  tagOk : Bool := true
  unreadable : List (W32 × Bool) := []
  failed : List PhysId := []
  deriving DecidableEq, Repr

/-- A broadcast command reassembled from its segments (R350). -/
inductive BcastCmd
  | regionMap (recs : List RegionRec)
  | programLoad (a : ProgramArgs)
  deriving DecidableEq, Repr

/-- A SEGMENT: the command it completes, when it is the last. -/
structure Segment where
  cmd : Option BcastCmd
  deriving DecidableEq, Repr

/-! ## Management, clocks, supply, heat, Darning, Tack -/

/-- What the boot ROMs find at bring-up (R399, R403, R396); `badFuses` are Darning fuses whose check fails (R408). -/
structure BootFindings where
  primaryOk : Bool := true
  standbyOk : Bool := true
  slotA : FwVerdict := {}
  slotB : FwVerdict := {}
  systemAreaOk : Bool := true
  fusesOk : Bool := true
  badFuses : List Part := []
  connected : Bool := true
  holdRecordOk : Bool := true
  deriving DecidableEq, Repr

/-- The result of a field's test in a bring-up batch (R400): cores (0 to 575), shared cluster units, samplers,
routers and boundary groups that failed inside it, and whether a failure remains that R473 does not repair; `imageOk` is the digest check of
the controller's image (R404). -/
structure FieldTest where
  field : FieldId
  imageOk : Bool := true
  pass : Bool := true
  failedCores : List (Fin 576) := []
  failedUnits : List (Fin 16) := []
  failedSamplers : List (Fin 16) := []
  failedRouters : List (Fin 16) := []
  failedGroups : List (Fin 16 × Fin 68) := []
  deriving DecidableEq, Repr

/-- A Hamper channel's training result (R399). -/
structure HamperTrain where
  stack : StackId
  channel : Fin 32
  ok : Bool
  deriving DecidableEq, Repr

/-- A crossing whose other side stopped (R436). -/
inductive Crossing
  | field (f : FieldId) (otherDomain : Byte) (index : W32)
  | mmp (otherDomain : Byte) (index : W32)
  deriving DecidableEq, Repr

inductive SupplyFault | j1Low | j1High | bus48
  deriving DecidableEq, Repr

/-- A sample of the power governor (R446): the last 10 µs and the 100 ms average, in W. -/
structure PowerReading where
  inputW : W16
  averageW : W16
  deriving DecidableEq, Repr

/-- Readings of R462: 0.1 V, 0.25 V, 0.1 °C (signed). -/
structure SupplyReading where
  j1 : W16
  bus48 : Byte
  coolantIn : W16
  coolantOut : W16
  deriving DecidableEq, Repr

inductive SliceKind | spare | cluster | field | scan
  deriving DecidableEq, Repr

/-- What a slice found (R476 to R479): failing physical cores of the cluster (0 to 35); of a FIELD slice, the failing
cores (0 to 575), shared cluster units, samplers, routers and boundary groups of the field. -/
structure SliceOutcome where
  failedCores : List (Fin 36) := []
  sharedOk : Bool := true
  samplerOk : Bool := true
  basketCorrected : Bool := false
  fieldCores : List (Fin 576) := []
  failedUnits : List (Fin 16) := []
  failedSamplers : List (Fin 16) := []
  failedRouters : List (Fin 16) := []
  failedGroups : List (Fin 16 × Fin 68) := []
  deriving DecidableEq, Repr

/-- R214, R215: how the copy of a Press block ends: whole, with a failed erase of the old block, or interrupted in that
erase or in the copy itself by a reset or by supply loss. -/
inductive BlockCopy | done | eraseFailed | eraseInterrupted | copyInterrupted
  deriving DecidableEq, Repr

/-- A move of a Press block (R214). -/
structure BlockMove where
  block : Nat
  copy : BlockCopy
  deriving DecidableEq, Repr

/-- An extent as it is written (R276): the bytes it stores, and the blocks that fail to program (R214). -/
structure ExtentWrite where
  bytes : Nat
  failedBlocks : Nat
  deriving DecidableEq, Repr

/-- The erase of an image slot (R274), with the blocks whose erase fails (R214). -/
structure SlotErase where
  slot : Fin 32
  failed : List Nat
  deriving DecidableEq, Repr

/-- The parts of a MARK_BAD (R475): with the tiles on replaced channels that cannot be read, each a handle and whether it is
the copy in slot B (R210), and the spares that fail a slice that the repairs need first (R473). -/
structure BadParts where
  parts : List Part
  unreadable : List (W32 × Bool) := []
  failed : List PhysId := []
  deriving DecidableEq, Repr

/-- What the slices and stack retrains of a drain for Darning find (R472): the SUSPECT cores that
pass, the other cores that fail a slice, the SUSPECT stacks that recover, and the tiles on replaced channels that cannot be
read. -/
structure DarningFindings where
  passed : List PhysId := []
  failed : List PhysId := []
  stacksRecovered : List StackId := []
  failedSamplers : List ClusterId := []
  unreadable : List (W32 × Bool) := []
  deriving DecidableEq, Repr

/-- A Tack response (R418, R419): the message that its signatures cover, and their verdicts. -/
structure TackVerdict where
  keyHashOk : Bool := true
  ecOk : Bool := true
  lmsOk : Bool := true
  message : List Byte
  deriving DecidableEq, Repr

/-! ## The commands -/

/-- One constructor per row of the operation table. -/
inductive Instr where
  /-- ADD (R67): Scalar add of s[RA] and s[RB] or sext(IMM) into s[RD], wrapping modulo 2^64. -/
  | add (c : CoreId) (a : CoreArgs)
  /-- SUB (R67): Scalar subtract into s[RD], wrapping modulo 2^64. -/
  | sub (c : CoreId) (a : CoreArgs)
  /-- AND (R67): Scalar bitwise AND into s[RD]. -/
  | and (c : CoreId) (a : CoreArgs)
  /-- OR (R67): Scalar bitwise OR into s[RD]. -/
  | or (c : CoreId) (a : CoreArgs)
  /-- XOR (R67): Scalar bitwise XOR into s[RD]. -/
  | xor (c : CoreId) (a : CoreArgs)
  /-- SLL (R67): Scalar logical left shift by the low 6 bits of the amount. -/
  | sll (c : CoreId) (a : CoreArgs)
  /-- SRL (R67): Scalar logical right shift by the low 6 bits of the amount. -/
  | srl (c : CoreId) (a : CoreArgs)
  /-- SRA (R67): Scalar arithmetic right shift by the low 6 bits of the amount. -/
  | sra (c : CoreId) (a : CoreArgs)
  /-- SLT (R67): Writes 1 to s[RD] if the first operand is less than the second as signed values, else 0. -/
  | slt (c : CoreId) (a : CoreArgs)
  /-- SLTU (R67): Writes 1 to s[RD] if the first operand is less than the second as unsigned values, else 0. -/
  | sltu (c : CoreId) (a : CoreArgs)
  /-- MIN (R67): Writes the signed minimum of the operands to s[RD]. -/
  | min (c : CoreId) (a : CoreArgs)
  /-- MAX (R67): Writes the signed maximum of the operands to s[RD]. -/
  | max (c : CoreId) (a : CoreArgs)
  /-- MINU (R67): Writes the unsigned minimum of the operands to s[RD]. -/
  | minu (c : CoreId) (a : CoreArgs)
  /-- MAXU (R67): Writes the unsigned maximum of the operands to s[RD]. -/
  | maxu (c : CoreId) (a : CoreArgs)
  /-- LI (R67): Loads sext(IMM) into s[RD]. -/
  | li (c : CoreId) (a : CoreArgs)
  /-- LUI (R67): Loads IMM into s[RD][63:32] and leaves the low half unchanged. -/
  | lui (c : CoreId) (a : CoreArgs)
  /-- MUL (R67): Writes the low 64 bits of the product to s[RD]. -/
  | mul (c : CoreId) (a : CoreArgs)
  /-- MULH (R67): Writes the high 64 bits of the signed 128-bit product to s[RD]. -/
  | mulh (c : CoreId) (a : CoreArgs)
  /-- MULHU (R67): Writes the high 64 bits of the unsigned 128-bit product to s[RD]. -/
  | mulhu (c : CoreId) (a : CoreArgs)
  /-- DIV (R68): Signed 64-bit division with the defined divide-by-zero and overflow results. -/
  | div (c : CoreId) (a : CoreArgs)
  /-- DIVU (R68): Unsigned 64-bit division with the defined divide-by-zero result. -/
  | divu (c : CoreId) (a : CoreArgs)
  /-- REM (R68): Signed 64-bit remainder with the defined divide-by-zero and overflow results. -/
  | rem (c : CoreId) (a : CoreArgs)
  /-- REMU (R68): Unsigned 64-bit remainder with the defined divide-by-zero result. -/
  | remu (c : CoreId) (a : CoreArgs)
  /-- LD (R67): Loads 8 to 64 bits from a tile entry at a byte offset into s[RD], raising ADDRESS or DATA_ERROR where due. -/
  | ld (c : CoreId) (a : CoreArgs)
  /-- ST (R67): Stores 8 to 64 bits from s[RD] into a WRITABLE tile entry and sets the bitmap bits of the blocks written. -/
  | st (c : CoreId) (a : CoreArgs)
  /-- BEQ (R67): Branches relative to the PC if s[RA] equals s[RB]. -/
  | beq (c : CoreId) (a : CoreArgs)
  /-- BNE (R67): Branches relative to the PC if s[RA] differs from s[RB]. -/
  | bne (c : CoreId) (a : CoreArgs)
  /-- BLT (R67): Branches if s[RA] is less than s[RB] as signed values. -/
  | blt (c : CoreId) (a : CoreArgs)
  /-- BGE (R67): Branches if s[RA] is greater than or equal to s[RB] as signed values. -/
  | bge (c : CoreId) (a : CoreArgs)
  /-- BLTU (R67): Branches if s[RA] is less than s[RB] as unsigned values. -/
  | bltu (c : CoreId) (a : CoreArgs)
  /-- BGEU (R67): Branches if s[RA] is greater than or equal to s[RB] as unsigned values. -/
  | bgeu (c : CoreId) (a : CoreArgs)
  /-- DBNZ (R67): Decrements s[RA] and branches when the result is not zero. -/
  | dbnz (c : CoreId) (a : CoreArgs)
  /-- J (R67): Jumps to PC plus sext(IMM). -/
  | j (c : CoreId) (a : CoreArgs)
  /-- JAL (R67): Jumps to PC plus sext(IMM) and writes PC plus 1 to s[RD]. -/
  | jal (c : CoreId) (a : CoreArgs)
  /-- JR (R67): Jumps to s[RA][11:0]. -/
  | jr (c : CoreId) (a : CoreArgs)
  /-- SPRR (R81): Reads a special register into s[RD]. -/
  | sprr (c : CoreId) (a : CoreArgs)
  /-- SPRW (R81): Writes s[RA] to a special register under its access code. -/
  | sprw (c : CoreId) (a : CoreArgs)
  /-- VADD (R69): Lane-wise FP32 add with round to nearest even. -/
  | vadd (c : CoreId) (a : CoreArgs)
  /-- VSUB (R69): Lane-wise FP32 subtract. -/
  | vsub (c : CoreId) (a : CoreArgs)
  /-- VMUL (R69): Lane-wise FP32 multiply. -/
  | vmul (c : CoreId) (a : CoreArgs)
  /-- VFMA (R69): Lane-wise fused multiply-add into v[RD] with one rounding. -/
  | vfma (c : CoreId) (a : CoreArgs)
  /-- VFMS (R69): Lane-wise fused multiply-subtract with one rounding. -/
  | vfms (c : CoreId) (a : CoreArgs)
  /-- VMIN (R69): Lane-wise IEEE 754-2019 minimum. -/
  | vmin (c : CoreId) (a : CoreArgs)
  /-- VMAX (R69): Lane-wise IEEE 754-2019 maximum. -/
  | vmax (c : CoreId) (a : CoreArgs)
  /-- VABS (R69): Lane-wise FP32 absolute value. -/
  | vabs (c : CoreId) (a : CoreArgs)
  /-- VNEG (R69): Lane-wise FP32 negation. -/
  | vneg (c : CoreId) (a : CoreArgs)
  /-- VIADD (R69): Lane-wise INT32 add, wrapping. -/
  | viadd (c : CoreId) (a : CoreArgs)
  /-- VISUB (R69): Lane-wise INT32 subtract, wrapping. -/
  | visub (c : CoreId) (a : CoreArgs)
  /-- VIMUL (R69): Lane-wise INT32 multiply, wrapping. -/
  | vimul (c : CoreId) (a : CoreArgs)
  /-- VAND (R69): Lane-wise bitwise AND. -/
  | vand (c : CoreId) (a : CoreArgs)
  /-- VOR (R69): Lane-wise bitwise OR. -/
  | vor (c : CoreId) (a : CoreArgs)
  /-- VXOR (R69): Lane-wise bitwise XOR. -/
  | vxor (c : CoreId) (a : CoreArgs)
  /-- VSLL (R69): Lane-wise logical left shift by the low 5 bits of v[RB]. -/
  | vsll (c : CoreId) (a : CoreArgs)
  /-- VSRL (R69): Lane-wise logical right shift, filling with zeros. -/
  | vsrl (c : CoreId) (a : CoreArgs)
  /-- VSRA (R69): Lane-wise arithmetic right shift, filling with the sign bit. -/
  | vsra (c : CoreId) (a : CoreArgs)
  /-- VCEQ (R69): Lane-wise FP32 equality compare into a mask register. -/
  | vceq (c : CoreId) (a : CoreArgs)
  /-- VCLT (R69): Lane-wise FP32 less-than compare into a mask register. -/
  | vclt (c : CoreId) (a : CoreArgs)
  /-- VCLE (R69): Lane-wise FP32 less-or-equal compare into a mask register. -/
  | vcle (c : CoreId) (a : CoreArgs)
  /-- VCUN (R69): Lane-wise unordered compare into a mask register. -/
  | vcun (c : CoreId) (a : CoreArgs)
  /-- VICEQ (R69): Lane-wise INT32 equality compare into a mask register. -/
  | viceq (c : CoreId) (a : CoreArgs)
  /-- VICLT (R69): Lane-wise signed INT32 less-than compare into a mask register. -/
  | viclt (c : CoreId) (a : CoreArgs)
  /-- VCVT (R69): Rounds each lane to a named format with the selected mode and widens it back to FP32. -/
  | vcvt (c : CoreId) (a : CoreArgs)
  /-- VCVTI (R69): Converts lanes between FP32 and INT32 in the direction MINOR[0] selects. -/
  | vcvti (c : CoreId) (a : CoreArgs)
  /-- VRCP (R69): Lane-wise reciprocal to the accuracy of R38. -/
  | vrcp (c : CoreId) (a : CoreArgs)
  /-- VRSQ (R69): Lane-wise reciprocal square root. -/
  | vrsq (c : CoreId) (a : CoreArgs)
  /-- VEXP (R69): Lane-wise exponential. -/
  | vexp (c : CoreId) (a : CoreArgs)
  /-- VLOG (R69): Lane-wise logarithm. -/
  | vlog (c : CoreId) (a : CoreArgs)
  /-- VRSUM (R37): Sums the 64 lanes in the fixed pairwise tree and writes the result to every lane. -/
  | vrsum (c : CoreId) (a : CoreArgs)
  /-- VRMAX (R37): Takes the maximum across lanes in the fixed tree. -/
  | vrmax (c : CoreId) (a : CoreArgs)
  /-- VRMIN (R37): Takes the minimum across lanes in the fixed tree. -/
  | vrmin (c : CoreId) (a : CoreArgs)
  /-- VMOV (R69): Moves a vector register. -/
  | vmov (c : CoreId) (a : CoreArgs)
  /-- VBCAST (R69): Broadcasts s[RA][31:0] to every lane. -/
  | vbcast (c : CoreId) (a : CoreArgs)
  /-- VEXT (R69): Extracts one lane, zero-extended, into a scalar register. -/
  | vext (c : CoreId) (a : CoreArgs)
  /-- VSEL (R69): Selects per lane between v[RA] and v[RB] by a mask. -/
  | vsel (c : CoreId) (a : CoreArgs)
  /-- MAND (R69): Bitwise AND of mask registers. -/
  | mand (c : CoreId) (a : CoreArgs)
  /-- MOR (R69): Bitwise OR of mask registers. -/
  | mor (c : CoreId) (a : CoreArgs)
  /-- MXOR (R69): Bitwise XOR of mask registers. -/
  | mxor (c : CoreId) (a : CoreArgs)
  /-- MNOT (R69): Bitwise NOT of a mask register. -/
  | mnot (c : CoreId) (a : CoreArgs)
  /-- MSET (R69): Loads IMM[31:0] into both halves of a mask register. -/
  | mset (c : CoreId) (a : CoreArgs)
  /-- VACCR (R69): Reads one accumulator row into a vector register. -/
  | vaccr (c : CoreId) (a : CoreArgs)
  /-- VACCW (R69): Writes a vector register into one accumulator row. -/
  | vaccw (c : CoreId) (a : CoreArgs)
  /-- VLDR (R69): Loads one tile row, widening each element exactly into the lanes. -/
  | vldr (c : CoreId) (a : CoreArgs)
  /-- VSTR (R69): Stores the lanes into one tile row, rounding or saturating to the entry's format and setting bitmap bits. -/
  | vstr (c : CoreId) (a : CoreArgs)
  /-- VLD (R69): Loads 256 raw bytes from a tile entry into a vector register. -/
  | vld (c : CoreId) (a : CoreArgs)
  /-- VST (R69): Stores 256 raw bytes into a WRITABLE tile entry and sets bitmap bits. -/
  | vst (c : CoreId) (a : CoreArgs)
  /-- VFWCV (R108): Converts FP32 lanes to FW64 under the window exponent FWEXP. -/
  | vfwcv (c : CoreId) (a : CoreArgs)
  /-- VFWADD (R109): Adds FW64 register pairs with saturation and NaN marks. -/
  | vfwadd (c : CoreId) (a : CoreArgs)
  /-- VFWCF (R110): Converts FW64 register pairs to FP32 with round to nearest even. -/
  | vfwcf (c : CoreId) (a : CoreArgs)
  /-- TMM (R72): Adds the product of two tiles into an accumulator, skipping blocks by the skip plan. -/
  | tmm (c : CoreId) (a : CoreArgs)
  /-- ACLR (R72): Clears an accumulator to +0 and leaves it untyped. -/
  | aclr (c : CoreId) (a : CoreArgs)
  /-- ACCUMULATOR_READABLE (R49): A tile product's final additions drain and its accumulator becomes readable and sources released. -/
  | accumulatorReadable (c : CoreId) (acc : Bool)
  /-- SISSUE (R75): Checks a stream descriptor and hands it to the cluster stream engine, writing a ticket. -/
  | sissue (c : CoreId) (a : CoreArgs)
  /-- SWAIT (R75): Waits for a ticket's stream to end and writes its status. -/
  | swait (c : CoreId) (a : CoreArgs)
  /-- STEST (R75): Writes a ticket's stream status or PENDING without waiting. -/
  | stest (c : CoreId) (a : CoreArgs)
  /-- TALLOC (R74): Allocates a dense tile of a format in an EMPTY entry, RESIDENT and WRITABLE. -/
  | talloc (c : CoreId) (a : CoreArgs)
  /-- TFREE (R74): Returns an entry to EMPTY and releases its space. -/
  | tfree (c : CoreId) (a : CoreArgs)
  /-- TSTATE (R74): Writes an entry's state code to s[RD]. -/
  | tstate (c : CoreId) (a : CoreArgs)
  /-- THDR (R74): Writes one header word of an entry to s[RD]. -/
  | thdr (c : CoreId) (a : CoreArgs)
  /-- BSWAP (R230): After a release wait, flips a buffer's ROLE in every cluster of the region. -/
  | bswap (c : CoreId) (a : CoreArgs)
  /-- SCANCEL (R233): Cancels the ticket's stream under the epoch rules. -/
  | scancel (c : CoreId) (a : CoreArgs)
  /-- PEGPOST (R77): Posts one arrival to a Peg group as a release. -/
  | pegpost (c : CoreId) (a : CoreArgs)
  /-- PEGWAIT (R186): Waits until a group completes a generation beyond OBSERVED and advances OBSERVED. -/
  | pegwait (c : CoreId) (a : CoreArgs)
  /-- PEGTEST (R186): Writes 1 if a group has completed since a given generation, without waiting. -/
  | pegtest (c : CoreId) (a : CoreArgs)
  /-- FENCE (R77): Waits until every earlier instruction has completed and every earlier stream has ended. -/
  | fence (c : CoreId) (a : CoreArgs)
  /-- RIDX (R120): Writes indexed-generator draws for element indices s[RA] plus lane, shared or full form. -/
  | ridx (c : CoreId) (a : CoreArgs)
  /-- RLANE (R125): Steps each unmasked lane-stream generator once and writes its draw. -/
  | rlane (c : CoreId) (a : CoreArgs)
  /-- RSET_SEED (R78): Loads the generator seed from s[RA]. -/
  | rsetSeed (c : CoreId) (a : CoreArgs)
  /-- RSET_STREAM_ID (R124): Loads the stream identifier and seeds every lane by jump-ahead, or takes a pending restored state. -/
  | rsetStreamId (c : CoreId) (a : CoreArgs)
  /-- RSET_INDEX_BASE (R121): Loads the index base IB from s[RA]. -/
  | rsetIndexBase (c : CoreId) (a : CoreArgs)
  /-- RSAVE (R132): Writes the lane-stream state record raw into a tile entry. -/
  | rsave (c : CoreId) (a : CoreArgs)
  /-- RLOAD (R132): Loads the lane-stream state record verbatim from a tile entry. -/
  | rload (c : CoreId) (a : CoreArgs)
  /-- RNORM (R128): Writes FP32 standard normal variates by Box-Muller or the table method. -/
  | rnorm (c : CoreId) (a : CoreArgs)
  /-- SMPCFG (R79): Sets the region sampler's temperature, top-k, top-p and path. -/
  | smpcfg (c : CoreId) (a : CoreArgs)
  /-- SMPFEED (R134): Sends a score tile to the region sampler for a sequence, opening it if needed. -/
  | smpfeed (c : CoreId) (a : CoreArgs)
  /-- SMPDRAW (R135): Closes a sequence and waits for its token. -/
  | smpdraw (c : CoreId) (a : CoreArgs)
  /-- SAMPLER_TOKEN_READY (R139): The sampler finishes a token and returns it to the waiting SMPDRAW. -/
  | samplerTokenReady (r : RegionId) (seq : W16)
  /-- SAMPLER_MEMORY_ERROR (R138): An uncorrectable error in the candidate memory moves the sampler to the fallback path. -/
  | samplerMemoryError (k : ClusterId)
  /-- TILENEXT (R80): Waits for the stage sequencer to hand the core its next tile. -/
  | tilenext (c : CoreId) (a : CoreArgs)
  /-- TILEDONE (R252): Reports a tile done as a release; the last one of the step posts DONE_PEG. -/
  | tiledone (c : CoreId) (a : CoreArgs)
  /-- NOP (R63): Does nothing. -/
  | nop (c : CoreId) (a : CoreArgs)
  /-- WAITC (R80): Waits a given number of ARITH_CLK cycles. -/
  | waitc (c : CoreId) (a : CoreArgs)
  /-- XRET_RETRYING (R88): Leaves the handler and resumes at XPC. -/
  | xretRetrying (c : CoreId) (a : CoreArgs)
  /-- XRET_SKIPPING (R88): Leaves the handler and resumes at XPC plus 1. -/
  | xretSkipping (c : CoreId) (a : CoreArgs)
  /-- BRK (R86): Raises the BREAK exception. -/
  | brk (c : CoreId) (a : CoreArgs)
  /-- END (R80): Stops the program once earlier instructions complete and starts the next queued context's program. -/
  | endProgram (c : CoreId) (a : CoreArgs)
  /-- WAIT_TIMEOUT (R84): A stall on something outside the core lasts WAITLIM cycles and raises WAIT_TIMEOUT. -/
  | waitTimeout (c : CoreId)
  /-- RESIDUE_ERROR (R52): A residue or parity mismatch suppresses writes, stops the core and makes it SUSPECT. -/
  | residueError (p : PhysId) (unit : ResidueUnit)
  /-- HEARTBEAT (R53): A serving core's heartbeat timer reaches a multiple of 65,536 and it sends a heartbeat over the Thread. -/
  | heartbeat (b : CoreBeat)
  /-- HEARTBEAT_RECEIVED (R54): The field controller takes a core's heartbeat and checks its sequence and checker state. -/
  | heartbeatReceived (p : PhysId) (seq : W16) (good : Bool)
  /-- HEARTBEAT_LOST (R54): 196,608 cycles pass without a heartbeat and the field controller declares the core dead. -/
  | heartbeatLost (p : PhysId)
  /-- CONTEXT_ABORT (R29): A context is aborted: commands complete ABORTED, streams cancelled, cores stop, abort reported to the manager. -/
  | contextAbort (x : CtxId) (detail : W64)
  /-- XFER_ISSUE (R225): A stream engine issues its next transfer when its depth allows, round-robin over queued streams. -/
  | xferIssue (k : ClusterId)
  /-- XFER_REPLY (R232): A transfer's reply arrives and is placed, or discarded as stale. -/
  | xferReply (k : ClusterId) (slot : Fin 512) (epoch : BitVec 7) (reply : TaggedReply)
  /-- REQUEST_DEADLINE (R208): A request passes its deadline and its tile arrives POISONED. -/
  | requestDeadline (k : ClusterId) (slot : Fin 512) (fill : Option (CtxId × Option (Fin 16) × W32))
  /-- WRITE_LOCK_GRANT (R226): A tile's write lock is released and the next waiting writer or held read proceeds. -/
  | writeLockGrant (h : W32)
  /-- OLD_HOME_RELEASE (R194): Every read against a moved tile's old home is answered and its space is released. -/
  | oldHomeRelease (h : W32)
  /-- CANCEL_FORCED (R235): A cancelled stream's reply is still missing 1 ms after acknowledgement and its transfer slot is reclaimed. -/
  | cancelForced (k : ClusterId) (slot : Fin 512)
  /-- RECLAIM_HOLD_END (R235): A reclaimed transfer slot's 10 ms hold ends and it returns to use. -/
  | reclaimHoldEnd (k : ClusterId) (slot : Fin 512)
  /-- TUB_ARRIVAL (R174): A RED packet enters a router and is added into a Tub slot, claims one, or goes on. -/
  | tubArrival (k : ClusterId) (p : RedPacket) (channelFree residueOk : Bool)
  /-- TUB_EMIT (R175): A Tub slot emits its sum as one RED packet when complete, held long enough, or its channel frees. -/
  | tubEmit (k : ClusterId) (slot : Fin 64) (holdPassed channelFreed : Bool)
  /-- FLIT_REFUSED (R169): A mesh hop receiver refuses a flit whose CRC fails and the sender replays. -/
  | flitRefused (k : ClusterId) (port : MeshPort)
  /-- RED_ARRIVAL (R289): A RED packet arrives at its destination home and restarts, adds into or faults its fragment. -/
  | redArrival (p : RedPacket)
  /-- DETOUR_UPDATE (R179): The MMP computes detour tables after a router or link is removed or returns. -/
  | detourUpdate
  /-- FIELD_DARK (R180): A field goes DARK: ports close, packets drain, clocks gate, contexts abort, detours installed. -/
  | fieldDark (f : FieldId) (lost : FieldLoss)
  /-- FIELD_RETURN (R460): A DARK field at 95 °C or less runs its self-check and rejoins ONLINE at step 8. -/
  | fieldReturn (f : FieldId) (selfCheckOk : Bool)
  /-- BOUNDARY_MAP_APPLY (R170): A new bad-group map is applied to a boundary link direction with a pause of at most 2 µs. -/
  | boundaryMapApply (f : FieldId) (b : Fin 16)
  /-- HOP_RETRY_GROUP_TEST (R483): Hop retries reach 16 within 1 ms and a live group test runs on the boundary direction. -/
  | hopRetryGroupTest (f : FieldId) (b : Fin 16) (found : BitVec 68)
  /-- PEG_GROUP_COMPLETE (R185): A Peg group's root total reaches COUNT, advances COMPLETED and sends the completion to its scope. -/
  | pegGroupComplete (g : GroupId)
  /-- LEASE_REQUEST (R247): A cluster's tile reserve falls to half its last lease and it requests a lease from the lead. -/
  | leaseRequest (k : ClusterId) (x : CtxId)
  /-- LEASE_GRANT (R247): A lease grant reaches a cluster and adds tiles to its reserve. -/
  | leaseGrant (k : ClusterId) (x : CtxId)
  /-- TILE_HAND (R247): A reserved tile becomes ready and is handed to the longest-waiting TILENEXT. -/
  | tileHand (k : ClusterId) (x : CtxId)
  /-- SCRUB (R207): Background scrub reads and corrects Basket words and Hamper lines, poisoning homes on uncorrectable errors. -/
  | scrub (place : ScrubPlace) (found : ScrubResult)
  /-- HAMPER_SUSPECT (R209): A Hamper controller answers no request for 1 ms and is declared SUSPECT with an ALARM. -/
  | hamperSuspect (h : StackId)
  /-- HAMPER_CHANNEL_FAILED (R470): A Hamper channel fails to retrain or reaches 16 uncorrectable lines in 1 s and is declared FAILED. -/
  | hamperChannelFailed (h : StackId) (ch : Fin 32)
  /-- PRESS_REFRESH (R215): The Press controller copies a block to a fresh block, switches the map and erases the old one. -/
  | pressRefresh (block : Nat) (readable : Bool) (copy : BlockCopy)
  /-- PRESS_WEAR_MOVE (R214): The Press controller moves least-worn data when erase counts differ by more than 500. -/
  | pressWearMove (m : BlockMove)
  /-- WEIGHT_RECORD (R268): A weight record arrives, is forwarded down its tree, checked and placed or poisoned. -/
  | weightRecord (u : UnitId) (w : WeightRecord)
  /-- PRESS_EXTENT_COMMIT (R276): An installation extent is written, read back, verified and its journal record committed. -/
  | pressExtentCommit (firstTile lastTile : W32) (written : ExtentWrite) (verifyOk lastExtent : Bool)
  /-- INCOMPLETE_SLOT_ERASE (R277): Background erasure of a slot INCOMPLETE at the previous bring-up and not resumed. -/
  | incompleteSlotErase (slot : Fin 32)
  /-- SLOT_SWITCH (R280): At the first batch boundary after the new copy is VALID the filled slot becomes ACTIVE and WEIGHT_SWAP completes. -/
  | slotSwitch (x : CtxId)
  /-- OLD_COPY_FREE (R280): References to the old copy fall to zero and it is freed with its reservations. -/
  | oldCopyFree (x : CtxId)
  /-- RACC_POINT_SEND (R293): A RACC point's source tile is complete and one gradient record is sent per chunk. -/
  | raccPointSend (k : ClusterId) (slot : Fin 512) (point : Nat)
  /-- GACK (R296): A gradient record acknowledgement arrives and acts on the ledger. -/
  | gack (u : UnitId) (a : GradAck)
  /-- GRADIENT_RECORD_DEADLINE (R297): A gradient record has no acknowledgement by its 5 ms deadline and is sent again or its point ends TIMEOUT. -/
  | gradientRecordDeadline (x : CtxId) (stream : W32) (seq : BitVec 46)
  /-- STEP_DONE_RELEASE (R301): A held step-done post leaves through the fabric interface once the ledger is clear. -/
  | stepDoneRelease (x : CtxId)
  /-- GREC_DROP (R299): A gradient record arriving at a module is dropped and counted in UNEXPECTED. -/
  | grecDrop (u : UnitId)
  /-- PEG_ARRIVE (R343): A PEG ARRIVE message is combined at a node and passed to its parent or completes at the root. -/
  | pegArrive (u : UnitId) (m : PegMsg)
  /-- PEG_COMPLETE (R343): A PEG COMPLETE message is forwarded to children and posts one local arrival. -/
  | pegComplete (u : UnitId) (m : PegMsg)
  /-- BEGIN (R344): A worker applies a BEGIN message as the host STEP_BEGIN, or reports cause BEGIN. -/
  | beginMsg (u : UnitId) (m : StepMsg) (b : BeginArgs)
  /-- COMMIT (R302): A COMMIT outcome message closes the step. -/
  | commitMsg (u : UnitId) (m : StepMsg)
  /-- SKIP (R302): A SKIP outcome message closes the step as STEP_COMMIT does. -/
  | skipMsg (u : UnitId) (m : StepMsg)
  /-- ABANDON (R302): An ABANDON outcome message stops cores, cancels streams and aborts sequencers. -/
  | abandonMsg (u : UnitId) (m : StepMsg)
  /-- INVALID (R302): An INVALID outcome message acts as ABANDON, the next step naming v − 1. -/
  | invalidMsg (u : UnitId) (m : StepMsg)
  /-- REPORT (R345): A REPORT travels up CTRL_TREE and at the manager raises INVALID or REPEAT. -/
  | reportMsg (u : UnitId) (m : StepMsg) (detail : BitVec 256)
  /-- SEGMENT (R350): A broadcast command segment is forwarded and the reassembled command applied at a worker. -/
  | segmentMsg (u : UnitId) (m : StepMsg) (body : Segment)
  /-- RESULT (R350): A RESULT message combines success counts and the first failure upward. -/
  | resultMsg (u : UnitId) (m : StepMsg)
  /-- TELEM (R508): A TELEM message is forwarded upward and stored at the manager per node. -/
  | telemMsg (u : UnitId) (m : StepMsg) (body : BitVec 256)
  /-- TELEM_SEND (R508): Every 100 ms a worker sends its manager a TELEM body. -/
  | telemSend (x : CtxId)
  /-- STEP_LIMIT_EXPIRY (R345): STEP_LIMIT elapses with no decision and the manager decides REPEAT with cause TIMEOUT. -/
  | stepLimitExpiry (x : CtxId)
  /-- COLL_SOURCE_WRITTEN (R352): A collective's source tile is written under the current step and its chunk is added into the slot. -/
  | collSourceWritten (x : CtxId) (n : Fin 16) (tile : Nat) (chunk : Bool)
  /-- COLL_UP (R352): An UP COLL chunk from a child is checked and added, and sent on or written at the root. -/
  | collUp (u : UnitId) (m : CollMsg)
  /-- COLL_DOWN (R352): A DOWN COLL chunk is checked, written into the destination and sent to children. -/
  | collDown (u : UnitId) (m : CollMsg)
  /-- COLL_DEADLINE (R353): A collective destination tile is not complete at DEADLINE, is POISONED and SHORT set. -/
  | collDeadline (x : CtxId) (n : Fin 16) (tile : Nat)
  /-- FLIT_RECEIVE (R316): A Seam flit is received, CRC-checked, accepted in order or NAKed, and credits and ACK taken. -/
  | flitReceive (u : UnitId) (a : FlitArrival)
  /-- REPLAY_TIMEOUT (R319): ACK does not advance within the round trip plus 500 ns and the transmitter goes back. -/
  | replayTimeout (u : UnitId)
  /-- MESSAGE_ADMISSION (R329): A message's SOM flit leaves the receive buffer and job, fence and type checks admit or drop it. -/
  | messageAdmission (u : UnitId) (mtype : Byte) (job : W16)
  /-- LINK (R311): A LINK message carries training, IDENT, lane and gang handshakes. -/
  | linkMsg (u : UnitId) (m : LinkMsg)
  /-- TIME (R327): A TIME message is stamped and answered, and the child slews its time base. -/
  | timeMsg (u : UnitId) (m : TimeMsg)
  /-- TIME_EXCHANGE (R327): Every 1 ms a child sends a TIME message to its time parent. -/
  | timeExchange
  /-- HOLDOVER (R328): No TIME answer for 10 ms and the time base enters HOLDOVER. -/
  | holdover
  /-- TRAINING_STAGE (R311): A unit completes a training stage and moves to the next, or to ACTIVE. -/
  | trainingStage (u : UnitId) (o : StageOutcome)
  /-- TRAINING_STAGE_FAIL (R312): A stage exceeds its limit and the unit returns to LOCK or after three failures goes DOWN. -/
  | trainingStageFail (u : UnitId)
  /-- TRAINING_RESTART (R312): A DOWN unit starts training again every 10 s. -/
  | trainingRestart (u : UnitId)
  /-- FAST_RETRAIN (R321): After eight go-backs without progress the unit runs a fast retrain. -/
  | fastRetrain (u : UnitId)
  /-- LANE_SPARE_SWITCH (R322): A degrading lane is copied onto lane 8 and the ends change over at the next alignment block. -/
  | laneSpareSwitch (u : UnitId) (rx : Bool) (lane : Fin 9)
  /-- LANE_LOSS (R323): A lane stops without warning and the unit fast-retrains at the width its bad lanes allow. -/
  | laneLoss (u : UnitId) (rx : Bool) (lane : Fin 9)
  /-- SQ_DB (R364): A write of PRODUCER to a mailbox's submission doorbell. -/
  | sqDb (m : MboxId) (value : W64) (bytes : Nat)
  /-- CQ_DB (R364): A write of CONSUMER to a mailbox's completion doorbell. -/
  | cqDb (m : MboxId) (value : W64) (bytes : Nat)
  /-- MBOX_CTRL (R365): A write to a mailbox's control register enables or disables it and sets its options. -/
  | mboxCtrl (m : MboxId) (value : W64)
  /-- REGISTER_WRITE (R359): A window write to a register with no behaviour of its own, or one ignored and counted in WIN_ERR. -/
  | registerWrite (offset : W16) (value : W64) (bytes : Nat)
  /-- DESCRIPTOR_FETCH (R367): The module fetches the next descriptor of a mailbox and checks it. -/
  | descriptorFetch (m : MboxId) (d : Descriptor)
  /-- HOST_ACCESS_DEADLINE (R358): A host-memory access fails or passes its 1 ms deadline and its consequence applies. -/
  | hostAccessDeadline (a : HostAccess)
  /-- MIRROR_UPDATE (R360): The MMP updates the status mirror shadow and advances MIRROR_SEQ. -/
  | mirrorUpdate
  /-- CIVLINK_PORT_DOWN (R357): A CivLink port goes down and unacknowledged writes are sent again on the other port. -/
  | civlinkPortDown (portB : Bool)
  /-- EXP_CTRL (R505): A write to an event class's export control register. -/
  | expCtrl (cls : Fin 4) (value : W64)
  /-- EXP_CONS (R505): A write of the consumed SEQ of an event class's host ring. -/
  | expCons (cls : Fin 4) (value : W64)
  /-- EVENT_EXPORT (R505): The module copies unread event records to the host ring and raises the vector. -/
  | eventExport (cls : Fin 4) (writeOk : Bool)
  /-- TELEM_SAMPLE (R506): Every 1 ms the MMP assembles and replaces the telemetry sample. -/
  | telemSample
  /-- CTX_CREATE (R376): Creates a context, binds its job ID and fixes sum form, TUB_HOLD and quotas. -/
  | ctxCreate (h : Hdr) (a : CtxCreateArgs)
  /-- CTX_DESTROY (R377): Aborts and destroys a context, unbinding its job and destroying its keys. -/
  | ctxDestroy (h : Hdr)
  /-- CTX_SAVE (R378): Writes the context record to host memory. -/
  | ctxSave (h : Hdr) (a : BufArgs)
  /-- CTX_RESTORE (R453): Applies a context record from host memory or the HOLD area to an existing context. -/
  | ctxRestore (h : Hdr) (a : BufArgs) (rec : Option CtxRecord)
  /-- REGION_MAP (R242): Checks and applies region records, mapping or unmapping regions. -/
  | regionMap (h : Hdr) (recs : List RegionRec)
  /-- PROGRAM_LOAD (R379): Loads one region's program, tile declarations, Peg groups, stage and collectives. -/
  | programLoad (h : Hdr) (a : ProgramArgs)
  /-- TREE_SET (R337): Gives a context its job record and tree table. -/
  | treeSet (h : Hdr) (a : TreeSetArgs)
  /-- WEIGHT_BIND (R261): Checks and applies weight binding records, filling RESIDENT copies. -/
  | weightBind (h : Hdr) (recs : List BindRec)
  /-- WEIGHT_SWAP (R280): Starts filling a new copy in the non-ACTIVE slot of a serving context. -/
  | weightSwap (h : Hdr) (a : SwapArgs)
  /-- STEP_BEGIN (R251): Opens a step or batch, activates a slot, arms sequencers and, at the manager, sends BEGIN. -/
  | stepBegin (h : Hdr) (b : BeginArgs)
  /-- STEP_COMMIT (R347): With SKIP set, sends SKIP for a step held for NAN. -/
  | stepCommit (h : Hdr) (step : W32)
  /-- STEP_ABANDON (R347): Sends ABANDON for a step held for NAN. -/
  | stepAbandon (h : Hdr) (step : W32)
  /-- STREAM_CANCEL (R383): Cancels every stream of a context, of a region, or one stream. -/
  | streamCancel (h : Hdr) (a : CancelArgs)
  /-- PRESS_WRITE_INSTALL (R276): Installs an image into an EMPTY Press slot in verified extents. -/
  | pressWriteInstall (h : Hdr) (a : PressArgs)
  /-- PRESS_WRITE_ERASE (R275): Erases a Press image slot. -/
  | pressWriteErase (h : Hdr) (a : PressArgs)
  /-- PRESS_RESUME (R277): Continues an INCOMPLETE installation from the last committed extent. -/
  | pressResume (h : Hdr) (slot : Byte) (ctx : Byte) (key : W16)
  /-- LINK_SET (R384): Sets enables, time parent, clock lock, retrain and gangs of units. -/
  | linkSet (h : Hdr) (recs : List LinkRec)
  /-- FENCE_ARM_FENCE (R331): Fences the named units for a context at ingress and egress. -/
  | fenceArmFence (h : Hdr) (mask : BitVec 128)
  /-- FENCE_ARM_OPEN (R331): Opens the named units for a context that has a bound job ID. -/
  | fenceArmOpen (h : Hdr) (mask : BitVec 128)
  /-- MARK_BAD (R475): DARN_REQUEST operation that takes a part as failed and repairs it. -/
  | markBad (h : Hdr) (b : BadParts)
  /-- RESTORE (R475): DARN_REQUEST operation that removes a soft entry and sends the part to test. -/
  | restore (h : Hdr) (parts : List Part)
  /-- HARDEN (R469): DARN_REQUEST operation that copies a Patch entry into fuses. -/
  | harden (h : Hdr) (parts : List Part)
  /-- BIST_WINDOW (R481): Grants a test window for slices, scrub or scan on named clusters. -/
  | bistWindow (h : Hdr) (a : WindowArgs)
  /-- STATE_SET_READY (R397): Moves the module to READY. -/
  | stateSetReady (h : Hdr)
  /-- STATE_SET_DRAIN (R397): Moves the module to DRAIN once every stream has ended. -/
  | stateSetDrain (h : Hdr)
  /-- STATE_SET_MAINT (R397): Moves the module to MAINT with no context existing. -/
  | stateSetMaint (h : Hdr)
  /-- STATE_SET_RESET (R397): Writes its completion and resets the module 1 ms later. -/
  | stateSetReset (h : Hdr)
  /-- KEY_PROVISION_INSTALL (R412): Checks a key blob, unwraps the session key and installs it in a slot. -/
  | keyProvisionInstall (h : Hdr) (slot : W16) (b : KeyBlob)
  /-- KEY_PROVISION_CLEAR (R410): Empties a session key slot, ending streams and fills that use it. -/
  | keyProvisionClear (h : Hdr) (slot : W16)
  /-- KEY_PROVISION_AUTHORITY (R411): Registers a weight authority's public key. -/
  | keyProvisionAuthority (h : Hdr) (key : BitVec 776)
  /-- KEY_PROVISION_PUBKEY (R411): Writes the agreement public key and its certificate to host memory. -/
  | keyProvisionPubkey (h : Hdr) (addr : W64) (len : W32)
  /-- ATTEST (R414): Writes a signed attestation report, optionally establishing a channel key. -/
  | attest (h : Hdr) (a : AttestArgs)
  /-- FW_STAGE_WRITE (R406): Writes bytes into the inactive firmware slot. -/
  | fwStageWrite (h : Hdr) (a : FwWriteArgs)
  /-- FW_STAGE_VERIFY (R406): Verifies the inactive slot and marks it STAGED. -/
  | fwStageVerify (h : Hdr) (v : FwVerdict)
  /-- FW_STAGE_ACTIVATE (R406): Sets the trial pointer to the STAGED slot. -/
  | fwStageActivate (h : Hdr)
  /-- FW_STAGE_CONFIRM (R406): Moves the boot pointer to the trial image and raises the rollback count. -/
  | fwStageConfirm (h : Hdr)
  /-- FW_STAGE_ABANDON (R406): Erases the inactive slot and clears any trial. -/
  | fwStageAbandon (h : Hdr)
  /-- TELEM_READ (R385): Writes registers of a processor space or the identity record to host memory. -/
  | telemRead (h : Hdr) (a : TelemArgs)
  /-- MODE_SET (R386): Selects hardware or host-assisted mode for a function. -/
  | modeSet (h : Hdr) (a : ModeArgs)
  /-- HOST_WAIT (R387): Offers a buffer for the next host-assisted request. -/
  | hostWait (h : Hdr) (addr : W64) (len : W32)
  /-- HOST_REPLY (R387): Answers a pending host-assisted request. -/
  | hostReply (h : Hdr) (a : ReplyArgs)
  /-- HOST_REQUEST (R387): The module gives a host-assisted request to the oldest fitting HOST_WAIT. -/
  | hostRequest (reqId : W32)
  /-- HOST_REQUEST_LIMIT (R388): A host request reaches its limit unanswered and its fallback applies. -/
  | hostRequestLimit (reqId : W32)
  /-- MMP_TAKEOVER (R394): The serving watchdog expires or its Thread port is lost and the standby takes over. -/
  | mmpTakeover
  /-- STANDBY_WATCHDOG_EXPIRY (R396): The standby's watchdog expires while it serves and the module enters FAULTED. -/
  | standbyWatchdogExpiry
  /-- FC_HEARTBEAT_LOST (R395): 10 ms pass without a field controller heartbeat and the field is taken DARK and reloaded. -/
  | fcHeartbeatLost (l : ControllerLoss)
  /-- BRINGUP (R399): Supply in range with MOD_RESET_N high starts bring-up from the converters. -/
  | bringup (b : BootFindings)
  /-- RING_BATCH (R400): A batch of up to 24 fields is powered, joined, tested and made ONLINE. -/
  | ringBatch (results : List FieldTest)
  /-- BRINGUP_COMPLETE (R401): The Centre ring is done and Hamper trained and the module enters READY. -/
  | bringupComplete (hamper : List HamperTrain)
  /-- REFCLK_LOSS (R430): The selected REFCLK leaves GOOD and the module switches or runs without reference. -/
  | refclkLoss (inputB outOfRange : Bool)
  /-- REFCLK_GOOD (R429): An input stays in range for 10 ms and becomes GOOD, restarting PLLs if none was selected. -/
  | refclkGood (inputB : Bool)
  /-- OSC_CALIBRATION (R425): Every 1 s the mesh frequency is calibrated against the selected REFCLK. -/
  | oscCalibration (aPpm bPpm : W16)
  /-- CDC_TIMEOUT (R436): A crossing whose other side stopped unannounced times out and closes. -/
  | cdcTimeout (x : Crossing)
  /-- PF_WARN (R448): Filtered PF_WARN_N falls and the module enters HOLD. -/
  | pfWarn
  /-- HOLD_COMMIT (R450): Context records and commit word are written and the module reaches OFF. -/
  | holdCommit
  /-- SUPPLY_OUT_OF_RANGE (R449): J1 or the 48 V bus leaves range and the module treats it as PF_WARN_N. -/
  | supplyOutOfRange (kind : SupplyFault)
  /-- MOD_RESET (R437): MOD_RESET_N debounced low resets the module into BRINGUP. -/
  | modReset (pinLow : Bool)
  /-- CONVERTER_FAILURE (R445): A 380 V to 48 V converter fails and the power caps fall. -/
  | converterFailure
  /-- POWER_SAMPLE (R446): Every 10 µs the governor measures input power and adjusts the power step. -/
  | powerSample (s : PowerReading)
  /-- THERMAL_STEP (R456): Every 1 ms the thermal step of at most one field changes. -/
  | thermalStep
  /-- SENSOR_READ (R455): A field controller reads its nine sensors every 1 ms and marks bad ones. -/
  | sensorRead (f : FieldId) (readings : Vector W16 9)
  /-- THERMAL_TRIP (R459): A 105 °C comparator trips and the field goes DARK. -/
  | thermalTrip (f : FieldId) (sensor : Fin 9)
  /-- REGULATOR_FAULT (R458): A vertical regulator fails or the core rail leaves its set point. -/
  | regulatorFault (f : FieldId) (rail : Bool)
  /-- READING_CHECK (R462): Every 1 ms supply and coolant readings are range-checked. -/
  | readingCheck (r : SupplyReading)
  /-- SLICE_START (R461): A self-test slice starts when its conditions hold. -/
  | sliceStart (k : ClusterId) (kind : SliceKind)
  /-- SLICE_END (R477): A slice finishes and its signatures pass or fail its cores and units. -/
  | sliceEnd (f : FieldId) (o : SliceOutcome)
  /-- SPARE_SLICE_TIMER (R480): About once every 1 s a field controller starts a SPARE slice on its next cluster. -/
  | spareSliceTimer (f : FieldId)
  /-- DARNING (R472): Once every stream has ended in DRAIN, suspects are tested, repairs planned and applied. -/
  | darning (p : DarningFindings)
  /-- SCORE_SNAPSHOT (R484): Hourly, or on entry to DRAIN or MAINT, scores are written to the system area. -/
  | scoreSnapshot
  /-- TACK_ID (R510): Tack command returning identity and state. -/
  | tackId
  /-- TACK_CHALLENGE (R418): Tack command returning serial, TACK_OPENS and a fresh nonce. -/
  | tackChallenge
  /-- TACK_RESPONSE (R418): Tack command verifying the opening response and opening the module. -/
  | tackResponse (v : TackVerdict)
  /-- TACK_BAUD (R510): Tack command changing the UART rate. -/
  | tackBaud (rate : W32)
  /-- TACK_READ (R510): Tack command reading registers as TELEM_READ. -/
  | tackRead (space : Byte) (field : Byte) (offset : W32) (count : Nat)
  /-- TACK_WRITE (R510): Tack command writing one register in MAINT. -/
  | tackWrite (space : Byte) (field : Byte) (offset : W32) (value : W64)
  /-- TACK_EVDUMP (R510): Tack command dumping a ring or its bring-up copy. -/
  | tackEvdump (cls : Fin 4) (prev : Bool)
  /-- TACK_STATE (R510): Tack command printing the mirror and telemetry sample. -/
  | tackState
  /-- TACK_SCAN (R510): Tack command running a SCAN slice of a field. -/
  | tackScan (f : FieldId)
  /-- TACK_BIST (R510): Tack command running one CLUSTER slice. -/
  | tackBist (f : FieldId) (ci : Fin 16) (o : SliceOutcome)
  /-- TACK_RESET (R510): Tack command answering OK then resetting the module. -/
  | tackReset
  /-- TACK_LINE_TIMEOUT (R509): A Tack line not ended within 10 s is discarded with ERR BAD_ARG. -/
  | tackLineTimeout
  /-- TACK_EN_RISE (R418): The debounced TACK_EN strap goes high. -/
  | tackEnRise
  /-- TACK_EN_FALL (R421): TACK_EN falls and the monitor closes. -/
  | tackEnFall (responding : Bool)
  /-- WRECV_POINT_DEADLINE (R270): A WRECV point not placed within its TOTAL milliseconds from acceptance ends at its deadline. -/
  | wrecvPointDeadline (k : ClusterId) (slot : Fin 512) (point : Nat)
  /-- RACC_COMPLETION_DEADLINE (R293): A RACC_TILE point whose source tile is not complete by its deadline ends TIMEOUT, sends nothing, and leads to SHORT. -/
  | raccCompletionDeadline (k : ClusterId) (slot : Fin 512) (point : Nat)
  /-- IMAGE_SLOT_ERASED (R274): An ERASING Press image slot finishes its erase, becomes EMPTY and releases its Press quota. -/
  | imageSlotErased (e : SlotErase)
  /-- BIST_WINDOW_END (R481): A test window's DURATION runs out, no further slice starts, and BIST_WINDOW completes with its counts. -/
  | bistWindowEnd
  /-- BROADCAST_TIMEOUT (R350): A broadcast PROGRAM_LOAD or REGION_MAP whose RESULT count has not reached NODES when STEP_LIMIT passes completes with TIMEOUT. -/
  | broadcastTimeout (x : CtxId)
  /-- CIVLINK_PORT_ACTIVE (R356): A CivLink port finishes training, becomes ACTIVE and can carry window accesses and the module's host accesses. -/
  | civlinkPortActive (portB : Bool)
  /-- MMP_OK_CLEAR (R362): The CivLink interface clears MOD_STATUS.MMP_OK when the shadow has not been updated for 10 ms. -/
  | mmpOkClear
  /-- REFCLK_QUALIFYING (R429): A REFCLK input that was ABSENT or OUT_OF_RANGE comes back into range and enters QUALIFYING. -/
  | refclkQualifying (inputB : Bool)
  /-- CONVERTER_RETURN (R445): A failed 380 V to 48 V converter returns to regulation, CONV_OK rises and the power caps rise again. -/
  | converterReturn
  /-- HAMPER_CHANNEL_RECALIBRATION (R486): Every 10 s each Hamper channel is recalibrated, with its traffic held for at most 2 µs. -/
  | hamperChannelRecalibration (h : StackId) (ch : Fin 32)
  /-- EQUALISER_CHECK (R486): Every 60 s each unit checks its transmit equaliser by a LINK message. -/
  | equaliserCheck (u : UnitId)
  deriving DecidableEq, Repr

end Sys2Proof
end

