-- ==== Sys2Proof/Decode.lean ====
section
/-! DEFINITION. The table gives no command bits: the module takes its commands as accesses, messages
and events, so no word spells one. -/

set_option linter.unusedVariables false

namespace Sys2Proof

/-- The command that a word spells by the table's bits: none, since no row gives bits. -/
def decodeTableWord (nbits w : Nat) : Option Instr := none

end Sys2Proof
end

