-- ==== Sys2Proof/Config.lean ====
section
/-! DEFINITION. What the manual leaves open: uninterpreted constants. None has a body, so no proof
can see a value of one. Each is named in the assumption log. -/

namespace Sys2Proof.Config

/-- A value the manual leaves undefined, fresh at each use: applied to the counter
`State.fresh`, which each use advances (DESIGN CHOICE, log entry 2). -/
opaque freeWord : Nat → BitVec 64

/-- R38: candidates for the exponential and the logarithm of one lane, the same on every core. Numerics.lean admits one
only within 2 ulp of the real value (DESIGN CHOICE, log entry 3). -/
opaque vexp : BitVec 32 → BitVec 32
opaque vlog : BitVec 32 → BitVec 32

/-- R38: candidates for the reciprocal and the reciprocal square root. Numerics.lean admits one only
within 2 ulp of the exact value (DESIGN CHOICE, log entry 4). -/
opaque vrcp : BitVec 32 → BitVec 32
opaque vrsq : BitVec 32 → BitVec 32

/-- R128, R130: candidate for the Box-Muller variate of two draws, admitted within 8 ulp; the flag is true for the sine
(odd index). -/
opaque boxMuller : BitVec 32 → BitVec 32 → Bool → BitVec 32

/-- R137: candidate for −ln u with u = (d + 1/2)·2^−24, d the upper 24 bits of a draw, admitted within 2 ulp. -/
opaque gumbelLog : BitVec 32 → BitVec 32

/-- R150: the hash of a context and a source handle that selects a prediction entry. -/
opaque predictIndex : Nat → Nat

/-- R204, R269: the segments that the module's Mangle encoder makes of the PACKED stored bytes of a format, which the
manual calls deterministic and does not give (DESIGN CHOICE, log entry 2). -/
opaque mangled : BitVec 4 → List Byte → List Byte

/-- SHA-384 over bytes (R403, R413, R414), of FIPS 180-4, which the manual names and does not
define. -/
opaque sha384 : List Byte → BitVec 384

/-- The bytes of the module's signatures and certificates (R411, R414): what ECDSA P-384 and HSS
give for a message under the module's keys. -/
opaque signature : List Byte → List Byte
opaque certificate : Nat → List Byte
opaque agreementKey : Nat → List Byte

/-- R266, R294, R295: AES-256-GCM of NIST SP 800-38D, which the manual names and does not define: the ciphertext and the
tag that a key, a nonce and additional authenticated data give a plaintext. -/
opaque gcm : List Byte → List Byte → List Byte → List Byte → List Byte

/-- R205: AES-256-XTS of IEEE 1619, which the manual names and does not define: the ciphertext that a key pair and a tweak
give a data unit; and the n-th key pair that the Thimble makes at random. -/
opaque xts : List Byte → List Nat → List Byte → List Byte
opaque keyPair : Nat → List Byte

/-- R307: the transcoded and scrambled form of the n-th block of 32 bytes in a lane stream, and check symbol i of the
RS(544,514) code for a message, of IEEE 802.3, which the manual names and does not define (log entry 85). -/
opaque transcodedBlock : Nat → List (BitVec 8) → BitVec 257
opaque rsCheck : List (BitVec 10) → Nat → BitVec 10

/-- R317: the bytes of LINK and TIME messages, for which the manual gives no layout, from what they say (log entry 86). -/
opaque linkBytes : List (BitVec 64) → List (BitVec 8)
opaque timeBytes : List (BitVec 64) → List (BitVec 8)

/-- R411, R412: the session key that the bytes of a blob, or of the host's reply in its place, unwrap to. -/
opaque sessionKey : List Byte → List Byte

/-- R182: the TYPE and the payload words of a Thread message, which the firmware of its ends defines: applied to a number
for what it says and to the items it carries (DESIGN CHOICE, log entry 84). -/
opaque threadType : Nat → BitVec 8
opaque threadWords : Nat → List (BitVec 64) → List (BitVec 64)

/-- R418: the nonce of the n-th CHALLENGE of the module's life. -/
opaque tackNonce : Nat → BitVec 256

/-- The serial number fused at manufacture (R408). -/
opaque serial : BitVec 48

/-- Result signatures of a SCAN slice (R476). -/
opaque scanSignature : Nat → BitVec 64

/-- R496: word i of DETAIL, packed from the items of an event with a CODE, at the widths that the structures defining
them give. -/
opaque detailWord : BitVec 16 → List (BitVec 64) → Nat → BitVec 64

/-- R214: the data bytes of a Press block, which the manual does not give. -/
opaque pressBlockBytes : Nat

end Sys2Proof.Config
end

