-- ==== Sys2Proof/Machine/Reals.lean ====
section
/-! DEFINITION. Logarithm, exponential, sine and cosine in fixed point, 160 bits after the point: what
the bounds in ulp of R38, R130 and R137 are measured against. Each is within 2^−150 of the real value
on the arguments the model gives it, far below an ulp of FP32. -/

namespace Sys2Proof.Machine

/-- Bits after the point. -/
def fixBits : Nat := 160

def fixOne : Int := 2 ^ fixBits

/-- ⌊ln 2·2^160⌋. -/
def fixLn2 : Int := 0xb17217f7d1cf79abc9e3b39803f2f6af40f34326

/-- ⌊(π/2)·2^160⌋. -/
def fixHalfPi : Int := 0x1921fb54442d18469898cc51701b839a252049c11

def fixMul (a b : Int) : Int := a * b / fixOne

/-- m·2^e in fixed point, its magnitude held at 2^8. -/
def fixOf (neg : Bool) (m : Nat) (e : Int) : Int :=
  let k := e + fixBits
  let v : Int :=
    if (8 : Int) ≤ (Nat.log2 m : Int) + e then 2 ^ (fixBits + 8)
    else if 0 ≤ k then (m : Int) * 2 ^ k.toNat else (m / 2 ^ (-k).toNat : Nat)
  if neg then -v else v

/-- 1 + (r/n)·(1 + (r/(n−1))·…), from the innermost factor out. -/
def expSeries (r : Int) : Nat → Int → Int
  | 0, acc => acc
  | n + 1, acc => expSeries r n (fixOne + fixMul r acc / ((n : Int) + 1))

/-- e^x of a fixed-point x: a mantissa in fixed point and a power of 2. -/
def fixExp (x : Int) : Int × Int :=
  let k := (2 * x + fixLn2) / (2 * fixLn2)
  (expSeries (x - k * fixLn2) 40 fixOne, k)

/-- 1/(2n+1) + z²·(1/(2n+3) + …), from the innermost term out. -/
def artanhSeries (zz : Int) : Nat → Int → Int
  | 0, acc => acc
  | n + 1, acc => artanhSeries zz n (fixOne / (2 * n + 1) + fixMul zz acc)

/-- ln(m·2^e) for a positive m; exactly 0 where m·2^e is 1. -/
def fixLn (m : Nat) (e : Int) : Int :=
  let t := Nat.log2 m
  let a : Int := (m * 2 ^ fixBits / 2 ^ t : Nat)
  let z := (a - fixOne) * fixOne / (a + fixOne)
  ((t : Int) + e) * fixLn2 + 2 * fixMul z (artanhSeries (fixMul z z) 60 0)

/-- 1 − x²/(i·(i+1))·(1 − …), with i the odd or the even numbers below 2n: the cosine with odd first
factors, the sine over its argument with even ones. -/
def trigSeries (xx : Int) (first : Nat) : Nat → Int → Int
  | 0, acc => acc
  | n + 1, acc =>
    let i : Int := 2 * n + first
    trigSeries xx first n (fixOne - fixMul xx acc / (i * (i + 1)))

def fixCosSmall (x : Int) : Int := trigSeries (fixMul x x) 1 24 fixOne
def fixSinSmall (x : Int) : Int := fixMul x (trigSeries (fixMul x x) 2 24 fixOne)

/-- The cosine of d turns of 2^−24, and the sine, from the nearest quarter turn. -/
def fixTurns (d : Nat) (sine : Bool) : Int :=
  let quarter := (d + 2 ^ 21) / 2 ^ 22 + (if sine then 3 else 0)
  let f : Int := (d : Int) - 2 ^ 22 * (((d + 2 ^ 21) / 2 ^ 22 : Nat) : Int)
  let x := f * fixHalfPi / 2 ^ 22
  match quarter % 4 with
  | 0 => fixCosSmall x
  | 1 => -fixSinSmall x
  | 2 => -fixCosSmall x
  | _ => fixSinSmall x

/-- ⌊√n⌋ by bits, high to low. -/
def natSqrt (n : Nat) : Nat :=
  (List.range (Nat.log2 n / 2 + 1)).foldr
    (fun i r => if (r + 2 ^ i) * (r + 2 ^ i) ≤ n then r + 2 ^ i else r) 0

/-- The root of a fixed-point value that is not negative. -/
def fixSqrt (x : Int) : Int := (natSqrt (x.toNat * 2 ^ fixBits) : Nat)

end Sys2Proof.Machine
end

