-- ==== Sys2Proof/Machine/Numerics.lean ====
section
/-! DEFINITION. Element formats, exact values, rounding, FP32 operations and FW64 (chapter 4). A
finite value is (−1)^neg·m·2^e with a natural m and an integer e, so that no operation loses a bit
before its one rounding. -/

namespace Sys2Proof.Machine

open Sys2Proof

/-! ## Exact values -/

inductive FVal
  | nan
  | inf (neg : Bool)
  | fin (neg : Bool) (m : Nat) (e : Int)
  deriving DecidableEq, Repr

/-- Range conventions of R92: `ieee` has infinities and NaNs; `e4m3` has one NaN code for each sign;
`allFinite` has neither. -/
inductive FloatKind | ieee | e4m3 | allFinite
  deriving DecidableEq, Repr

/-- A floating element format (R92). -/
structure FloatFmt where
  expBits : Nat
  manBits : Nat
  bias : Nat
  kind : FloatKind
  deriving DecidableEq, Repr

def fp32 : FloatFmt := ⟨8, 23, 127, .ieee⟩
def bf16 : FloatFmt := ⟨8, 7, 127, .ieee⟩
def fp16 : FloatFmt := ⟨5, 10, 15, .ieee⟩
def e4m3 : FloatFmt := ⟨4, 3, 7, .e4m3⟩
def e5m2 : FloatFmt := ⟨5, 2, 15, .ieee⟩
def e3m2 : FloatFmt := ⟨3, 2, 3, .allFinite⟩
def e2m3 : FloatFmt := ⟨2, 3, 1, .allFinite⟩
def e2m1 : FloatFmt := ⟨2, 1, 1, .allFinite⟩

/-- m·2^k for k ≥ 0, else ⌊m·2^k⌋. -/
def scaleNat (m : Nat) (k : Int) : Nat :=
  if 0 ≤ k then m * 2 ^ k.toNat else m / 2 ^ (-k).toNat

/-- Code of the largest finite magnitude (R92). -/
def FloatFmt.maxCode (f : FloatFmt) : Nat :=
  match f.kind with
  | .ieee => (2 ^ f.expBits - 1) * 2 ^ f.manBits - 1
  | .e4m3 => 2 ^ (f.expBits + f.manBits) - 2
  | .allFinite => 2 ^ (f.expBits + f.manBits) - 1

def FloatFmt.infCode (f : FloatFmt) : Nat := (2 ^ f.expBits - 1) * 2 ^ f.manBits

/-- The canonical quiet NaN (R93). -/
def FloatFmt.nanCode (f : FloatFmt) : Nat :=
  match f.kind with
  | .ieee => f.infCode + 2 ^ (f.manBits - 1)
  | .e4m3 => 2 ^ (f.expBits + f.manBits) - 1
  | .allFinite => 0

def FloatFmt.signBit (f : FloatFmt) (neg : Bool) : Nat :=
  if neg then 2 ^ (f.expBits + f.manBits) else 0

/-- The value of a code (R92). -/
def FloatFmt.decode (f : FloatFmt) (code : Nat) : FVal :=
  let neg := code / 2 ^ (f.expBits + f.manBits) % 2 == 1
  let ex := code / 2 ^ f.manBits % 2 ^ f.expBits
  let man := code % 2 ^ f.manBits
  let top := 2 ^ f.expBits - 1
  if f.kind = .ieee ∧ ex = top then (if man = 0 then .inf neg else .nan)
  else if f.kind = .e4m3 ∧ ex = top ∧ man = 2 ^ f.manBits - 1 then .nan
  else if ex = 0 then .fin neg man (1 - (f.bias : Int) - f.manBits)
  else .fin neg (2 ^ f.manBits + man) ((ex : Int) - f.bias - f.manBits)

/-! ## Flags (R71) -/

abbrev FpFlags := BitVec 7

def flagNX : FpFlags := 0x01
def flagUF : FpFlags := 0x02
def flagOF : FpFlags := 0x04
def flagDZ : FpFlags := 0x08
def flagNV : FpFlags := 0x10
def flagFWSAT : FpFlags := 0x20
def flagFWNAN : FpFlags := 0x40

def flagIf (c : Bool) (f : FpFlags) : FpFlags := if c then f else 0

/-! ## Rounding (R100 to R102) -/

/-- Rounding modes of R66 on one value: `stochastic r u` takes the low r bits u of its slice. -/
inductive RMode
  | rne
  | rtz
  | stochastic (r u : Nat)
  deriving DecidableEq, Repr

/-- R100: m·2^e to an integer multiple of 2^q, in units of 2^q, and whether it was inexact. -/
def roundMag (mode : RMode) (m : Nat) (e q : Int) : Nat × Bool :=
  if q ≤ e then (m * 2 ^ (e - q).toNat, false)
  else
    let d := (q - e).toNat
    let lo := m / 2 ^ d
    let rem := m % 2 ^ d
    if rem = 0 then (lo, false)
    else
      let up : Bool :=
        match mode with
        | .rne => decide (2 ^ d < 2 * rem) || (2 * rem == 2 ^ d && lo % 2 == 1)
        | .rtz => false
        | .stochastic r u => decide (u % 2 ^ r < (rem * 2 ^ (r + 1) + 2 ^ d) / 2 ^ (d + 1))
      (if up then lo + 1 else lo, true)

/-- The magnitude code of m·2^e rounded to a format with an unbounded top, and inexactness. -/
def FloatFmt.roundCode (f : FloatFmt) (mode : RMode) (m : Nat) (e : Int) : Nat × Bool :=
  let top : Int := (Nat.log2 m : Int) + e
  let emin : Int := 1 - (f.bias : Int)
  let q := (if emin ≤ top then top else emin) - f.manBits
  let (n, inexact) := roundMag mode m e q
  ((q + f.manBits + f.bias).toNat * 2 ^ f.manBits + n - 2 ^ f.manBits, inexact)

/-- R71: tininess after rounding, as if the exponent were unbounded below. -/
def FloatFmt.tiny (f : FloatFmt) (mode : RMode) (m : Nat) (e : Int) : Bool :=
  let top : Int := (Nat.log2 m : Int) + e
  let emin : Int := 1 - (f.bias : Int)
  if emin ≤ top then false
  else
    let (n, _) := roundMag mode m e (top - f.manBits)
    !(n == 2 ^ (f.manBits + 1) && decide (emin ≤ top + 1))

/-- Result of an FP32 arithmetic operation: IEEE 754 RNE, overflow after rounding (R69). -/
def roundFp32 (v : FVal) : W32 × FpFlags :=
  match v with
  | .nan => (BitVec.ofNat 32 fp32.nanCode, 0)
  | .inf neg => (BitVec.ofNat 32 (fp32.signBit neg + fp32.infCode), 0)
  | .fin neg m e =>
    if m = 0 then (BitVec.ofNat 32 (fp32.signBit neg), 0)
    else
      let (code, inexact) := fp32.roundCode .rne m e
      if fp32.maxCode < code then
        (BitVec.ofNat 32 (fp32.signBit neg + fp32.infCode), flagOF ||| flagNX)
      else
        (BitVec.ofNat 32 (fp32.signBit neg + code),
          flagIf inexact flagNX ||| flagIf (inexact && fp32.tiny .rne m e) flagUF)

/-- Conversion of a value to a format (R100, R102): a magnitude above the largest finite value is
overflow in every mode. An MX element saturates (R98). -/
def FloatFmt.convert (f : FloatFmt) (mode : RMode) (v : FVal) : Nat × FpFlags :=
  match v with
  | .nan => (f.nanCode, 0)
  | .inf neg =>
    match f.kind with
    | .ieee => (f.signBit neg + f.infCode, 0)
    | _ => (f.signBit neg + f.maxCode, flagOF)
  | .fin neg m e =>
    if m = 0 then (f.signBit neg, 0)
    else
      let (cut, lost) := f.roundCode .rtz m e
      if f.maxCode < cut ∨ (f.maxCode = cut ∧ lost = true) then
        let toInf := f.kind = .ieee ∧ f ≠ e5m2 ∧ mode ≠ .rtz
        (f.signBit neg + (if toInf then f.infCode else f.maxCode), flagOF ||| flagNX)
      else
        let (code, inexact) := f.roundCode mode m e
        (f.signBit neg + code,
          flagIf inexact flagNX ||| flagIf (inexact && f.tiny mode m e) flagUF)

/-- Conversion to a two's complement integer of `bits` bits (R102), the magnitude rounded under
R100; a value beyond the range saturates and sets OF, and NX with it where the value is finite (R71). -/
def toInteger (bits : Nat) (mode : RMode) (v : FVal) : Int × FpFlags :=
  let hi : Int := 2 ^ (bits - 1) - 1
  let lo : Int := -(2 ^ (bits - 1))
  match v with
  | .nan => (0, flagNV)
  | .inf neg => (if neg then lo else hi, flagOF)
  | .fin neg m e =>
    let limit : Nat := if neg then 2 ^ (bits - 1) else 2 ^ (bits - 1) - 1
    let (cut, lost) := roundMag .rtz m e 0
    if limit < cut ∨ (limit = cut ∧ lost = true) then (if neg then lo else hi, flagOF ||| flagNX)
    else
      let (n, inexact) := roundMag mode m e 0
      (if neg then -(n : Int) else n, flagIf inexact flagNX)

/-! ## Exact arithmetic (R103) -/

def FVal.neg : FVal → FVal
  | .nan => .nan
  | .inf s => .inf !s
  | .fin s m e => .fin (!s) m e

def FVal.mul : FVal → FVal → FVal
  | .nan, _ => .nan
  | _, .nan => .nan
  | .inf s, .inf t => .inf (s != t)
  | .inf s, .fin t m _ => if m = 0 then .nan else .inf (s != t)
  | .fin s m _, .inf t => if m = 0 then .nan else .inf (s != t)
  | .fin s m e, .fin t n f => .fin (s != t) (m * n) (e + f)

/-- v·2^k. -/
def FVal.scale (v : FVal) (k : Int) : FVal :=
  match v with
  | .fin s m e => .fin s m (e + k)
  | w => w

def FVal.isNan (v : FVal) : Bool := v == .nan

def FVal.isInf : FVal → Option Bool
  | .inf s => some s
  | _ => none

/-- A signed integer as a value. -/
def FVal.ofInt (n : Int) (e : Int) : FVal := .fin (decide (n < 0)) n.natAbs e

/-- The exact sum: NaN for any NaN or for both infinities, −0 only when every term is −0. -/
def exactSum (ts : List FVal) : FVal :=
  if ts.any FVal.isNan then .nan
  else
    let pos := ts.any (fun t => t.isInf == some false)
    let neg := ts.any (fun t => t.isInf == some true)
    if pos && neg then .nan
    else if pos then .inf false
    else if neg then .inf true
    else
      let low : Int := ts.foldl (fun a t => match t with
        | .fin _ _ e => if e < a then e else a
        | _ => a) 0
      let s : Int := ts.foldl (fun a t => match t with
        | .fin sg m e => a + (if sg then -1 else 1) * ((m * 2 ^ (e - low).toNat : Nat) : Int)
        | _ => a) 0
      if s = 0 then
        .fin (ts.all (fun t => match t with
          | .fin true 0 _ => true
          | _ => false)) 0 low
      else .ofInt s low

/-- Order of two values that are not NaN, −0 taken as less than +0 when `signed`: is x < y? -/
def FVal.lt (signed : Bool) (x y : FVal) : Bool :=
  match x, y with
  | .nan, _ => false
  | _, .nan => false
  | .inf s, .inf t => s && !t
  | .inf s, .fin .. => s
  | .fin .., .inf t => !t
  | .fin s m e, .fin t n f =>
    if m = 0 ∧ n = 0 then signed && s && !t
    else
      let low := if e < f then e else f
      let a : Int := (if s then -1 else 1) * ((m * 2 ^ (e - low).toNat : Nat) : Int)
      let b : Int := (if t then -1 else 1) * ((n * 2 ^ (f - low).toNat : Nat) : Int)
      decide (a < b)

/-! ## FP32 lane operations (R69, R93) -/

def fp32Val (x : W32) : FVal := fp32.decode x.toNat

def canonNan : W32 := 0x7FC00000

def isNan32 (x : W32) : Bool := (fp32Val x).isNan

/-- R93: a signalling NaN has the top significand bit clear. -/
def isSnan32 (x : W32) : Bool := isNan32 x && !x.getLsbD 22

def isFinite32 (x : W32) : Bool :=
  match fp32Val x with
  | .fin .. => true
  | _ => false

def snanFlags (xs : List W32) : FpFlags := flagIf (xs.any isSnan32) flagNV

/-- An arithmetic result from the exact value of operands none of which need be checked for NaN:
an invalid operation on operands that are not NaN sets NV. -/
def arith32 (xs : List W32) (v : FVal) : W32 × FpFlags :=
  if xs.any isNan32 then (canonNan, snanFlags xs)
  else if v.isNan then (canonNan, flagNV)
  else roundFp32 v

def add32 (a b : W32) : W32 × FpFlags := arith32 [a, b] (exactSum [fp32Val a, fp32Val b])
def sub32 (a b : W32) : W32 × FpFlags := arith32 [a, b] (exactSum [fp32Val a, (fp32Val b).neg])
def mul32 (a b : W32) : W32 × FpFlags := arith32 [a, b] ((fp32Val a).mul (fp32Val b))
/-- a·b + d with one rounding. -/
def fma32 (a b d : W32) : W32 × FpFlags :=
  arith32 [a, b, d] (exactSum [(fp32Val a).mul (fp32Val b), fp32Val d])
def fms32 (a b d : W32) : W32 × FpFlags :=
  arith32 [a, b, d] (exactSum [(fp32Val a).mul (fp32Val b), (fp32Val d).neg])

/-- IEEE 754-2019 minimum and maximum (R69). -/
def min32 (a b : W32) : W32 × FpFlags :=
  if isNan32 a || isNan32 b then (canonNan, snanFlags [a, b])
  else (if (fp32Val b).lt true (fp32Val a) then b else a, 0)
def max32 (a b : W32) : W32 × FpFlags :=
  if isNan32 a || isNan32 b then (canonNan, snanFlags [a, b])
  else (if (fp32Val a).lt true (fp32Val b) then b else a, 0)

def abs32 (a : W32) : W32 × FpFlags :=
  if isNan32 a then (canonNan, snanFlags [a]) else (a &&& 0x7FFFFFFF, 0)
def neg32 (a : W32) : W32 × FpFlags :=
  if isNan32 a then (canonNan, snanFlags [a]) else (a ^^^ 0x80000000, 0)

/-- Compares of R69; the ordered compares are false on NaN. VCLT and VCLE are the signalling
predicates of IEEE 754 and set NV on any NaN. -/
def cmpEq32 (a b : W32) : Bool × FpFlags :=
  (!(isNan32 a || isNan32 b) && !(fp32Val a).lt false (fp32Val b) && !(fp32Val b).lt false (fp32Val a),
    snanFlags [a, b])
def cmpLt32 (a b : W32) : Bool × FpFlags :=
  ((fp32Val a).lt false (fp32Val b), flagIf (isNan32 a || isNan32 b) flagNV)
def cmpLe32 (a b : W32) : Bool × FpFlags :=
  (!(isNan32 a || isNan32 b) && !(fp32Val b).lt false (fp32Val a),
    flagIf (isNan32 a || isNan32 b) flagNV)
def cmpUn32 (a b : W32) : Bool × FpFlags := (isNan32 a || isNan32 b, snanFlags [a, b])

/-- FP32 to INT32 and back (R69). -/
def toInt32 (a : W32) : W32 × FpFlags :=
  let r := toInteger 32 .rne (fp32Val a)
  (BitVec.ofInt 32 r.1, r.2 ||| snanFlags [a])
def ofInt32 (a : W32) : W32 × FpFlags := roundFp32 (.ofInt a.toInt 0)

/-! ## Special functions (R38, R71) -/

/-- Does the finite value c of a code lie within 2 ulp of num/den·2^k (all positive)? -/
def within2ulp (c : W32) (num den : Nat) (k : Int) : Bool :=
  match fp32Val c with
  | .fin _ m e =>
    let top : Int := (Nat.log2 num : Int) - Nat.log2 den + k
    let top := if num * 2 ^ (Nat.log2 den) < den * 2 ^ (Nat.log2 num) then top - 1 else top
    let q : Int := (if (-126 : Int) ≤ top then top else -126) - 23
    let low : Int := min (min e k) (q + 1)
    -- |m·2^e − num/den·2^k| ≤ 2·2^q, times den·2^−low
    let a : Int := (m * den * 2 ^ (e - low).toNat : Nat)
    let b : Int := (num * 2 ^ (k - low).toNat : Nat)
    decide ((a - b).natAbs ≤ den * 2 ^ (q + 1 - low).toNat)
  | _ => false

/-- RNE of num/den·2^k, by a quotient with 40 bits beyond the significand and a sticky bit. -/
def roundQuot (neg : Bool) (num den : Nat) (k : Int) : W32 :=
  let sh := 64 + Nat.log2 den
  let m := num * 2 ^ sh / den * 2 + (if num * 2 ^ sh % den = 0 then 0 else 1)
  (roundFp32 (.fin neg m (k - sh - 1))).1

/-- The sign bit of a result. -/
def withSign (neg : Bool) (x : W32) : W32 := if neg then x ||| 0x80000000 else x &&& 0x7FFFFFFF

/-- Canonical form of a value the manual leaves open (R93). -/
def canonical (x : W32) : W32 := if isNan32 x then canonNan else x

/-- Flags that follow from a result of a finite non-zero operand: overflow, underflow, inexact. -/
def resultFlags (r : W32) (inexact : Bool) : FpFlags :=
  match fp32Val r with
  | .nan => flagNV
  | .inf _ => flagOF ||| flagNX
  | .fin _ m e =>
    flagIf inexact flagNX |||
      flagIf (inexact && (m == 0 || decide ((Nat.log2 m : Int) + e < -126))) flagUF

/-- VRCP: ±∞ with DZ for ±0, ±0 for ±∞, else the candidate where it is within 2 ulp of 1/x and the
rounded quotient otherwise; out of FP32 range the candidate stands (DESIGN CHOICE, log entry 4). -/
def rcp32 (x : W32) : W32 × FpFlags :=
  match fp32Val x with
  | .nan => (canonNan, snanFlags [x])
  | .inf s => (withSign s 0, 0)
  | .fin s m e =>
    if m = 0 then (withSign s 0x7F800000, flagDZ)
    else
      let c := withSign s (Config.vrcp x)
      let exact := roundQuot s 1 m (-e)
      let r := if isFinite32 exact then (if within2ulp c 1 m (-e) then c else exact) else canonical c
      (r, resultFlags r (match fp32Val r with
        | .fin _ n f => !(decide (n * m = 2 ^ (-(f + e)).toNat) && decide (f + e ≤ 0))
        | _ => true))

/-- VRSQ: as VRCP for 1/√x; a negative operand is invalid. Its candidate c is within 2 ulp when c
is within 2 ulp of the root of the quotient rounded to 100 bits. -/
def rsq32 (x : W32) : W32 × FpFlags :=
  match fp32Val x with
  | .nan => (canonNan, snanFlags [x])
  | .inf s => if s then (canonNan, flagNV) else (0, 0)
  | .fin s m e =>
    if m = 0 then (withSign s 0x7F800000, flagDZ)
    else if s then (canonNan, flagNV)
    else
      -- 1/√(m·2^e) = √(2^(200 + d)/m)·2^(−100 − (e + d)/2), d making e + d even
      let d : Nat := (e % 2).toNat
      let root := natSqrt (2 ^ (200 + d) / m)
      let k : Int := -100 - (e + d) / 2
      let c := withSign false (Config.vrsq x)
      let r := if within2ulp c root 1 k then c else (roundFp32 (.fin false (root * 2 + 1) (k - 1))).1
      (r, resultFlags r (match fp32Val r with
        | .fin _ n f =>
          !(decide (n * n * m = 2 ^ (-(2 * f + e)).toNat) && decide (2 * f + e ≤ 0))
        | _ => true))

/-- Does the code c lie within n ulp of v·2^k? -/
def nearUlp (n : Nat) (c : W32) (v k : Int) : Bool :=
  match fp32Val c with
  | .fin s m e =>
    let top : Int := if v = 0 then -126 else (Nat.log2 v.natAbs : Int) + k
    let q : Int := (if (-126 : Int) ≤ top then top else -126) - 23
    let low : Int := min (min e k) q
    let a : Int := (if s then -1 else 1) * ((m * 2 ^ (e - low).toNat : Nat) : Int)
    decide ((a - v * 2 ^ (k - low).toNat).natAbs ≤ n * 2 ^ (q - low).toNat)
  | _ => false

/-- The candidate c where it lies within n ulp of v·2^k, and the rounded value otherwise. Beyond the range of FP32
the candidate stands. -/
def holdUlp (n : Nat) (c : W32) (v k : Int) : W32 :=
  let r := (roundFp32 (if v = 0 then .fin false 0 0 else .ofInt (2 * v + v.sign) (k - 1))).1
  if isFinite32 r then (if nearUlp n c v k then c else r) else canonical c

/-- VEXP, VLOG: the module's own function of the lane, within 2 ulp (R38; DESIGN CHOICE, log entry 3). -/
def exp32 (x : W32) : W32 × FpFlags :=
  match fp32Val x with
  | .nan => (canonNan, snanFlags [x])
  | .inf _ => (canonical (Config.vexp x), 0)
  | .fin s m e =>
    let v := fixExp (fixOf s m e)
    let r := holdUlp 2 (Config.vexp x) v.1 (v.2 - fixBits)
    (r, resultFlags r (m != 0 || r != 0x3F800000))

def log32 (x : W32) : W32 × FpFlags :=
  match fp32Val x with
  | .nan => (canonNan, snanFlags [x])
  | .inf s => (canonical (Config.vlog x), flagIf (s && isNan32 (Config.vlog x)) flagNV)
  | .fin s m e =>
    if m = 0 ∨ s = true then (canonical (Config.vlog x), flagIf (isNan32 (Config.vlog x)) flagNV)
    else
      let r := holdUlp 2 (Config.vlog x) (fixLn m e) (-fixBits)
      (r, resultFlags r (x != 0x3F800000 || !(r &&& 0x7FFFFFFF == 0)))

/-- The magnitude that a Box-Muller variate never exceeds: √(50·ln 2), rounded down (R128). -/
def maxNormal : W32 := 0x40BC62B6

/-- R128, R130: √(−2·ln u1)·cos(2π·u2), or the sine of it, with u1 = (D1[31:8] + 1/2)·2^−24 and u2 = D2[31:8]·2^−24:
the module's own function of the draws, within 8 ulp (DESIGN CHOICE, log entry 3). -/
def boxMuller (d1 d2 : W32) (sine : Bool) : W32 :=
  let radius := fixSqrt (-2 * fixLn (2 * (d1.toNat / 256) + 1) (-25))
  let r := holdUlp 8 (Config.boxMuller d1 d2 sine) (fixMul radius (fixTurns (d2.toNat / 256) sine)) (-fixBits)
  if maxNormal < r &&& 0x7FFFFFFF then withSign (r.getLsbD 31) maxNormal else r

/-- R137: −ln(−ln u) for u = (D[31:8] + 1/2)·2^−24, each logarithm within 2 ulp (DEDUCED, log entry 3). -/
def gumbel (d : W32) : W32 :=
  let w := holdUlp 2 (Config.gumbelLog d) (-fixLn (2 * (d.toNat / 256) + 1) (-25)) (-fixBits)
  (neg32 (log32 w).1).1

/-! ## Element formats by code (R65, R142) -/

abbrev Fmt := BitVec 4

def Fmt.isMx (f : Fmt) : Bool := decide (0x7 ≤ f.toNat ∧ f.toNat ≤ 0xC)

/-- Tensor sources (R44, R65). -/
def Fmt.tensorSource (f : Fmt) : Bool := decide (1 ≤ f.toNat ∧ f.toNat ≤ 0xC)

/-- Sources that accumulate in INT32 (R44): INT8, INT4, MXINT8. -/
def Fmt.isInt (f : Fmt) : Bool := f == 0x5 || f == 0x6 || f == 0xC

def Fmt.elemBits (f : Fmt) : Nat :=
  match f.toNat with
  | 0x0 | 0xD => 32
  | 0x1 | 0x2 => 16
  | 0x6 | 0xB => 4
  | 0x9 | 0xA => 6
  | 0xE => 64
  | _ => 8

/-- Block size in bytes (R142). -/
def Fmt.blockSize (f : Fmt) : Nat := 8 * f.elemBits

/-- Dense length in bytes (R142). -/
def Fmt.denseLen (f : Fmt) : Nat := 64 * f.blockSize + (if f.isMx then 128 else 0)

/-- The floating format of a code's elements, or none for an integer or FW64 format. -/
def Fmt.float (f : Fmt) : Option FloatFmt :=
  match f.toNat with
  | 0x0 => some fp32
  | 0x1 => some bf16
  | 0x2 => some fp16
  | 0x3 | 0x7 => some e4m3
  | 0x4 | 0x8 => some e5m2
  | 0x9 => some e3m2
  | 0xA => some e2m3
  | 0xB => some e2m1
  | _ => none

/-- The value of one element code, without its MX scale. -/
def Fmt.elemVal (f : Fmt) (code : Nat) : FVal :=
  match f.float with
  | some g => g.decode code
  | none => .ofInt (BitVec.ofNat f.elemBits code).toInt (if f == 0xC then -6 else 0)

/-- R95: an E8M0 scale. -/
def scaleVal (e : Byte) : FVal := if e = 0xFF then .nan else .fin false 1 ((e.toNat : Int) - 127)

/-- R144: does a stored code count as zero, its group's scale being `scale` in an MX format? -/
def Fmt.countsZero (f : Fmt) (code : Nat) (scale : Byte) : Bool :=
  let mag := match f.float with
    | some g => code % 2 ^ (g.expBits + g.manBits)
    | none => code % 2 ^ f.elemBits
  mag == 0 && !(f.isMx && scale == 0xFF)

/-- Random bits of R101; 0 for a target that draws none. -/
def Fmt.drawBits (f : Fmt) : Nat :=
  match f.toNat with
  | 0x1 | 0x2 => 3
  | 0x0 | 0xD | 0xE | 0xF => 0
  | _ => 4

/-- R98: emax of an MX element format. -/
def Fmt.emax (f : Fmt) : Int :=
  match f.toNat with
  | 0x7 => 8
  | 0x8 => 15
  | 0x9 => 4
  | 0xA | 0xB => 2
  | _ => 0

/-- R98: the scale code of a group of 32 lanes, or none when a lane is NaN or infinite. -/
def mxScale (f : Fmt) (xs : List W32) : Option Byte :=
  if xs.all isFinite32 then
    let tops : List Int := xs.filterMap (fun x => match fp32Val x with
      | .fin _ m e => if m = 0 then none else some ((Nat.log2 m : Int) + e)
      | _ => none)
    match tops with
    | [] => some 0
    | t :: ts =>
      let top := ts.foldl max t
      let s := max (-127) (min 127 (top - f.emax))
      some (BitVec.ofInt 8 (s + 127))
  else none

/-- R98: one element of a group whose scale is `scale`. -/
def mxElem (f : Fmt) (scale : Byte) (mode : RMode) (x : W32) : Nat × FpFlags :=
  let v := (fp32Val x).scale (127 - (scale.toNat : Int))
  match f.float with
  | some g =>
    match g.convert mode v with
    | (code, fl) =>
      -- E5M2 elements saturate as every MX element does; convert already gives the largest finite
      (code, fl)
  | none =>
    match v.scale 6 with
    | .fin neg m e =>
      let (cut, lost) := roundMag .rtz m e 0
      if 127 < cut ∨ (cut = 127 ∧ lost = true) then
        ((if neg then 256 - 127 else 127), flagOF ||| flagNX)
      else
        let (n, inexact) := roundMag mode m e 0
        ((if neg then (256 - n) % 256 else n), flagIf inexact flagNX)
    | _ => (0, 0)

/-- R98: the two parts of a stored MX group: its scale, its codes, the flags. `modes` gives each
lane's rounding. -/
def mxGroup (f : Fmt) (xs : List (W32 × RMode)) : Byte × List Nat × FpFlags :=
  let nv := snanFlags (xs.map (·.1))
  match mxScale f (xs.map (·.1)) with
  | none => (0xFF, xs.map (fun _ => 0), flagNV)
  | some s =>
    if xs.all (fun x => x.1 &&& 0x7FFFFFFF == 0) then (0, xs.map (fun _ => 0), 0)
    else
      let rs := xs.map (fun x => mxElem f s x.2 x.1)
      (s, rs.map (·.1), rs.foldl (fun a r => a ||| r.2) nv)

/-- R93: a code of an IEEE format that is a signalling NaN, the top significand bit being clear. -/
def FloatFmt.snan (g : FloatFmt) (code : Nat) : Bool :=
  g.kind == .ieee && (g.decode code).isNan && code / 2 ^ (g.manBits - 1) % 2 == 0

/-- R93: NV for a signalling NaN element. -/
def Fmt.elemNv (f : Fmt) (code : Nat) : FpFlags :=
  match f.float with
  | some g => flagIf (g.snan code) flagNV
  | none => 0

/-- R99: an element widened to FP32, with its group's scale in an MX format. An FP32 element needs no
widening and is copied. -/
def Fmt.widen (f : Fmt) (code : Nat) (scale : Byte) : W32 × FpFlags :=
  if f.isMx then
    let nv := f.elemNv code
    if scale = 0xFF then (canonNan, nv)
    else
      match f.elemVal code with
      | .nan => (canonNan, nv)
      | .inf s => (withSign s 0x7F800000, 0)
      | v =>
        roundFp32 (v.scale ((scale.toNat : Int) - 127))
  else
    match f.float with
    | some g => if g = fp32 then (BitVec.ofNat 32 code, 0)
      else ((roundFp32 (g.decode code)).1, f.elemNv code)
    | none => (BitVec.ofInt 32 (BitVec.ofNat f.elemBits code).toInt, 0)

/-- VCVT of a lane to a format that is not MX (R100 to R102): FP32 leaves the value unchanged (R69), a NaN
becoming the canonical one (R93). -/
def Fmt.narrow (f : Fmt) (mode : RMode) (x : W32) : Nat × FpFlags :=
  match f.float with
  | some g =>
    if g = fp32 then ((canonical x).toNat, snanFlags [x])
    else
      let r := g.convert mode (fp32Val x)
      (r.1, r.2 ||| snanFlags [x])
  | none =>
    let r := toInteger f.elemBits mode (fp32Val x)
    ((BitVec.ofInt f.elemBits r.1).toNat, r.2 ||| snanFlags [x])

/-- R69: an INT32 lane saturated to an integer element. DEDUCED, log entry 13. -/
def Fmt.saturate (f : Fmt) (x : W32) : Nat × FpFlags :=
  let hi : Int := 2 ^ (f.elemBits - 1) - 1
  let lo : Int := -(2 ^ (f.elemBits - 1))
  let v := x.toInt
  let c := max lo (min hi v)
  ((BitVec.ofInt f.elemBits c).toNat, flagIf (c != v) (flagOF ||| flagNX))

/-! ## FW64 (R107 to R110) -/

def fwSatPos : W64 := 0x7FFFFFFFFFFFFFFF
def fwSatNeg : W64 := 0x8000000000000001
def fwNan : W64 := 0x8000000000000000
def fwMax : Int := 2 ^ 63 - 2

def fwIsMark (c : W64) : Bool := c == fwSatPos || c == fwSatNeg || c == fwNan

/-- R108: a value into the window of exponent E. -/
def fwOfVal (v : FVal) (e : Int) : W64 × FpFlags :=
  match v with
  | .nan => (fwNan, flagFWNAN)
  | .inf neg => (if neg then fwSatNeg else fwSatPos, flagFWSAT)
  | .fin neg m x =>
    let (n, inexact) := roundMag .rne m (x + 62 - e) 0
    if fwMax < (n : Int) then (if neg then fwSatNeg else fwSatPos, flagFWSAT)
    else (BitVec.ofInt 64 (if neg then -(n : Int) else n), flagIf inexact flagNX)

/-- R109. -/
def fwAdd (a b : W64) : W64 × FpFlags :=
  if a = fwNan ∨ b = fwNan then (fwNan, flagFWNAN)
  else if (a = fwSatPos ∧ b = fwSatNeg) ∨ (a = fwSatNeg ∧ b = fwSatPos) then (fwNan, flagFWNAN)
  else if a = fwSatPos ∨ a = fwSatNeg then (a, 0)
  else if b = fwSatPos ∨ b = fwSatNeg then (b, 0)
  else
    let s := a.toInt + b.toInt
    if fwMax < s then (fwSatPos, flagFWSAT)
    else if s < -fwMax then (fwSatNeg, flagFWSAT)
    else (BitVec.ofInt 64 s, 0)

/-- R107: the value of a code. -/
def fwVal (c : W64) (e : Int) : FVal :=
  if c = fwNan then .nan
  else if c = fwSatPos then .inf false
  else if c = fwSatNeg then .inf true
  else .ofInt c.toInt (e - 62)

/-- R110. -/
def fwToFp32 (c : W64) (e : Int) : W32 × FpFlags :=
  match fwVal c e with
  | .nan => (canonNan, 0)
  | .inf neg => (withSign neg 0x7F800000, flagOF)
  | .fin neg m x => if m = 0 then (0, 0) else roundFp32 (.fin neg m x)

/-! ## Tensor cell arithmetic (R103 to R106) -/

/-- R103, R104: acc ← RNE(acc + S). The second result is the NaN mark. -/
def accFp32 (acc : W32) (s : FVal) : W32 × Bool :=
  let r := exactSum [fp32Val acc, s]
  let c := (roundFp32 r).1
  (c, isNan32 c)

/-- R105: acc ← sat32(acc + n). -/
def accInt32 (acc : W32) (n : Int) : W32 × Bool :=
  let v := acc.toInt + n
  let c := max (-(2 ^ 31)) (min (2 ^ 31 - 1) v)
  (BitVec.ofInt 32 c, c != v)

/-- R106: RNE(P·2^s). -/
def shiftRne (p : Int) (s : Int) : Int :=
  let (n, _) := roundMag .rne p.natAbs s 0
  if p < 0 then -(n : Int) else n

end Sys2Proof.Machine
end

