-- ==== Sys2Proof/Machine/Random.lean ====
section
/-! DEFINITION. The two generators of a core, the normal-variate table and the tile checks
(chapters 5, 6 and 13): everything here is a function of bits. -/

namespace Sys2Proof.Machine

open Sys2Proof

/-! ## The indexed generator (R117 to R119) -/

/-- One round of R117 with the two key words it takes. -/
def permRound (k kn : W32) (x : W32 × W32 × W32 × W32) : W32 × W32 × W32 × W32 :=
  let (x0, x1, x2, x3) := x
  let x0 := x0 + x1 + k
  let x3 := (x3 ^^^ x0).rotateLeft 16
  let x2 := x2 + x3 + kn
  let x1 := (x1 ^^^ x2).rotateLeft 12
  let x0 := x0 + x1
  let x3 := (x3 ^^^ x0).rotateLeft 8
  let x2 := x2 + x3
  let x1 := (x1 ^^^ x2).rotateLeft 7
  (x1, x2, x3, x0)

/-- R117: the four draws of an input block under a seed and a stream identifier. -/
def permute (seed sid : W64) (x : BitVec 128) : W32 × W32 × W32 × W32 :=
  let k0 := seed.setWidth 32
  let k1 := (seed >>> 32).setWidth 32
  let k2 := sid.setWidth 32
  let k3 := (sid >>> 32).setWidth 32
  let v := (x.setWidth 32, (x >>> 32).setWidth 32, (x >>> 64).setWidth 32, (x >>> 96).setWidth 32)
  let v := permRound k0 k1 v
  let v := permRound k1 k2 v
  let v := permRound k2 k3 v
  let v := permRound k3 k0 v
  (v.1 + k0, v.2.1 + k1, v.2.2.1 + k2, v.2.2.2 + k3)

/-- R118: the draws of a domain, qualifier and counter. -/
def blockDraws (seed sid : W64) (domain : Byte) (qualifier : BitVec 56) (counter : W64) :
    W32 × W32 × W32 × W32 :=
  permute seed sid (domain ++ qualifier ++ counter)

def pickDraw (y : W32 × W32 × W32 × W32) (n : Nat) : W32 :=
  match n % 4 with
  | 0 => y.1
  | 1 => y.2.1
  | 2 => y.2.2.1
  | _ => y.2.2.2

/-- R119: the value of element i in the shared form. -/
def sharedDraw (seed sid : W64) (i : W64) : W32 :=
  let d := i.toNat / 8
  (pickDraw (blockDraws seed sid 0x01 0 (BitVec.ofNat 64 (d / 4))) d).rotateRight (4 * (i.toNat % 8))

/-- R120: the value of element i in the full form. -/
def fullDraw (seed sid : W64) (i : W64) : W32 :=
  pickDraw (blockDraws seed sid 0x02 0 (BitVec.ofNat 64 (i.toNat / 4))) i.toNat

/-! ## Lane streams (R123 to R125) -/

/-- One step of a lane (R123) and its draw. -/
def laneStep (l : LaneState) : LaneState × W32 :=
  let s1 := l.a
  let s0 := l.b
  let s1 := s1 ^^^ (s1 <<< 23)
  let b := s1 ^^^ s0 ^^^ (s1 >>> 18) ^^^ (s0 >>> 5)
  ({ l with a := s0, b := b }, ((b + s0) >>> 32).setWidth 32)

/-- R125: the next 4-bit slice of a lane. -/
def laneSlice (l : LaneState) : LaneState × Nat :=
  let l :=
    if l.nibbles = 0 then
      let (l', d) := laneStep l
      { l' with buffer := d, nibbles := 8 }
    else l
  ({ l with buffer := l.buffer.rotateRight 4, nibbles := l.nibbles - 1 }, l.buffer.toNat % 16)

/-- A linear map of the 128-bit lane state: the images of its unit vectors. -/
abbrev LaneMap := List (BitVec 128)

def LaneMap.apply (m : LaneMap) (v : BitVec 128) : BitVec 128 :=
  (m.zipIdx).foldl (fun a c => if v.getLsbD c.2 then a ^^^ c.1 else a) 0

def LaneMap.square (m : LaneMap) : LaneMap := m.map m.apply

/-- One step of R123 on the state b ++ a. -/
def stepBits (v : BitVec 128) : BitVec 128 :=
  let l := (laneStep { a := v.setWidth 64, b := (v >>> 64).setWidth 64 }).1
  l.b ++ l.a

def stepMap : LaneMap := (List.range 128).map (fun i => stepBits (BitVec.twoPow 128 i))

/-- The map of 2^64 steps (R124). -/
def jumpMap : LaneMap := (List.range 64).foldl (fun m _ => m.square) stepMap

/-- n applications of a map, by squaring: one bit of n at a time. -/
def jumpBy (n : Nat) (v : BitVec 128) : BitVec 128 :=
  ((List.range (Nat.log2 n + 1)).foldl
    (fun (p : LaneMap × BitVec 128) i =>
      (p.1.square, if n.testBit i then p.1.apply p.2 else p.2)) (jumpMap, v)).2

/-- R124: the state of lane 0 of the region under a seed and stream identifier. -/
def laneBase (seed sid : W64) : BitVec 128 :=
  let y := blockDraws seed sid 0x10 0 0
  let v := y.2.2.2 ++ y.2.2.1 ++ y.2.1 ++ y.1
  if v = 0 then 1 else v

def laneOfBits (v : BitVec 128) : LaneState :=
  { a := v.setWidth 64, b := (v >>> 64).setWidth 64, buffer := 0, nibbles := 0 }

/-- R124: the lane with global number g, buffer empty. -/
def seedLane (seed sid : W64) (g : Nat) : LaneState := laneOfBits (jumpBy g (laneBase seed sid))

/-- R124: the 64 lanes of the core at position q of its region. -/
def seedLanes (seed sid : W64) (q : Nat) : Vector LaneState 64 :=
  Vector.ofFn (fun l => seedLane seed sid (64 * q + l.val))

/-! ## Normal variates (R128 to R129) -/

def normalPart0 : List Nat :=
  [0xC0530537, 0xC03E66BD, 0xC0342378, 0xC02D1A57, 0xC027B091, 0xC023432F, 0xC01F8045, 0xC01C38A0,
   0xC0194E7B, 0xC016ADD1, 0xC0144880, 0xC012142D, 0xC0100902, 0xC00E20F1, 0xC00C572C, 0xC00AA7D8,
   0xC0090FCC, 0xC0078C6B, 0xC0061B85, 0xC004BB3F, 0xC0036A04, 0xC0022676, 0xC000EF67, 0xBFFF879D,
   0xBFFD4587, 0xBFFB16F1, 0xBFF8FA6F, 0xBFF6EEBB, 0xBFF4F2B2, 0xBFF3054D, 0xBFF1259F, 0xBFEF52D0,
   0xBFED8C1F, 0xBFEBD0D8, 0xBFEA2059, 0xBFE87A0C, 0xBFE6DD67, 0xBFE549ED, 0xBFE3BF29, 0xBFE23CAD,
   0xBFE0C215, 0xBFDF4F05, 0xBFDDE326, 0xBFDC7E26, 0xBFDB1FB9, 0xBFD9C79A, 0xBFD87584, 0xBFD7293C,
   0xBFD5E285, 0xBFD4A128, 0xBFD364F3, 0xBFD22DB3, 0xBFD0FB3B, 0xBFCFCD5F, 0xBFCEA3F6, 0xBFCD7ED8,
   0xBFCC5DE1, 0xBFCB40ED, 0xBFCA27DA, 0xBFC9128A, 0xBFC800DC, 0xBFC6F2B6, 0xBFC5E7FA, 0xBFC4E08F]

def normalPart1 : List Nat :=
  [0xBFC3DC5C, 0xBFC2DB48, 0xBFC1DD3D, 0xBFC0E225, 0xBFBFE9EB, 0xBFBEF47A, 0xBFBE01C0, 0xBFBD11A9,
   0xBFBC2425, 0xBFBB3922, 0xBFBA508F, 0xBFB96A5D, 0xBFB8867D, 0xBFB7A4DF, 0xBFB6C577, 0xBFB5E836,
   0xBFB50D10, 0xBFB433F7, 0xBFB35CE0, 0xBFB287BF, 0xBFB1B488, 0xBFB0E331, 0xBFB013AE, 0xBFAF45F7,
   0xBFAE7A01, 0xBFADAFC1, 0xBFACE730, 0xBFAC2044, 0xBFAB5AF4, 0xBFAA9738, 0xBFA9D508, 0xBFA9145C,
   0xBFA8552C, 0xBFA79770, 0xBFA6DB22, 0xBFA6203B, 0xBFA566B3, 0xBFA4AE84, 0xBFA3F7A8, 0xBFA34217,
   0xBFA28DCD, 0xBFA1DAC4, 0xBFA128F4, 0xBFA0785A, 0xBF9FC8EF, 0xBF9F1AAE, 0xBF9E6D93, 0xBF9DC197,
   0xBF9D16B6, 0xBF9C6CEB, 0xBF9BC431, 0xBF9B1C85, 0xBF9A75E1, 0xBF99D042, 0xBF992BA2, 0xBF9887FE,
   0xBF97E552, 0xBF97439A, 0xBF96A2D2, 0xBF9602F7, 0xBF956403, 0xBF94C5F6, 0xBF9428C9, 0xBF938C7B]

def normalPart2 : List Nat :=
  [0xBF92F107, 0xBF92566C, 0xBF91BCA4, 0xBF9123AE, 0xBF908B86, 0xBF8FF429, 0xBF8F5D94, 0xBF8EC7C5,
   0xBF8E32B8, 0xBF8D9E6B, 0xBF8D0ADC, 0xBF8C7807, 0xBF8BE5E9, 0xBF8B5482, 0xBF8AC3CD, 0xBF8A33C8,
   0xBF89A472, 0xBF8915C8, 0xBF8887C7, 0xBF87FA6D, 0xBF876DB9, 0xBF86E1A7, 0xBF865636, 0xBF85CB64,
   0xBF85412E, 0xBF84B794, 0xBF842E92, 0xBF83A626, 0xBF831E50, 0xBF82970D, 0xBF82105A, 0xBF818A38,
   0xBF8104A3, 0xBF807F9A, 0xBF7FF636, 0xBF7EEE49, 0xBF7DE76A, 0xBF7CE196, 0xBF7BDCCA, 0xBF7AD902,
   0xBF79D63B, 0xBF78D472, 0xBF77D3A5, 0xBF76D3D0, 0xBF75D4F1, 0xBF74D705, 0xBF73DA09, 0xBF72DDF9,
   0xBF71E2D5, 0xBF70E898, 0xBF6FEF41, 0xBF6EF6CD, 0xBF6DFF39, 0xBF6D0882, 0xBF6C12A7, 0xBF6B1DA6,
   0xBF6A297A, 0xBF693623, 0xBF68439E, 0xBF6751E9, 0xBF666101, 0xBF6570E5, 0xBF648192, 0xBF639306]

def normalPart3 : List Nat :=
  [0xBF62A53E, 0xBF61B83A, 0xBF60CBF7, 0xBF5FE072, 0xBF5EF5AB, 0xBF5E0B9E, 0xBF5D224A, 0xBF5C39AE,
   0xBF5B51C6, 0xBF5A6A93, 0xBF598410, 0xBF589E3E, 0xBF57B91A, 0xBF56D4A2, 0xBF55F0D4, 0xBF550DB0,
   0xBF542B33, 0xBF53495B, 0xBF526827, 0xBF518796, 0xBF50A7A6, 0xBF4FC854, 0xBF4EE9A1, 0xBF4E0B89,
   0xBF4D2E0C, 0xBF4C5129, 0xBF4B74DD, 0xBF4A9927, 0xBF49BE07, 0xBF48E379, 0xBF48097E, 0xBF473013,
   0xBF465738, 0xBF457EEA, 0xBF44A72A, 0xBF43CFF4, 0xBF42F949, 0xBF422326, 0xBF414D8B, 0xBF407876,
   0xBF3FA3E6, 0xBF3ECFDA, 0xBF3DFC50, 0xBF3D2948, 0xBF3C56C1, 0xBF3B84B8, 0xBF3AB32D, 0xBF39E21F,
   0xBF39118D, 0xBF384175, 0xBF3771D6, 0xBF36A2B0, 0xBF35D402, 0xBF3505C9, 0xBF343806, 0xBF336AB7,
   0xBF329DDB, 0xBF31D172, 0xBF310579, 0xBF3039F1, 0xBF2F6ED7, 0xBF2EA42C, 0xBF2DD9EE, 0xBF2D101D]

def normalPart4 : List Nat :=
  [0xBF2C46B6, 0xBF2B7DBB, 0xBF2AB528, 0xBF29ECFE, 0xBF29253C, 0xBF285DE1, 0xBF2796EB, 0xBF26D05B,
   0xBF260A2F, 0xBF254466, 0xBF247EFF, 0xBF23B9FA, 0xBF22F556, 0xBF223112, 0xBF216D2D, 0xBF20A9A7,
   0xBF1FE67D, 0xBF1F23B1, 0xBF1E6141, 0xBF1D9F2C, 0xBF1CDD71, 0xBF1C1C10, 0xBF1B5B08, 0xBF1A9A58,
   0xBF19D9FF, 0xBF1919FD, 0xBF185A52, 0xBF179AFB, 0xBF16DBF9, 0xBF161D4B, 0xBF155EF0, 0xBF14A0E7,
   0xBF13E330, 0xBF1325CA, 0xBF1268B5, 0xBF11ABEF, 0xBF10EF79, 0xBF103351, 0xBF0F7776, 0xBF0EBBE9,
   0xBF0E00A8, 0xBF0D45B3, 0xBF0C8B0A, 0xBF0BD0AB, 0xBF0B1696, 0xBF0A5CCA, 0xBF09A347, 0xBF08EA0C,
   0xBF083119, 0xBF07786D, 0xBF06C007, 0xBF0607E7, 0xBF05500C, 0xBF049876, 0xBF03E124, 0xBF032A16,
   0xBF02734A, 0xBF01BCC1, 0xBF01067A, 0xBF005074, 0xBEFF355E, 0xBEFDCA54, 0xBEFC5FCA, 0xBEFAF5BE]

def normalPart5 : List Nat :=
  [0xBEF98C2F, 0xBEF8231D, 0xBEF6BA86, 0xBEF55269, 0xBEF3EAC5, 0xBEF28399, 0xBEF11CE5, 0xBEEFB6A7,
   0xBEEE50DE, 0xBEECEB89, 0xBEEB86A8, 0xBEEA2239, 0xBEE8BE3B, 0xBEE75AAD, 0xBEE5F78F, 0xBEE494E0,
   0xBEE3329E, 0xBEE1D0C8, 0xBEE06F5F, 0xBEDF0E60, 0xBEDDADCB, 0xBEDC4D9F, 0xBEDAEDDB, 0xBED98E7F,
   0xBED82F89, 0xBED6D0F8, 0xBED572CC, 0xBED41503, 0xBED2B79E, 0xBED15A9A, 0xBECFFDF8, 0xBECEA1B6,
   0xBECD45D3, 0xBECBEA4F, 0xBECA8F29, 0xBEC93460, 0xBEC7D9F3, 0xBEC67FE2, 0xBEC5262B, 0xBEC3CCCE,
   0xBEC273CA, 0xBEC11B1E, 0xBEBFC2CA, 0xBEBE6ACC, 0xBEBD1324, 0xBEBBBBD2, 0xBEBA64D3, 0xBEB90E28,
   0xBEB7B7D0, 0xBEB661CA, 0xBEB50C16, 0xBEB3B6B1, 0xBEB2619D, 0xBEB10CD8, 0xBEAFB861, 0xBEAE6438,
   0xBEAD105C, 0xBEABBCCC, 0xBEAA6987, 0xBEA9168D, 0xBEA7C3DD, 0xBEA67177, 0xBEA51F59, 0xBEA3CD83]

def normalPart6 : List Nat :=
  [0xBEA27BF4, 0xBEA12AAC, 0xBE9FD9AA, 0xBE9E88ED, 0xBE9D3875, 0xBE9BE840, 0xBE9A984F, 0xBE9948A0,
   0xBE97F933, 0xBE96AA07, 0xBE955B1C, 0xBE940C70, 0xBE92BE04, 0xBE916FD6, 0xBE9021E6, 0xBE8ED433,
   0xBE8D86BE, 0xBE8C3984, 0xBE8AEC85, 0xBE899FC1, 0xBE885337, 0xBE8706E7, 0xBE85BAD0, 0xBE846EF0,
   0xBE832349, 0xBE81D7D8, 0xBE808C9E, 0xBE7E8332, 0xBE7BED94, 0xBE79585E, 0xBE76C390, 0xBE742F29,
   0xBE719B28, 0xBE6F078B, 0xBE6C7451, 0xBE69E179, 0xBE674F01, 0xBE64BCE9, 0xBE622B30, 0xBE5F99D4,
   0xBE5D08D4, 0xBE5A782F, 0xBE57E7E4, 0xBE5557F1, 0xBE52C856, 0xBE503911, 0xBE4DAA22, 0xBE4B1B86,
   0xBE488D3E, 0xBE45FF47, 0xBE4371A1, 0xBE40E44B, 0xBE3E5743, 0xBE3BCA88, 0xBE393E1A, 0xBE36B1F7,
   0xBE34261E, 0xBE319A8E, 0xBE2F0F46, 0xBE2C8445, 0xBE29F989, 0xBE276F12, 0xBE24E4DE, 0xBE225AED]

def normalPart7 : List Nat :=
  [0xBE1FD13E, 0xBE1D47CE, 0xBE1ABE9E, 0xBE1835AC, 0xBE15ACF7, 0xBE13247E, 0xBE109C41, 0xBE0E143D,
   0xBE0B8C72, 0xBE0904DF, 0xBE067D82, 0xBE03F65B, 0xBE016F6A, 0xBDFDD156, 0xBDF8C43F, 0xBDF3B78B,
   0xBDEEAB37, 0xBDE99F43, 0xBDE493AC, 0xBDDF886F, 0xBDDA7D8C, 0xBDD572FF, 0xBDD068C7, 0xBDCB5EE2,
   0xBDC6554D, 0xBDC14C07, 0xBDBC430E, 0xBDB73A5F, 0xBDB231F8, 0xBDAD29D8, 0xBDA821FD, 0xBDA31A64,
   0xBD9E130C, 0xBD990BF2, 0xBD940514, 0xBD8EFE71, 0xBD89F806, 0xBD84F1D2, 0xBD7FD7A4, 0xBD75CC09,
   0xBD6BC0CF, 0xBD61B5F2, 0xBD57AB6E, 0xBD4DA13F, 0xBD439760, 0xBD398DCF, 0xBD2F8487, 0xBD257B83,
   0xBD1B72C1, 0xBD116A3C, 0xBD0761F0, 0xBCFAB3B3, 0xBCE6A3E9, 0xBCD29479, 0xBCBE855B, 0xBCAA7689,
   0xBC9667F9, 0xBC8259A5, 0xBC5C9707, 0xBC347B1B, 0xBC0C5F76, 0xBBC88811, 0xBB70A309, 0xBAA06C9C]

/-- R129: T[j] = RNE(Φ⁻¹((j + 1/2) ÷ 1,024)) for j below 512. -/
def normalTable : List Nat := normalPart0 ++ normalPart1 ++ normalPart2 ++ normalPart3 ++ normalPart4 ++ normalPart5 ++ normalPart6 ++ normalPart7

/-- R129: T[j], with T[1,023 − j] = −T[j]. -/
def normalEntry (j : Nat) : W32 :=
  if j < 512 then BitVec.ofNat 32 (normalTable.getD j 0)
  else BitVec.ofNat 32 (normalTable.getD (1023 - j) 0) ^^^ 0x80000000

/-- R129: the table method on one draw. -/
def normalByTable (d : W32) : W32 :=
  let x : Int := (d >>> 8).toNat - 2 ^ 13
  if x < 0 then normalEntry 0
  else if 1023 * 2 ^ 14 ≤ x then normalEntry 1023
  else
    let j := x.toNat / 2 ^ 14
    let f : FVal := .fin false (x.toNat % 2 ^ 14) (-14)
    let t0 := fp32Val (normalEntry j)
    let t1 := fp32Val (normalEntry (j + 1))
    (roundFp32 (exactSum [f.mul t1, (f.mul t0).neg, t0])).1

/-! ## Checks (R143, R313) -/

/-- One byte into a CRC of polynomial 0x1021, most significant bit first. -/
def crc16Byte (c : W16) (b : Byte) : W16 :=
  (List.range 8).foldl (fun c _ => if c.getLsbD 15 then (c <<< 1) ^^^ 0x1021 else c <<< 1)
    (c ^^^ (b.setWidth 16 <<< 8))

/-- R143: CRC-16/IBM-3740. -/
def crc16 (bs : List Byte) : W16 := bs.foldl crc16Byte 0xFFFF

/-- One byte into a reflected CRC-32C. -/
def crc32cByte (c : W32) (b : Byte) : W32 :=
  (List.range 8).foldl (fun c _ => if c.getLsbD 0 then (c >>> 1) ^^^ 0x82F63B78 else c >>> 1)
    (c ^^^ b.setWidth 32)

/-- CRC-32C of the module's chunks and flits. -/
def crc32c (bs : List Byte) : W32 := (bs.foldl crc32cByte 0xFFFFFFFF) ^^^ 0xFFFFFFFF

/-- The n low bytes of a value, lowest first. -/
def bytesLE (n : Nat) (v : Nat) : List Byte :=
  (List.range n).map (fun i => BitVec.ofNat 8 (v / 256 ^ i))

/-- A value of bytes, lowest first. -/
def ofBytesLE (bs : List Byte) : Nat := bs.foldr (fun b a => a * 256 + b.toNat) 0

/-- The 14 bytes that HCHECK covers (R140). -/
def headerBytes (h : TileHeader) : List Byte :=
  bytesLE 8 h.bitmap.toNat ++ [h.fmt, 0] ++ bytesLE 2 h.storedLen.toNat ++ bytesLE 2 h.elemNz.toNat

def headerCheck (h : TileHeader) : W16 := crc16 (headerBytes h)

end Sys2Proof.Machine
end

