-- ==== Sys2Proof/Machine/State.lean ====
section
/-! DEFINITION. The state of the module: every register, table, buffer, counter, mode and pin the
manual gives it, as plain data, and the queue of the commands that wait. A default in a structure
is the value at reset. -/

set_option linter.unusedVariables false

namespace Sys2Proof.Machine

open Sys2Proof

/-! ## Cores (chapters 2 to 5) -/

/-- R41. -/
inductive EntryState | empty | filling | resident | poisoned
  deriving DecidableEq, Repr

/-- One tile table entry (R41, R74), with the stored bytes of its tile; `filler` is the slot and epoch
of the stream that reserved its space (R153, R233). -/
structure Entry where
  state : EntryState := .empty
  writable : Bool := false
  readImage : Bool := false
  holder : CtxId := 0
  base : Nat := 0
  reserved : Nat := 0
  header : TileHeader := {}
  bytes : Table Byte := []
  filler : Option (Nat × BitVec 7) := none
  deriving DecidableEq, Repr

inductive AccType | fp32 | int32
  deriving DecidableEq, Repr

/-- An accumulator tile (R33, R73): element 64·row + column; products in flight (R49). -/
structure Acc where
  elems : Table W32 := []
  type : Option AccType := none
  poison : Bool := false
  sat : Bool := false
  nan : Bool := false
  inFlight : Nat := 0
  deriving DecidableEq, Repr

/-- A stalled instruction (R83, R84): its word, what XINFO[31:16] of a WAIT_TIMEOUT holds, and whether
the stall is timed against WAITLIM. -/
structure Waiting where
  word : W64
  info : W16
  timed : Bool
  deriving DecidableEq, Repr

/-- A logical core (R33, R64, R81, R121, R123, R131, R133, R186, R243); `stepCopies` by context. `space` are
ranges of the Pocket, base and length, with the context that used them last, newest first: none once that context
is destroyed (R43). `ibufLost` is the context whose program had an uncorrectable word, until it is loaded again
(R55). `owed` is Pocket space of emptied entries that a cancelled stream's replies still hold: context, slot, epoch,
base and length (R233). -/
structure Core where
  s : Table W64 := []
  v : Table Lanes := []
  vpoison : BitVec 32 := 0
  m : Table W64 := []
  acc0 : Acc := {}
  acc1 : Acc := {}
  pc : Nat := 0
  running : Option CtxId := none
  region : RegionId := 0
  queue : List CtxId := []
  waitlim : W64 := 8500000
  fpstatus : W64 := 0
  fwexp : W16 := 0
  xvec : W64 := 0
  xpc : W64 := 0
  xcause : W64 := 0
  xinfo : W64 := 0
  lastserr : W64 := 0
  inHandler : Bool := false
  waiting : Option Waiting := none
  tiles : Table Entry := []
  tmmSources : List (Nat × Nat × Bool) := []
  seed : W64 := 0
  sid : W64 := 0
  indexBase : W64 := 0
  lanes : Vector LaneState 64 := Vector.replicate 64 {}
  stepCopies : Table (Option LaneRec) := []
  restored : Option LaneRec := none
  observed : Table W32 := []
  space : List (Nat × Nat × Option CtxId) := []
  ibufLost : Option CtxId := none
  owed : List (CtxId × Nat × BitVec 7 × Nat × Nat) := []
  deriving DecidableEq, Repr

/-- Health of a physical core (R55, R56, R60). -/
inductive CoreHealth | good | suspect | failed
  deriving DecidableEq, Repr

/-- What a field controller keeps of a physical core (R53, R54, R60, R61). -/
structure Phys where
  health : CoreHealth := .good
  score : W16 := 0
  hbMissed : BitVec 2 := 0
  lastFault : Byte := 0xFF
  hbSeq : W16 := 0
  hbNext : W16 := 0
  hbSeen : Bool := false
  fault : W64 := 0
  clockStopped : Bool := false
  deriving DecidableEq, Repr

/-! ## Stream engines (chapter 9) -/

/-- A checked stream descriptor (R220). -/
structure StreamDesc where
  op : Byte
  ndim : Nat
  flags : W16
  src : W32
  srcOffset : W32
  dst : W32
  dstOffset : W32
  unitLen : Nat
  bundle : Nat
  peg : GroupId
  dstCluster : Option ClusterId
  wexp : W16
  total : W16
  counts : List W32
  srcStrides : List W32
  dstStrides : List W32
  deriving DecidableEq, Repr

/-- A point of a stream that has started and not completed (R223, R224); `hit` where the prediction table held its
tile (R151), `held` where the entry that it drains held it DENSE. -/
structure Point where
  idx : Nat
  src : Nat
  dst : Nat
  header : Option TileHeader := none
  need : W64 := 0
  asked : W64 := 0
  predicted : W64 := 0
  hit : Bool := false
  held : Bool := false
  bytes : Table Byte := []
  poisoned : Bool := false
  outstanding : Nat := 0
  resent : Bool := false
  deriving DecidableEq, Repr

/-- Stream statuses are the codes of R373. `desc` names the half of a buffer that the engine resolved
(R229); `started` once the checks of R195, R202 and R223 have passed; `early` are points placed before their
request; `bound` where a bound handle was resolved (R281); `version` and `object` are the binding's at acceptance
(R282). -/
structure Stream where
  desc : StreamDesc
  ctx : CtxId
  core : CoreId
  region : RegionId
  nowait : Bool
  started : Bool := false
  slotB : Bool := false
  order : Nat := 0
  number : W32 := 0
  key : Nat := 0
  version : W32 := 0
  object : W64 := 0
  next : Nat := 0
  doneCount : Nat := 0
  early : List Nat := []
  bound : Bool := false
  live : List Point := []
  poisoned : Bool := false
  timedOut : Bool := false
  cancelled : Bool := false
  ended : Option Byte := none
  deriving DecidableEq, Repr

/-- A stream queue slot (R75, R232): generation, epoch, occupant. -/
structure StreamSlot where
  gen : BitVec 12 := 0
  epoch : BitVec 7 := 0
  stream : Option Stream := none
  deriving DecidableEq, Repr

/-- R193. -/
inductive Home
  | pocket (c : CoreId) (entry : Nat)
  | basket (k : ClusterId)
  | hamper (h : StackId) (pair : Fin 15)
  | lost
  deriving DecidableEq, Repr

/-- Where a transfer's request goes. -/
inductive Tier
  | home (h : Home)
  | press
  | port (u : UnitId)
  deriving DecidableEq, Repr

/-- What a transfer carries (R224): the headers of `count` points, blocks of a tile, raw points, one tile of the
Press or of a weight server, or an index operation's byte ranges. -/
inductive XferKind
  | header (idx count : Nat)
  | blocks (idx : Nat) (mask : W64)
  | raw (idx count : Nat)
  | tile (idx : Nat)
  | index
  | grad (seq : BitVec 46)
  deriving DecidableEq, Repr

/-- An outstanding transfer (R225, R232): its stream slot and the epoch at its issue; the tiles it reads, each
with the number of the home that the read was issued against (R194); what a weight server owes it, a record (R272) or an
acknowledgement (R296): stream number, OBJECT, VERSION and tile index. -/
structure Xfer where
  slot : Nat
  epoch : BitVec 7
  kind : XferKind
  tier : Tier
  ctx : CtxId
  core : CoreId
  slotB : Bool
  bound : Bool := false
  reads : List (Nat × Nat) := []
  want : Option (W32 × W64 × W32 × W32) := none
  deriving DecidableEq, Repr

/-- A transfer slot (R208, R232, R235): `expired` is a transfer that its deadline has ended, which occupies the
slot until its late reply or a reclaim; `heldOut` after a reclaim. -/
structure XferSlot where
  busy : Option Xfer := none
  expired : Option Xfer := none
  heldOut : Bool := false
  deriving DecidableEq, Repr

/-- A prediction entry (R150). -/
structure Predict where
  valid : Bool := false
  ctx : CtxId := 0
  handle : W32 := 0
  bitmap : W64 := 0
  deriving DecidableEq, Repr

/-- An open pass of the sort-and-merge tree (R161, R162); keys are (ROW, SEGMENT, INDEX). -/
structure TreePass where
  ctx : CtxId
  fw64 : Bool
  wexp : W16
  entries : List ((W32 × W16 × W16) × W64 × Bool) := []
  runs : Nat := 0
  deriving DecidableEq, Repr

/-- A run that the tree has written (R162): its records; `last` is the number of runs that the completion of a
closed pass gives. -/
structure TreeRun where
  ctx : CtxId
  records : List Byte
  last : Option Nat := none
  deriving DecidableEq, Repr

/-- The key of a RED packet (R174). -/
structure TubKey where
  dest : BitVec 12
  ctx : CtxId
  job : W16
  step : W32
  handle : W32
  frag : Fin 32
  sumFp32 : Bool
  deriving DecidableEq, Repr

/-- A Tub slot (R172, R174): the 128 element codes of its fragment, in sum form. -/
structure TubSlot where
  key : TubKey
  count : W16
  total : W16
  wexp : W16
  bmap : BitVec 2
  poison : Bool
  mixed : Bool
  sums : Table W64
  deriving DecidableEq, Repr

/-- A RED packet in the mesh (R168): the router that it has entered last, none before it enters its source router. -/
structure Flight where
  packet : RedPacket
  here : Option ClusterId := none
  deriving DecidableEq, Repr

/-- A sequencer instance (R247): tiles in reserve, the last lease, a request on its way, the cores
waiting in TILENEXT (oldest first). -/
structure SeqInst where
  reserve : List W32 := []
  lastLease : Nat := 0
  requested : Bool := false
  waiters : List CoreId := []
  staticNext : W32 := 0
  deriving DecidableEq, Repr

/-- The token a sequence has open (R134, R135): the ranges fed, the finite scores by vocabulary entry,
whether a score was not finite, whether the main path was unavailable while it was in flight (R138). -/
structure SampleSeq where
  fed : List W64 := []
  scores : List (Nat × BitVec 32) := []
  nonFinite : Bool := false
  lost : Bool := false
  deriving DecidableEq, Repr

/-- A sequence that SMPDRAW has closed (R135): who waits, the decode position, what was fed, and the
word for s[RD] once the token is ready (R139). -/
structure Draw where
  seq : W16
  core : CoreId
  pos : W32
  body : SampleSeq
  result : Option W64 := none
  deriving DecidableEq, Repr

/-- A cluster's token sampler (R134, R138). `key` is the seed and stream identifier of the core
that issued SMPCFG. -/
structure Sampler where
  seed : W64 := 0
  sid : W64 := 0
  temperature : BitVec 32 := 0
  topK : Nat := 0
  topP : BitVec 32 := 0x3F800000
  fallback : Bool := false
  mainOk : Bool := false
  seqs : List (W16 × SampleSeq) := []
  draws : List Draw := []
  configured : Bool := false
  ignored : Nat := 0
  nonFinite : Nat := 0
  deriving DecidableEq, Repr

/-- A cluster: stream engine, tree, router, sequencer instances, sampler, Basket charges per
context (R202), and the release of a Basket space that a move left (R194). -/
structure Cluster where
  streams : Table StreamSlot := []
  accepted : Nat := 0
  turn : Nat := 0
  xfers : Table XferSlot := []
  predict : Table Predict := []
  tree : Option TreePass := none
  treeRuns : List TreeRun := []
  tubs : Table (Option TubSlot) := []
  seqs : Table SeqInst := []
  sampler : Sampler := {}
  basketUsed : Table Nat := []
  basketScore : W16 := 0
  routerScore : W16 := 0
  deriving DecidableEq, Repr

/-! ## Tiles (chapter 8) -/

/-- A fragment of a reduction destination (R289). -/
structure Frag where
  written : Bool := false
  step : W32 := 0
  count : Nat := 0
  total : W16 := 0
  wexp : W16 := 0
  bmap : BitVec 2 := 0
  poison : Bool := false
  nan : Bool := false
  firstNan : Nat := 0
  mixed : Bool := false
  sums : Table W64 := []
  deriving DecidableEq, Repr

/-- A home that a tile has left (R194): its number, the reads issued against it that are not answered, and what
they are served. -/
structure OldHome where
  home : Home
  no : Nat
  reads : Nat
  written : Bool
  header : TileHeader
  bytes : Table Byte
  poisoned : Bool
  deriving DecidableEq, Repr

/-- A tile of the directory (R193 to R197, R226, R246, R264, R289). A tile that has never been
written has `written` false (R196); `declHome` is the home of R200, at `line` and header slot `headSlot` of its pair
where that is in the Hamper; `moves` numbers its homes; `reservedAt` is the space that a RELOCATE, named by its
cluster, slot and epoch, has reserved; `mangledIn` where it arrived MANGLED (R386). -/
structure Tile where
  declared : Bool := false
  fmt : BitVec 4 := 0
  flags : W16 := 0
  region : Option RegionId := none
  ordinal : Nat := 0
  home : Home := .lost
  declHome : Home := .lost
  written : Bool := false
  header : TileHeader := {}
  bytes : Table Byte := []
  homePoisoned : Bool := false
  lastStep : Option W32 := none
  placed : Bool := false
  version : W32 := 0
  moving : Bool := false
  directAt : Option ClusterId := none
  lock : Option (ClusterId × Nat) := none
  lockQueue : List (ClusterId × Nat) := []
  oldHomes : List OldHome := []
  moves : Nat := 0
  reads : Nat := 0
  line : Nat := 0
  headSlot : Nat := 0
  reservedAt : Option (Home × ClusterId × Nat × BitVec 7) := none
  frags : Table Frag := []
  redPegs : List (W32 × ClusterId × GroupId) := []
  mangledIn : Bool := false
  deriving DecidableEq, Repr

/-! ## Regions and Peg groups (chapters 7 and 10) -/

inductive RegionState | unmapped | mapped | loaded | stale
  deriving DecidableEq, Repr

inductive StaleCause | none | row | dark | retired | cutoff
  deriving DecidableEq, Repr

inductive SeqState | idle | armed | running | draining | done | aborted
  deriving DecidableEq, Repr

/-- A region (R238 to R258, R229). `cut` are the bundles that a CUT stream has written, each with its poison; `leases` are
the requests that have reached the lead, each with the serving cores of its cluster (R247); `shown` is the sequencer state
that a restored record carries (R253). -/
structure Region where
  state : RegionState := .unmapped
  cause : StaleCause := .none
  ctx : CtxId := 0
  x0 : Nat := 0
  y0 : Nat := 0
  width : Nat := 0
  height : Nat := 0
  sampler : W16 := 0
  ibufBase : Nat := 0
  ibufSize : Nat := 0
  stage : StageRec := {}
  code : List W64 := []
  decls : List Decl := []
  groups : List GroupId := []
  seq : SeqState := .idle
  shown : Option SeqState := none
  leases : List (ClusterId × Nat) := []
  handed : W32 := 0
  doneTiles : W32 := 0
  nextTile : W32 := 0
  pegBases : List W32 := []
  outstanding : List (W32 × CoreId) := []
  finished : List W32 := []
  roles : Table Bool := []
  cutCount : Option W32 := none
  cutEntry : Nat := 0
  cut : List (List Byte × Bool) := []
  laneCount : W32 := 0
  deriving DecidableEq, Repr

/-- A Peg group (R184 to R186, R343). `total` are the arrivals counted at the root; `nan` the mark
a post carried; `linkGen` the generations of the linked group in this step, `echo` the fabric
interface's own posts whose completion is no new arrival (DEDUCED, log entry 27). -/
structure Peg where
  configured : Bool := false
  ctx : CtxId := 0
  region : RegionId := 0
  count : W16 := 1
  scope : BitVec 256 := 0
  link : Option (BitVec 6) := none
  total : Nat := 0
  nan : Bool := false
  completed : W32 := 0
  linkGen : W32 := 0
  echo : Nat := 0
  deriving DecidableEq, Repr

/-! ## Contexts (chapters 1, 11, 12, 14, 16) -/

structure Slot where
  tag : W32 := 0
  valid : Bool := false
  deriving DecidableEq, Repr

inductive SwapState | none | filling | waiting | freeing
  deriving DecidableEq, Repr

/-- A weight binding (R260). -/
structure Binding where
  resident : Bool
  source : Byte
  fmt : BitVec 4
  first : W32
  count : W32
  flags : W16
  tree : Option (BitVec 6)
  object : W64
  key : Nat
  deriving DecidableEq, Repr

/-- The job record of TREE_SET (R336). -/
structure JobRec where
  node : W16
  nodes : W16
  manager : W16
  ctrlTree : BitVec 6
  stepLimit : W32
  trees : List TreeRec
  deriving DecidableEq, Repr

/-- A gradient record not yet done (R294, R296, R297); `key`: the key slot of its binding. -/
structure GradRec where
  cluster : ClusterId
  slot : Nat
  stream : W32
  node : W16
  seq : BitVec 46
  object : W64
  tile : W32
  chunk : Bool
  form : WireForm
  nan : Bool
  step : W32
  version : W32
  count : W32
  wexp : W16
  bitmap : W32
  data : List W64
  crc : W32
  port : UnitId
  second : Bool := false
  key : Nat := 0
  deriving DecidableEq, Repr

/-- Arrivals of a linked group's generation at this node (R343). -/
structure LinkedGen where
  group : GroupId
  gen : W32
  count : Nat
  nan : Bool
  deriving DecidableEq, Repr

/-- A child's RESULT (R350). -/
structure ChildResult where
  unit : UnitId
  okCount : W16
  status : Byte
  failNode : W16
  deriving DecidableEq, Repr

/-- A broadcast command in progress at this node (R350): this node's own status once it has applied it, and
what the children have answered. -/
structure Bcast where
  hdr : Option Hdr
  own : Option Byte
  answers : List ChildResult := []
  deriving DecidableEq, Repr

/-- A chunk slot of a collective (R352). -/
structure CollSlot where
  tile : W32
  count : Nat
  own : Bool := false
  bitmap : W32
  poison : Bool
  nan : Bool
  sums : Table W64
  deriving DecidableEq, Repr

/-- A chunk that waits for its slot: this node's own, or one that a child has sent. -/
structure CollHeld where
  tile : W32
  chunk : Bool
  msg : Option CollMsg
  deriving DecidableEq, Repr

/-- A declared collective (R351) with its slots, keyed 2·(t mod WINDOW) + chunk, the chunks that wait for
one, and the chunks written into destinations in this step, with those of them that were POISONED. -/
structure Coll where
  decl : CollRec
  region : RegionId := 0
  slots : Table (Option CollSlot) := []
  held : List CollHeld := []
  written : List (W32 × Bool) := []
  spoiled : List (W32 × Bool) := []
  deriving DecidableEq, Repr

/-- The ledger marks of R300. -/
structure Marks where
  nan : Bool := false
  crc : Bool := false
  egress : Bool := false
  short : Bool := false
  poison : Bool := false
  aborted : Bool := false
  deriving DecidableEq, Repr

/-- The latest telemetry of a node (R508). -/
structure TelemEntry where
  body : BitVec 256 := 0
  at_ : W64 := 0
  deriving DecidableEq, Repr

/-- R225, R272: the requests of a fill or an installation to the weight servers: tile indices from `next` up to `last`
are still to be asked for; `out` are the tiles asked for and not answered, each with its port. -/
structure Asks where
  next : Nat := 0
  last : Nat := 0
  out : List (Nat × UnitId) := []
  deriving DecidableEq, Repr

/-- A fill of WEIGHT_BIND or WEIGHT_SWAP (R280) of one binding, from a server port, an image or the fabric. -/
structure Fill where
  binding : Nat
  number : W32
  slotB : Bool
  version : W32
  object : W64
  image : Option (Fin 32) := none
  resent : List Nat := []
  asks : Asks := {}
  deriving DecidableEq, Repr

/-- A context. `canInvalid`: version v − 1 of the open step is available (R27); `xts` is the number of its AES-XTS
key pair among those that the Thimble has made (R205). -/
structure Ctx where
  live : Bool := false
  job : W16 := 0
  sumFp32 : Bool := false
  tubHold : Nat := 0
  pocketQuota : Nat := 0
  basketQuota : Nat := 0
  hamperQuota : Nat := 0
  pressQuota : Nat := 0
  hamperUsed : Nat := 0
  pressUsed : Nat := 0
  xts : Option Nat := none
  slotA : Slot := {}
  slotB : Slot := {}
  activeB : Bool := false
  swap : SwapState := .none
  swapObjects : List (Nat × W64) := []
  swapCmd : Option Hdr := none
  bindCmd : Option Hdr := none
  refs : Nat := 0
  batchOnOld : Bool := false
  step : W32 := 0
  version : W32 := 0
  stepRecorded : Bool := false
  freshStep : Bool := true
  isOpen : Bool := false
  reloadLanes : Bool := false
  batch : W64 := 0
  doneGroup : GroupId := 0
  outstanding : Nat := 0
  marks : Marks := {}
  reported : List Byte := []
  doneSent : Bool := false
  heldDone : Option Bool := none
  lastOutcome : Fin 6 := 0
  lastOutcomeStep : W32 := 0
  canInvalid : Bool := false
  fills : List Fill := []
  grads : List GradRec := []
  bindings : Table (Option Binding) := []
  jobRec : Option JobRec := none
  linked : List LinkedGen := []
  decided : Bool := false
  heldNan : Bool := false
  beginCmd : Option Hdr := none
  bcast : Option Bcast := none
  colls : Table (Option Coll) := []
  reductionMode : Fin 3 := 0
  hostSampling : Bool := false
  measure : BitVec 384 := 0
  telem : Table TelemEntry := []
  deriving DecidableEq, Repr

/-! ## Links (chapter 13) -/

/-- A request for consecutive tiles of an object (R272). -/
structure WeightReq where
  job : W16
  node : W16
  stream : W32
  object : W64
  version : W32
  first : W32
  count : W16 := 1
  seq0 : BitVec 48
  mangleOk : Bool := true
  resend : Bool := false
  deriving DecidableEq, Repr

/-- A message handed to a unit's transmit queue (R317). -/
inductive OutMsg
  | wreq (r : WeightReq)
  | wrec (w : WeightRecord)
  | grec (job : W16) (g : GradRec) (sealed : List Byte)
  | pegUp (m : PegMsg)
  | pegDown (m : PegMsg)
  | step (subtype : Byte) (m : StepMsg) (body : List Byte)
  | begin (m : StepMsg) (b : BeginArgs)
  | segment (m : StepMsg) (body : Segment)
  | coll (down : Bool) (m : CollMsg)
  | link (m : LinkMsg)
  | time (m : TimeMsg)
  deriving DecidableEq, Repr

inductive UnitState | down | wait | training | active | retrain
  deriving DecidableEq, Repr

inductive TrainStage | lock | eq | align | ident | rtt
  deriving DecidableEq, Repr

inductive Width | none | half | full
  deriving DecidableEq, Repr

inductive DownCause | none | train | lanes | role
  deriving DecidableEq, Repr

/-- A message that lies whole in a receive buffer: its VC and its flits (R317, R318, R329), and the SUBTYPE that a STEP
message has in its byte 4 (R341). -/
structure Delivered where
  mtype : Byte
  job : W16
  subtype : Byte := 0
  vc : Nat := 0
  flits : Nat := 1
  deriving DecidableEq, Repr

/-- A fabric link or server port (R306 to R335). `txq` is the record of the messages handed to it and `wire` that of the
flits it has sent, newest last; `txWait` are DATA flits that wait for a credit. The lowest member of a gang holds the
sequence, the buffers and the credits of the gang (R324). `equaliser` are the settings that the host's last training reply
gave, lane by lane (R388, R389). -/
structure LinkUnit where
  state : UnitState := .down
  stage : TrainStage := .lock
  fastRetrain : Bool := false
  hostStop : Bool := false
  width : Width := .none
  txSpare : BitVec 4 := 0xF
  rxSpare : BitVec 4 := 0xF
  badTx : BitVec 9 := 0
  badRx : BitVec 9 := 0
  gangLow : Option UnitId := none
  gangPos : BitVec 2 := 0
  gangSize : BitVec 3 := 1
  cause : DownCause := .none
  peer : Option PeerKind := none
  hostMode : Bool := false
  hostTrained : Bool := false
  locked : Bool := false
  timeParent : Bool := false
  openCtx : Byte := 0
  score : W16 := 0
  serial : BitVec 48 := 0
  peerUnit : BitVec 7 := 0
  enabled : Bool := true
  failures : Nat := 0
  equaliser : List Byte := []
  txLaneScore : Vector W16 9 := Vector.replicate 9 0
  rxLaneScore : Vector W16 9 := Vector.replicate 9 0
  nextSeq : BitVec 12 := 0
  nakSent : Bool := false
  rxOpen : Table (Option (Byte × Byte)) := []
  rxSkip : Table Bool := []
  rxCount : Table Nat := []
  delivered : List Delivered := []
  freed : Table Nat := []
  credit : Table Nat := []
  ackSeq : BitVec 12 := 0xFFF
  txSeq : BitVec 12 := 0
  txWait : List Flit := []
  txCount : Table Nat := []
  replay : List Flit := []
  cvc : Fin 4 := 0
  wire : List Flit := []
  goBacks : Nat := 0
  txq : List OutMsg := []
  framedAt : W64 := 0
  deriving DecidableEq, Repr

/-- R328, R335. -/
inductive TimeState | free | acquiring | locked | holdover
  deriving DecidableEq, Repr

structure TimeStatus where
  state : TimeState := .free
  stepped : Bool := false
  offset : W16 := 0
  rtt : W16 := 0
  depth : Byte := 0
  slew : W64 := 0
  phase : BitVec 3 := 0
  deriving DecidableEq, Repr

/-! ## Fields, clocks, heat, self-test (chapters 16 to 19) -/

/-- R16, R398. -/
inductive FieldState | off | test | online | throttled | dark | retired
  deriving DecidableEq, Repr

/-- R425. -/
inductive OscState | free | joining | locked | leaving
  deriving DecidableEq, Repr

/-- A boundary link direction (R170, R171): the bad groups applied, its score, hop retries in the
last 1 ms. -/
structure Boundary where
  bad : BitVec 68 := 0
  score : W16 := 0
  retries : Nat := 0
  windowStart : W64 := 0
  deriving DecidableEq, Repr

/-- A running slice (R476). -/
structure Slice where
  kind : SliceKind
  ci : Fin 16
  inWindow : Bool
  deriving DecidableEq, Repr

/-- A field and its controller (R398, R423, R441, R442, R464, R493). -/
structure Field where
  state : FieldState := .off
  tests : BitVec 2 := 0
  fcOk : Bool := false
  fcFailures : List W64 := []
  osc : OscState := .free
  arithGated : Bool := true
  meshGated : Bool := true
  cdcIdle : Bool := true
  phaseErr : W16 := 0
  cdcTimeouts : W16 := 0
  compat : Bool := false
  closedCrossings : List (Byte × W32) := []
  temp : W16 := 0
  hotSensor : BitVec 4 := 0
  badSensors : BitVec 9 := 0
  readings : Vector W16 9 := Vector.replicate 9 0
  apart : Vector Nat 9 := Vector.replicate 9 0
  thStep : BitVec 4 := 0
  regFault : Bool := false
  darkCount : W16 := 0
  boundaries : Table Boundary := []
  slice : Option Slice := none
  lastKind : BitVec 2 := 0
  lastCluster : BitVec 4 := 0
  lastPass : Bool := false
  slices : W16 := 0
  sliceFails : W16 := 0
  spareNext : Nat := 0
  spareNoted : BitVec 16 := 0
  sparePassed : Table W64 := []
  deriving DecidableEq, Repr

/-- R429. -/
inductive RefState | absent | outOfRange | qualifying | good
  deriving DecidableEq, Repr

/-- REFCLK_STATUS, MMP_CLK, CDC_CTRL of the MMP (R442, R443), mesh calibration (R425). -/
structure Clocks where
  a : RefState := .absent
  b : RefState := .absent
  selB : Bool := false
  noneSelected : Bool := false
  aPpm : W16 := 0
  bPpm : W16 := 0
  switches : W16 := 0
  cdcIdle : Bool := true
  fallback : Bool := false
  cdcTimeouts : W16 := 0
  compat : Bool := false
  closedCrossings : List (Byte × W32) := []
  calibrations : Nat := 0
  deriving DecidableEq, Repr

/-- POWER_STATUS (R463), the governor's timing (R446), and which readings of R462 are outside their range. -/
structure Power where
  inputW : W16 := 0
  inputV : W16 := 0
  averageW : W16 := 0
  pwrStep : BitVec 4 := 0
  convOk : BitVec 4 := 0
  bus48 : Byte := 0
  capEvents : W16 := 0
  coolantIn : W16 := 0
  coolantOut : W16 := 0
  excursions : BitVec 4 := 0
  hold4 : Bool := false
  overSince : Option W64 := none
  lastRise : Option W64 := none
  underSince : Option W64 := none
  allMaxSince : Option W64 := none
  lastShed : Option W64 := none
  deriving DecidableEq, Repr

/-- A half of the HOLD area (R450, R451): its module header's HOLD_NO, TIME and STATE, and its records. -/
structure HoldHalf where
  erased : Bool := true
  holdNo : W32 := 0
  time : W64 := 0
  state : Byte := 0
  verified : Bool := false
  committed : Bool := false
  records : List CtxRecord := []
  deriving DecidableEq, Repr

structure HoldArea where
  half0 : HoldHalf := {}
  half1 : HoldHalf := {}
  newest1 : Bool := false
  holdNo : W32 := 0
  recordOk : Bool := false
  freeErased : Bool := false
  writeTime : W16 := 0
  warnTime : W64 := 0
  deriving DecidableEq, Repr

/-! ## Hamper and Press (chapter 8, 11) -/

/-- A physical Hamper channel (R210 to R212, R483, R530). `spareFor` follows R468. -/
structure Channel where
  suspect : Bool := false
  failed : Bool := false
  score : W16 := 0
  ueLines : W16 := 0
  recentUe : List W64 := []
  deriving DecidableEq, Repr

/-- A Hamper controller (R209, R490) and the reserved bytes of its 15 pairs (R200). -/
structure Stack where
  score : W16 := 0
  suspect : Bool := false
  retired : Bool := false
  pairUsed : Table Nat := []
  deriving DecidableEq, Repr

inductive ImageState | empty | incomplete | complete | erasing
  deriving DecidableEq, Repr

/-- A tile of an image (R276): the header and the stored bytes that its record gave, expanded (R204); the extent it lies
in and its offset there. -/
structure ImageTile where
  header : TileHeader
  bytes : Table Byte
  extent : Nat := 0
  offset : Nat := 0
  deriving DecidableEq, Repr

/-- A Press image slot (R274, R286), with what PRESS_RESUME needs (R277): `atBringup` where it was INCOMPLETE at
the last bring-up, `resumed` where a PRESS_RESUME of it was accepted since; `tiles` are those of committed extents,
`xts` the number of its key pair (R205). -/
structure ImageSlot where
  state : ImageState := .empty
  compress : Bool := false
  held : Bool := false
  extents : W16 := 0
  extentsTotal : W16 := 0
  version : W32 := 0
  imageId : W64 := 0
  tileCount : W32 := 0
  fmt : BitVec 4 := 0
  nextTile : W32 := 0
  stored : Nat := 0
  charged : Option CtxId := none
  atBringup : Bool := false
  resumed : Bool := false
  keyWrapped : Bool := false
  xts : Option Nat := none
  tiles : Table (Option ImageTile) := []
  deriving DecidableEq, Repr

/-- An installation or resumption under way (R275 to R277): its stream number, the first tile it asked for, the tiles
that have arrived for extents not committed yet, and those requested again after a tag failure (R268). -/
structure Install where
  slot : Fin 32
  ctx : CtxId
  key : Nat
  cmd : Hdr
  opcode : W16
  number : W32 := 0
  first : Nat := 0
  retried : Bool := false
  arrived : Table (Option ImageTile) := []
  resent : List Nat := []
  asks : Asks := {}
  deriving DecidableEq, Repr

/-- A Press block (R214, R215); `eraseDue` where its erase was interrupted. -/
structure PressBlock where
  erases : Nat := 0
  reads : Nat := 0
  programmed : W64 := 0
  softDecode : Bool := false
  retired : Bool := false
  inUse : Bool := false
  eraseDue : Bool := false
  deriving DecidableEq, Repr

/-- The Press (R213 to R216, R274 to R277): `map` gives the block of each logical block that holds data (R215). -/
structure Press where
  slots : Table ImageSlot := []
  install : Option Install := none
  score : W16 := 0
  blocks : Table PressBlock := []
  map : Table (Option Nat) := []
  reserveRetired : Nat := 0
  lowNoticed : Bool := false
  paused : Bool := false
  deriving DecidableEq, Repr

/-! ## Management (chapter 16) -/

/-- A session key slot (R271, R410). -/
structure KeySlot where
  filled : Bool := false
  key : List Byte := []
  job : W16 := 0
  counter : Nat := 0
  deriving DecidableEq, Repr

inductive FwState | empty | incomplete | staged | valid
  deriving DecidableEq, Repr

/-- A firmware slot of the system area (R402, R406): the bytes of its image. -/
structure FwSlot where
  state : FwState := .empty
  image : Table Byte := []
  deriving DecidableEq, Repr

/-- The scores as last written to the system area (R484), by part. -/
structure Scores where
  cores : Table W16 := []
  baskets : Table W16 := []
  routers : Table W16 := []
  units : Table W16 := []
  txLanes : Table W16 := []
  rxLanes : Table W16 := []
  hampers : Table W16 := []
  press : W16 := 0
  channels : Table W16 := []
  boundaries : Table W16 := []
  deriving DecidableEq, Repr

/-- `keyPairs` counts the AES-XTS key pairs that the Thimble has made, `workPair` is the number of that of the module's
working space (R205). MGMT_STATUS (R422), firmware slots (R406), fuses (R408), HSS state (R415), authorities
(R411). -/
structure Mgmt where
  bootB : Bool := false
  runningB : Bool := false
  trialPointer : Option Bool := none
  trialRunning : Bool := false
  recovery : Bool := false
  slotA : FwSlot := {}
  slotB : FwSlot := {}
  standbyServes : Bool := false
  standbyOk : Bool := false
  failedTile : Bool := false
  gloved : Bool := true
  zeroise : Bool := false
  rollback : Fin 65 := 0
  lmsSteps : Fin 65 := 0
  tackSteps : Fin 65 := 0
  hssNext : Nat := 0
  hssHigh : Nat := 0
  authorities : List (BitVec 776) := []
  keyEncryptionKey : Bool := false
  channelKey : Bool := false
  moduleKeys : Nat := 0
  keyPairs : Nat := 1
  workPair : Nat := 0
  hostFunctions : Byte := 0
  bringups : W32 := 0
  snapshotTime : W64 := 0
  scores : Scores := {}
  resetPending : Bool := false
  served : MboxId := 15
  deriving DecidableEq, Repr

/-- R509 to R511. -/
structure Tack where
  isOpen : Bool := false
  en : Bool := false
  nonce : Option (BitVec 256 × W64) := none
  nonces : Nat := 0
  baud : W32 := 0x1C200
  uart : List (List W64 × Option Byte) := []
  deriving DecidableEq, Repr

/-! ## Darning (chapter 19) -/

/-- A Patch entry (R466). -/
structure PatchEntry where
  part : Part
  hard : Bool := false
  host : Bool := false
  session : W32 := 0
  score : W16 := 0
  deriving DecidableEq, Repr

inductive Planner | idle | planning | applying | waitHost
  deriving DecidableEq, Repr

/-- The test window (R481). -/
structure Window where
  cmd : Hdr
  args : WindowArgs
  tested : W16 := 0
  failedCores : W16 := 0
  touched : List Nat := []
  ended : Bool := false
  deriving DecidableEq, Repr

structure Darn where
  patch : List PatchEntry := []
  fuses : List Part := []
  unrecorded : List Part := []
  planner : Planner := .idle
  hostPlan : Bool := false
  patchFull : Bool := false
  pendingParts : List Part := []
  window : Option Window := none
  drainByCommand : Bool := false
  removedRouters : List Nat := []
  restoring : List Nat := []
  deriving DecidableEq, Repr

/-! ## CivLink, host requests (chapter 15) -/

/-- A command fetched and not yet completed (R366, R370). -/
structure HeldCmd where
  opcode : W16
  hdr : Hdr
  order : Bool
  irq : Bool
  waiting : Bool := false
  taken : Bool := false
  deriving DecidableEq, Repr

/-- A completion (R371): RESULT as a list of 64-bit words, lowest bytes first; `onB`: it is written through port B
(R357). -/
structure Completion where
  seq : W32
  opcode : W16
  status : Byte
  nan : Bool
  ctx : Byte
  mbox : MboxId
  job : W16
  detail : W32
  time : W64
  result : List W64
  phase : Bool
  onB : Bool
  deriving DecidableEq, Repr

/-- A mailbox (R364 to R372). -/
structure Mbox where
  sqBase : W64 := 0
  cqBase : W64 := 0
  enable : Bool := false
  admin : Bool := false
  preferB : Bool := false
  irqEn : Bool := false
  vector : BitVec 5 := 0
  ctxMask : Byte := 0
  seq0 : W32 := 0
  err : Bool := false
  errCause : BitVec 2 := 0
  expectSeq : W32 := 0
  producer : W16 := 0
  consumer : W16 := 0
  head : W16 := 0
  tail : W16 := 0
  held : List HeldCmd := []
  deriving DecidableEq, Repr

/-- An outstanding HOST_WAIT (R387). -/
structure HostWait where
  hdr : Hdr
  addr : W64
  len : W32
  deriving DecidableEq, Repr

/-- What a host request asks (R388). -/
inductive RequestKind
  | training (u : UnitId) (atEq : Bool) (lanes : BitVec 576)
  | sampling (r : RegionId) (seq : W16)
  | sparePlan (parts : List Part)
  | thermal
  | unwrap (cmd : Hdr) (blob : KeyBlob)
  deriving DecidableEq, Repr

structure HostReq where
  id : W32
  kind : RequestKind
  given : Bool := false
  deriving DecidableEq, Repr

/-- The status mirror's shadow (R361, R362), apart from what is read live. -/
structure Mirror where
  status : W64 := 0
  time : W64 := 0
  fields : W64 := 0
  ctxs : Vector W64 8 := Vector.replicate 8 0
  heads : Vector W16 16 := Vector.replicate 16 0
  tails : Vector W16 16 := Vector.replicate 16 0
  power : W64 := 0
  events : W64 := 0
  deriving DecidableEq, Repr

/-! ## Counters and events (chapter 20) -/

/-- Layout of R156. -/
structure Counter where
  count : BitVec 48 := 0
  ovf : Bool := false
  deriving DecidableEq, Repr

inductive EventClass | alarm | fault | notice | trace
  deriving DecidableEq, Repr

/-- An event record (R496). -/
structure EventRec where
  code : W16
  coalesced : Bool := false
  standby : Bool := false
  seq : W32
  firstTime : W64
  lastTime : W64
  count : W32 := 1
  dropped : W32 := 0
  domain : Byte
  index : Nat
  ctx : Byte := 0xFF
  job : W16 := 0
  detail : List W64 := []
  deriving DecidableEq, Repr

/-! ## The Thread (R181 to R183, R502) -/

/-- What a Thread message says. -/
inductive ThreadBody
  | heartbeat (p : PhysId) (seq : W16) (good : Bool)
  | heartbeatLost (p : Nat)
  | abort (x : CtxId)
  | hold
  | dark (f : Nat)
  | key (slot : Nat) (k : KeySlot)
  | event (cls : EventClass) (e : EventRec)
  deriving DecidableEq, Repr

structure ThreadMsg where
  dest : W16
  src : W16
  body : ThreadBody
  deriving DecidableEq, Repr

/-- A node of the Thread (R181, R183): the messages that wait at its output, oldest first, and the last 16 words that it
sent, which its hop replays on a check failure. -/
structure ThreadNode where
  urgent : List ThreadMsg := []
  normal : List ThreadMsg := []
  replay : List W64 := []
  deriving DecidableEq, Repr

/-- A field controller's outgoing events, oldest first, those discarded whose count still has to travel, and when its last
NORMAL message entered the field mesh (R183, R502). -/
structure EventQueue where
  queue : List (EventClass × EventRec) := []
  dropFault : Nat := 0
  dropNotice : Nat := 0
  dropTrace : Nat := 0
  admitted : Option W64 := none
  deriving DecidableEq, Repr

structure Thread where
  nodes : Table ThreadNode := []
  queues : Table EventQueue := []
  deriving DecidableEq, Repr

/-- What the module has given the host, newest last: completions written, MSI-X vectors, bytes or
words written to host buffers, requests, event records with their ring slot. -/
inductive HostOut
  | completion (c : Completion)
  | vector (v : BitVec 5)
  | words (addr : W64) (ws : List W64)
  | bytes (addr : W64) (bs : List Byte)
  | record (addr : W64) (r : CtxRecord)
  | request (addr : W64) (r : HostReq) (ws : List W64)
  | event (addr : W64) (cls : Fin 4) (e : EventRec)
  deriving DecidableEq, Repr

/-- One class ring (R498 to R501, R504, R505): records still unread, oldest first. -/
structure Ring where
  next : W32 := 0
  unread : List EventRec := []
  tokens : Nat := 64
  refilled : W64 := 0
  dropped : Nat := 0
  dropTotal : Counter := {}
  raised : W16 := 0
  base : W64 := 0
  enable : Bool := false
  irqEn : Bool := false
  vector : BitVec 5 := 0
  prod : W32 := 0
  cons : W32 := 0
  previous : List EventRec := []
  deriving DecidableEq, Repr

/-- TELEM_SAMPLE (R507). -/
structure TelemSample where
  time : W64 := 0
  sampleNo : W32 := 0
  power : W64 := 0
  fields : W64 := 0
  refclk : W64 := 0
  tMax : W16 := 0
  tMaxField : Byte := 0
  steps : BitVec 400 := 0
  ctxs : Vector W64 8 := Vector.replicate 8 0
  events : Vector W64 4 := Vector.replicate 4 0
  deriving DecidableEq, Repr

/-- R16, R396. -/
inductive ModState | off | bringup | ready | run | hold | drain | maint | faulted
  deriving DecidableEq, Repr

/-- The module. -/
structure State where
  /-- Commands that wait, oldest first. -/
  pending : List Instr := []
  /-- The model's own counter of free values used (DESIGN CHOICE, log entry 2). -/
  fresh : Nat := 0
  mode : ModState := .bringup
  resumeMode : ModState := .ready
  ring : Nat := 0
  pfWarnLow : Bool := false
  resetLow : Bool := false
  pfSeen : Bool := false
  hamperUp : Bool := false
  time : W64 := 0
  timeStatus : TimeStatus := {}
  cores : Table Core := []
  phys : Table Phys := []
  clusters : Table Cluster := []
  tiles : Table Tile := []
  mesh : List Flight := []
  fields : Table Field := []
  regions : Table Region := []
  pegs : Table Peg := []
  ctxs : Table Ctx := []
  keys : Table KeySlot := []
  units : Table LinkUnit := []
  channels : Table Channel := []
  hamperStacks : Table Stack := []
  press : Press := {}
  holdArea : HoldArea := {}
  mgmt : Mgmt := {}
  clocks : Clocks := {}
  power : Power := {}
  darn : Darn := {}
  tack : Tack := {}
  portA : Bool := false
  portB : Bool := false
  mirror : Mirror := {}
  mirrorSeq : W32 := 0
  mmpOk : Bool := false
  mboxes : Table Mbox := []
  waits : List HostWait := []
  requests : List HostReq := []
  nextRequest : W32 := 0
  hostOut : List HostOut := []
  counters : Table Counter := []
  rings : Table Ring := []
  thread : Thread := {}
  traceMask : W64 := 0
  telemSample : TelemSample := {}
  deriving DecidableEq, Repr

/-- Stops. `illFormed`: the command breaks the check of `Instr.wf` that its meaning rests on, and is
no command of the module; raised by `execTubArrival`, `execRedArrival`, `execCollUp`, `execCollDown`
and `execFlitReceive`; safe. -/
inductive Fault
  | illFormed
  deriving DecidableEq, Repr

/-- Refusals. `notModelled`: an arm of the dispatch whose meaning is not written; safe. -/
inductive Refusal
  | notModelled (mnemonic : String)
  deriving DecidableEq, Repr

/-- The module right after a module reset (R437): it is in BRINGUP, every register at its reset
value, and nothing waits. Values the manual gives no reset value for are named in DESIGN CHOICE, log entry 1. -/
def State.reset : State := {}

end Sys2Proof.Machine
end

