-- ==== Sys2Proof/WellFormed.lean ====
section
/-! DEFINITION. What a command must satisfy beyond its types: payload lists have the length their
header gives. A meaning answers `Fault.illFormed` on a term that breaks the check it depends on. -/

set_option linter.unusedVariables false

namespace Sys2Proof

/-- Blocks present in a fragment (R173). -/
def RedPacket.blocks (p : RedPacket) : Nat := (p.bmap.toNat % 2) + (p.bmap.toNat / 2)

/-- A RED packet carries 64 element codes for each present block, and COUNT is at least 1
(R167). -/
def RedPacket.wf (p : RedPacket) : Bool :=
  p.data.length == 64 * p.blocks && p.count != 0

/-- Set bits of a word. -/
def popcount {w : Nat} (b : BitVec w) : Nat :=
  (List.range w).foldl (fun n i => if b.getLsbD i then n + 1 else n) 0

/-- A COLL message carries 64 element codes for each set block (R342). -/
def CollMsg.wf (m : CollMsg) : Bool := m.body.length == 64 * popcount m.bitmap

/-- A data flit has at most 240 payload bytes (R315). -/
def Flit.wf (f : Flit) : Bool := f.payload.length ≤ 240

/-- Well-formed commands: a packet, message or flit carries the payload its header announces. -/
def Instr.wf : Instr → Bool
  | .tubArrival _ p _ _ => p.wf
  | .redArrival p => p.wf
  | .collUp _ m => m.wf
  | .collDown _ m => m.wf
  | .flitReceive _ a => a.flit.wf
  | _ => true

end Sys2Proof
end

