-- ==== Sys2Proof/Machine/Ops.lean ====
section
/-! DEFINITION. The named operations over State that every meaning shares: the sparse tables, the
accessors of each collection, the geometry, the counters and the event rings. -/

set_option linter.unusedVariables false

namespace Sys2Proof.Machine

open Sys2Proof

/-- What a meaning answers. -/
abbrev Result := Host.Outcome State Fault Refusal

/-! ## Sparse tables -/

/-- The value at a number; an unlisted number reads as `d`. -/
def tget {α : Type} (d : α) : Table α → Nat → α
  | [], _ => d
  | (k, v) :: r, n => if k = n then v else tget d r n

/-- The table without a number. -/
def terase {α : Type} (t : Table α) (n : Nat) : Table α := t.filter (fun e => e.1 != n)

/-- Lists a number before the first higher one. -/
def tinsert {α : Type} (n : Nat) (v : α) : Table α → Table α
  | [] => [(n, v)]
  | (k, w) :: r => if n < k then (n, v) :: (k, w) :: r else (k, w) :: tinsert n v r

/-- Writes a number, keeping the numbers rising and listing no default. -/
def tput {α : Type} [DecidableEq α] (d : α) (t : Table α) (n : Nat) (v : α) : Table α :=
  if v = d then terase t n else tinsert n v (terase t n)

/-- The canonical form: every number above `lo`, rising, and no value equal to the default. -/
def tableWfFrom {α : Type} [DecidableEq α] (d : α) : Option Nat → Table α → Bool
  | _, [] => true
  | lo, (k, v) :: r =>
    (match lo with
      | none => true
      | some l => decide (l < k)) && decide (v ≠ d) && tableWfFrom d (some k) r

def tableWf {α : Type} [DecidableEq α] (d : α) (t : Table α) : Bool := tableWfFrom d none t

/-- The numbers whose value satisfies p. -/
def tkeys {α : Type} (p : α → Bool) (t : Table α) : List Nat :=
  (t.filter (fun e => p e.2)).map (·.1)

/-- Applies f to every listed value. -/
def tmap {α : Type} [DecidableEq α] (d : α) (f : Nat → α → α) (t : Table α) : Table α :=
  t.foldl (fun acc e => tput d acc e.1 (f e.1 e.2)) []

/-! ## Accessors -/

def zeroLanes : Lanes := Vector.replicate 64 0
def allOnes64 : W64 := 0xFFFFFFFFFFFFFFFF

def State.coreOf (s : State) (c : Nat) : Core := tget {} s.cores c
def State.putCore (s : State) (c : Nat) (k : Core) : State := { s with cores := tput {} s.cores c k }
def State.physOf (s : State) (p : Nat) : Phys := tget {} s.phys p
def State.putPhys (s : State) (p : Nat) (k : Phys) : State := { s with phys := tput {} s.phys p k }
def State.clusterOf (s : State) (k : Nat) : Cluster := tget {} s.clusters k
def State.putCluster (s : State) (k : Nat) (v : Cluster) : State :=
  { s with clusters := tput {} s.clusters k v }
def State.tileOf (s : State) (h : Nat) : Tile := tget {} s.tiles h
def State.putTile (s : State) (h : Nat) (t : Tile) : State := { s with tiles := tput {} s.tiles h t }
def State.fieldOf (s : State) (f : Nat) : Field := tget {} s.fields f
def State.putField (s : State) (f : Nat) (v : Field) : State := { s with fields := tput {} s.fields f v }
def State.regionOf (s : State) (r : Nat) : Region := tget {} s.regions r
def State.putRegion (s : State) (r : Nat) (v : Region) : State :=
  { s with regions := tput {} s.regions r v }
def State.pegOf (s : State) (g : Nat) : Peg := tget {} s.pegs g
def State.putPeg (s : State) (g : Nat) (v : Peg) : State := { s with pegs := tput {} s.pegs g v }
def State.ctxOf (s : State) (x : Nat) : Ctx := tget {} s.ctxs x
def State.putCtx (s : State) (x : Nat) (v : Ctx) : State := { s with ctxs := tput {} s.ctxs x v }
def State.keyOf (s : State) (n : Nat) : KeySlot := tget {} s.keys n
def State.putKey (s : State) (n : Nat) (v : KeySlot) : State := { s with keys := tput {} s.keys n v }
def State.unitOf (s : State) (u : Nat) : LinkUnit := tget {} s.units u
def State.putUnit (s : State) (u : Nat) (v : LinkUnit) : State := { s with units := tput {} s.units u v }
def State.channelOf (s : State) (p : Nat) : Channel := tget {} s.channels p
def State.putChannel (s : State) (p : Nat) (v : Channel) : State :=
  { s with channels := tput {} s.channels p v }
def State.stackOf (s : State) (h : Nat) : Stack := tget {} s.hamperStacks h
def State.putStack (s : State) (h : Nat) (v : Stack) : State :=
  { s with hamperStacks := tput {} s.hamperStacks h v }
def State.mboxOf (s : State) (m : Nat) : Mbox := tget {} s.mboxes m
def State.putMbox (s : State) (m : Nat) (v : Mbox) : State := { s with mboxes := tput {} s.mboxes m v }
def State.ringOf (s : State) (n : Nat) : Ring := tget {} s.rings n
def State.putRing (s : State) (n : Nat) (v : Ring) : State := { s with rings := tput {} s.rings n v }
def State.counterOf (s : State) (n : Nat) : Counter := tget {} s.counters n
def State.putCounter (s : State) (n : Nat) (v : Counter) : State :=
  { s with counters := tput {} s.counters n v }

def State.modCore (s : State) (c : Nat) (f : Core → Core) : State := s.putCore c (f (s.coreOf c))
def State.modPhys (s : State) (p : Nat) (f : Phys → Phys) : State := s.putPhys p (f (s.physOf p))
def State.modCluster (s : State) (k : Nat) (f : Cluster → Cluster) : State :=
  s.putCluster k (f (s.clusterOf k))
def State.modTile (s : State) (h : Nat) (f : Tile → Tile) : State := s.putTile h (f (s.tileOf h))
def State.modField (s : State) (n : Nat) (f : Field → Field) : State := s.putField n (f (s.fieldOf n))
def State.modRegion (s : State) (r : Nat) (f : Region → Region) : State :=
  s.putRegion r (f (s.regionOf r))
def State.modPeg (s : State) (g : Nat) (f : Peg → Peg) : State := s.putPeg g (f (s.pegOf g))
def State.modCtx (s : State) (x : Nat) (f : Ctx → Ctx) : State := s.putCtx x (f (s.ctxOf x))
def State.modKey (s : State) (n : Nat) (f : KeySlot → KeySlot) : State := s.putKey n (f (s.keyOf n))
def State.modUnit (s : State) (u : Nat) (f : LinkUnit → LinkUnit) : State :=
  s.putUnit u (f (s.unitOf u))
def State.modChannel (s : State) (p : Nat) (f : Channel → Channel) : State :=
  s.putChannel p (f (s.channelOf p))
def State.modStack (s : State) (h : Nat) (f : Stack → Stack) : State := s.putStack h (f (s.stackOf h))
def State.modMbox (s : State) (m : Nat) (f : Mbox → Mbox) : State := s.putMbox m (f (s.mboxOf m))
def State.modRing (s : State) (n : Nat) (f : Ring → Ring) : State := s.putRing n (f (s.ringOf n))

/-- A fold over a list of items, each step changing the state. -/
def State.each {β : Type} (s : State) (l : List β) (f : State → β → State) : State := l.foldl f s

/-- A fresh free value (DESIGN CHOICE, log entry 2): the next one of `Config.freeWord`. -/
def State.freeValue (s : State) : W64 := Config.freeWord s.fresh
def State.useFrees (s : State) (n : Nat) : State := { s with fresh := s.fresh + n }
def State.useFree (s : State) : State := s.useFrees 1

/-! ## Saturating and serial arithmetic -/

/-- R494: a 16-bit count that stops at its maximum. -/
def satAdd16 (a : W16) (n : Nat) : W16 := BitVec.ofNat 16 (Nat.min (a.toNat + n) 0xFFFF)
def satAdd32 (a : W32) (n : Nat) : W32 := BitVec.ofNat 32 (Nat.min (a.toNat + n) 0xFFFFFFFF)

/-- R11: a precedes b in serial-number arithmetic. -/
def precedes (a b : W32) : Bool := decide (1 ≤ (b - a).toNat ∧ (b - a).toNat < 2 ^ 31)

/-- R11: two values exactly 2^31 apart are unordered. -/
def unordered (a b : W32) : Bool := (b - a) == 0x80000000

/-- A duration in ms in units of the time base. -/
def ms (n : Nat) : Nat := n * 10000000

def State.since (s : State) (t : W64) : Nat := (s.time - t).toNat

/-! ## Geometry (R4 to R7, R468) -/

/-- Parts recorded as bad: fuses, then the Patch table, then repairs the full table could not take
(R468). -/
def State.badParts (s : State) : List Part :=
  s.darn.fuses ++ s.darn.patch.map (·.part) ++ s.darn.unrecorded

/-- The TARGET of a physical core (R467). -/
def corePart (p : Nat) : Part :=
  { kind := 1, t0 := BitVec.ofNat 8 (p / 576), t1 := BitVec.ofNat 8 (p % 576 / 36),
    t2 := BitVec.ofNat 8 (p % 36 / 9), t3 := BitVec.ofNat 8 (p % 9) }

def State.badCore (s : State) (p : Nat) : Bool := s.badParts.contains (corePart p)

/-- The slice kinds as BIST_STATUS shows them (R493). -/
def SliceKind.code : SliceKind → Nat
  | .spare => 1
  | .cluster => 2
  | .field => 3
  | .scan => 3

/-- A core that RESTORE has taken out of the Patch table and that a slice has passed since: it is SPARE, and the mapping of
its row stays as it is until it is brought in or the next bring-up maps the row again. DEDUCED, log entry 48. -/
def State.restoredSpare (s : State) (p : Nat) : Bool :=
  s.darn.unrecorded.contains (corePart p) && !s.darn.restoring.contains p && (s.physOf p).health == .good

/-- Row number 4·cluster + row over the whole module. -/
def State.rowRetired (s : State) (row : Nat) : Bool :=
  s.badParts.contains
    { kind := 2, t0 := BitVec.ofNat 8 (row / 64), t1 := BitVec.ofNat 8 (row % 64 / 4),
      t2 := BitVec.ofNat 8 (row % 4) }
  || decide (2 ≤ ((List.range 9).filter (fun j => s.badCore (9 * row + j))).length)

def State.routerRemoved (s : State) (k : Nat) : Bool :=
  s.darn.removedRouters.contains k ||
  s.badParts.contains
    { kind := 4, t0 := BitVec.ofNat 8 (k / 16), t1 := BitVec.ofNat 8 (k % 16) }

/-- R468: the physical core that serves a logical core. -/
def State.servedBy (s : State) (c : Nat) : Option Nat :=
  let row := c / 8
  if s.rowRetired row then none
  else if s.badCore (9 * row + c % 8) then
    (if s.badCore (9 * row + 8) then none else some (9 * row + 8))
  else some (9 * row + c % 8)

/-- The logical core a physical core serves. -/
def State.serves (s : State) (p : Nat) : Option Nat :=
  (List.range 8).findSome? (fun j =>
    let c := 8 * (p / 9) + j
    if s.servedBy c = some p then some c else none)

/-- R32, R179: the cluster has a serving core and a router in the geometry. -/
def State.clusterPresent (s : State) (k : Nat) : Bool :=
  !s.routerRemoved k && (s.fieldOf (k / 16)).state != .retired &&
  (List.range 4).any (fun r => !s.rowRetired (4 * k + r))

/-- R6: the cluster whose router stands at grid position (x, y). -/
def clusterAt (x y : Nat) : Nat :=
  16 * (10 * (y / 4) + x / 4) + 4 * (y % 4) + x % 4

/-- The clusters of a rectangle, y ascending and then x ascending. -/
def rectClusters (x0 y0 w h : Nat) : List Nat :=
  (List.range h).flatMap (fun j => (List.range w).map (fun i => clusterAt (x0 + i) (y0 + j)))

/-- R240: the cluster order of a region. -/
def State.clusterOrder (s : State) (r : Nat) : List Nat :=
  let g := s.regionOf r
  (rectClusters g.x0 g.y0 g.width g.height).filter s.clusterPresent

/-- The serving logical cores of a cluster, by row and then by column. -/
def State.servingCores (s : State) (k : Nat) : List Nat :=
  ((List.range 32).map (fun j => 32 * k + j)).filter (fun c => (s.servedBy c).isSome)

/-- R240: the core order of a region. -/
def State.coreOrder (s : State) (r : Nat) : List Nat := (s.clusterOrder r).flatMap s.servingCores

/-- A core's position in a region's core order. -/
def State.corePos (s : State) (r c : Nat) : Nat := (s.coreOrder r).idxOf c

/-- R5. -/
def ringOfField (f : Nat) : Nat :=
  Nat.min (Nat.min (f % 10) (f / 10)) (Nat.min (9 - f % 10) (9 - f / 10))

/-- Regions of a context that are not UNMAPPED. -/
def State.regionsOf (s : State) (x : Nat) : List Nat :=
  (List.range 256).filter (fun r =>
    (s.regionOf r).state != .unmapped && (s.regionOf r).ctx.val == x)

/-- The context whose region covers a cluster. -/
def State.regionAt (s : State) (x k : Nat) : Option Nat :=
  (s.regionsOf x).find? (fun r => (s.clusterOrder r).contains k)

/-! ## Conditions -/

/-- Fields whose cores may run programs (R16, R398). -/
def fieldServes (f : Field) : Bool := f.state == .online || f.state == .throttled

/-- Module states in which the engine works (R396): not OFF, BRINGUP or HOLD. -/
def ModState.works : ModState → Bool
  | .ready | .run | .drain | .maint | .faulted => true
  | _ => false

/-- A self-test slice runs on the physical core (R476). A SPARE slice runs on cores that serve no column. -/
def State.inSlice (s : State) (p : Nat) : Bool :=
  match (s.fieldOf (p / 576)).slice with
  | none => false
  | some l =>
    match l.kind with
    | .field => true
    | .cluster | .scan => p % 576 / 36 == l.ci.val
    | .spare => p % 576 / 36 == l.ci.val && p % 9 == 8 && (s.serves p).isNone

/-- The core serves a logical column, its arithmetic clock runs, and no slice has it (R31, R52, R54). -/
def State.coreClocked (s : State) (c : Nat) : Bool :=
  match s.servedBy c with
  | none => false
  | some p =>
    let f := s.fieldOf (p / 576)
    s.mode.works && fieldServes f && !f.arithGated && !(s.physOf p).clockStopped && !s.inSlice p

/-- The mesh clock of a cluster's field runs. -/
def State.meshRuns (s : State) (k : Nat) : Bool :=
  let f := s.fieldOf (k / 16)
  s.mode.works && fieldServes f && !f.meshGated

/-- R7 to R9: units 96 to 127 are server ports. -/
def isServerPort (u : Nat) : Bool := decide (96 ≤ u)

/-- R265: the Brim interface of a unit, and the field of an interface. -/
def brimOf (u : Nat) : Nat := if 96 ≤ u then u - 96 else 2 * (u / 6) + (if u % 6 < 3 then 0 else 1)

/-- R265: the distance of an interface's field from the first corner of its side. -/
def brimPlace (i : Nat) : Nat := 2 * (i / 2 % 4) + 1 + i % 2

def brimField (i : Nat) : Nat :=
  let p := brimPlace i
  match i / 8 with
  | 0 => p
  | 1 => 10 * p + 9
  | 2 => 90 + (9 - p)
  | _ => 10 * (9 - p)

/-- R529: the interface carries traffic. -/
def State.brimLive (s : State) (i : Nat) : Bool :=
  match (s.fieldOf (brimField i)).state with
  | .dark | .retired | .off => false
  | _ => true

def State.ctxOfJob (s : State) (job : W16) : Option Nat :=
  if job = 0 then none
  else (List.range 8).find? (fun x => (s.ctxOf x).live && (s.ctxOf x).job == job)

/-- R329: the unit is OPEN for the context. -/
def State.unitOpen (s : State) (u x : Nat) : Bool := (s.unitOf u).openCtx.getLsbD x

/-! ## Event rings (R496 to R502) -/

/-- A status code (R373). -/
def stOK : Byte := 0x00
def stPENDING : Byte := 0x01
def stBUSY : Byte := 0x02
def stBAD_ARG : Byte := 0x03
def stNO_QUOTA : Byte := 0x04
def stTIMEOUT : Byte := 0x05
def stREFUSED : Byte := 0x06
def stABORTED : Byte := 0x07
def stPOISONED : Byte := 0x08
def stAUTH_FAIL : Byte := 0x09
def stNOT_READY : Byte := 0x0A
def stGEOMETRY : Byte := 0x0B
def stSTEP_REPEAT : Byte := 0x0C

def EventClass.num : EventClass → Nat
  | .alarm => 0
  | .fault => 1
  | .notice => 2
  | .trace => 3

/-- A source of events (R497): its domain and index. -/
structure Source where
  domain : Byte
  index : Nat
  deriving DecidableEq, Repr

def srcModule : Source := ⟨0, 0⟩
def srcField (f : Nat) : Source := ⟨1, f⟩
def srcCore (p : Nat) : Source := ⟨2, p⟩
def srcCluster (k : Nat) : Source := ⟨3, k⟩
def srcUnit (u : Nat) : Source := ⟨4, u⟩
def srcStack (h : Nat) : Source := ⟨5, h⟩
def srcPress : Source := ⟨6, 0⟩
def srcBrim (i : Nat) : Source := ⟨7, i⟩
def srcRegion (r : Nat) : Source := ⟨8, r⟩
def srcCtx (x : Nat) : Source := ⟨9, x⟩
def srcMbox (m : Nat) : Source := ⟨10, m⟩
def srcPort (portB : Bool) : Source := ⟨11, if portB then 1 else 0⟩

/-- R497: CODE from the rule and the event's position in it. -/
def eventCode (rule pos : Nat) : W16 := BitVec.ofNat 16 (pos * 4096 + rule)

def EventRec.matches (r e : EventRec) : Bool :=
  r.code == e.code && r.domain == e.domain && r.index == e.index && r.ctx == e.ctx

/-- R499: an event coalesced into a record. -/
def EventRec.coalesce (r e : EventRec) : EventRec :=
  { r with count := satAdd32 r.count e.count.toNat, coalesced := true, lastTime := e.lastTime }

/-- Changes the newest element that satisfies p. -/
def mapNewest {α : Type} (p : α → Bool) (f : α → α) (l : List α) : List α :=
  let rec go : List α → List α
    | [] => []
    | a :: r => if p a then f a :: r else a :: go r
  (go l.reverse).reverse

/-- A new record enters its ring (R498, R501). -/
def Ring.push (g : Ring) (e : EventRec) : Ring :=
  { g with
    next := g.next + 1
    unread := g.unread ++ [{ e with seq := g.next, dropped := BitVec.ofNat 32 (Nat.min g.dropped 0xFFFFFFFF) }]
    dropped := 0 }

/-- R156, R494: a counter raised by n, stopping at its maximum. -/
def Counter.add (c : Counter) (n : Nat) : Counter :=
  if 0xFFFFFFFFFFFF ≤ c.count.toNat + n then { count := 0xFFFFFFFFFFFF, ovf := true }
  else { c with count := BitVec.ofNat 48 (c.count.toNat + n) }

/-- R501: n events of the class are dropped on its path. -/
def Ring.drop (g : Ring) (n : Nat) : Ring :=
  { g with dropped := g.dropped + n, dropTotal := g.dropTotal.add n }

/-- R499: FAULT tokens refilled by 1 every 1 ms, at most 64. -/
def Ring.refill (g : Ring) (now : W64) : Ring :=
  let k := (now - g.refilled).toNat / ms 1
  { g with tokens := Nat.min 64 (g.tokens + k), refilled := g.refilled + BitVec.ofNat 64 (k * ms 1) }

/-- R499: a FAULT that coalesces into nothing takes a token. -/
def Ring.pushFault (g : Ring) (now : W64) (e : EventRec) : Ring :=
  let g := g.refill now
  if g.tokens = 0 ∨ 1024 ≤ g.unread.length then g.drop e.count.toNat
  else { g with tokens := g.tokens - 1 }.push e

/-- R499, R500: an event enters its class ring. -/
def Ring.accept (g : Ring) (cls : EventClass) (traceOn : Bool) (now : W64) (e : EventRec) : Ring :=
  let g := { g with raised := satAdd16 g.raised e.count.toNat }
  match cls with
  | .alarm =>
    if g.unread.any (EventRec.matches · e) then
      { g with unread := mapNewest (EventRec.matches · e) (EventRec.coalesce · e) g.unread }
    else if g.unread.length < 1023 then g.push e
    else if g.unread.length = 1023 then
      g.push { e with code := eventCode 500 0, domain := 0, index := 0, ctx := 0xFF, job := 0,
                      detail := [e.code.setWidth 64, (e.domain.setWidth 64) + BitVec.ofNat 64 (e.index * 256),
                                 e.code.setWidth 64, (e.domain.setWidth 64) + BitVec.ofNat 64 (e.index * 256)] }
    else
      { g with unread := mapNewest (fun _ => true) (fun r =>
          { r.coalesce e with
            detail := r.detail.take 2 ++
              [e.code.setWidth 64, (e.domain.setWidth 64) + BitVec.ofNat 64 (e.index * 256)] }) g.unread }
  | .fault =>
    let recent := fun r : EventRec => r.matches e
    match g.unread.reverse.find? recent with
    | some r =>
      if (now - r.lastTime).toNat ≤ ms 10 then
        { g with unread := mapNewest recent (EventRec.coalesce · e) g.unread }
      else g.pushFault now e
    | none => g.pushFault now e
  | .notice => if 768 ≤ g.unread.length then g.drop e.count.toNat else g.push e
  | .trace => if !traceOn || 1024 ≤ g.unread.length then g.drop e.count.toNat else g.push e

/-! ## The Thread (R181 to R183) -/

/-- R182: the node of a field controller, of a cluster, and of the port of a management tile (R181). -/
def fcNode (f : Nat) : W16 := BitVec.ofNat 16 (32 * f)
def clusterNode (k : Nat) : W16 := BitVec.ofNat 16 (32 * (k / 16) + k % 16 + 1)
def mmpNode (standby : Bool) : W16 := BitVec.ofNat 16 (if standby then 32 * 99 + 31 else 31)

/-- R182: the address that reaches every field controller. -/
def everyFc : W16 := 0xFFFF

/-- R183, R393: aborts, HOLD and DARK notices, heartbeat-loss reports, ALARM events and the copies of key slots travel as
URGENT. -/
def ThreadBody.urgent : ThreadBody → Bool
  | .heartbeat _ _ _ => false
  | .event cls _ => cls == .alarm
  | _ => true

/-- What a message says, as a number and its items. -/
def ThreadBody.items : ThreadBody → Nat × List W64
  | .heartbeat p seq good => (0, [BitVec.ofNat 64 p.val, seq.setWidth 64, if good then 1 else 0])
  | .heartbeatLost p => (1, [BitVec.ofNat 64 p])
  | .abort x => (2, [BitVec.ofNat 64 x.val])
  | .hold => (3, [])
  | .dark f => (4, [BitVec.ofNat 64 f])
  | .key n k =>
    (6, [BitVec.ofNat 64 n, if k.filled then 1 else 0, k.job.setWidth 64, BitVec.ofNat 64 k.counter] ++
      k.key.map (·.setWidth 64))
  | .event cls e =>
    (5, [BitVec.ofNat 64 cls.num, e.code.setWidth 64, e.domain.setWidth 64, BitVec.ofNat 64 e.index, e.ctx.setWidth 64,
         e.firstTime, e.lastTime, e.count.setWidth 64] ++ e.detail)

/-- R182: the 0 to 7 payload words. -/
def ThreadMsg.payload (m : ThreadMsg) : List W64 := (Config.threadWords m.body.items.1 m.body.items.2).take 7

/-- R182: bytes 0 to 5 of the header. -/
def ThreadMsg.head (m : ThreadMsg) : List Byte :=
  bytesLE 2 m.dest.toNat ++ bytesLE 2 m.src.toNat ++
    [Config.threadType m.body.items.1, BitVec.ofNat 8 (m.payload.length + (if m.body.urgent then 8 else 0))]

/-- R182: the bytes of a message; CHECK covers bytes 0 to 5 and the payload. -/
def ThreadMsg.bytes (m : ThreadMsg) : List Byte :=
  let body := m.payload.flatMap (fun w => bytesLE 8 w.toNat)
  m.head ++ bytesLE 2 (crc16 (m.head ++ body)).toNat ++ body

/-- The words of a message, its header first. -/
def ThreadMsg.words (m : ThreadMsg) : List W64 := BitVec.ofNat 64 (ofBytesLE (m.bytes.take 8)) :: m.payload

def State.threadNode (s : State) (a : W16) : ThreadNode := tget {} s.thread.nodes a.toNat
def State.putThreadNode (s : State) (a : W16) (n : ThreadNode) : State :=
  { s with thread := { s.thread with nodes := tput {} s.thread.nodes a.toNat n } }

/-- R183: a message waits at its node's output. -/
def ThreadNode.wait (n : ThreadNode) (m : ThreadMsg) : ThreadNode :=
  if m.body.urgent then { n with urgent := n.urgent ++ [m] } else { n with normal := n.normal ++ [m] }

/-- R183: the next message to leave a node: an URGENT one ahead of any NORMAL one. -/
def ThreadNode.first (n : ThreadNode) : Option ThreadMsg := n.urgent.head?.or n.normal.head?

/-- R181: a message has left the node; its words are the newest that the hop can replay. -/
def ThreadNode.sent (n : ThreadNode) (m : ThreadMsg) : ThreadNode :=
  let words := n.replay ++ m.words
  { urgent := n.urgent.erase m, normal := n.normal.erase m, replay := words.drop (words.length - 16) }

def State.threadWait (s : State) (m : ThreadMsg) : State := s.putThreadNode m.src ((s.threadNode m.src).wait m)

/-- A message that reaches its destination within the step that sends it: nothing at its node goes ahead of an URGENT
one. -/
def State.threadPass (s : State) (src dest : W16) (b : ThreadBody) : State :=
  s.putThreadNode src ((s.threadNode src).sent { dest := dest, src := src, body := b })

/-! ## The event queues of the field controllers (R502) -/

/-- R497, R501: the field whose controller sends the events of a source: the source is the field, or a core or a cluster of
it (DEDUCED, log entry 84). -/
def Source.field? (r : Source) : Option Nat :=
  match r.domain.toNat with
  | 1 => some r.index
  | 2 => some (r.index / 576)
  | 3 => some (r.index / 16)
  | _ => none

def EventQueue.dropOne (q : EventQueue) (cls : EventClass) (n : Nat) : EventQueue :=
  match cls with
  | .alarm => q
  | .fault => { q with dropFault := q.dropFault + n }
  | .notice => { q with dropNotice := q.dropNotice + n }
  | .trace => { q with dropTrace := q.dropTrace + n }

/-- The oldest queued event of a class is discarded. -/
def EventQueue.discard (q : EventQueue) (cls : EventClass) : EventQueue :=
  match q.queue.find? (fun e => e.1 == cls) with
  | some e => { q with queue := q.queue.erase e }.dropOne cls e.2.count.toNat
  | none => q

/-- R502: an event is queued; where the queue is full, room is made. DEDUCED, log entry 84. -/
def EventQueue.put (q : EventQueue) (cls : EventClass) (e : EventRec) : EventQueue :=
  let add := fun (q : EventQueue) => { q with queue := q.queue ++ [(cls, e)] }
  let holds := fun c => q.queue.any (fun v => v.1 == c)
  let same := fun (v : EventClass × EventRec) => v.1 == .fault && v.2.code == e.code && v.2.domain == e.domain &&
    v.2.index == e.index
  let alarm := fun (v : EventClass × EventRec) => v.1 == .alarm && v.2.code == e.code
  let join := fun (v : EventClass × EventRec) => (v.1, EventRec.coalesce v.2 e)
  if q.queue.length < 32 then add q
  else if holds .trace then add (q.discard .trace)
  else if holds .notice then add (q.discard .notice)
  else
    match cls with
    | .fault => if q.queue.any same then { q with queue := mapNewest same join q.queue } else q.dropOne .fault 1
    | .alarm =>
      if q.queue.any alarm then { q with queue := mapNewest alarm join q.queue }
      else
        match q.queue.reverse.find? (fun v => v.1 == EventClass.fault) with
        | some v =>
          let r := { q with queue := mapNewest (fun w : EventClass × EventRec => w.1 == EventClass.fault) (fun _ => (cls, e)) q.queue }
          r.dropOne .fault v.2.count.toNat
        | none => add q
    | c => q.dropOne c 1

def EventQueue.dropped (q : EventQueue) : EventClass → Nat
  | .alarm => 0
  | .fault => q.dropFault
  | .notice => q.dropNotice
  | .trace => q.dropTrace

/-- R183: the time between two NORMAL messages of a source: 32 cycles of CTRL_CLK at 425 MHz, in units of the time base. -/
def normalGap : Nat := 753

/-- R502: the event that the queue sends next: an ALARM, or the oldest event, where the limiter admits a NORMAL message. -/
def EventQueue.next (q : EventQueue) (now : W64) : Option (EventClass × EventRec) :=
  match q.queue.find? (fun v => v.1 == .alarm) with
  | some v => some v
  | none =>
    match q.admitted with
    | some t => if normalGap ≤ (now - t).toNat then q.queue.head? else none
    | none => q.queue.head?

/-- R501, R502: an event goes to its ring over the Thread, with the count of those that its controller discarded. -/
def State.deliverEvent (s : State) (cls : EventClass) (e : EventRec) (lost : Nat) : State :=
  s.modRing cls.num (fun g => ((if lost = 0 then g else g.drop lost).accept cls (s.traceMask.getLsbD e.domain.toNat)
    s.time e))

/-- R183, R502: field controller f sends the events that may leave now. -/
def State.sendEvents (s : State) (f : Nat) : Nat → State
  | 0 => s
  | n + 1 =>
    let q := tget ({} : EventQueue) s.thread.queues f
    match q.next s.time with
    | none => s
    | some (cls, e) =>
      let r : EventQueue :=
        { q with queue := q.queue.erase (cls, e), admitted := if cls = .alarm then q.admitted else some s.time,
                 dropFault := if cls = .fault then 0 else q.dropFault,
                 dropNotice := if cls = .notice then 0 else q.dropNotice,
                 dropTrace := if cls = .trace then 0 else q.dropTrace }
      let s := { s with thread := { s.thread with queues := tput {} s.thread.queues f r } }
      let s := s.threadPass (fcNode f) (mmpNode s.mgmt.standbyServes) (.event cls e)
      (s.deliverEvent cls e (q.dropped cls)).sendEvents f n

/-- Every field controller sends the events that may leave now. -/
def State.sendAllEvents (s : State) : State :=
  s.thread.queues.foldl (fun s q => s.sendEvents q.1 (q.2.queue.length)) s

/-- Raises an event (R496, R497): its class, the rule that raises it, its position among that rule's
events, its source, the context concerned and the items it names. One of a field, a core or a cluster goes through the queue
of its field controller (R502). DESIGN CHOICE, log entry 75. -/
def State.raise (s : State) (cls : EventClass) (rule pos : Nat) (src : Source) (x : Option Nat)
    (detail : List W64) : State :=
  let e : EventRec :=
    { code := eventCode rule pos, standby := s.mgmt.standbyServes, seq := 0,
      firstTime := s.time, lastTime := s.time, domain := src.domain, index := src.index,
      ctx := match x with
        | some n => BitVec.ofNat 8 n
        | none => 0xFF,
      job := match x with
        | some n => (s.ctxOf n).job
        | none => 0,
      detail := detail }
  match src.field? with
  | none => s.deliverEvent cls e 0
  | some f =>
    let q := (tget ({} : EventQueue) s.thread.queues f).put cls e
    ({ s with thread := { s.thread with queues := tput {} s.thread.queues f q } } : State).sendEvents f q.queue.length

def w64 (n : Nat) : W64 := BitVec.ofNat 64 n

/-! ## Counters (R156, R494, R495) -/

/-- A counter's number: processor space 0 (MMP) or f + 1 (field controller f), and its offset. -/
def counterKey (space off : Nat) : Nat := space * 2 ^ 32 + off

/-- Raises a counter by n; reaching the maximum raises one NOTICE (R495). -/
def State.bump (s : State) (space off n : Nat) : State :=
  let c := s.counterOf (counterKey space off)
  let d := c.add n
  let s := s.putCounter (counterKey space off) d
  if d.ovf && !c.ovf then
    s.raise .notice 495 0 (if space = 0 then srcModule else srcField (space - 1)) none
      [w64 (if space = 0 then 0 else 1), w64 (space - 1), w64 off]
  else s

def State.clearCounter (s : State) (space off : Nat) : State := s.putCounter (counterKey space off) {}

/-- R155: sparsity counter k of a cluster. -/
def State.sparsityBump (s : State) (k i n : Nat) : State :=
  s.bump (k / 16 + 1) (0x20000 + 64 * (k % 16) + 8 * i) n
/-- R237: engine counter. -/
def State.engineBump (s : State) (k i n : Nat) : State :=
  s.bump (k / 16 + 1) (0x21000 + 64 * (k % 16) + 8 * i) n
/-- R191: router counter. -/
def State.routerBump (s : State) (k i n : Nat) : State :=
  s.bump (k / 16 + 1) (0x31000 + 64 * (k % 16) + 8 * i) n
/-- R219: Hamper and Press counters. -/
def State.hamperBump (s : State) (h i n : Nat) : State := s.bump 0 (0x50000 + 64 * h + 8 * i) n
def State.pressBump (s : State) (i n : Nat) : State := s.bump 0 (0x50800 + 8 * i) n
/-- R259: region counter. -/
def State.regionBump (s : State) (r i n : Nat) : State := s.bump 0 (0x61000 + 32 * r + 8 * i) n
/-- R284: Brim interface counter. -/
def State.brimBump (s : State) (i k n : Nat) : State := s.bump 0 (0x70000 + 64 * i + 8 * k) n
/-- R304: gradient counter of a context. -/
def State.gradBump (s : State) (x k n : Nat) : State := s.bump 0 (0x74000 + 64 * x + 8 * k) n
/-- R334: link counter. -/
def State.linkBump (s : State) (u k n : Nat) : State := s.bump 0 (0x81000 + 64 * u + 8 * k) n
/-- R355: fabric interface counter of a context. -/
def State.treeBump (s : State) (x k n : Nat) : State := s.bump 0 (0x83000 + 64 * x + 8 * k) n

/-- R361: WIN_ERR, kept under its window offset. -/
def State.winErr (s : State) : State := s.bump 0 0xB0 1

/-! ## Scores (R483) -/

def State.scorePhys (s : State) (p n : Nat) : State :=
  s.modPhys p (fun k => { k with score := satAdd16 k.score n })
def State.scoreRouter (s : State) (k n : Nat) : State :=
  s.modCluster k (fun c => { c with routerScore := satAdd16 c.routerScore n })
def State.scoreBasket (s : State) (k n : Nat) : State :=
  s.modCluster k (fun c => { c with basketScore := satAdd16 c.basketScore n })
def State.scoreStack (s : State) (h n : Nat) : State :=
  s.modStack h (fun k => { k with score := satAdd16 k.score n })
def State.scoreChannel (s : State) (p n : Nat) : State :=
  s.modChannel p (fun k => { k with score := satAdd16 k.score n })
def State.scoreUnit (s : State) (u n : Nat) : State :=
  s.modUnit u (fun k => { k with score := satAdd16 k.score n })

end Sys2Proof.Machine
end

