-- ==== Sys2Proof/Machine/ArgBytes.lean ====
section
/-! DEFINITION. The argument bytes of the commands that a context's measurement takes in, in the layouts of R241,
R245, R260, R336, R351, R376, R379 and R382, and the measurement (R413). -/

set_option linter.unusedVariables false

namespace Sys2Proof.Machine

open Sys2Proof

def zeros (n : Nat) : List Byte := List.replicate n 0

def ctxCreateBytes (a : CtxCreateArgs) : List Byte :=
  [a.sumf, 0] ++ bytesLE 2 a.tubHold.toNat ++ bytesLE 2 a.pocket.toNat ++ bytesLE 2 a.basket.toNat ++
  bytesLE 4 a.hamper.toNat ++ bytesLE 4 a.press.toNat

def regionRecBytes (m : RegionRec) : List Byte :=
  [BitVec.ofNat 8 m.region.val, m.ctx, m.x0, m.y0, m.width, m.height] ++ bytesLE 2 m.sampler.toNat ++
  [m.ibufBase, m.ibufSize] ++ zeros 6

def operBytes (o : OperRec) : List Byte := bytesLE 4 o.base.toNat ++ bytesLE 2 o.stride.toNat ++ [o.kind, o.div]

def stageBytes (g : StageRec) : List Byte :=
  let opers := (g.opers.take 4).flatMap operBytes
  bytesLE 4 g.tileCount.toNat ++ bytesLE 2 g.donePeg.toNat ++ [g.noper, g.dist] ++ opers ++ zeros (32 - opers.length)

def declBytes (d : Decl) : List Byte :=
  bytesLE 4 d.first.toNat ++ bytesLE 4 d.count.toNat ++ [d.fmt, 0] ++ bytesLE 2 d.flags.toNat ++ zeros 4

def pegRecBytes (p : PegRec) : List Byte :=
  bytesLE 2 p.group.toNat ++ bytesLE 2 p.count.toNat ++ [p.link] ++ zeros 3 ++ bytesLE 32 p.scope.toNat

def collRecBytes (c : CollRec) : List Byte :=
  [c.coll, c.form] ++ bytesLE 2 c.wexp.toNat ++ [c.treeA, c.treeB] ++ bytesLE 2 c.tilePeg.toNat ++
  bytesLE 4 c.src.toNat ++ bytesLE 4 c.dst.toNat ++ bytesLE 4 c.tiles.toNat ++ bytesLE 2 c.window.toNat ++
  bytesLE 2 c.deadline.toNat ++ zeros 8

def programBytes (a : ProgramArgs) : List Byte :=
  [BitVec.ofNat 8 a.region.val, BitVec.ofNat 8 a.colls.length] ++ bytesLE 2 a.decls.length ++
  bytesLE 2 a.pegs.length ++ zeros 2 ++ bytesLE 4 a.codeLen.toNat ++ zeros 4 ++ stageBytes a.stage ++
  a.code.flatMap (fun w => bytesLE 8 w.toNat) ++ a.decls.flatMap declBytes ++ a.pegs.flatMap pegRecBytes ++
  a.colls.flatMap collRecBytes

def treeRecBytes (t : TreeRec) : List Byte :=
  [t.tree, t.parent] ++ bytesLE 2 t.subtree.toNat ++ bytesLE 2 t.size.toNat ++ zeros 2 ++
  bytesLE 12 t.children.toNat ++ zeros 12

def treeSetBytes (a : TreeSetArgs) : List Byte :=
  [a.ctx, a.flags] ++ bytesLE 2 a.node.toNat ++ bytesLE 2 a.nodes.toNat ++ bytesLE 2 a.manager.toNat ++
  [a.ctrlTree, BitVec.ofNat 8 a.trees.length] ++ zeros 2 ++ bytesLE 4 a.stepLimit.toNat ++
  a.trees.flatMap treeRecBytes

def bindRecBytes (b : BindRec) : List Byte :=
  [b.binding, b.mode, b.source, b.fmt] ++ bytesLE 4 b.first.toNat ++ bytesLE 4 b.count.toNat ++
  bytesLE 2 b.flags.toNat ++ bytesLE 2 b.tree.toNat ++ bytesLE 8 b.object.toNat ++ bytesLE 4 b.version.toNat ++
  bytesLE 2 b.key.toNat ++ zeros 2

def swapBytes (a : SwapArgs) : List Byte :=
  bytesLE 4 a.version.toNat ++ [BitVec.ofNat 8 a.pairs.length] ++ zeros 3 ++
  a.pairs.flatMap (fun p => p.1 :: (zeros 7 ++ bytesLE 8 p.2.toNat))

/-- R413: the measurement of a context takes in an accepted command. -/
def State.measure (s : State) (x : Nat) (op : W16) (args : List Byte) : State :=
  s.modCtx x (fun c => { c with
    measure := Config.sha384 (bytesLE 48 c.measure.toNat ++ bytesLE 2 op.toNat ++ args) })

end Sys2Proof.Machine
end

