-- ==== Sys2Proof/Machine/SeamMessages.lean ====
section
/-! DEFINITION. Seam messages as bytes, their flits, and the transmitter of a unit: credits, the replay buffer and
go-backs (R13, R266, R272, R294, R295, R315 to R321, R324, R340 to R342). -/

set_option linter.unusedVariables false

namespace Sys2Proof.Machine

open Sys2Proof

def bit (b : Bool) : Nat := if b then 1 else 0

/-! ## Records (R266, R294, R295) -/

/-- R140: the 16 bytes of a tile header with its HCHECK. -/
def sealedHeader (h : TileHeader) (check : W16) : List Byte :=
  headerBytes h ++ bytesLE 2 check.toNat

/-- R266: the plaintext, the nonce and the additional authenticated data of a weight record. -/
def WeightRecord.plain (w : WeightRecord) : List Byte :=
  if w.refuse then [] else sealedHeader w.header w.hcheck ++ w.body ++ w.crcs.flatMap (fun c => bytesLE 4 c.toNat)

def recordNonce (node : W16) (stream : W32) (seq : BitVec 48) : List Byte :=
  bytesLE 2 node.toNat ++ bytesLE 4 stream.toNat ++ bytesLE 6 seq.toNat

def WeightRecord.aad (w : WeightRecord) : List Byte :=
  bytesLE 2 w.job.toNat ++ bytesLE 2 w.node.toNat ++ bytesLE 4 w.stream.toNat ++ bytesLE 8 w.object.toNat ++
    bytesLE 4 w.version.toNat ++ bytesLE 4 w.tile.toNat ++ bytesLE 6 w.seq.toNat ++
    [BitVec.ofNat 8 ((if w.last then 1 else 0) + (if w.refuse then 2 else 0)), 0] ++ bytesLE 4 (WeightRecord.plain w).length ++ bytesLE 4 0

/-- R266, R278: the record is encrypted under a key. -/
def WeightRecord.seal (w : WeightRecord) (key : List Byte) : WeightRecord :=
  { w with sealed := Config.gcm key (recordNonce w.node w.stream w.seq) (WeightRecord.aad w) (WeightRecord.plain w) }

/-- R266: the bytes of a record on the wire. -/
def WeightRecord.bytes (w : WeightRecord) : List Byte := (WeightRecord.aad w) ++ w.sealed

/-- R294: the element size of a wire form. -/
def wireSize : WireForm → Nat
  | .bf16 => 2
  | .fw64 => 8
  | .fp32 => 4

def wireCode : WireForm → Nat
  | .bf16 => 0
  | .fw64 => 1
  | .fp32 => 2

/-- R294, R297: SEQ of a record, with the bit of a second sending. -/
def GradRec.seqBits (g : GradRec) : BitVec 48 :=
  BitVec.ofNat 48 (g.seq.toNat + if g.second then 2 ^ 46 else 0)

/-- R294: the plaintext of a record, its additional authenticated data, and its CIPHERTEXT and TAG under a key. -/
def GradRec.plain (g : GradRec) : List Byte :=
  g.data.flatMap (fun v => bytesLE (wireSize g.form) v.toNat) ++ bytesLE 4 g.crc.toNat

def GradRec.aad (g : GradRec) (job : W16) : List Byte :=
  bytesLE 2 job.toNat ++ bytesLE 2 g.node.toNat ++ bytesLE 4 g.stream.toNat ++ bytesLE 8 g.object.toNat ++
  bytesLE 4 g.version.toNat ++ bytesLE 4 g.tile.toNat ++ bytesLE 6 g.seqBits.toNat ++ [if g.chunk then 1 else 0,
    BitVec.ofNat 8 (wireCode g.form + (if g.nan then 4 else 0) + if g.second then 8 else 0)] ++ bytesLE 4 g.step.toNat ++
  bytesLE 4 g.count.toNat ++ bytesLE 2 g.wexp.toNat ++ bytesLE 2 0 ++ bytesLE 4 g.bitmap.toNat ++
  bytesLE 4 g.plain.length ++ bytesLE 4 0

def GradRec.sealed (g : GradRec) (job : W16) (key : List Byte) : List Byte :=
  Config.gcm key (recordNonce g.node g.stream g.seqBits) (g.aad job) g.plain

/-! ## Seam messages (R266, R272, R294, R295, R317, R340 to R342) -/

def WeightReq.bytes (r : WeightReq) : List Byte :=
  bytesLE 2 r.job.toNat ++ bytesLE 2 r.node.toNat ++ bytesLE 4 r.stream.toNat ++ bytesLE 8 r.object.toNat ++
  bytesLE 4 r.version.toNat ++ bytesLE 4 r.first.toNat ++ bytesLE 2 r.count.toNat ++ zeros 2 ++
  bytesLE 6 r.seq0.toNat ++ bytesLE 2 (bit r.mangleOk + 2 * bit r.resend) ++ zeros 4

def PegMsg_bytes (complete : Bool) (m : PegMsg) : List Byte :=
  bytesLE 2 m.job.toNat ++ bytesLE 2 m.node.toNat ++ [BitVec.ofNat 8 (bit complete), m.tree] ++
  bytesLE 2 m.group.val ++ bytesLE 4 m.step.toNat ++ bytesLE 4 m.gen.toNat ++ bytesLE 2 m.count.toNat ++
  bytesLE 1 (bit m.nan) ++ zeros 13

def StepMsg_bytes (subtype : Byte) (m : StepMsg) (body : List Byte) : List Byte :=
  bytesLE 2 m.job.toNat ++ bytesLE 2 m.node.toNat ++ [subtype, m.cause] ++ bytesLE 2 m.status.toNat ++
  bytesLE 4 m.step.toNat ++ bytesLE 4 m.version.toNat ++ bytesLE 4 body.length ++ bytesLE 2 m.okCount.toNat ++
  bytesLE 2 m.failNode.toNat ++ zeros 8 ++ body

/-- R380: the arguments of STEP_BEGIN. -/
def beginBytes (b : BeginArgs) : List Byte :=
  bytesLE 4 b.step.toNat ++ bytesLE 4 b.version.toNat ++ bytesLE 2 b.doneGroup.toNat ++ zeros 6 ++
  bytesLE 8 b.batch.toNat

/-- R350: the bodies of the SEGMENT messages of a broadcast command: its argument bytes, 65,504 at a time (DEDUCED, log
entry 86). -/
def segmentBodies (b : BcastCmd) : List (List Byte) :=
  let args := match b with
    | .regionMap recs => recs.flatMap regionRecBytes
    | .programLoad a => programBytes a
  (List.range ((args.length + 65503) / 65504)).map (fun i => (args.drop (65504 * i)).take 65504)

def CollMsg_bytes (down : Bool) (m : CollMsg) : List Byte :=
  bytesLE 2 m.job.toNat ++ bytesLE 2 m.node.toNat ++
  [BitVec.ofNat 8 (m.coll.val + 16 * bit down + 32 * bit m.poison + 64 * bit m.nan), if m.fp32 then 2 else 1] ++
  bytesLE 2 m.wexp.toNat ++ bytesLE 4 m.step.toNat ++ bytesLE 4 m.tile.toNat ++ bytesLE 1 (bit m.chunk) ++ zeros 3 ++
  bytesLE 4 m.bitmap.toNat ++ bytesLE 2 m.count.toNat ++ zeros 6 ++
  m.body.flatMap (fun v => bytesLE (if m.fp32 then 4 else 8) v.toNat) ++ bytesLE 4 m.crc.toNat

/-- R295: the additional authenticated data of an acknowledgement and its nonce. -/
def GradAck_aad (a : GradAck) : List Byte :=
  bytesLE 2 a.job.toNat ++ bytesLE 2 a.node.toNat ++ bytesLE 4 a.stream.toNat ++ bytesLE 6 a.seq.toNat ++
  [a.status, 0] ++ bytesLE 4 a.step.toNat

/-- R295: the bytes of an acknowledgement under a session key; its tag is that of an empty plaintext. -/
def GradAck_bytes (key : List Byte) (a : GradAck) : List Byte :=
  GradAck_aad a ++ Config.gcm key (recordNonce a.node a.stream a.seq) (GradAck_aad a) []

/-- R317: the type of a message, the VC it takes, and its bytes; a broadcast command is several messages. The manual gives
no layout for LINK and TIME messages: their bytes are free (DESIGN CHOICE, log entry 86). -/
def OutMsg.mtype : OutMsg → Byte
  | .link _ => 0x01
  | .time _ => 0x02
  | .wreq _ => 0x10
  | .wrec _ => 0x11
  | .grec .. => 0x12
  | .pegUp _ => 0x20
  | .pegDown _ => 0x20
  | .step .. => 0x21
  | .begin .. => 0x21
  | .segment .. => 0x21
  | .coll .. => 0x22

def mtypeVc (t : Byte) : Nat :=
  if t = 0x10 then 1 else if t = 0x11 ∨ t = 0x12 then 2 else if t = 0x22 then 3 else 0

def LinkMsg_words : LinkMsg → List W64
  | .ident kind serial unit agrees =>
    [0, if kind = .server then 1 else 0, serial.setWidth 64, unit.setWidth 64, if agrees then 1 else 0]
  | .laneCopy l => [1, w64 l.val]
  | .equaliserCheck => [2]

def TimeMsg_words : TimeMsg → List W64
  | .request t1 => [0, t1]
  | .answer t1 t2 t3 t4 depth => [1, t1, t2, t3, t4, depth.setWidth 64]

def OutMsg.images : OutMsg → List (List Byte)
  | .wreq r => [r.bytes]
  | .wrec w => [WeightRecord.bytes w]
  | .grec job g body => [g.aad job ++ body]
  | .pegUp m => [PegMsg_bytes false m]
  | .pegDown m => [PegMsg_bytes true m]
  | .step t m body => [StepMsg_bytes t m body]
  | .begin m b => [StepMsg_bytes 0x01 m (beginBytes b)]
  | .segment m b => match b.cmd with
    | some c => (segmentBodies c).map (StepMsg_bytes 0x10 m)
    | none => []
  | .coll down m => [CollMsg_bytes down m]
  | .link m => [Config.linkBytes (LinkMsg_words m)]
  | .time m => [Config.timeBytes (TimeMsg_words m)]

/-! ## Flits (R315 to R317) -/

/-- R315: the 16 header bytes, the CRC apart, and 240 payload bytes. -/
def flitBytes (f : Flit) : List Byte :=
  let kind := (match f.kind with
    | .idle => 0
    | .data => 1
    | .control => 2) + 4 * f.vc.val + (if f.som then 16 else 0) + (if f.eom then 32 else 0) +
      (if f.resync then 64 else 0)
  [BitVec.ofNat 8 kind, f.mtype] ++ bytesLE 2 f.seq.toNat ++
  bytesLE 2 (f.ack.toNat + (if f.nak then 4096 else 0)) ++ bytesLE 2 (f.credit.toNat + 1024 * f.cvc.val) ++
  bytesLE 2 f.job.toNat ++ bytesLE 1 f.fill.toNat ++ [0] ++ f.payload ++ List.replicate (240 - f.payload.length) 0

def flitCrc (f : Flit) : W32 := crc32c (flitBytes f)

/-- R315, R317: the DATA flits of a message, from its SOM flit to its EOM flit. SEQ, ACK, CREDIT and the CRC are put in
as each flit is sent. -/
def messageFlits (t : Byte) (job : W16) (image : List Byte) : List Flit :=
  let n := Nat.max 1 ((image.length + 239) / 240)
  (List.range n).map (fun i =>
    let part := (image.drop (240 * i)).take 240
    { kind := .data, vc := Fin.ofNat 4 (mtypeVc t), som := i == 0, eom := i + 1 == n, mtype := t, job := job,
      fill := BitVec.ofNat 4 ((part.length + 15) / 16), payload := part })

/-! ## The transmitter (R316, R318 to R321, R324) -/

/-- R318: the receive buffers of a VC. -/
def vcBuffers (v : Nat) : Nat := if v = 0 then 16 else if v = 1 then 32 else if v = 2 then 128 else 64

/-- R318: the transmitter holds a credit for a VC: the peer has freed all but some of the buffers that its flits took. The
buffers of a gang of n are the sum of its members'. -/
def LinkUnit.hasCredit (k : LinkUnit) (v : Nat) : Bool :=
  decide ((tget 0 k.txCount v + 1024 - tget 0 k.credit v % 1024) % 1024 < k.gangSize.toNat * vcBuffers v)

/-- R315, R316: ACK, CREDIT and the CRC as a flit goes out; CVC rotates. -/
def LinkUnit.stamp (k : LinkUnit) (nak : Bool) (f : Flit) : Flit :=
  let f := { f with
    ack := k.nextSeq - 1, nak := nak, cvc := k.cvc, credit := BitVec.ofNat 10 (tget 0 k.freed k.cvc.val) }
  { f with crc := flitCrc f }

/-- A flit goes out on the lanes. -/
def LinkUnit.put (k : LinkUnit) (nak : Bool) (f : Flit) : LinkUnit :=
  { k with wire := k.wire ++ [k.stamp nak f], cvc := k.cvc + 1 }

/-- A DATA flit is sent for the first time: it takes the next SEQ and a buffer of the peer, and the replay buffer keeps it,
releasing the oldest one where it is full (R319, R320). -/
def LinkUnit.sendFlit (k : LinkUnit) (f : Flit) : LinkUnit :=
  let f := { f with seq := k.txSeq }
  let kept := k.replay ++ [f]
  { k.put false f with
    txSeq := k.txSeq + 1, txCount := tput 0 k.txCount f.vc.val (tget 0 k.txCount f.vc.val + 1),
    replay := kept.drop (kept.length - 64 * k.gangSize.toNat) }

/-- R317, R318: the waiting flits that hold a credit go out, in order within their VC; in RETRAIN they are held (R321). -/
def LinkUnit.drain (k : LinkUnit) : LinkUnit :=
  if k.state ≠ .active then k
  else
    let r := k.txWait.foldl (fun (r : LinkUnit × List Flit) f =>
      if r.2.any (fun g => g.vc == f.vc) || !r.1.hasCredit f.vc.val then (r.1, r.2 ++ [f]) else (r.1.sendFlit f, r.2))
      (k, [])
    { r.1 with txWait := r.2 }

/-- R316: a flit is refused and answered with NAK, in a CONTROL flit. -/
def LinkUnit.nak (k : LinkUnit) : LinkUnit := { k with nakSent := true }.put true { kind := .control }

/-- R319: the flits that an ACK covers leave the replay buffer. -/
def LinkUnit.acked (k : LinkUnit) (a : BitVec 12) : LinkUnit :=
  if k.replay.any (fun f => f.seq == a) then
    { k with replay := (k.replay.dropWhile (fun f => f.seq != a)).drop 1 }
  else k

/-- R319, R320: the flits are sent again from the first one not acknowledged; where that one has been released, from the
oldest one kept, with RESYNC. -/
def LinkUnit.replayAll (k : LinkUnit) : LinkUnit :=
  match k.replay with
  | [] => k
  | f :: fs => fs.foldl (fun k g => k.put false g) (k.put false { f with resync := f.seq != k.ackSeq + 1 })

/-- A message leaves the receive buffer, which frees the buffers of its flits. -/
def LinkUnit.release (k : LinkUnit) (d : Delivered) : LinkUnit :=
  { k with delivered := k.delivered.erase d, freed := tput 0 k.freed d.vc (tget 0 k.freed d.vc + d.flits) }

/-- The unit that holds the sequence and the buffers of a gang (R324). -/
def State.gangLead (s : State) (u : Nat) : Nat := ((s.unitOf u).gangLow.map (·.val)).getD u

/-- R317: a message is handed to a unit: its flits wait for their credits. -/
def State.transmit (s : State) (u : Nat) (job : W16) (m : OutMsg) : State :=
  let s := s.modUnit u (fun k => { k with txq := k.txq ++ [m] })
  s.modUnit (s.gangLead u) (fun k => { k with
    txWait := k.txWait ++ m.images.flatMap (messageFlits m.mtype job) }.drain)

end Sys2Proof.Machine
end

