-- ==== Sys2Proof/Machine/StreamOps.lean ====
section
/-! DEFINITION. Peg posts, tile keys, the points of a stream, and the end and the cancel of a stream
(R184 to R188, R223, R227, R231 to R235). -/

set_option linter.unusedVariables false

namespace Sys2Proof.Machine

open Sys2Proof

/-! ## Peg groups -/

/-- R184: the cluster lies in the group's SCOPE. -/
def State.pegScope (s : State) (g k : Nat) : Bool :=
  let p := s.pegOf g
  (List.range 256).any (fun r =>
    p.scope.getLsbD r && (s.regionOf r).ctx == p.ctx && (s.clusterOrder r).contains k)

/-- R185, R187: one arrival to a group for context x. `poster` is the cluster of a posting core;
arrivals of EXT sources at cluster k have `ext` true. DESIGN CHOICE, log entry 59: every stream engine, sequencer and the
fabric interface is an EXT source of every group of its context. -/
def State.postPeg (s : State) (g x : Nat) (k : Nat) (ext nan : Bool) : State :=
  let p := s.pegOf g
  if p.configured && p.ctx.val == x && (ext || s.pegScope g k) then
    s.putPeg g { p with total := p.total + 1, nan := p.nan || nan }
  else
    (s.routerBump k 7 1).raise .fault 187 0 (srcCluster k) (some x) [w64 x, w64 g]

/-- n arrivals of an EXT source, each as `postPeg`. -/
def State.postPegs (s : State) (g x k n : Nat) : State := s.each (List.range n) (fun s _ => s.postPeg g x k true false)

/-- R188: an abort discards the counts of the context's groups; COMPLETED and OBSERVED return
to 0. -/
def State.resetPegs (s : State) (x : Nat) : State :=
  let groups := tkeys (fun p : Peg => p.configured && p.ctx.val == x) s.pegs
  let s := s.each groups (fun s g => s.modPeg g (fun p =>
    { p with total := 0, nan := false, completed := 0, linkGen := 0, echo := 0 }))
  s.each (tkeys (fun c : Core => c.observed != []) s.cores) (fun s c =>
    s.modCore c (fun k => { k with observed := k.observed.filter (fun e => !groups.contains e.1) }))

/-! ## Handles (R197, R263) -/

def handleCtx (h : W32) : Nat := h.toNat / 2 ^ 29
def handleNum (h : W32) : Nat := h.toNat % 2 ^ 29

/-- The binding of a context that covers a handle. -/
def State.bindingOf (s : State) (h : W32) : Option (Nat × Binding) :=
  (s.ctxOf (handleCtx h)).bindings.findSome? (fun e =>
    match e.2 with
    | some b =>
      if b.first.toNat ≤ handleNum h ∧ handleNum h < b.first.toNat + b.count.toNat then some (e.1, b)
      else none
    | none => none)

/-- The directory key of a handle's tile, in slot B of a bound handle beyond 2^32. -/
def State.tileKeyIn (s : State) (h : W32) (slotB : Bool) : Nat :=
  match s.bindingOf h with
  | some _ => h.toNat + (if slotB then 2 ^ 32 else 0)
  | none => h.toNat

/-- R263: program streams resolve a bound handle to the ACTIVE slot's tile. -/
def State.tileKey (s : State) (h : W32) : Nat := s.tileKeyIn h (s.ctxOf (handleCtx h)).activeB

/-- The first handle and the count of the declaration or binding that a handle belongs to. Handles stay
declared while their region is unmapped (R242). -/
def State.declOf (s : State) (h : W32) : Option (Nat × Nat) :=
  match s.bindingOf h with
  | some (_, b) => some (b.first.toNat, b.count.toNat)
  | none =>
    s.regions.findSome? (fun e =>
      if e.2.ctx.val ≠ handleCtx h then none
      else
        e.2.decls.findSome? (fun d =>
          if d.first.toNat ≤ handleNum h ∧ handleNum h < d.first.toNat + d.count.toNat then
            some (d.first.toNat, d.count.toNat) else none))

/-- R196: the header of a tile that was never written. -/
def emptyHeader (fmt : Fmt) : TileHeader :=
  { bitmap := 0, fmt := fmt.setWidth 8, storedLen := if fmt.isMx then 128 else 0, elemNz := 0 }

/-- R149: the header a receiver records for a tile it takes as POISONED. -/
def poisonHeader (fmt : Fmt) : TileHeader :=
  { bitmap := allOnes64, fmt := (fmt.setWidth 8) ||| 0x20, storedLen := 0, elemNz := 0xFFFF }

/-- The header a tile reads with: its own, or R196's, with POISONED where its home is poisoned. -/
def Tile.readHeader (t : Tile) : TileHeader :=
  let h := if t.written then t.header else emptyHeader t.fmt
  if t.homePoisoned then { h with fmt := h.fmt ||| 0x20 } else h

/-- R207, R228: the home of a tile is marked POISONED. -/
def Tile.poison (t : Tile) : Tile := { t with homePoisoned := true }

/-- R194: a tile as a read issued against its home number `no` is served. -/
def Tile.asOf (t : Tile) (no : Nat) : Tile :=
  if no = t.moves then t
  else
    match t.oldHomes.find? (fun o => o.no == no) with
    | some o => { t with home := o.home, written := o.written, header := o.header, bytes := o.bytes,
                         homePoisoned := o.poisoned }
    | none => t

/-- The old homes of a tile, the one numbered `no` changed. -/
def Tile.modOld (t : Tile) (no : Nat) (f : OldHome → OldHome) : Tile :=
  { t with oldHomes := t.oldHomes.map (fun o => if o.no = no then f o else o) }

/-- R194: a read issued against home `no` has been answered or has ended. -/
def Tile.readDone (t : Tile) (no : Nat) : Tile :=
  if no = t.moves then { t with reads := t.reads - 1 } else t.modOld no (fun o => { o with reads := o.reads - 1 })

/-- R206, R207: an uncorrectable error marks the home that served the read. -/
def Tile.poisonAt (t : Tile) (no : Nat) : Tile :=
  if no = t.moves then t.poison else t.modOld no (fun o => { o with poisoned := true })

/-! ## Points (R223) -/

def StreamDesc.isRaw (d : StreamDesc) : Bool := d.op == 0x06 || d.op == 0x07
def StreamDesc.isIndex (d : StreamDesc) : Bool := d.op == 0x20 || d.op == 0x21 || d.op == 0x22
/-- R77: a writing stream is any but READ, MOVE_IN and RAW_READ. -/
def StreamDesc.writes (d : StreamDesc) : Bool := !(d.op == 0x01 || d.op == 0x02 || d.op == 0x06)
def StreamDesc.pegEnd (d : StreamDesc) : Bool := d.flags.getLsbD 1
def StreamDesc.pegTile (d : StreamDesc) : Bool := d.flags.getLsbD 2
/-- The destination is a set of Pocket entries of the issuing core. -/
def StreamDesc.fillsPocket (d : StreamDesc) : Bool := d.op == 0x01 || d.op == 0x02 || d.op == 0x06
/-- The source is a set of Pocket entries of the issuing core. -/
def StreamDesc.drainsPocket (d : StreamDesc) : Bool :=
  d.op == 0x03 || d.op == 0x05 || d.op == 0x07 || d.op == 0x19 || d.op == 0x22

/-- The number of points; an index operation is one. -/
def StreamDesc.points (d : StreamDesc) : Nat :=
  if d.isIndex then 1 else d.counts.foldl (fun n c => n * c.toNat) 1

/-- The signed offset of point n along strides, dimension 0 innermost. -/
def walk : List W32 → List W32 → Nat → Int
  | c :: cs, t :: ts, n => ((n % c.toNat : Nat) : Int) * t.toInt + walk cs ts (n / c.toNat)
  | _, _, _ => 0

/-- The smallest and largest offsets over all points (R223). -/
def walkRange : List W32 → List W32 → Int × Int
  | c :: cs, t :: ts =>
    let r := walkRange cs ts
    let e : Int := (c.toNat : Int) * t.toInt - t.toInt
    (r.1 + min 0 e, r.2 + max 0 e)
  | _, _ => (0, 0)

/-- Base of the source and destination walks. -/
def StreamDesc.srcBase (d : StreamDesc) : Int :=
  if d.isRaw then d.srcOffset.toNat
  else if d.op == 0x10 || d.op == 0x11 || d.op == 0x12 then d.srcOffset.toNat
  else if d.drainsPocket then d.src.toNat % 256
  else handleNum d.src
def StreamDesc.dstBase (d : StreamDesc) : Int :=
  if d.isRaw then d.dstOffset.toNat
  else if d.op == 0x18 || d.op == 0x19 then d.dstOffset.toNat
  else if d.fillsPocket then d.dst.toNat % 256
  else handleNum d.dst

/-- Source and destination of point n: tile numbers, Pocket entries, byte offsets or tile indices. -/
def StreamDesc.point (d : StreamDesc) (n : Nat) : Nat × Nat :=
  ((d.srcBase + walk d.counts d.srcStrides n).toNat, (d.dstBase + walk d.counts d.dstStrides n).toNat)

/-- Point n has completed. -/
def Stream.pointDone (m : Stream) (n : Nat) : Bool :=
  m.early.contains n || (decide (n < m.next) && !m.live.any (fun p => p.idx == n))

/-- Points placed before their request are passed over. -/
def Stream.skip : Nat → Stream → Stream
  | 0, m => m
  | n + 1, m =>
    if m.early.contains m.next then
      Stream.skip n { m with next := m.next + 1, early := m.early.filter (fun i => i != m.next) }
    else m

def Stream.unfinished (m : Stream) : List Nat :=
  (List.range m.desc.points).filter (fun n => !m.pointDone n)

/-- A handle of the stream's context with a tile number. -/
def Stream.handle (m : Stream) (n : Nat) : W32 := BitVec.ofNat 32 (m.ctx.val * 2 ^ 29 + n)

/-- The tile key of a handle under the slot that the stream resolved at acceptance (R263). -/
def State.streamKey (s : State) (m : Stream) (n : Nat) : Nat := s.tileKeyIn (m.handle n) m.slotB

/-! ## Stream slots -/

/-- The slot number of queue slot q of a core in its cluster. -/
def slotOf (c q : Nat) : Nat := 16 * (c % 32) + q

def State.slotAt (s : State) (k n : Nat) : StreamSlot := tget {} (s.clusterOf k).streams n

def State.putSlot (s : State) (k n : Nat) (v : StreamSlot) : State :=
  s.modCluster k (fun c => { c with streams := tput {} c.streams n v })

def State.modStream (s : State) (k n : Nat) (f : Stream → Stream) : State :=
  let v := s.slotAt k n
  match v.stream with
  | some m => s.putSlot k n { v with stream := some (f m) }
  | none => s

/-- R75: a slot is freed; its generation advances. -/
def StreamSlot.free (v : StreamSlot) : StreamSlot := { v with gen := v.gen + 1, stream := none }

/-- R75: the ticket of a queue slot. -/
def ticketOf (q : Nat) (gen : BitVec 12) : W64 := w64 (gen.toNat * 16 + q)

def xferSlot (c : Cluster) (n : Nat) : XferSlot := tget {} c.xfers n

/-- Transfers outstanding of a stream slot under an epoch. -/
def State.outstanding (s : State) (k n : Nat) (e : BitVec 7) : Nat :=
  ((s.clusterOf k).xfers.filter (fun x => match x.2.busy with
    | some x => x.slot == n && x.epoch == e
    | none => false)).length

/-- Bytes rounded up to a multiple of 32. -/
def round32 (n : Nat) : Nat := (n + 31) / 32 * 32

/-- R153, R233, R234: what a stream slot has reserved under an epoch is given back: its entries keep only their
stored bytes, emptied entries give up their space, and a RELOCATE its destination. -/
def State.releaseReserved (s : State) (k : ClusterId) (c n : Nat) (e : BitVec 7) : State :=
  let s := s.modCore c (fun k => { k with
    owed := k.owed.filter (fun o => !(o.2.1 == n && o.2.2.1 == e)),
    tiles := tmap {} (fun _ t =>
      if t.filler = some (n, e) then
        { t with reserved := round32 t.header.storedLen.toNat, filler := none } else t) k.tiles })
  { s with tiles := tmap {} (fun _ t =>
      if (t.reservedAt.map (·.2)) = some (k, n, e) then { t with reservedAt := none } else t) s.tiles }

/-- Entry of a core. -/
def Core.entry (k : Core) (n : Nat) : Entry := tget {} k.tiles n
def Core.putEntry (k : Core) (n : Nat) (e : Entry) : Core := { k with tiles := tput {} k.tiles n e }
def Core.modEntry (k : Core) (n : Nat) (f : Entry → Entry) : Core := k.putEntry n (f (k.entry n))

/-- R233: the space of an entry that becomes EMPTY while replies of the stream that reserved it are still out. -/
def Entry.owes (e : Entry) : List (CtxId × Nat × BitVec 7 × Nat × Nat) :=
  match e.filler with
  | some (n, ep) => [(e.holder, n, ep, e.base, e.reserved)]
  | none => []

/-- An entry becomes EMPTY. -/
def Core.vacate (k : Core) (n : Nat) : Core :=
  { k with owed := (k.entry n).owes ++ k.owed, tiles := tput {} k.tiles n {} }
def State.modEntry (s : State) (c n : Nat) (f : Entry → Entry) : State :=
  s.modCore c (fun k => k.modEntry n f)

/-- R149, R234: an entry whose fill will never complete. -/
def Entry.spoil (e : Entry) : Entry :=
  { e with state := .poisoned, writable := false, header := poisonHeader (e.header.fmt.setWidth 4),
           bytes := [] }

/-- R226: a writer gives up its lock and its place in line. -/
def Tile.unlock (t : Tile) (w : ClusterId × Nat) : Tile :=
  { t with lock := if t.lock = some w then none else t.lock,
           lockQueue := t.lockQueue.filter (fun x => x != w) }

/-- Every lock and place in a lock's queue of a stream slot is given up. -/
def State.unlockAll (s : State) (k : ClusterId) (n : Nat) : State :=
  { s with tiles := tmap {} (fun _ t => t.unlock (k, n)) s.tiles }

/-- A tile whose content is discarded reads as one that was never written, at its home of R200. -/
def Tile.discard (t : Tile) : Tile :=
  { t with home := t.declHome, written := false, header := {}, bytes := [], homePoisoned := false }

/-- An entry becomes EMPTY; a tile that had its home there is discarded (R74, R76). -/
def State.emptyEntry (s : State) (c : CoreId) (n : Nat) : State :=
  let s := s.modCore c.val (fun k => k.vacate n)
  { s with tiles := tmap {} (fun _ t => if t.home = .pocket c n then t.discard else t) s.tiles }

/-- R228, R234: the home of a tile becomes POISONED; one that is a Pocket entry takes the state. -/
def State.poisonTile (s : State) (key : Nat) : State :=
  let s := s.modTile key Tile.poison
  match (s.tileOf key).home with
  | .pocket c e => s.modEntry c e (fun x => { x with state := .poisoned })
  | _ => s

/-- R234: the destinations of points that will never complete. A stream whose checks failed has changed
no home, and an entry that the stream does not fill is left as it is. -/
def State.dropPoints (s : State) (k : ClusterId) (slot : Nat) (m : Stream) : State :=
  let d := m.desc
  s.each m.unfinished (fun s n =>
    let p := d.point n
    if d.fillsPocket then
      let e := if d.isRaw then d.dst.toNat % 256 else p.2
      let s := s.modCore m.core (fun k =>
        if (k.entry e).state = .filling ∧ (if d.isRaw then m.started else (k.entry e).filler.any (·.1 == slot)) = true
        then k.modEntry e Entry.spoil else k)
      if d.op = 0x02 ∧ m.started = true then
        s.modTile (s.streamKey m p.1) (fun t => { t with moving := false }) else s
    else if !m.started then s
    else if d.op = 0x03 then s.poisonTile (s.streamKey m p.2)
    else if d.op = 0x07 then s.poisonTile (s.streamKey m (handleNum d.dst))
    else if d.op = 0x04 then s.modTile (s.streamKey m p.1) (fun t => { t with moving := false })
    else s)

/-- R153, R233, R281: what the last reply of a stream's epoch gives back: reserved Pocket space, and the
reference to an old copy. -/
def State.releaseLast (s : State) (k : ClusterId) (n : Nat) (e : BitVec 7) (core : CoreId) (x : CtxId) (slotB bound : Bool) :
    State :=
  if s.outstanding k n e ≠ 0 then s
  else
    let s := s.releaseReserved k core n e
    let c := s.ctxOf x.val
    if bound = true ∧ c.swap = .freeing ∧ slotB ≠ c.activeB then s.putCtx x.val { c with refs := c.refs - 1 } else s

/-- R231: the arrivals that PEG_TILE owes when a stream ends: one for each tile that will never complete;
a raw stream has one destination tile, MERGE two. -/
def Stream.tilesOwed (m : Stream) : Nat :=
  if m.desc.isRaw then 1
  else if m.desc.op = 0x20 then 2
  else if m.desc.isIndex then 0
  else m.desc.points - m.doneCount

/-- R227, R231: a stream whose transfers carry epoch e ends with a status: its posts, its locks, its
slot. -/
def State.finishStream (s : State) (k : ClusterId) (n : Nat) (e : BitVec 7) (st : Byte) : State :=
  let v := s.slotAt k n
  match v.stream with
  | none => s
  | some m =>
    if m.ended.isSome then s
    else
      let d := m.desc
      let s := s.modStream k n (fun m => { m with ended := some st, live := [] })
      let s := s.unlockAll k n
      let s :=
        if d.pegTile then s.postPegs d.peg.val m.ctx.val k m.tilesOwed
        else if d.pegEnd then
          (if st = stOK ∨ st = stTIMEOUT ∨ st = stPOISONED then s.postPegs d.peg.val m.ctx.val k 1
           else (s.engineBump k 7 1).raise .fault 231 0 (srcCluster k) (some m.ctx.val)
            [w64 k.val, w64 n])
        else s
      let s := s.releaseLast k n e m.core m.ctx m.slotB m.bound
      if m.nowait then
        let s := if st = stOK then s
          else s.modCore m.core (fun c => { c with
            lastserr := (ticketOf (n % 16) v.gen) ||| ((st.setWidth 64) <<< 16) })
        s.putSlot k n (s.slotAt k n).free
      else s

/-- R233: a stream is cancelled; one that has ended is left as it is. -/
def State.cancelStream (s : State) (k : ClusterId) (n : Nat) : State :=
  let v := s.slotAt k n
  match v.stream with
  | none => s
  | some m =>
    if m.ended.isSome then s
    else
      let s := s.putSlot k n { v with epoch := v.epoch + 1, stream := some { m with cancelled := true } }
      ((s.dropPoints k n m).engineBump k 4 1).finishStream k n v.epoch stABORTED

/-- R227: BAD_ARG or NO_QUOTA stops a stream; its unfinished points are treated as R234 says. -/
def State.stopStream (s : State) (k : ClusterId) (n : Nat) (st : Byte) : State :=
  let v := s.slotAt k n
  match v.stream with
  | none => s
  | some m =>
    if m.ended.isSome then s
    else
      let s := s.putSlot k n { v with epoch := v.epoch + 1 }
      (s.dropPoints k n m).finishStream k n v.epoch st

/-- Every stream that satisfies p is cancelled. -/
def State.cancelStreams (s : State) (p : Nat → Stream → Bool) : State :=
  s.each s.clusters (fun s e =>
    if h : e.1 < 1600 then
      s.each e.2.streams (fun s v =>
        match v.2.stream with
        | some m => if p v.1 m then s.cancelStream ⟨e.1, h⟩ v.1 else s
        | none => s)
    else s)

end Sys2Proof.Machine
end

