-- ==== Sys2Proof/Machine/StepOps.lean ====
section
/-! DEFINITION. Completions of host commands, messages sent on the trees, the ledger and its reports,
the manager's decision, the close of a step, and the abort of a context (R26 to R29, R91, R300 to
R303, R338 to R349, R371, R372). -/

set_option linter.unusedVariables false

namespace Sys2Proof.Machine

open Sys2Proof

/-! ## Completions (R371, R372) -/

def noDetail : W32 := 0xFFFFFFFF

/-- R357: the module's own accesses to host memory for a mailbox go through port B. -/
def State.throughB (s : State) (m : Mbox) : Bool := (m.preferB && s.portB) || !s.portA

/-- Writes the completion of a held command and takes it off its mailbox; a command that is not
held has none. -/
def State.complete (s : State) (h : Hdr) (st : Byte) (detail : W32 := noDetail) (nan : Bool := false)
    (result : List W64 := []) : State :=
  let m := s.mboxOf h.mbox.val
  match m.held.find? (fun e => e.hdr.seq == h.seq) with
  | none => s
  | some e =>
    let c : Completion :=
      { seq := h.seq, opcode := e.opcode, status := st, nan := nan, ctx := e.hdr.ctx, mbox := h.mbox,
        job := e.hdr.job, detail := detail, time := s.time, result := result,
        phase := m.tail.toNat / 64 % 2 == 0, onB := s.throughB m }
    let s := s.putMbox h.mbox.val
      { m with held := m.held.filter (fun e => e.hdr.seq != h.seq), tail := m.tail + 1 }
    { s with hostOut := s.hostOut ++
        (.completion c :: (if e.irq && m.irqEn then [.vector m.vector] else [])) }

def State.completeSome (s : State) (h : Option Hdr) (st : Byte) : State :=
  match h with
  | some h => s.complete h st
  | none => s

/-- The held command of a header, with the opcode it must have. -/
def State.heldCmd (s : State) (h : Hdr) (op : W16) : Option HeldCmd :=
  (s.mboxOf h.mbox.val).held.find? (fun e => e.opcode == op && { e.hdr with rsv := h.rsv } == h)

/-- A command that has been carried out and waits for its end. -/
def State.markWaiting (s : State) (h : Hdr) : State :=
  s.modMbox h.mbox.val (fun m => { m with
    held := m.held.map (fun e => if e.hdr.seq = h.seq then { e with waiting := true } else e) })

/-! ## Trees (R336 to R343) -/

def JobRec.tree (j : JobRec) (t : Nat) : Option TreeRec := j.trees.find? (fun r => r.tree.toNat == t)

def State.treeRec (s : State) (x t : Nat) : Option TreeRec :=
  match (s.ctxOf x).jobRec with
  | some j => j.tree t
  | none => none

def State.ctrlTree (s : State) (x : Nat) : Option TreeRec :=
  match (s.ctxOf x).jobRec with
  | some j => j.tree j.ctrlTree.toNat
  | none => none

/-- R344, R380: this module is the manager; a context with no tree table is a job of one node. -/
def State.isManager (s : State) (x : Nat) : Bool :=
  match (s.ctxOf x).jobRec with
  | some j => j.node == j.manager
  | none => true

def State.nodeOf (s : State) (x : Nat) : W16 :=
  match (s.ctxOf x).jobRec with
  | some j => j.node
  | none => 0

def State.nodesOf (s : State) (x : Nat) : Nat :=
  match (s.ctxOf x).jobRec with
  | some j => j.nodes.toNat
  | none => 1

def treeRoot (r : TreeRec) : Bool := r.parent == 0x7F
def treeHasChild (r : TreeRec) (u : Nat) : Bool := r.children.getLsbD u
def treeChildren (r : TreeRec) : List Nat := (List.range 96).filter (treeHasChild r)

def treeParentIs (r : TreeRec) (u : Nat) : Bool := !treeRoot r && r.parent.toNat == u

/-- R330: a message of a context leaves on a unit, or is skipped at its fence. A unit that is not
ACTIVE or in retraining carries nothing, nor does one whose Brim interface is not live (R529). -/
def State.send (s : State) (x u : Nat) (m : OutMsg) : State :=
  if !s.unitOpen u x then s.linkBump u 7 1
  else if !s.brimLive (brimOf u) then s
  else
    let k := s.unitOf u
    if k.state = .active ∨ k.state = .retrain then s.transmit u (s.ctxOf x).job m else s

/-- R330: the server ports enabled for a context. -/
def State.portsFor (s : State) (x : Nat) : List UnitId :=
  (List.finRange 128).filter (fun u => isServerPort u.val && (s.unitOf u.val).state == .active &&
    s.unitOpen u.val x)

def State.sendDown (s : State) (x : Nat) (r : TreeRec) (m : OutMsg) : State :=
  s.each (treeChildren r) (fun s u => s.send x u m)

def State.sendUp (s : State) (x : Nat) (r : TreeRec) (m : OutMsg) : State :=
  if treeRoot r then s else s.send x r.parent.toNat m

/-- The header of a STEP message of a context. -/
def State.stepMsg (s : State) (x : Nat) : StepMsg :=
  let c := s.ctxOf x
  { job := c.job, node := s.nodeOf x, step := c.step }

/-! ## Cores that stop and start (R64, R91, R243) -/

/-- R64: the state at program start; tiles, generators and OBSERVED stay. -/
def Core.start (k : Core) (x : CtxId) (r : RegionId) : Core :=
  { k with
    s := [], v := [], vpoison := 0, m := [], acc0 := {}, acc1 := {}, pc := 0,
    running := some x, region := r, waitlim := 8500000, fpstatus := 0, fwexp := 0, xvec := 0,
    xpc := 0, xcause := 0, xinfo := 0, lastserr := 0, inHandler := false, waiting := none,
    tmmSources := [] }

/-- The program has stopped: registers and accumulators are cleared. -/
def Core.halt (k : Core) : Core := { k.start 0 0 with running := none, region := k.region }

/-- R243: the queued program of the lowest-numbered context above x, wrapping, starts. -/
def State.startNext (s : State) (c x : Nat) : State :=
  let k := s.coreOf c
  match (List.range 8).find? (fun i => k.queue.any (fun q => q.val == (x + 1 + i) % 8)) with
  | none => s
  | some i =>
    let y : CtxId := ⟨(x + 1 + i) % 8, Nat.mod_lt _ (by decide)⟩
    match s.regionAt y.val (c / 32) with
    | none => s.putCore c { k with queue := k.queue.filter (· != y) }
    | some r =>
      s.putCore c { k.start y (Fin.ofNat 256 r) with queue := k.queue.filter (· != y) }

/-- R247: the core no longer waits in TILENEXT. -/
def State.leaveWaiters (s : State) (c x : Nat) : State :=
  s.modCluster (c / 32) (fun k => { k with
    seqs := tput {} k.seqs x
      (let q := tget {} k.seqs x
       { q with waiters := q.waiters.filter (fun w => w.val != c) }) })

/-- Entries of a context that satisfy p become EMPTY. -/
def Core.emptyEntries (k : Core) (x : CtxId) (p : Entry → Bool) : Core :=
  let gone := fun (e : Nat × Entry) => e.2.state != .empty && e.2.holder == x && p e.2
  { k with owed := (k.tiles.filter gone).flatMap (fun e => e.2.owes) ++ k.owed,
           tiles := k.tiles.filter (fun e => !gone e) }

/-- Tiles of a context with their home in a core's Pocket are discarded. -/
def State.discardHomes (s : State) (c : Nat) (x : CtxId) : State :=
  { s with tiles := tmap {} (fun h t => match t.home with
      | .pocket d _ => if d.val = c ∧ h % 2 ^ 32 / 2 ^ 29 = x.val then t.discard else t
      | _ => t) s.tiles }

/-- R91: a core stops the program of an aborted context. -/
def State.stopCore (s : State) (x : CtxId) (c : Nat) : State :=
  let k := s.coreOf c
  let k := { k with queue := k.queue.filter (· != x) }
  if k.running = some x then
    (((s.putCore c (k.halt.emptyEntries x (fun _ => true))).discardHomes c x).leaveWaiters
      c x.val).startNext c x.val
  else s.putCore c k

def State.stopCores (s : State) (x : CtxId) : State :=
  s.each (tkeys (fun k : Core => k.running == some x || k.queue.contains x) s.cores)
    (fun s c => s.stopCore x c)

/-- R194: the context's read images end. -/
def State.endReadImages (s : State) (x : CtxId) : State :=
  s.each (tkeys (fun k : Core => k.tiles.any (fun e => e.2.readImage && e.2.holder == x)) s.cores)
    (fun s c => s.modCore c (fun k => k.emptyEntries x (fun e => e.readImage)))

/-- R250, R253: sequencers that are not IDLE become ABORTED. -/
def State.abortSequencers (s : State) (x : Nat) : State :=
  let s := s.each (s.regionsOf x) (fun s r =>
    s.modRegion r (fun g =>
      if g.seq = .idle then g else { g with seq := .aborted, outstanding := [], finished := [] }))
  s.each (tkeys (fun k : Cluster => tget {} k.seqs x != {}) s.clusters) (fun s k =>
    s.modCluster k (fun c => { c with seqs := tput {} c.seqs x {} }))

/-- R91: the queue slots of the context's streams are released; the streams have ended. -/
def State.freeSlots (s : State) (x : CtxId) : State :=
  { s with clusters := tmap {} (fun _ k => { k with
      streams := tmap {} (fun _ v => match v.stream with
        | some m => if m.ctx = x ∧ m.ended.isSome then v.free else v
        | none => v) k.streams }) s.clusters }

/-- R353: every chunk slot of the context's collectives is freed. -/
def Ctx.freeColls (c : Ctx) : Ctx :=
  { c with colls := tmap none (fun _ o => o.map (fun k => { k with slots := [], held := [], written := [], spoiled := [] })) c.colls }

/-! ## Charges, and what an open tree pass holds (R162, R200, R202) -/

/-- R202: Basket charge of a context in a cluster. -/
def State.chargeBasket (s : State) (k x n : Nat) : State :=
  s.modCluster k (fun c => { c with basketUsed := tput 0 c.basketUsed x (tget 0 c.basketUsed x + n) })
def State.dischargeBasket (s : State) (k x n : Nat) : State :=
  s.modCluster k (fun c => { c with basketUsed := tput 0 c.basketUsed x (tget 0 c.basketUsed x - n) })

/-- R162: Basket bytes of a tree pass. -/
def treePassBytes : Nat := 262144

/-- An open tree pass of the context is discarded (R234: "open until closed or aborted"). -/
def State.dropTreePasses (s : State) (x : CtxId) : State :=
  s.each (tkeys (fun k : Cluster => match k.tree with
      | some t => t.ctx == x
      | none => false) s.clusters) (fun s k =>
    (s.modCluster k (fun c => { c with tree := none })).dischargeBasket k x.val treePassBytes)

/-! ## Close of a step or batch (R279, R302, R380) -/

/-- The bytes of STEP_BEGIN's RESULT (R380). -/
def outcomeResult (code cause : Byte) (node : W16) (step version : W32) : List W64 :=
  [w64 (code.toNat + cause.toNat * 256 + node.toNat * 65536 + step.toNat * 2 ^ 32),
   w64 version.toNat]

/-- STEP_BEGIN completes with an outcome, its cause and node. -/
def State.completeBegin (s : State) (x : Nat) (code cause : Byte) (node : W16) (nan : Bool) : State :=
  let c := s.ctxOf x
  match c.beginCmd with
  | none => s
  | some h =>
    let st := if code = 3 ∨ code = 4 ∨ code = 5 then stSTEP_REPEAT else stOK
    (s.putCtx x { c with beginCmd := none }).complete h st noDetail nan
      (outcomeResult code cause node c.step c.version)

/-- R17, R302: the context's step closes with an outcome code of R305, and an open tree pass is discarded. -/
def State.closeStep (s : State) (x : CtxId) (code : Fin 6) : State :=
  let c := s.ctxOf x.val
  if !c.isOpen then s
  else
    let s := (s.dropTreePasses x).putCtx x.val
      { c.freeColls with
        isOpen := false, lastOutcome := code, lastOutcomeStep := c.step, heldDone := none,
        heldNan := false, decided := true, linked := [],
        reloadLanes := decide (3 ≤ code.val) }
    let s := s.completeBegin x.val (BitVec.ofNat 8 code.val) 0 0xFFFF false
    let s :=
      if 3 ≤ code.val then
        let s := s.stopCores x
        let s := (s.cancelStreams (fun _ m => m.ctx == x)).freeSlots x
        s.abortSequencers x.val
      else s
    s.endReadImages x

/-- R261: a context with RESIDENT bindings is a serving context. -/
def Ctx.serving (c : Ctx) : Bool := c.bindings.any (fun e => match e.2 with
  | some b => b.resident
  | none => false)

/-- R279, R281: a batch closes when every region is DONE or ABORTED (DESIGN CHOICE, log entry 16 for the outcome
its completion carries). -/
def State.closeBatch (s : State) (x : CtxId) : State :=
  let c := s.ctxOf x.val
  let rs := s.regionsOf x.val
  let closed := rs.all (fun r =>
    let g := s.regionOf r
    g.seq == .done || g.seq == .aborted || g.state != .loaded)
  if !(c.isOpen && c.serving && closed) then s
  else
    let s := s.dropTreePasses x
    let aborted := c.marks.aborted || rs.any (fun r => (s.regionOf r).seq == .aborted)
    let code : Fin 6 := if aborted then 3 else 0
    let s := s.putCtx x.val
      { c.freeColls with
               isOpen := false, lastOutcome := if aborted then code else c.lastOutcome,
               lastOutcomeStep := if aborted then c.step else c.lastOutcomeStep, heldDone := none,
               reloadLanes := aborted, linked := [],
               refs := if c.batchOnOld then c.refs - 1 else c.refs, batchOnOld := false }
    let s := s.completeBegin x.val (BitVec.ofNat 8 code.val) (if aborted then 1 else 0) 0xFFFF c.marks.nan
    s.endReadImages x

/-! ## The decision (R26, R27, R345, R347) -/

inductive Trigger
  | done (nan : Bool)
  | report (cause : Byte) (node : W16)
  | timeout
  deriving DecidableEq, Repr

/-- R341: the SUBTYPE that broadcasts an outcome code. -/
def outcomeSubtype (code : Fin 6) : Byte :=
  match code with
  | 1 => 0x02
  | 2 => 0x03
  | 4 => 0x05
  | _ => 0x04

/-- An outcome is sent down CTRL_TREE and acted on here. -/
def State.decideAs (s : State) (x : CtxId) (code : Fin 6) (cause : Byte) (node : W16) : State :=
  let s := s.modCtx x.val (fun c => { c with decided := true, heldNan := false })
  let s := match s.ctrlTree x.val with
    | some r => s.sendDown x.val r (.step (outcomeSubtype code) (s.stepMsg x.val) [])
    | none => s
  let s := s.completeBegin x.val (BitVec.ofNat 8 code.val) cause node false
  s.closeStep x code

/-- R345: a trigger reaches the manager. DEDUCED, log entry 77. -/
def State.decideStep (s : State) (x : CtxId) (t : Trigger) : State :=
  let c := s.ctxOf x.val
  if s.mode = .hold then s
  else if !c.isOpen || c.decided then
    (s.treeBump x.val 6 1).raise .notice 345 0 (srcCtx x.val) (some x.val)
      [w64 x.val, c.step.setWidth 64]
  else
    match t with
    | .done false => s.decideAs x 1 0 0xFFFF
    | .done true =>
      (s.putCtx x.val { c with heldNan := true }).completeBegin x.val 0 0 0xFFFF true
    | .report cause node =>
      if cause = 2 ∧ c.canInvalid then s.decideAs x 4 cause node else s.decideAs x 3 cause node
    | .timeout => s.decideAs x 3 7 0xFFFF

/-- R301: one failure report for each cause in a step, to the manager. A serving context has no
step and no manager to report to. -/
def State.report (s : State) (x : CtxId) (cause : Byte) (detail : List Byte) : State :=
  let c := s.ctxOf x.val
  if !c.isOpen || c.serving || c.reported.contains cause then s
  else
    let s := s.putCtx x.val { c with reported := c.reported ++ [cause] }
    if s.isManager x.val then s.decideStep x (.report cause (s.nodeOf x.val))
    else
      match s.ctrlTree x.val with
      | none => s
      | some r =>
        (s.treeBump x.val 5 1).sendUp x.val r
          (.step 0x08 { s.stepMsg x.val with cause := cause } detail)

inductive Mark | crc | egress | short | poison | aborted
  deriving DecidableEq, Repr

def Mark.cause : Mark → Byte
  | .aborted => 1
  | .crc => 2
  | .egress => 3
  | .short => 4
  | .poison => 5

def Marks.put (m : Marks) : Mark → Marks
  | .aborted => { m with aborted := true }
  | .crc => { m with crc := true }
  | .egress => { m with egress := true }
  | .short => { m with short := true }
  | .poison => { m with poison := true }

/-- R300, R301: a mark of the ledger; a held step-done post is discarded. -/
def State.setMark (s : State) (x : CtxId) (k : Mark) (detail : List Byte) : State :=
  let s := s.modCtx x.val (fun c => { c with marks := c.marks.put k, heldDone := none })
  s.report x k.cause detail

/-! ## Abort (R29, R91, R177, R188, R229) -/

/-- R177: the Tub slots of a context are freed, unsent. -/
def State.freeTubs (s : State) (x : CtxId) : State :=
  s.each (tkeys (fun k : Cluster => k.tubs.any (fun e => match e.2 with
      | some t => t.key.ctx == x
      | none => false)) s.clusters) (fun s k =>
    s.modCluster k (fun c => { c with
      tubs := c.tubs.filter (fun e => match e.2 with
        | some t => t.key.ctx != x
        | none => true) }))

/-- R139: the open sequences of the samplers of the context's regions are discarded. -/
def State.dropSequences (s : State) (x : Nat) : State :=
  s.each (s.regionsOf x) (fun s r =>
    let g := s.regionOf r
    if g.sampler.getLsbD 15 then
      match (s.clusterOrder r)[g.sampler.toNat % 2048]? with
      | some k => s.modCluster k (fun c => { c with sampler := { c.sampler with seqs := [], draws := [] } })
      | none => s
    else s)

/-! ## Reservations and fills (R200, R279) -/

/-- R200: the bytes a tile of a format reserves. -/
def reservation (f : Fmt) : Nat := (f.denseLen + 255) / 256 * 256 + 16

/-- The tiles are freed with their reservations. -/
def State.freeTiles (s : State) (x : Nat) (keys : List Nat) : State :=
  s.each keys (fun s key =>
    let t := s.tileOf key
    let s := match t.declHome with
      | .hamper h q =>
        let len := reservation t.fmt
        (s.modStack h (fun k => { k with pairUsed := tput 0 k.pairUsed q.val (tget 0 k.pairUsed q.val - len) })).modCtx
          x (fun c => { c with hamperUsed := c.hamperUsed - len })
      | .basket k => s.dischargeBasket k.val x (reservation t.fmt)
      | .lost => if t.declared then s.modCtx x (fun c => { c with hamperUsed := c.hamperUsed - reservation t.fmt }) else s
      | _ => s
    let s := match t.directAt with
      | some k => s.dischargeBasket k x (Fmt.denseLen t.fmt)
      | none => s
    { s with tiles := tput {} s.tiles key {} })

/-- The tiles of a fill's binding in the slot it fills. -/
def State.fillKeys (s : State) (x : Nat) (f : Fill) : List Nat :=
  match tget none (s.ctxOf x).bindings f.binding with
  | some b => (List.range b.count.toNat).map (fun i =>
      s.tileKeyIn (BitVec.ofNat 32 (x * 2 ^ 29 + b.first.toNat + i)) f.slotB)
  | none => []

/-- R279: the fills of a WEIGHT_BIND have ended. The first sets its slot VALID and ACTIVE; a failed one releases
the bindings of the command. -/
def State.endBind (s : State) (x : Nat) (st : Byte) : State :=
  let c := s.ctxOf x
  let first := !(c.slotA.valid || c.slotB.valid)
  if st = stOK then
    (s.putCtx x { c with
      fills := [], bindCmd := none, slotA := if first then { c.slotA with valid := true } else c.slotA,
      activeB := c.activeB && !first }).completeSome c.bindCmd stOK
  else
    let s := s.freeTiles x (c.fills.flatMap (s.fillKeys x))
    (s.modCtx x (fun c => { c with
      fills := [], bindCmd := none,
      bindings := c.bindings.filter (fun e => !c.fills.any (fun (f : Fill) => f.binding == e.1)),
      slotA := if first then {} else c.slotA })).completeSome c.bindCmd st

/-! ## Abort of a context -/

/-- R29, R275: an installation that the context commanded stops; its slot stays INCOMPLETE. -/
def State.stopInstall (s : State) (x : CtxId) : State :=
  { s with press := { s.press with install := s.press.install.filter (fun i => i.ctx != x) } }

/-- R29, R279: the fills of a WEIGHT_BIND that has not ended stop. The fill of a swap goes on (R283). -/
def State.abortFills (s : State) (x : Nat) : State :=
  let c := s.ctxOf x
  if c.swap = .filling ∨ c.fills = [] then s else s.endBind x stABORTED

/-- R29: the context's outstanding commands complete with ABORTED: all it holds but STEP_BEGIN, whose
completion carries the outcome (R347), and WEIGHT_SWAP, whose fill goes on (R283). -/
def State.abortCommands (s : State) (x : Nat) : State :=
  s.each (List.range 16) (fun s m =>
    s.each ((s.mboxOf m).held.filter (fun e =>
      e.hdr.ctx.toNat == x && !(e.opcode == 0x30 && e.waiting) && !(e.opcode == 0x21 && e.waiting))) (fun s e => s.complete e.hdr stABORTED))

/-- R29, R89, R183: a context is aborted, by a broadcast on the Thread. `detail` is the detail of its ABORT report. DEDUCED, log entry 18. -/
def State.abortContext (s : State) (x : CtxId) (detail : List Byte) : State :=
  if !(s.ctxOf x.val).live then s
  else
    let s := s.threadPass (mmpNode s.mgmt.standbyServes) everyFc (.abort x)
    let s := s.stopCores x
    let s := (s.cancelStreams (fun _ m => m.ctx == x)).freeSlots x
    let s := s.endReadImages x
    let s := s.abortSequencers x.val
    let s := s.each (s.regionsOf x.val) (fun s r => s.modRegion r (fun g => { g with roles := [] }))
    let s := s.resetPegs x.val
    let s := s.freeTubs x
    let s := s.dropTreePasses x
    let s := s.dropSequences x.val
    let s := s.modCtx x.val (fun c => { c.freeColls with linked := [], heldDone := none })
    let s := ((s.stopInstall x).abortFills x.val).abortCommands x.val
    let s := s.setMark x .aborted detail
    s.closeBatch x

/-- A stream ends on its own: a CUT stream that ends other than OK aborts the context (R248). -/
def State.endStream (s : State) (k : ClusterId) (n : Nat) (st : Byte) : State :=
  match (s.slotAt k n).stream with
  | none => s
  | some m =>
    let s := if st = stBAD_ARG ∨ st = stNO_QUOTA then s.stopStream k n st
      else s.finishStream k n (s.slotAt k n).epoch st
    if m.desc.op = 0x21 ∧ st ≠ stOK then
      s.abortContext m.ctx (bytesLE 4 m.region.val ++ bytesLE 4 m.core.val)
    else s

end Sys2Proof.Machine
end

