-- ==== Sys2Proof/Machine/HealthOps.lean ====
section
/-! DEFINITION. What a failing part does to the module: faults of a core, the contexts above a part, the
module's own DRAIN, the score snapshot (R55, R61, R396, R484). -/

set_option linter.unusedVariables false

namespace Sys2Proof.Machine

open Sys2Proof

/-- Contexts with a region over a cluster that satisfies p, with that region. -/
def State.contextsOver (s : State) (p : Nat → Bool) : List (CtxId × Nat) :=
  (List.finRange 8).filterMap (fun x =>
    ((s.regionsOf x.val).find? (fun r => (s.clusterOrder r).any p)).map (fun r => (x, r)))

/-- R29, R55: every context above the clusters is aborted; `core` names the core of the report. -/
def State.abortOver (s : State) (p : Nat → Bool) (core : Nat) : State :=
  s.each (s.contextsOver p) (fun s e => s.abortContext e.1 (bytesLE 4 e.2 ++ bytesLE 4 core))

/-- The score snapshot of R484, with the copy of the ALARM and FAULT rings of R503. -/
def State.snapshotScores (s : State) : State :=
  let keep := fun (l : List (Nat × W16)) => l.filter (fun e => e.2 != 0)
  let lanes := fun (f : LinkUnit → Vector W16 9) =>
    keep (s.units.flatMap (fun e => (List.finRange 9).map (fun i => (9 * e.1 + i.val, (f e.2)[i]))))
  let scores : Scores :=
    { cores := keep (s.phys.map (fun e => (e.1, e.2.score)))
      baskets := keep (s.clusters.map (fun e => (e.1, e.2.basketScore)))
      routers := keep (s.clusters.map (fun e => (e.1, e.2.routerScore)))
      units := keep (s.units.map (fun e => (e.1, e.2.score)))
      txLanes := lanes (·.txLaneScore)
      rxLanes := lanes (·.rxLaneScore)
      hampers := keep (s.hamperStacks.map (fun e => (e.1, e.2.score)))
      press := s.press.score
      channels := keep (s.channels.map (fun e => (e.1, e.2.score)))
      boundaries := keep (s.fields.flatMap (fun e =>
        e.2.boundaries.map (fun b => (16 * e.1 + b.1, b.2.score)))) }
  let s := { s with mgmt := { s.mgmt with scores := scores, snapshotTime := s.time } }
  let s := s.modRing 0 (fun g => { g with previous := g.unread })
  s.modRing 1 (fun g => { g with previous := g.unread })

/-- R396: a DRAIN that the module enters itself. -/
def State.autoDrain (s : State) : State :=
  if s.mode = .ready ∨ s.mode = .run then
    ({ s with mode := .drain, darn := { s.darn with drainByCommand := false } }).snapshotScores
  else s

/-- R61: a fault bit of a core, with its weight (R483). -/
def State.coreFault (s : State) (p bit weight : Nat) : State :=
  s.modPhys p (fun k => { k with
    fault := k.fault ||| BitVec.twoPow 64 bit, lastFault := BitVec.ofNat 8 bit,
    score := satAdd16 k.score weight })

/-- The cluster of a physical core (R60). -/
def physCluster (p : Nat) : Nat := p / 36

/-- A message of the Thread that says that core p beats. -/
def ThreadMsg.beats (p : Nat) (m : ThreadMsg) : Bool :=
  match m.body with
  | .heartbeat q _ _ => q.val == p
  | _ => false

/-- R53: a core begins to serve its column after its reset: its heartbeats start at number 0, which follows no earlier
one; one of its earlier life that still waits is gone. -/
def State.startBeats (s : State) (p : Nat) : State :=
  let a := clusterNode (physCluster p)
  let n := s.threadNode a
  (s.modPhys p (fun k => { k with hbNext := 0, hbSeen := false, hbMissed := 0 })).putThreadNode a
    { n with normal := n.normal.filter (fun m => !m.beats p) }

/-- R39: the bank of a byte of the Pocket. -/
def pocketBank (off : Nat) : Nat := off / 8 % 32

/-- R61: a Pocket code event of a physical core, at a byte of the Pocket; BANK names the bank of the first one. -/
def State.pocketFault (s : State) (p bit weight off : Nat) : State :=
  let s := s.modPhys p (fun k =>
    if k.fault.getLsbD 5 || k.fault.getLsbD 8 then k
    else { k with fault := (k.fault &&& 0xFFFFFFFF0000FFFF) ||| (w64 (pocketBank off) <<< 16) })
  s.coreFault p bit weight

/-- R55: a serving core is SUSPECT: its clock stops, its contexts are aborted, and the module drains. -/
def State.suspectCore (s : State) (p : Nat) : State :=
  let s := s.modPhys p (fun k => { k with health := .suspect, clockStopped := true })
  match s.serves p with
  | none => s
  | some c => (s.abortOver (fun k => k == c / 32) c).autoDrain

/-- R55: a serving core is declared dead. -/
def State.declareDead (s : State) (p bit : Nat) : State := (s.coreFault p bit 256).suspectCore p

/-- Contexts above a field are aborted, with the field's first core in the report. -/
def State.abortField (s : State) (f : Nat) : State :=
  s.abortOver (fun k => k / 16 == f) (512 * f)

end Sys2Proof.Machine
end

