-- ==== Sys2Proof/Machine/Operands.lean ====
section
/-! DEFINITION. Registers, instruction words, tile entries and element addresses of a core: every
operand form of chapters 3 and 6. -/

set_option linter.unusedVariables false

namespace Sys2Proof.Machine

open Sys2Proof

/-! ## Registers (R33, R64) -/

def Core.sreg (k : Core) (n : BitVec 5) : W64 := if n = 0 then 0 else tget 0 k.s n.toNat
/-- s0 ignores writes. -/
def Core.setS (k : Core) (n : BitVec 5) (v : W64) : Core :=
  if n = 0 then k else { k with s := tput 0 k.s n.toNat v }

def Core.vreg (k : Core) (n : BitVec 5) : Lanes := tget zeroLanes k.v n.toNat
def Core.setV (k : Core) (n : BitVec 5) (v : Lanes) (poison : Bool) : Core :=
  { k with
    v := tput zeroLanes k.v n.toNat v
    vpoison := if poison then k.vpoison ||| BitVec.twoPow 32 n.toNat
      else k.vpoison &&& ~~~(BitVec.twoPow 32 n.toNat) }
def Core.vpois (k : Core) (n : BitVec 5) : Bool := k.vpoison.getLsbD n.toNat

def Core.mreg (k : Core) (n : Nat) : W64 := tget allOnes64 k.m (n % 8)
def Core.setM (k : Core) (n : Nat) (v : W64) : Core := { k with m := tput allOnes64 k.m (n % 8) v }

def Core.acc (k : Core) (b : Bool) : Acc := if b then k.acc1 else k.acc0
def Core.setAcc (k : Core) (b : Bool) (a : Acc) : Core :=
  if b then { k with acc1 := a } else { k with acc0 := a }

/-- Row of an accumulator (R33). -/
def Acc.row (a : Acc) (r : Nat) : Lanes := Vector.ofFn (fun l => tget 0 a.elems (64 * r + l.val))

/-- The lanes that take part (R36). DEDUCED, log entry 10. -/
def Core.laneMask (k : Core) (a : CoreArgs) : W64 := if a.men then k.mreg a.msel.toNat else allOnes64

/-- A masked result: masked-off lanes keep the destination (R36). -/
def mergeLanes (mask : W64) (new old : Lanes) : Lanes :=
  Vector.ofFn (fun l => if mask.getLsbD l.val then new[l] else old[l])

def sext32 (i : W32) : W64 := i.signExtend 64

/-! ## Instruction words (R62, R63, R528) -/

/-- The word of an instruction. -/
def assemble (major : BitVec 6) (minor : BitVec 5) (a : CoreArgs) : W64 :=
  major ++ minor ++ a.rd ++ a.ra ++ a.rb ++ BitVec.ofBool a.men ++ a.msel ++ a.var ++ a.imm

/-- Which fields an instruction uses; a field it does not use must be 0 (R62). `rdMask`, `raMask`:
the field is a mask position. -/
structure Uses where
  rd : Bool := false
  ra : Bool := false
  rb : Bool := false
  men : Bool := false
  msel : Bool := false
  var : Bool := false
  imm : Bool := false
  rdMask : Bool := false
  raMask : Bool := false
  rbMask : Bool := false
  deriving DecidableEq, Repr

/-- R62: every unused field is 0. DESIGN CHOICE, log entry 14: bits of a used field that the instruction itself does not
use are ignored. -/
def Uses.legal (u : Uses) (a : CoreArgs) : Bool :=
  (u.rd || a.rd == 0) && (u.ra || a.ra == 0) && (u.rb || a.rb == 0) && (u.men || !a.men) &&
  (u.msel || a.men || a.msel == 0) && (u.var || a.var == 0) && (u.imm || a.imm == 0) &&
  (!u.rdMask || a.rd.toNat < 8) && (!u.raMask || a.ra.toNat < 8) && (!u.rbMask || a.rb.toNat < 8)

/-! ## Tile entries (R35, R41, R68, R74, R141, R142) -/

/-- R74: an entry that another context holds reads as EMPTY. -/
def Core.entryFor (k : Core) (x : CtxId) (n : Nat) : Entry :=
  let e := k.entry n
  if e.state != .empty && e.holder != x then {} else e

def Core.heldByOther (k : Core) (x : CtxId) (n : Nat) : Bool :=
  let e := k.entry n
  e.state != .empty && e.holder != x

def Entry.fmt (e : Entry) : Fmt := e.header.fmt.setWidth 4

/-- The tile is stored DENSE: its FMT flag, or a WRITABLE entry (R145). -/
def Entry.dense (e : Entry) : Bool := e.writable || e.header.fmt.getLsbD 4

/-- R142: where block b starts in stored bytes of a form. -/
def blockStart (f : Fmt) (dense : Bool) (bitmap : W64) (b : Nat) : Nat :=
  f.blockSize * (if dense then b else popcount (bitmap &&& (BitVec.ofNat 64 (2 ^ b - 1))))

/-- R96: where the scales of an MX tile start. -/
def scaleStart (f : Fmt) (dense : Bool) (bitmap : W64) : Nat :=
  f.blockSize * (if dense then 64 else popcount bitmap)

/-- The bit of element (r mod 8, c mod 8) within its block (R94, R141). -/
def elemBit (f : Fmt) (r c : Nat) : Nat := (8 * (r % 8) + c % 8) * f.elemBits

def blockOf (r c : Nat) : Nat := 8 * (r / 8) + c / 8

def tileByte (t : Table Byte) (n : Nat) : Byte := tget 0 t n

/-- `n` bits from bit `pos` of stored bytes that start at byte `base`, lowest bit first. -/
def readBits (t : Table Byte) (base pos n : Nat) : Nat :=
  let first := base + pos / 8
  let v := ofBytesLE ((List.range ((pos % 8 + n + 7) / 8)).map (fun i => tileByte t (first + i)))
  v / 2 ^ (pos % 8) % 2 ^ n

def writeBytes (t : Table Byte) (at_ : Nat) (bs : List Byte) : Table Byte :=
  bs.zipIdx.foldl (fun t b => tput 0 t (at_ + b.2) b.1) t

/-- Replaces `n` bits of stored bytes. -/
def writeBits (t : Table Byte) (base pos n v : Nat) : Table Byte :=
  let first := base + pos / 8
  let len := (pos % 8 + n + 7) / 8
  let old := ofBytesLE ((List.range len).map (fun i => tileByte t (first + i)))
  let mid := old / 2 ^ (pos % 8) % 2 ^ n
  let new := old - mid * 2 ^ (pos % 8) + (v % 2 ^ n) * 2 ^ (pos % 8)
  writeBytes t first (bytesLE len new)

/-- The code of element (r, c) of stored bytes; a block whose bit is clear reads as 0 in the PACKED
form, and in the DENSE form as well (R69). -/
def elemCode (f : Fmt) (dense : Bool) (bitmap : W64) (t : Table Byte) (r c : Nat) : Nat :=
  let b := blockOf r c
  if bitmap.getLsbD b then readBits t (blockStart f dense bitmap b) (elemBit f r c) f.elemBits else 0

/-- R96: the scale of row r, group c ÷ 32. -/
def scaleCode (f : Fmt) (dense : Bool) (bitmap : W64) (t : Table Byte) (r c : Nat) : Byte :=
  if f.isMx then tileByte t (scaleStart f dense bitmap + 2 * r + c / 32) else 0

def Entry.code (e : Entry) (r c : Nat) : Nat := elemCode e.fmt e.dense e.header.bitmap e.bytes r c
def Entry.scale (e : Entry) (r c : Nat) : Byte := scaleCode e.fmt e.dense e.header.bitmap e.bytes r c

/-- R145: the header of a WRITABLE tile. -/
def writableHeader (f : Fmt) (bitmap : W64) : TileHeader :=
  { bitmap := bitmap, fmt := f.setWidth 8 ||| 0x10, storedLen := BitVec.ofNat 16 f.denseLen, elemNz := 0xFFFF }

/-- The Pocket entry a draining stream reads at point i. -/
def StreamDesc.srcEntry (d : StreamDesc) (i : Nat) : Nat :=
  if d.isRaw || d.isIndex then d.src.toNat % 256 else (d.point i).1

/-- R83: an earlier stream of the core has not finished reading the entry. -/
def State.sourceBusy (s : State) (c : CoreId) (n : Nat) : Bool :=
  (s.clusterOf (c.val / 32)).streams.any (fun v => match v.2.stream with
    | some m => m.core == c && m.ended.isNone && m.desc.drainsPocket &&
        m.unfinished.any (fun i => m.desc.srcEntry i == n)
    | none => false)

/-- R83: what a write of an entry waits for: earlier streams and tile products that read it. -/
def State.writeBusy (s : State) (c : CoreId) (n : Nat) : Bool :=
  s.sourceBusy c n || (s.coreOf c.val).tmmSources.any (fun t => t.1 == n || t.2.1 == n)

/-- A POISONED entry that holds fewer bytes than its bitmap names (R149). -/
def Entry.short (e : Entry) : Bool :=
  decide (e.header.storedLen.toNat <
    e.fmt.blockSize * (if e.dense then 64 else popcount e.header.bitmap) + (if e.fmt.isMx then 128 else 0))

/-- An element code as a unit reads it; the bytes that a `short` entry lacks are free values. -/
def Entry.readCode (e : Entry) (fresh r c : Nat) : Nat :=
  if e.short then (Config.freeWord (fresh + 64 * r + c)).toNat % 2 ^ e.fmt.elemBits else e.code r c
def Entry.readScale (e : Entry) (fresh r c : Nat) : Byte :=
  if e.short then (Config.freeWord (fresh + 64 * r + c)).setWidth 8 else e.scale r c

/-- R202, R233: Pocket bytes charged to a context on a core. -/
def Core.pocketUsed (k : Core) (x : CtxId) : Nat :=
  k.owed.foldl (fun n o => if o.1 = x then n + o.2.2.2.2 else n)
    (k.tiles.foldl (fun n e => if e.2.holder = x then n + e.2.reserved else n) 0)

/-- The tile entry whose Pocket space holds a byte. -/
def Core.entryAt (k : Core) (off : Nat) : Option Nat :=
  (k.tiles.find? (fun e => decide (e.2.base ≤ off ∧ off < e.2.base + e.2.reserved))).map (·.1)

/-- The ranges of the Pocket that are reserved, base and length: those of the entries, and those that replies of
cancelled streams still hold (R233). -/
def Core.pocketHeld (k : Core) : List (Nat × Nat) :=
  k.tiles.map (fun e => (e.2.base, e.2.reserved)) ++ k.owed.map (fun o => (o.2.2.2.1, o.2.2.2.2))

/-- Pocket space at [base, base + len) is free of every reservation. -/
def Core.pocketFree (k : Core) (base len : Nat) : Bool :=
  decide (base + len ≤ 262144) &&
  k.pocketHeld.all (fun r => decide (r.1 + r.2 ≤ base ∨ base + len ≤ r.1))

/-- The lowest free place of `len` bytes: offset 0 or the end of a reservation (R74). -/
def Core.findPocket (k : Core) (len : Nat) : Option Nat :=
  let starts := 0 :: k.pocketHeld.map (fun r => r.1 + r.2)
  (starts.filter (fun b => k.pocketFree b len)).foldl
    (fun best b => match best with
      | none => some b
      | some c => some (Nat.min b c)) none

/-- R43: the context that used a byte of the Pocket last; none where nothing has been placed. -/
def Core.lastUser (k : Core) (off : Nat) : Option (Option CtxId) :=
  (k.space.find? (fun r => decide (r.1 ≤ off ∧ off < r.1 + r.2.1))).map (·.2.2)

/-- R43, R420, R479: every entry is EMPTY and the whole Pocket is zero. -/
def Core.zeroPocket (k : Core) : Core := { k with tiles := [], space := [(0, 262144, none)] }

/-- R43: a context takes a range of the Pocket. -/
def Core.claim (k : Core) (base len : Nat) (x : CtxId) : Core :=
  { k with space := (base, len, some x) ::
      k.space.filter (fun r => !decide (base ≤ r.1 ∧ r.1 + r.2.1 ≤ base + len)) }

/-- R201: the context's Pocket quota in bytes. -/
def State.pocketQuota (s : State) (x : CtxId) : Nat := (s.ctxOf x.val).pocketQuota * 8192

end Sys2Proof.Machine
end

