-- ==== Sys2Proof/Machine/TierOps.lean ====
section
/-! DEFINITION. The tiers: channels of a Hamper pair, what a tier counts when it answers, stored forms, the
moves and the writes of a home (R145 to R149, R193 to R196, R204, R206 to R210, R226, R468, R530). -/

set_option linter.unusedVariables false

namespace Sys2Proof.Machine

open Sys2Proof

/-! ## Hamper channels (R210, R468) -/

def channelPart (h p : Nat) : Part := { kind := 6, t0 := BitVec.ofNat 8 h, t1 := BitVec.ofNat 8 p }

def State.badChannel (s : State) (h p : Nat) : Bool := s.badParts.contains (channelPart h p)

/-- The logical position (pair, half) that physical channel p of stack h serves. -/
def State.channelServes (s : State) (h p : Nat) : Option (Nat × Nat) :=
  if s.badChannel h p then none
  else if p < 30 then some (p / 2, p % 2)
  else
    let bad := (List.range 30).filter (s.badChannel h)
    let spares := [30, 31].filter (fun q => !s.badChannel h q)
    (bad[spares.idxOf p]?).map (fun b => (b / 2, b % 2))

/-- The physical channel of a half of a pair. -/
def State.channelFor (s : State) (h pair half : Nat) : Option Nat :=
  (List.range 32).find? (fun p => s.channelServes h p == some (pair, half))

/-- R211: a pair that both its channels serve, of a stack in use. -/
def State.pairLive (s : State) (h pair : Nat) : Bool :=
  !(s.stackOf h).retired && (s.channelFor h pair 0).isSome && (s.channelFor h pair 1).isSome

/-- The channels of a pair that a finding implicates (R530); neither bit means both. -/
def State.implicated (s : State) (h pair : Nat) (marks : BitVec 2) : List Nat :=
  let all := (List.range 2).filterMap (fun i => (s.channelFor h pair i).map (fun p => (i, p)))
  (if marks = 0 then all else all.filter (fun e => marks.getLsbD e.1)).map (fun e => 32 * h + e.2)

/-- R212, R470, R530: an uncorrectable line attributed to a channel. -/
def State.channelUe (s : State) (p : Nat) : State :=
  s.modChannel p (fun c => { c with
    score := satAdd16 c.score 64, ueLines := satAdd16 c.ueLines 1,
    recentUe := s.time :: c.recentUe.filter (fun t => decide ((s.time - t).toNat ≤ ms 1000)) })

/-! ## Routers of homes (R6, R529) -/

/-- R6: the router position of a cluster, y·64 + x as DEST holds it. -/
def routerOf (k : Nat) : Nat :=
  (4 * (k / 160) + k % 16 / 4) * 64 + 4 * (k / 16 % 10) + k % 4

/-- R167: a router as DEST and SRC hold it. -/
def routerAddr (k : Nat) : BitVec 12 := BitVec.ofNat 12 (routerOf k)

/-- The position of a router as (x, y): of a cluster, and of an address. -/
def posOf (k : Nat) : Nat × Nat := (4 * (k / 16 % 10) + k % 4, 4 * (k / 160) + k % 16 / 4)
def posAddr (a : BitVec 12) : Nat × Nat := (a.toNat % 64, a.toNat / 64)

/-- R529: the edge router at distance d of a side. -/
def edgeRouter (side d : Nat) : Nat × Nat :=
  match side with
  | 0 => (d, 0)
  | 1 => (39, d)
  | 2 => (39 - d, 39)
  | _ => (0, 39 - d)

/-- R179: the router is removed or its field's mesh is off. -/
def State.routerDead (s : State) (k : Nat) : Bool :=
  s.routerRemoved k ||
    (match (s.fieldOf (k / 16)).state with
      | .dark | .retired | .off => true
      | _ => false)

/-- R529: the first live router of a stack's six, from that of the pair. -/
def State.pairRouter (s : State) (h pair : Nat) : Nat :=
  let at_ := fun i =>
    let p := edgeRouter (h / 6) (6 * (h % 6) + 2 + (pair % 6 + i) % 6)
    clusterAt p.1 p.2
  routerOf (at_ (((List.range 6).find? (fun i => !s.routerDead (at_ i))).getD 0))

/-- R529: the clusters whose routers carry the six Hamper ports of a stack. -/
def stackRouters (h : Nat) : List Nat :=
  (List.range 6).map (fun i =>
    let p := edgeRouter (h / 6) (6 * (h % 6) + 2 + i)
    clusterAt p.1 p.2)

/-- R529: some router of the stack's six is live; the stack answers no request otherwise. -/
def State.stackReached (s : State) (h : Nat) : Bool := (stackRouters h).any (fun k => !s.routerDead k)

/-- R529: the cluster of the edge router through which interface i places the tile of a record. -/
def brimRouter (i tile : Nat) : Nat :=
  let p := edgeRouter (i / 8) (4 * brimPlace i + tile % 4)
  clusterAt p.1 p.2

/-- The DEST of a RED packet for a tile with a home (R167, R529). -/
def State.homeRouter (s : State) (h : Home) : BitVec 12 :=
  BitVec.ofNat 12 (match h with
    | .pocket c _ => routerOf (c.val / 32)
    | .basket k => routerOf k.val
    | .hamper g q => s.pairRouter g.val q.val
    | .lost => 0)

/-! ## What a tier counts when it answers (R206, R208) -/

def State.countCorrected (s : State) (t : Tier) (marks : BitVec 2) (soft : Bool) (off : Nat) : State :=
  match t with
  | .home (.pocket c _) =>
    match s.servedBy c.val with
    | some p => s.pocketFault p 8 1 off
    | none => s
  | .home (.basket k) => s.scoreBasket k 1
  | .home (.hamper h q) =>
    (s.hamperBump h 3 1).each (s.implicated h.val q.val marks) (fun s p => s.scoreChannel p 1)
  | .press => s.pressBump (if soft then 1 else 0) 1
  | _ => s

/-- R208: the Press controller's score rises. The manual gives it no weight: it takes the Hamper controller's (DESIGN
CHOICE, log entry 82). -/
def State.scorePress (s : State) (n : Nat) : State :=
  { s with press := { s.press with score := satAdd16 s.press.score n } }

/-- R42: an uncorrectable word of a Pocket makes the entry that holds it POISONED. -/
def State.countUncorrectable (s : State) (t : Tier) (marks : BitVec 2) (off : Nat) : State :=
  match t with
  | .home (.pocket c _) =>
    match s.servedBy c.val with
    | some p =>
      let s := s.pocketFault p 5 64 off
      match (s.coreOf c.val).entryAt off with
      | some n => s.modEntry c.val n (fun e => { e with state := .poisoned })
      | none => s
    | none => s
  | .home (.basket k) => s.scoreBasket k 64
  | .home (.hamper h q) =>
    ((s.hamperBump h 4 1).scoreStack h 4).each (s.implicated h.val q.val marks) (fun s p => s.channelUe p)
  | .press => (s.pressBump 2 1).scorePress 4
  | _ => s

/-- R208: a request that passed its deadline, and a late reply, at the tier that owes it. -/
def State.countLate (s : State) (t : Tier) (deadline : Bool) : State :=
  match t with
  | .home (.hamper h _) =>
    let s := s.hamperBump h 5 1
    if deadline then s.scoreStack h 4 else s
  | .press =>
    let s := s.pressBump 3 1
    if deadline then s.scorePress 4 else s
  | _ => s

/-- Transfers outstanding toward a tier. -/
def State.tierLoad (s : State) (p : Tier → Bool) : Nat :=
  s.clusters.foldl (fun n e => n + (e.2.xfers.filter (fun x => match x.2.busy with
    | some b => p b.tier
    | none => false)).length) 0

def State.stackLoad (s : State) (h : Nat) : Nat :=
  s.tierLoad (fun t => match t with
    | .home (.hamper g _) => g.val == h
    | _ => false)

/-- Tiles of a fill or an installation that a port owes. -/
def Asks.owed (a : Asks) (u : UnitId) : Nat := (a.out.filter (fun e => e.2 == u)).length

/-- R225, R272, R296: tiles requested and gradient records outstanding at a server port. A gradient record waits in the
transfer slot that it took. -/
def State.portLoad (s : State) (u : UnitId) : Nat :=
  s.tierLoad (fun t => t == .port u) +
  s.ctxs.foldl (fun n e => n + (e.2.fills.map (fun f => f.asks.owed u)).sum) 0 +
  (match s.press.install with
    | some i => i.asks.owed u
    | none => 0)

/-- R225: the unit that serves a tier is below its depth. -/
def State.tierReady (s : State) (t : Tier) : Bool :=
  match t with
  | .home (.hamper h _) => decide (s.stackLoad h.val < 4096)
  | .port u => decide (s.portLoad u < 1024)
  | _ => true

/-! ## Stored forms (R142, R147 to R149) -/

def packedLen (f : Fmt) (bitmap : W64) : Nat :=
  f.blockSize * popcount bitmap + (if f.isMx then 128 else 0)

/-- R147: the header of a tile stored with a bitmap: DENSE with 64 set bits, otherwise PACKED. -/
def storedHeader (f : Fmt) (bitmap : W64) (nz : W16) : TileHeader :=
  { bitmap := bitmap, fmt := f.setWidth 8 ||| (if bitmap = allOnes64 then 0x10 else 0),
    storedLen := BitVec.ofNat 16 (packedLen f bitmap), elemNz := nz }

/-- The stored bytes of the blocks of a bitmap and the scales, read from bytes of a form. -/
def packBytes (f : Fmt) (dense : Bool) (held : W64) (bitmap : W64) (t : Table Byte) : Table Byte :=
  let blocks := ((List.range 64).filter (fun b => bitmap.getLsbD b)).flatMap (fun b =>
    (List.range f.blockSize).map (fun i => tileByte t (blockStart f dense held b + i)))
  let scales := if f.isMx then (List.range 128).map (fun i => tileByte t (scaleStart f dense held + i)) else []
  writeBytes [] 0 (blocks ++ scales)

/-- R149: the header checks of a receiver. -/
def headerSound (h : TileHeader) : Bool :=
  let f : Fmt := h.fmt.setWidth 4
  let dense := h.fmt.getLsbD 4
  let mangled := h.fmt.getLsbD 6
  f != 0xF && !(dense && mangled) && decide (h.storedLen.toNat ≤ f.denseLen) &&
  (mangled || h.storedLen.toNat == (if dense then f.denseLen else packedLen f h.bitmap))

/-- R148: the header and the bytes of a tile as it leaves its home: PACKED, or DENSE with 64 set bits. -/
def Tile.sent (t : Tile) : TileHeader × Table Byte :=
  let h := t.readHeader
  let f : Fmt := h.fmt.setWidth 4
  ({ storedHeader f h.bitmap h.elemNz with
      fmt := (storedHeader f h.bitmap h.elemNz).fmt ||| (h.fmt &&& 0x20) },
    if h.fmt.getLsbD 4 && h.bitmap != allOnes64 then packBytes f true h.bitmap h.bitmap t.bytes else t.bytes)

/-- R145: the bitmap of a WRITABLE entry without the blocks whose 64 elements all count as zero. -/
def Entry.trimmed (e : Entry) : W64 :=
  BitVec.ofNat 64 ((List.range 64).foldl (fun n b =>
    if e.header.bitmap.getLsbD b &&
      (List.range 64).any (fun i =>
        let r := 8 * (b / 8) + i / 8
        let c := 8 * (b % 8) + i % 8
        !e.fmt.countsZero (e.code r c) (e.scale r c))
    then n + 2 ^ b else n) 0)

/-- R145: non-zero elements in the blocks of a bitmap. -/
def Entry.countNz (e : Entry) (bitmap : W64) : Nat :=
  (List.range 4096).foldl (fun n i =>
    if bitmap.getLsbD (blockOf (i / 64) (i % 64)) &&
      !e.fmt.countsZero (e.code (i / 64) (i % 64)) (e.scale (i / 64) (i % 64)) then n + 1 else n) 0

/-- The tile of an entry as an engine moves it out: header, bytes, blocks trimmed (R145, R147). -/
def Entry.moved (e : Entry) : TileHeader × Table Byte × Nat :=
  let f := e.fmt
  if e.writable then
    let b := e.trimmed
    (storedHeader f b (BitVec.ofNat 16 (e.countNz b)), packBytes f true e.header.bitmap b e.bytes,
      popcount e.header.bitmap - popcount b)
  else (e.header, e.bytes, 0)

/-! ## Homes (R193 to R196, R204, R226, R246) -/

/-- R269: the MANGLED body that the module makes of a tile's PACKED bytes. -/
def mangledBody (f : Fmt) (bitmap : W64) (bytes : Table Byte) : List Byte :=
  Config.mangled f ((List.range (f.blockSize * popcount bitmap)).map (fun i => tileByte bytes i)) ++
  (if f.isMx then (List.range 128).map (fun i => tileByte bytes (scaleStart f false bitmap + i)) else [])

/-- R204: the Mangle form of a tile would be longer than its dense length. -/
def mangleTooLong (f : Fmt) (h : TileHeader) (bytes : Table Byte) : Bool :=
  decide (f.denseLen < (mangledBody f h.bitmap bytes).length)

/-- R142: a tile in the DENSE form from its PACKED form; a clear block holds zeros. -/
def denseForm (f : Fmt) (h : TileHeader) (bytes : Table Byte) : TileHeader × Table Byte :=
  let at_ := fun off n => (List.range n).map (fun i => tileByte bytes (off + i))
  ({ h with fmt := h.fmt ||| 0x10, storedLen := BitVec.ofNat 16 f.denseLen },
    writeBytes [] 0 ((List.range 64).flatMap (fun b =>
        if h.bitmap.getLsbD b then at_ (blockStart f false h.bitmap b) f.blockSize
        else List.replicate f.blockSize 0) ++
      (if f.isMx then at_ (scaleStart f false h.bitmap) 128 else [])))

/-- R147, R204: the form in which a home stores a tile, and whether the Mangle form was too long there. DEDUCED,
log entry 79: what a MANGLED tile stores is kept here in its PACKED form. -/
def State.homeForm (s : State) (t : Tile) (home : Home) (h : TileHeader) (bytes : Table Byte) :
    (TileHeader × Table Byte) × Bool :=
  match home with
  | .hamper _ _ =>
    if !s.mgmt.hostFunctions.getLsbD 5 && t.flags.getLsbD 4 && h.bitmap != allOnes64 &&
      mangleTooLong t.fmt h bytes then (denseForm t.fmt h bytes, true)
    else ((h, bytes), false)
  | _ => ((h, bytes), false)

/-- R219: a tile stored DENSE because its Mangle form was too long. -/
def State.countDense (s : State) (home : Home) (tooLong : Bool) : State :=
  match home with
  | .hamper g _ => if tooLong then s.hamperBump g 6 1 else s
  | _ => s

/-- R151, R204: the tile is held MANGLED at its home. -/
def Tile.mangled (t : Tile) : Bool :=
  match t.home with
  | .hamper _ _ => t.flags.getLsbD 4 && t.readHeader.bitmap != allOnes64 && !t.readHeader.fmt.getLsbD 4
  | _ => false

/-- R386: under host-assisted compression a tile is stored in the form in which it arrived. -/
def State.heldMangled (s : State) (t : Tile) : Bool :=
  if s.mgmt.hostFunctions.getLsbD 5 then
    t.mangledIn && (match t.home with
      | .hamper _ _ => true
      | _ => false)
  else t.mangled

/-- R204: the bytes that a tile stores at its home. -/
def State.bytesAtHome (s : State) (t : Tile) : List Byte :=
  if s.heldMangled t then mangledBody t.fmt t.readHeader.bitmap t.bytes
  else (List.range t.readHeader.storedLen.toNat).map (fun i => tileByte t.bytes i)

/-- R205: line l of a tile with its home in the Hamper, as its stack stores it: under the key pair of its context, with the
physical line number as the tweak. Log entry 80 for the place, and for the rest of a last line. -/
def State.hamperLine (s : State) (key l : Nat) : Option (List Byte) :=
  let t := s.tileOf key
  match t.home, (s.ctxOf (handleCtx (BitVec.ofNat 32 key))).xts with
  | .hamper g q, some n =>
    let b := s.bytesAtHome t
    some (Config.xts (Config.keyPair n) [g.val, q.val, t.line + l] ((List.range 256).map (fun i => b.getD (256 * l + i) 0)))
  | _, _ => none

/-- A tile is written whole at its home: content, poison, the step of its last completed write (R246). -/
def State.storeTile (s : State) (key : Nat) (step : W32) (h : TileHeader) (bytes : Table Byte)
    (poison : Bool) : State :=
  let t := s.tileOf key
  let f := s.homeForm t t.home h bytes
  let s := (s.putTile key { t with written := true, header := f.1.1, bytes := f.1.2, homePoisoned := poison,
                                   lastStep := some step, mangledIn := false }).countDense t.home f.2
  match t.home with
  | .pocket c e =>
    s.modEntry c e (fun x => { x with
      header := if poison then { h with fmt := h.fmt ||| 0x20 } else h, bytes := bytes,
      state := if poison then .poisoned else .resident, writable := false })
  | _ => s

/-- R194: the home changes as the last byte of the content that has arrived is written there; the old one is kept
for the reads issued against it. A Pocket entry that was the home becomes EMPTY (R76); a direct placement that is
left gives its charge back (R202). -/
def State.moveHome (s : State) (key : Nat) (new : Home) (h : TileHeader) (bytes : Table Byte) (poison : Bool) :
    State :=
  let t := s.tileOf key
  let f := s.homeForm t new { h with fmt := h.fmt &&& 0xDF } bytes
  let old : OldHome := { home := t.home, no := t.moves, reads := t.reads, written := t.written,
                         header := t.header, bytes := t.bytes, poisoned := t.homePoisoned }
  let s := (s.putTile key { t with
    home := new, moving := false, moves := t.moves + 1, reads := 0, directAt := none, reservedAt := none,
    oldHomes := t.oldHomes ++ [old],
    written := t.written || poison, header := f.1.1, bytes := f.1.2,
    homePoisoned := t.homePoisoned || poison }).countDense new f.2
  let s := match t.directAt with
    | some k => s.dischargeBasket k (key % 2 ^ 32 / 2 ^ 29) (Fmt.denseLen t.fmt)
    | none => s
  match t.home with
  | .pocket c e => if new = t.home then s else s.emptyEntry c e
  | _ => s

end Sys2Proof.Machine
end

