-- ==== Sys2Proof/Machine/FieldOps.lean ====
section
/-! DEFINITION. Fields as wholes: live routers and links, clusters cut off, regions that become STALE, a field
that goes DARK, is retired or fails its controller (R170, R171, R179, R180, R254, R255, R395, R426, R459). -/

set_option linter.unusedVariables false

namespace Sys2Proof.Machine

open Sys2Proof

/-! ## Boundary links (R170, R171) -/

inductive LinkWidth | full | half | off
  deriving DecidableEq, Repr

def boundaryWidth (bad : BitVec 68) : LinkWidth :=
  let n := popcount bad
  if n ≤ 4 then .full else if n ≤ 36 then .half else .off

/-- The bad groups of a boundary direction that fuses and the Patch table record (R467, KIND 5). -/
def State.recordedGroups (s : State) (f b : Nat) : BitVec 68 :=
  (s.badParts.filter (fun p => p.kind == 5 && p.t0.toNat == f && p.t1.toNat == b)).foldl
    (fun m p => m ||| BitVec.twoPow 68 p.t2.toNat) 0

def Field.boundary (f : Field) (b : Nat) : Boundary := tget {} f.boundaries b

/-- The link from field f to its east (side 0) or north (side 1) neighbour at index i carries traffic both
ways (DESIGN CHOICE, log entry 24 for which way north is). -/
def State.boundaryUp (s : State) (f side i : Nat) : Bool :=
  [0, 1].all (fun d => boundaryWidth ((s.fieldOf f).boundary (8 * side + 2 * i + d)).bad != .off)

/-! ## Reachable routers (R179) -/

/-- Cluster of a router position. -/
def atPos (x y : Nat) : Nat := clusterAt x y

/-- Routers next to (x, y) whose link carries traffic. -/
def State.neighbours (s : State) (x y : Nat) : List (Nat × Nat) :=
  let f := atPos x y / 16
  (if x + 1 < 40 ∧ (x % 4 ≠ 3 ∨ s.boundaryUp f 0 (y % 4) = true) then [(x + 1, y)] else []) ++
  (if 0 < x ∧ (x % 4 ≠ 0 ∨ s.boundaryUp (f - 1) 0 (y % 4) = true) then [(x - 1, y)] else []) ++
  (if y + 1 < 40 ∧ (y % 4 ≠ 3 ∨ s.boundaryUp f 1 (x % 4) = true) then [(x, y + 1)] else []) ++
  (if 0 < y ∧ (y % 4 ≠ 0 ∨ s.boundaryUp (f - 10) 1 (x % 4) = true) then [(x, y - 1)] else [])

/-- Routers reached in at most n hops over live routers. -/
def State.spread (s : State) : Nat → List (Nat × Nat) → List (Nat × Nat) → List (Nat × Nat)
  | 0, seen, _ => seen
  | n + 1, seen, front =>
    match front with
    | [] => seen
    | _ =>
      let next := ((front.flatMap (fun p => s.neighbours p.1 p.2)).filter (fun p =>
        !s.routerDead (atPos p.1 p.2) && !seen.contains p)).eraseDups
      s.spread n (seen ++ next) next

/-- The live routers of the serving management tile's field. -/
def State.managementRouters (s : State) : List (Nat × Nat) :=
  let base := if s.mgmt.standbyServes then 36 else 0
  ((List.range 16).map (fun i => (base + i % 4, base + i / 4))).filter (fun p =>
    !s.routerDead (atPos p.1 p.2))

def State.reachable (s : State) : List (Nat × Nat) :=
  s.spread 1600 s.managementRouters s.managementRouters

/-! ## Regions over lost hardware (R254, R255) -/

/-- Regions over clusters that satisfy p become STALE; their sequencers become IDLE (R250). -/
def State.staleRegions (s : State) (cause : StaleCause) (p : Nat → Bool) : State :=
  s.each (List.range 256) (fun s r =>
    let g := s.regionOf r
    if g.state != .unmapped && (rectClusters g.x0 g.y0 g.width g.height).any p then
      s.putRegion r { g with state := .stale, cause := cause, seq := .idle, outstanding := [] }
    else s)

/-! ## Packets that cannot go on (R180) -/

/-- The router where a packet is: before it enters its source router, that one. -/
def Flight.router (f : Flight) : Nat :=
  match f.here with
  | some k => k.val
  | none => clusterAt (posAddr f.packet.src).1 (posAddr f.packet.src).2

/-- R180 step 4: the packets addressed to removed routers are discarded where they are. -/
def State.dropAddressed (s : State) : State :=
  let gone := fun f : Flight => s.routerDead (clusterAt (posAddr f.packet.dest).1 (posAddr f.packet.dest).2)
  let s' := s.each (s.mesh.filter gone) (fun s f => s.routerBump f.router 6 1)
  { s' with mesh := s'.mesh.filter (fun f => !gone f) }

/-- R180 step 3: the contexts of the packets in the routers of the clusters that satisfy p, and in their Tubs. -/
def State.stranded (s : State) (p : Nat → Bool) : List CtxId :=
  (s.mesh.filter (fun f => p f.router)).map (·.packet.ctx) ++
    (s.clusters.filter (fun c => p c.1)).flatMap (fun c => c.2.tubs.filterMap (fun t => t.2.map (·.key.ctx)))

/-- The MMP's own ROUTE_DROP count, to which the manual gives no offset (DESIGN CHOICE, log entry 25). -/
def mmpRouteDrop : Nat := 0x31030

/-- R180 step 3: the clusters that satisfy p stop routing: the packets still inside, and those of `inside`, are counted in
the MMP's ROUTE_DROP, and their contexts are aborted with a FAULT. DEDUCED, log entry 57. -/
def State.strand (s : State) (p : Nat → Bool) (src : Source) (core : Nat) (inside : List CtxId) : State :=
  let lost := s.stranded p ++ inside
  let s := { s with
    mesh := s.mesh.filter (fun f => !p f.router),
    clusters := tmap {} (fun k c => if p k then { c with tubs := [] } else c) s.clusters }
  let s := if lost = [] then s else s.bump 0 mmpRouteDrop lost.length
  s.each lost.eraseDups (fun s x =>
    (s.raise .fault 180 0 src (some x.val) [w64 x.val]).abortContext x (bytesLE 4 0xFFFFFFFF ++ bytesLE 4 core))

/-- R189: the field of the root of the Line tree. -/
def lineRoot : Nat := 44

/-- R189: the Line node of a field stops: the groups of which it held a count are broken, and their contexts are aborted.
The root keeps the total of every group (R185); another node holds the counts on their way that `counts` names. DEDUCED,
log entry 57. -/
def State.breakGroups (s : State) (f : Nat) (counts : List GroupId) : State :=
  let broken := tkeys (fun g : Peg => g.configured && g.total != 0) s.pegs
  let broken := broken.filter (fun g => f == lineRoot || counts.any (fun c => c.val == g))
  s.each (broken.map (fun g => (s.pegOf g).ctx)).eraseDups (fun s x =>
    s.abortContext x (bytesLE 4 0xFFFFFFFF ++ bytesLE 4 (512 * f)))

/-- R179: detours are computed; live clusters that the change cuts off leave the geometry, and the contexts
above them are aborted. -/
def State.detourUpdate (s : State) : State :=
  let seen := s.reachable
  let cut := (List.range 1600).filter (fun k =>
    !s.routerDead k && !seen.contains (posOf k))
  let s := if cut = [] then s
    else
      let s := (s.abortOver (fun k => cut.contains k) (32 * cut.headD 0)).staleRegions .cutoff
        (fun k => cut.contains k)
      { s with darn := { s.darn with removedRouters := s.darn.removedRouters ++ cut } }
  s.dropAddressed

/-- R179: clusters cut off earlier come back when the module is mapped again and they are reachable. -/
def State.readmit (s : State) : State :=
  let seen := ({ s with darn := { s.darn with removedRouters := [] } }).reachable
  { s with darn := { s.darn with removedRouters := s.darn.removedRouters.filter (fun k =>
      !seen.contains (posOf k)) } }

/-! ## Fields that stop -/

/-- R255: the Pockets and Baskets of clusters that satisfy p lose their content: entries become EMPTY, and the
tiles that had their homes there are POISONED. -/
def State.losePlaces (s : State) (p : Nat → Bool) : State :=
  let gone := fun t : Tile => match t.home with
    | .pocket c _ => p (c.val / 32)
    | .basket k => p k.val
    | _ => false
  let mark := fun t : Tile => match t.home with
    | .pocket _ _ => { t with home := t.declHome, bytes := [], homePoisoned := true }
    | _ => { t with bytes := [], homePoisoned := true }
  let s := { s with tiles := tmap {} (fun _ t => if gone t then mark t else t) s.tiles }
  { s with cores := tmap {} (fun c k => if p (c / 32) then { k with tiles := [] } else k) s.cores }

/-- R427: the Thread nodes of a field's clusters stop, in RETIRED and OFF the field controller with its queue as well
(`all`). -/
def State.stopThread (s : State) (f : Nat) (all : Bool) : State :=
  let s := s.each (List.range 16) (fun s i => s.putThreadNode (clusterNode (16 * f + i)) {})
  if all then
    let s := s.putThreadNode (fcNode f) {}
    { s with thread := { s.thread with queues := tput {} s.thread.queues f {} } }
  else s

/-- R180, R189, R255, R398, R426, R427: a field stops carrying work. -/
def State.stopField (s : State) (f : Nat) (st : FieldState) (cause : StaleCause) (lost : FieldLoss) : State :=
  let s := (s.abortField f).modField f (fun v => { v with
    state := st, osc := .free, arithGated := true, meshGated := true, slice := none,
    darkCount := if st = .dark then satAdd16 v.darkCount 1 else v.darkCount })
  let s := (s.staleRegions cause (fun k => k / 16 == f)).losePlaces (fun k => k / 16 == f)
  (((s.strand (fun k => k / 16 == f) (srcField f) (512 * f) lost.inside).breakGroups f lost.counts).detourUpdate).stopThread
    f (st != .dark)

/-- R180: a field goes DARK. -/
def State.goDark (s : State) (f : Nat) (lost : FieldLoss) : State :=
  (s.threadPass (fcNode f) (mmpNode s.mgmt.standbyServes) (.dark f)).stopField f .dark .dark lost

/-- R466, R468: a repair is recorded; a full table keeps it only until the next bring-up, with an ALARM. -/
def State.record (s : State) (p : Part) (host : Bool) (score : W16) : State :=
  if s.badParts.contains p then s
  else if s.darn.patch.length < 16384 then
    { s with darn := { s.darn with patch := s.darn.patch ++
      [{ part := p, host := host, session := s.mgmt.bringups, score := score }] } }
  else
    ({ s with darn := { s.darn with unrecorded := s.darn.unrecorded ++ [p], patchFull := true } }).raise .alarm
      468 0 srcModule none [w64 p.kind.toNat, w64 p.t0.toNat, w64 p.t1.toNat, w64 p.t2.toNat, w64 p.t3.toNat]

/-- R398, R473: a field is RETIRED by a soft Patch entry. -/
def State.retireField (s : State) (f : Nat) : State :=
  (s.stopField f .retired .retired {}).record { kind := 3, t0 := BitVec.ofNat 8 f } false 0

/-- R437: the reset of a field: its cores, Tubs, trees, prediction tables, sequencer instances and samplers. Its tiles
are lost where it stops, and its streams end with the aborts of R29. DEDUCED, log entry 72. -/
def State.resetField (s : State) (f : Nat) : State :=
  let s := { s with
    cores := tmap {} (fun c k => if c / 512 = f then {} else k) s.cores,
    clusters := tmap {} (fun k c => if k / 16 = f then { c with
      predict := [], tree := none, tubs := [], seqs := [], sampler := { mainOk := c.sampler.mainOk } } else c)
      s.clusters }
  s.each (List.range 576) (fun s n => s.startBeats (576 * f + n))

/-- R395: the field's controller has failed: DARK, reload, TEST; the second failure within 24 hours retires
the field. -/
def State.controllerFails (s : State) (f : Nat) (lost : FieldLoss) : State :=
  let v := s.fieldOf f
  let s := s.stopThread f true
  let s := if v.state = .online ∨ v.state = .throttled then s.goDark f lost else s
  let recent := v.fcFailures.filter (fun t => decide ((s.time - t).toNat ≤ ms 86400000))
  if recent ≠ [] then
    s.retireField f |>.raise .alarm 472 1 (srcField f) none [w64 f]
  else
    (s.resetField f).modField f (fun v => { v with
      state := .test, fcOk := true, closedCrossings := [], fcFailures := [s.time] })

end Sys2Proof.Machine
end

