-- ==== Sys2Proof/Machine/Index.lean ====
section
/-! DEFINITION. Index streams: records, the merge unit, the bundle cutter and the sort-and-merge tree
(R157 to R165). -/

set_option linter.unusedVariables false

namespace Sys2Proof.Machine

open Sys2Proof

/-- An entry of an index stream; `key` orders by (ROW, SEGMENT, INDEX). -/
structure IndexEntry where
  row : Nat
  seg : Nat
  idx : Nat
  fmt : Fmt
  code : Nat
  poison : Bool
  deriving DecidableEq, Repr

def IndexEntry.key (e : IndexEntry) : Nat := e.row * 2 ^ 32 + e.seg * 2 ^ 16 + e.idx

/-- R157: value formats of an index stream. -/
def indexFmt (f : Nat) : Bool := f ≤ 5 || f == 0xD || f == 0xE

/-- Bytes of a value. -/
def valueBytes (f : Fmt) : Nat := f.elemBits / 8

def pad32 (n : Nat) : Nat := (n + 31) / 32 * 32

/-- R157, R158: the header of the record at the front of the bytes, or none where it breaks the layout:
its COUNT, format and length. -/
def recordHead (b : List Byte) : Option (Nat × Fmt × Nat) :=
  let at_ := fun off n => ofBytesLE ((b.drop off).take n)
  let count := at_ 6 2
  let f := at_ 8 1
  let fmt : Fmt := BitVec.ofNat 4 f
  let len := 16 + pad32 (2 * count) + pad32 (count * valueBytes fmt)
  if b.length < len ∨ count = 0 ∨ 4096 < count ∨ f ≥ 16 ∨ !indexFmt f ∨ at_ 9 1 ≥ 4 ∨ at_ 10 4 ≠ 0 ∨
    at_ 14 2 ≠ (crc16 (b.take 14)).toNat then none
  else some (count, fmt, len)

/-- The entries of a record. -/
def recordEntries (b : List Byte) (count : Nat) (fmt : Fmt) : List IndexEntry :=
  let at_ := fun off n => ofBytesLE ((b.drop off).take n)
  let e := valueBytes fmt
  (List.range count).map (fun i =>
    { row := at_ 0 4, seg := at_ 4 2, idx := at_ (16 + 2 * i) 2, fmt := fmt,
      code := at_ (16 + pad32 (2 * count) + e * i) e, poison := (at_ 9 1) % 2 == 1 })

/-- What is checked between the entries of an index stream (R158, R159, R161): nothing in a batch for the tree,
ascending keys in a CUT's source, and one row as well in an input of a MERGE. DEDUCED, log entry 22. -/
inductive IndexOrder | any | ascending | oneRow
  deriving DecidableEq, Repr

/-- R158: an entry may follow one with key `last`. -/
def IndexOrder.follows (o : IndexOrder) (last : Nat) (e : IndexEntry) : Bool :=
  match o with
  | .any => true
  | .ascending => decide (last < e.key)
  | .oneRow => decide (last < e.key) && e.row == last / 2 ^ 32

/-- The entries up to the first that may not follow the one before it, and whether there is such a one. -/
def takeOrdered (o : IndexOrder) : Option Nat → List IndexEntry → List IndexEntry × Bool
  | _, [] => ([], false)
  | last, e :: r =>
    if last.all (fun k => o.follows k e) then
      let t := takeOrdered o (some e.key) r
      (e :: t.1, t.2)
    else ([], true)

/-- The entries of the stream up to the first violation, and the offset of the record that holds it. -/
def parseIndex (o : IndexOrder) : Nat → Nat → Option Nat → List Byte → List IndexEntry × Option Nat
  | 0, off, _, _ => ([], some off)
  | n + 1, off, last, b =>
    if b = [] then ([], none)
    else
      match recordHead b with
      | none => ([], some off)
      | some (count, fmt, len) =>
        let r := takeOrdered o last (recordEntries b count fmt)
        if r.2 then (r.1, some off)
        else
          let t := parseIndex o n (off + len) (r.1.getLast?.map (·.key)) (b.drop len)
          (r.1 ++ t.1, t.2)

/-- R157, R158: the entries of a byte range that starts at an offset of its tile; records start on 16-byte
boundaries. -/
def readIndex (o : IndexOrder) (start : Nat) (b : List Byte) : List IndexEntry × Option Nat :=
  if start % 16 = 0 then parseIndex o (b.length + 1) 0 none b else ([], some 0)

/-- A record of entries of one row, segment and format. -/
def buildRecord (partialRun : Bool) (es : List IndexEntry) : List Byte :=
  match es with
  | [] => []
  | e :: _ =>
    let v := valueBytes e.fmt
    let head := bytesLE 4 e.row ++ bytesLE 2 e.seg ++ bytesLE 2 es.length ++
      bytesLE 1 e.fmt.toNat ++
      bytesLE 1 ((if es.any (·.poison) then 1 else 0) + (if partialRun then 2 else 0)) ++ bytesLE 4 0
    let fill := fun n => List.replicate (pad32 n - n) (0 : Byte)
    head ++ bytesLE 2 (crc16 head).toNat ++
      es.flatMap (fun e => bytesLE 2 e.idx) ++ fill (2 * es.length) ++
      es.flatMap (fun e => bytesLE v e.code) ++ fill (v * es.length)

/-- R164: a new record begins wherever ROW, SEGMENT or the format changes, or after 4,096 entries. -/
def groupEntries (es : List IndexEntry) : List (List IndexEntry) :=
  es.foldr (fun e acc => match acc with
    | (f :: g) :: r =>
      if e.row = f.row ∧ e.seg = f.seg ∧ e.fmt = f.fmt ∧ g.length < 4095 then (e :: f :: g) :: r
      else [e] :: (f :: g) :: r
    | _ => [[e]]) []

def buildStream (partialRun : Bool) (es : List IndexEntry) : List Byte :=
  (groupEntries es).flatMap (buildRecord partialRun)

/-! ## Merge (R159) -/

/-- The format of the values that a side supplies. -/
def sideFmt (es : List IndexEntry) : Fmt := (es.head?.map (·.fmt)).getD 0

/-- The aligned pairs of two inputs of one row each, in key order (SEGMENT, INDEX). An input that ends in a violation
(`stopA`, `stopB`) stops the merge where its next entry is needed (R158); the answer says whether one did. The row of
entries that A lacks is `row`. -/
def mergeSides (union : Bool) (row : Nat) (fa fb : Fmt) (stopA stopB : Bool) :
    Nat → List IndexEntry → List IndexEntry → List (IndexEntry × IndexEntry)
  | 0, _, _ => []
  | n + 1, as_, bs =>
    let zero := fun (e : IndexEntry) (f : Fmt) => { e with row := row, fmt := f, code := 0, poison := false }
    let own := fun (e : IndexEntry) => { e with row := row }
    let rest := mergeSides union row fa fb stopA stopB n
    match as_, bs with
    | [], [] => []
    | a :: r, [] => if union && !stopB then (own a, zero a fb) :: rest r [] else []
    | [], b :: q => if union && !stopA then (zero b fa, own b) :: rest [] q else []
    | a :: r, b :: q =>
      let ka := a.seg * 65536 + a.idx
      let kb := b.seg * 65536 + b.idx
      if ka = kb then (own a, own b) :: rest r q
      else if ka < kb then
        (if union then (own a, zero a fb) :: rest r (b :: q) else rest r (b :: q))
      else
        (if union then (zero b fa, own b) :: rest (a :: r) q else rest (a :: r) q)

/-- An element in its place in a sorted list, after those of its key. -/
def insertKey {α : Type} (key : α → Nat) (x : α) : List α → List α
  | [] => [x]
  | y :: r => if key x < key y then x :: y :: r else y :: insertKey key x r

/-- Sorted by a key; elements of one key keep their order. -/
def sortKey {α : Type} (key : α → Nat) (l : List α) : List α := l.foldl (fun acc x => insertKey key x acc) []

/-- A range of a tile's stored bytes. -/
def Tile.range (t : Tile) (off len : Nat) : List Byte := (List.range len).map (fun i => tileByte t.bytes (off + i))

/-- Bytes written raw into the tile of a handle, at its home (R221): its header stays. -/
def State.writeRaw (s : State) (key : Nat) (off : Nat) (bs : List Byte) : State :=
  let t := s.tileOf key
  let b := writeBytes t.bytes off bs
  let s := s.putTile key { t with bytes := b }
  match t.home with
  | .pocket c e => s.modEntry c e (fun x => { x with bytes := writeBytes x.bytes off bs })
  | _ => s

/-- R157, R158: the violation is counted; the FAULT names the stream, its input (0 A, 1 B) and the offset of the
offending record in that input's range. -/
def State.indexFault (s : State) (k : ClusterId) (n : Nat) (m : Stream) (input at_ : Nat) : State :=
  (s.sparsityBump k 7 1).raise .fault 158 0 (srcCluster k) (some m.ctx.val)
    [w64 k.val, w64 n, w64 input, w64 at_]

/-- R227: the status with which a stream ends on its own. -/
def Stream.endStatus (m : Stream) : Byte :=
  if m.timedOut then stTIMEOUT else if m.poisoned then stPOISONED else stOK

/-- A completed raw write of a tile in the context's step. -/
def State.touchTile (s : State) (m : Stream) (key : Nat) (poison : Bool) : State :=
  let step := (s.ctxOf m.ctx.val).step
  let s := s.modTile key (fun t => { t with lastStep := some step })
  if poison then s.poisonTile key else s

/-- The tile of a handle as the transfer reads it (R194). -/
def State.tileFor (s : State) (reads : List (Nat × Nat)) (key : Nat) : Tile :=
  let t := s.tileOf key
  match reads.find? (fun r => r.1 == key) with
  | some r => t.asOf r.2
  | none => t

/-- R158: the inputs that hold a violation, numbered 0 and 1, with its offset. -/
def violations (a b : Option Nat) : List (Nat × Nat) :=
  (a.map (fun off => (0, off))).toList ++ (b.map (fun off => (1, off))).toList

/-- MERGE (R159, R221). DESIGN CHOICE, log entry 22: A' and B' carry the ROW of B where A has no entry. -/
def State.doMerge (s : State) (k : ClusterId) (n : Nat) (m : Stream) (reads : List (Nat × Nat)) (poison : Bool) :
    State :=
  let d := m.desc
  let tile := fun h : W32 => s.tileFor reads (s.tileKeyIn h m.slotB)
  let hb := d.srcStrides.getD 1 0
  let hb' := d.srcStrides.getD 2 0
  let offB := (d.dstStrides.getD 1 0).toNat
  let a := readIndex .oneRow d.srcOffset.toNat
    ((tile d.src).range d.srcOffset.toNat (d.counts.getD 0 0).toNat)
  let b := readIndex .oneRow offB ((tile hb).range offB (d.counts.getD 1 0).toNat)
  let row := (a.1.head?.map (·.row)).getD ((b.1.head?.map (·.row)).getD 0)
  let pairs := mergeSides (d.flags.getLsbD 5) row (sideFmt a.1) (sideFmt b.1) a.2.isSome b.2.isSome
    (a.1.length + b.1.length) a.1 b.1
  let room := (d.counts.getD 2 0).toNat
  let outA := buildStream false (pairs.map (·.1))
  let outB := buildStream false (pairs.map (·.2))
  let poison := poison || (tile d.src).homePoisoned || (tile hb).homePoisoned
  let ka := s.tileKeyIn d.dst m.slotB
  let kb := s.tileKeyIn hb' m.slotB
  let s := s.writeRaw ka d.dstOffset.toNat (outA.take room)
  let s := s.writeRaw kb (d.dstStrides.getD 2 0).toNat (outB.take room)
  match violations a.2 b.2 with
  | v :: _ => (s.indexFault k n m v.1 v.2).endStream k n stBAD_ARG
  | [] =>
    if room < outA.length ∨ room < outB.length then s.endStream k n stBAD_ARG
    else
      let s := (s.touchTile m ka poison).touchTile m kb poison
      let s := if poison then s.engineBump k 3 2 else s
      s.endStream k n (if m.timedOut then stTIMEOUT else if poison then stPOISONED else stOK)

/-! ## Cut (R164, R248) -/

/-- CUT (R158, R164, R221, R248): each transfer of the stream writes its next bundle, which waits at the region for
the TILENEXT that takes it. A violation ends the stream before the bundle that it would lie in. DEDUCED, log
entry 22. -/
def State.doCut (s : State) (k : ClusterId) (n : Nat) (m : Stream) (reads : List (Nat × Nat)) (poison : Bool) :
    State :=
  let d := m.desc
  let t := s.tileFor reads (s.tileKeyIn d.src m.slotB)
  let a := readIndex .ascending d.srcOffset.toNat (t.range d.srcOffset.toNat (d.counts.getD 0 0).toNat)
  let i := m.doneCount
  let poison := poison || t.homePoisoned
  let left := a.1.drop (i * d.bundle)
  let b := buildStream false (left.take d.bundle)
  let more := decide (d.bundle < left.length)
  if left = [] ∨ (a.2.isSome = true ∧ left.length < d.bundle) then
    match a.2 with
    | some off => (s.indexFault k n m 0 off).endStream k n stBAD_ARG
    | none =>
      (s.modRegion m.region (fun g => { g with cutCount := some (BitVec.ofNat 32 i) })).endStream k n m.endStatus
  else if (d.counts.getD 1 0).toNat < b.length then s.endStream k n stBAD_ARG
  else
    let s := s.modRegion m.region (fun g => { g with
      cut := g.cut.take i ++ [(b, poison)], cutEntry := d.dst.toNat % 256 })
    let s := if d.pegTile then s.postPegs d.peg.val m.ctx.val k 1 else s
    let s := if poison then s.engineBump k 3 1 else s
    let s := s.modStream k n (fun m => { m with
      doneCount := i + 1, poisoned := m.poisoned || poison, next := 0, live := [] })
    if more || a.2.isSome then s
    else
      let s := s.modRegion m.region (fun g => { g with cutCount := some (BitVec.ofNat 32 (i + 1)) })
      s.endStream k n ({ m with poisoned := m.poisoned || poison } : Stream).endStatus

/-! ## The sort-and-merge tree (R161 to R163) -/

/-- The value of an entry (R92, R161). -/
def IndexEntry.value (x : IndexEntry) : FVal :=
  if x.fmt.isInt || x.fmt == 0xD then .ofInt ((BitVec.ofNat x.fmt.elemBits x.code).toInt) 0
  else x.fmt.elemVal x.code

/-- The sum-form code that an entry brings to a pass (R108, R161): an FW64 value in an FP32 pass is a free value, and
an integer that FP32 cannot hold is rounded RNE there (DESIGN CHOICE, log entry 23). -/
def treeCode (fw : Bool) (e : Int) (x : IndexEntry) (free : W64) : W64 :=
  if fw then (if x.fmt = 0xE then BitVec.ofNat 64 x.code else (fwOfVal x.value e).1)
  else if x.fmt = 0xE then (free.setWidth 32).setWidth 64
  else (roundFp32 x.value).1.setWidth 64

def treeAdd (fw : Bool) (a b : W64) : W64 :=
  if fw then (fwAdd a b).1 else ((add32 (a.setWidth 32) (b.setWidth 32)).1).setWidth 64

abbrev TreeKey := W32 × W16 × W16

/-- Adds one value to a pass; the 16,385th key empties it first, and what it held is a run. -/
def TreePass.take (p : TreePass) (key : TreeKey) (v : W64) (poison : Bool) : TreePass × Bool :=
  if p.entries.any (fun e => e.1 == key) then
    ({ p with entries := p.entries.map (fun e =>
        if e.1 = key then (key, treeAdd p.fw64 e.2.1 v, e.2.2 || poison) else e) }, false)
  else if p.entries.length = 16384 then
    ({ p with entries := [(key, v, poison)], runs := p.runs + 1 }, true)
  else ({ p with entries := p.entries ++ [(key, v, poison)] }, false)

/-- R161, R202: no operation of the manual opens a pass: the first TREE_SEND with none open opens it, in the
context's sum form, with a free window exponent (DEDUCED, log entry 23). -/
def State.openTree (s : State) (k : ClusterId) (x : CtxId) : Option State :=
  match (s.clusterOf k).tree with
  | some t => some s
  | none =>
    let c := s.ctxOf x.val
    if c.basketQuota * 65536 < tget 0 (s.clusterOf k).basketUsed x.val + treePassBytes then none
    else
      some ((s.useFree.chargeBasket k x.val treePassBytes).modCluster k (fun q =>
        { q with tree := some { ctx := x, fw64 := !c.sumFp32, wexp := s.freeValue.setWidth 16 } }))

def TreeKey.nat (k : TreeKey) : Nat := k.1.toNat * 2 ^ 32 + k.2.1.toNat * 2 ^ 16 + k.2.2.toNat

/-- R162: what a pass holds as the records of a run, sorted. -/
def TreePass.records (p : TreePass) (partialRun : Bool) : List Byte :=
  buildStream partialRun ((sortKey (fun e => TreeKey.nat e.1) p.entries).map (fun e =>
    { row := e.1.1.toNat, seg := e.1.2.1.toNat, idx := e.1.2.2.toNat, fmt := if p.fw64 then 0xE else 0x0,
      code := e.2.1.toNat, poison := e.2.2 }))

/-- A run is written. The manual names no place for it: it is kept here (DESIGN CHOICE, log entry 23). -/
def State.putRun (s : State) (k : ClusterId) (p : TreePass) (r : TreeRun) : State :=
  (s.modCluster k (fun q => { q with treeRuns := q.treeRuns ++ [r] })).sparsityBump k 6 (if p.runs = 0 then 0 else 1)

/-- One entry enters the open pass. -/
def State.treeTake (s : State) (k : ClusterId) (e : IndexEntry) : State :=
  match (s.clusterOf k).tree with
  | none => s
  | some p =>
    let v := treeCode p.fw64 p.wexp.toInt e s.freeValue
    let s := if !p.fw64 && e.fmt == 0xE then s.useFree else s
    let r := p.take (BitVec.ofNat 32 e.row, BitVec.ofNat 16 e.seg, BitVec.ofNat 16 e.idx) v e.poison
    let s := s.modCluster k (fun q => { q with tree := some r.1 })
    if r.2 then s.putRun k p { ctx := p.ctx, records := p.records true } else s

/-- R162: the program closes the pass: the final run, the number of runs, and the Basket space given back. -/
def State.closeTree (s : State) (k : ClusterId) : State :=
  match (s.clusterOf k).tree with
  | none => s
  | some p =>
    ((s.putRun k p { ctx := p.ctx, records := p.records (p.runs != 0), last := some (p.runs + 1) }).modCluster k
      (fun q => { q with tree := none })).dischargeBasket k p.ctx.val treePassBytes

/-- R161: the batches of up to 64 entries, each sorted by its leaf. -/
def treeBatches : Nat → List IndexEntry → List IndexEntry
  | 0, _ => []
  | n + 1, es =>
    if es = [] then []
    else sortKey (·.key) (es.take 64) ++ treeBatches n (es.drop 64)

/-- TREE_SEND (R161, R162, R221). DESIGN CHOICE, log entry 23: one that sends no byte closes the pass. -/
def State.doTreeSend (s : State) (k : ClusterId) (n : Nat) (m : Stream) (poison : Bool) : State :=
  let d := m.desc
  let status := if m.timedOut then stTIMEOUT else stOK
  if d.counts.getD 0 0 = 0 then (s.closeTree k).endStream k n status
  else
    match s.openTree k m.ctx with
    | none => s.endStream k n stNO_QUOTA
    | some s =>
      let e := (s.coreOf m.core.val).entry (d.src.toNat % 256)
      let a := readIndex .any 0 ((List.range (d.counts.getD 0 0).toNat).map (fun i => tileByte e.bytes i))
      let poison := poison || e.state == .poisoned
      let s := s.each (treeBatches (a.1.length + 1) a.1) (fun s x => s.treeTake k { x with poison := x.poison || poison })
      match a.2 with
      | some off => (s.indexFault k n m 0 off).endStream k n stBAD_ARG
      | none => s.endStream k n status

/-- R161: a pass of another context holds the cluster's tree. -/
def State.treeTaken (s : State) (k : ClusterId) (x : CtxId) : Bool :=
  match (s.clusterOf k).tree with
  | some t => t.ctx != x
  | none => false

/-- An index operation at the arrival of its bytes. -/
def State.doIndex (s : State) (k : ClusterId) (n : Nat) (m : Stream) (reads : List (Nat × Nat)) (poison : Bool) :
    State :=
  if m.desc.op = 0x20 then s.doMerge k n m reads poison
  else if m.desc.op = 0x21 then s.doCut k n m reads poison
  else s.doTreeSend k n m poison

end Sys2Proof.Machine
end

