-- ==== Sys2Proof/Machine/Place.lean ====
section
/-! DEFINITION. The end of a stream's point, the checks of a weight record, the placement of a weight tile,
and the fills of bindings (R218, R227, R228, R231, R263, R264, R266 to R269, R278 to R283). -/

set_option linter.unusedVariables false

namespace Sys2Proof.Machine

open Sys2Proof

/-! ## Points that end (R227, R228, R231) -/

/-- Every point has completed. -/
def Stream.allDone (m : Stream) : Bool := decide (m.desc.points ≤ m.next) && m.live.isEmpty

/-- Point p of a stream has completed; `tile` where it completes a destination tile. -/
def State.pointEnds (s : State) (k : ClusterId) (n : Nat) (idx : Nat) (poison tile : Bool) : State :=
  match (s.slotAt k n).stream with
  | none => s
  | some m =>
    let s := s.modStream k n (fun m => { m with
      live := m.live.filter (fun p => p.idx != idx), doneCount := m.doneCount + 1,
      poisoned := m.poisoned || poison })
    let s := if poison && tile then s.engineBump k 3 1 else s
    let s := if tile && m.desc.pegTile then s.postPegs m.desc.peg.val m.ctx.val k 1 else s
    match (s.slotAt k n).stream with
    | none => s
    | some m => if m.allDone then s.endStream k n m.endStatus else s

/-- R208: a point of the stream missed its deadline. -/
def State.markTimeout (s : State) (k : ClusterId) (n : Nat) : State :=
  s.modStream k n (fun m => { m with timedOut := true })

/-! ## Mangle (R269) -/

/-- The tokens of a segment: the bytes they produce within `len`, or none for an error. -/
def mangleTokens : Nat → Nat → List Byte → List Byte → Option (List Byte)
  | 0, _, _, _ => none
  | f + 1, len, out, src =>
    if len < out.length then none
    else
      match src with
      | [] => if out.length = len then some out else none
      | t :: r =>
        let n := t.toNat
        if n < 0x80 then
          if r.length < n + 1 then none else mangleTokens f len (out ++ r.take (n + 1)) (r.drop (n + 1))
        else if n < 0xC0 then
          match r with
          | [] => none
          | b :: r => mangleTokens f len (out ++ List.replicate (n - 0x7D) b) r
        else
          match r with
          | lo :: hi :: r =>
            let d := lo.toNat + 256 * hi.toNat
            if d = 0 ∨ 4096 < d ∨ out.length < d then none
            else
              let copy := (List.range (n - 0xBD)).foldl (fun o _ => o ++ [o.getD (o.length - d) 0]) out
              mangleTokens f len copy r
          | _ => none

/-- R269: the element width that planes regroup by. -/
def planeWidth (f : Fmt) : Nat :=
  if f = 0xE then 8 else if f = 0x0 ∨ f = 0xD then 4 else if f = 0x1 ∨ f = 0x2 then 2 else 1

/-- Bytes back in element order from planes. -/
def unplane (w : Nat) (b : List Byte) : List Byte :=
  let n := b.length / w
  (List.range b.length).map (fun i => b.getD (i % w * n + i / w) 0)

/-- Decodes segments until `left` bytes of the PACKED form have been produced. -/
def mangleSegments : Nat → Fmt → Nat → List Byte → Option (List Byte × List Byte)
  | 0, _, _, _ => none
  | fuel + 1, f, left, src =>
    if left = 0 then some ([], src)
    else if src.length < 4 then none
    else
      let w := ofBytesLE (src.take 4)
      let len := w % 65536
      let method := w / 65536 % 4
      let body := (src.drop 4).take len
      let want := Nat.min left 4096
      if w / 2 ^ 18 ≠ 0 ∨ body.length < len then none
      else
        let seg := if method = 0 then (if len = want then some body else none)
          else if method = 1 then (mangleTokens (len + 1) want [] body).map (unplane (planeWidth f))
          else none
        match seg with
        | none => none
        | some b => (mangleSegments fuel f (left - want) (src.drop (4 + len))).map (fun r => (b ++ r.1, r.2))

/-- The PACKED stored bytes of a MANGLED body, scales included. -/
def unmangle (f : Fmt) (bitmap : W64) (body : List Byte) : Option (List Byte) :=
  let blocks := f.blockSize * popcount bitmap
  match mangleSegments (blocks + 1) f blocks body with
  | none => none
  | some (b, rest) => if rest.length = (if f.isMx then 128 else 0) then some (b ++ rest) else none

/-! ## Records (R266 to R268) -/

/-- R267: the CRC of chunk c of a tile in PACKED form. -/
def chunkCrc (f : Fmt) (bitmap : W64) (packed : Table Byte) (c : Nat) : W32 :=
  let word := bitmap.toNat / 2 ^ (32 * c) % 2 ^ 32
  let blocks := ((List.range 32).filter (fun i => bitmap.getLsbD (32 * c + i))).flatMap (fun i =>
    (List.range f.blockSize).map (fun j => tileByte packed (blockStart f false bitmap (32 * c + i) + j)))
  let scales := if f.isMx then
      (List.range 64).map (fun j => tileByte packed (scaleStart f false bitmap + 64 * c + j))
    else []
  crc32c (bytesLE 4 word ++ blocks ++ scales)

/-- What steps 3 to 7 of R268 find. -/
inductive Finding
  | refused
  | header
  | mangle
  | crc (chunk : Nat)
  | good (h : TileHeader) (bytes : Table Byte)
  deriving DecidableEq, Repr

def WeightRecord.finding (w : WeightRecord) : Finding :=
  let f : Fmt := w.header.fmt.setWidth 4
  let map := w.header.bitmap
  if w.refuse then .refused
  else if w.hcheck ≠ headerCheck w.header ∨ !headerSound w.header ∨
    w.body.length ≠ w.header.storedLen.toNat then .header
  else
    let dense := w.header.fmt.getLsbD 4
    let packed : Option (Table Byte) :=
      if w.header.fmt.getLsbD 6 then (unmangle f map w.body).map (writeBytes [] 0)
      else if dense then some (packBytes f true map map (writeBytes [] 0 w.body))
      else some (writeBytes [] 0 w.body)
    match packed with
    | none => .mangle
    | some b =>
      match (List.range 2).find? (fun c => w.crcs[c]? != some (chunkCrc f map b c)) with
      | some c => .crc c
      | none =>
        let h := storedHeader f map w.header.elemNz
        .good { h with fmt := h.fmt ||| (w.header.fmt &&& 0x20) } b

/-! ## Placement (R218, R264) -/

/-- A step number that a write at a home records. -/
def State.ctxStep (s : State) (key : Nat) : W32 := (s.ctxOf (key % 2 ^ 32 / 2 ^ 29)).step

/-- R218: the Basket that takes the tile in place of its Hamper home. -/
def State.directPlace (s : State) (key : Nat) (dst : Option ClusterId) : State :=
  let t := s.tileOf key
  let x := key % 2 ^ 32 / 2 ^ 29
  let len := Fmt.denseLen t.fmt
  match dst, t.home with
  | some k, .hamper h _ =>
    if t.flags.getLsbD 1 && decide (3072 ≤ s.stackLoad h.val) &&
      decide (tget 0 (s.clusterOf k).basketUsed x + len ≤ (s.ctxOf x).basketQuota * 65536) then
      ((s.chargeBasket k x len).hamperBump h 2 1).putTile key
        { t with home := .basket k, directAt := some k }
    else s
  | _, _ => s

/-- A weight tile is written at its home; a tile that arrives POISONED is never placed. -/
def State.placeTile (s : State) (key : Nat) (h : TileHeader) (bytes : Table Byte) (version : W32)
    (dst : Option ClusterId) : State :=
  let s := s.directPlace key dst
  let poison := h.fmt.getLsbD 5
  (s.storeTile key (s.ctxStep key) h bytes poison).modTile key (fun t =>
    { t with placed := !poison, version := version })

/-- A weight tile that a record failed: its home is POISONED (R149, R268). -/
def State.failTile (s : State) (key : Nat) (fmt : BitVec 4) : State :=
  (s.storeTile key (s.ctxStep key) (poisonHeader fmt) [] true).modTile key (fun t => { t with placed := false })

/-- The logical block of byte `off` of an extent of an image slot (log entry 35). -/
def logicalBlock (slot extent off : Nat) : Nat := (slot * 65536 + extent) * 2 ^ 32 + off / Config.pressBlockBytes

/-- A tile of an image, where its record has been seen. -/
def State.imageTile (s : State) (n t : Nat) : Option ImageTile :=
  tget none (tget ({} : ImageSlot) s.press.slots n).tiles t

/-- What slot n of the Press gives for tile t of its image (R263, R276). A tile that an extent was committed without, no
record of it having arrived, has a free bitmap, count and bytes (DESIGN CHOICE, log entry 9). -/
def State.pressContent (s : State) (n t : Nat) (f : Fmt) : TileHeader × Table Byte :=
  match s.imageTile n t with
  | some q => (q.header, q.bytes)
  | none =>
    let map := s.freeValue
    let h := storedHeader f map ((Config.freeWord (s.fresh + 1)).setWidth 16)
    (h, writeBytes [] 0 ((List.range h.storedLen.toNat).map (fun i =>
      (Config.freeWord (s.fresh + 2 + i)).setWidth 8)))

/-- R206, R215: tile t of an image is read: the block of its first byte counts a read, or is marked where a codeword
needed a soft decode (log entry 35). -/
def State.readBlock (s : State) (n t : Nat) (soft : Bool) : State :=
  match s.imageTile n t with
  | none => s
  | some q =>
    match tget none s.press.map (logicalBlock n q.extent q.offset) with
    | none => s
    | some b =>
      let k := tget ({} : PressBlock) s.press.blocks b
      let k := { k with reads := if soft then k.reads else k.reads + 1, softDecode := k.softDecode || soft }
      { s with press := { s.press with blocks := tput {} s.press.blocks b k } }

/-- Tile t of an image is read. -/
def State.usePress (s : State) (n t : Nat) : State :=
  if (s.imageTile n t).isSome then s.readBlock n t false else s.useFrees 32770

/-- R278: the header and the body of an image's tile as they leave the module: in the Mangle form where the image carries
COMPRESS and the tile has fewer than 64 set bits, unless that form is too long (R147). -/
def outboundForm (compress : Bool) (h : TileHeader) (bytes : Table Byte) : TileHeader × List Byte :=
  let f : Fmt := h.fmt.setWidth 4
  if compress && h.bitmap != allOnes64 && !mangleTooLong f h bytes then
    let body := mangledBody f h.bitmap bytes
    ({ h with fmt := h.fmt ||| 0x40, storedLen := BitVec.ofNat 16 body.length }, body)
  else (h, (List.range h.storedLen.toNat).map (fun i => tileByte bytes i))

/-! ## Fills (R263, R279, R280, R283) -/

/-- The tiles of a fill are all placed. -/
def State.fillDone (s : State) (x : Nat) (f : Fill) : Bool :=
  match tget none (s.ctxOf x).bindings f.binding with
  | some b =>
    (List.range b.count.toNat).all (fun i =>
      let t := s.tileOf (s.tileKeyIn (BitVec.ofNat 32 (x * 2 ^ 29 + b.first.toNat + i)) f.slotB)
      t.placed && t.version == f.version)
  | none => true

/-- A fill waits for the tile of its binding with an index. -/
def State.fillWants (s : State) (x binding : Nat) (t : W32) : Bool :=
  (s.ctxOf x).fills.any (fun f => f.binding == binding &&
    (match tget none (s.ctxOf x).bindings binding with
      | some b => decide (t.toNat < b.count.toNat) &&
        (let q := s.tileOf (s.tileKeyIn (BitVec.ofNat 32 (x * 2 ^ 29 + b.first.toNat + t.toNat)) f.slotB)
         !(q.placed && q.version == f.version))
      | none => false))

/-- Tiles of one slot of a context's RESIDENT bindings that satisfy p. -/
def State.slotKeys (s : State) (x : Nat) (slotB : Bool) : List Nat :=
  (s.ctxOf x).bindings.flatMap (fun e => match e.2 with
    | some b =>
      if b.resident then
        (List.range b.count.toNat).map (fun i =>
          s.tileKeyIn (BitVec.ofNat 32 (x * 2 ^ 29 + b.first.toNat + i)) slotB)
      else []
    | none => [])

/-- The slot that is not ACTIVE is not VALID. -/
def Ctx.otherInvalid (c : Ctx) : Ctx :=
  if c.activeB then { c with slotA := { c.slotA with valid := false } }
  else { c with slotB := { c.slotB with valid := false } }

/-- R283: a swap whose fill has failed ends; the new copy is freed. -/
def State.failSwap (s : State) (x : Nat) (st : Byte) : State :=
  let c := s.ctxOf x
  let s := s.freeTiles x (s.slotKeys x (!c.activeB))
  (s.modCtx x (fun c => { c.otherInvalid with fills := [], swap := .none, swapCmd := none, swapObjects := [] })).completeSome
    c.swapCmd st

/-- A fill tile has failed. -/
def State.failFill (s : State) (x : Nat) (st : Byte) : State :=
  if (s.ctxOf x).swap = .filling then s.failSwap x st else s.endBind x st

/-- Once the tiles of every fill are placed, the slot is VALID (R279, R280 step 3). -/
def State.settleFills (s : State) (x : Nat) : State :=
  let c := s.ctxOf x
  if c.fills = [] then s
  else
    let left := c.fills.filter (fun f => !s.fillDone x f)
    if left ≠ [] then s
    else if c.swap = .filling then
      s.putCtx x { c with fills := [], swap := .waiting,
                          slotA := if c.activeB then { c.slotA with valid := true } else c.slotA,
                          slotB := if c.activeB then c.slotB else { c.slotB with valid := true } }
    else s.endBind x stOK

end Sys2Proof.Machine
end

