-- ==== Sys2Proof/Machine/Load.lean ====
section
/-! DEFINITION. Region maps, homes and reservations, and program loads: their checks and what they change,
shared by the host commands and by the broadcasts of R350 (R131, R133, R150, R184, R197 to R202, R229,
R239 to R245, R254, R259, R351, R379). -/

set_option linter.unusedVariables false

namespace Sys2Proof.Machine

open Sys2Proof

/-! ## Checks (R369, R371, R374) -/

/-- A failing check: the status and the DETAIL of the completion. -/
abbrev Bad := Byte × W32

/-- The first failing check decides. -/
def firstBad : List (Option Bad) → Option Bad
  | [] => none
  | some b :: _ => some b
  | none :: r => firstBad r

def check (bad : Bool) (st : Byte) (detail : Nat := 0xFFFFFFFF) : Option Bad :=
  if bad then some (st, BitVec.ofNat 32 detail) else none

/-- A check of each record in turn; DETAIL is the index of the first that fails. -/
def checkRecords {α : Type} (l : List α) (bad : α → Bool) (st : Byte) : Option Bad :=
  (l.findIdx? bad).map (fun i => (st, BitVec.ofNat 32 i))

/-- DETAIL where a reserved field of the arguments is set: which one it is does not reach the model, so the
offset is a free value (DESIGN CHOICE, log entry 26). -/
def State.rsvDetail (s : State) : Nat := (s.freeValue &&& 0xFFFFFFFF).toNat

/-- The ranges of a tiles from n and b tiles from m meet. -/
def rangesMeet (n a m b : Nat) : Bool := decide (n < m + b) && decide (m < n + a)

/-! ## REGION_MAP (R242) -/

def recClusters (m : RegionRec) : List Nat :=
  rectClusters m.x0.toNat m.y0.toNat m.width.toNat m.height.toNat

def State.recOrder (s : State) (m : RegionRec) : List Nat := (recClusters m).filter s.clusterPresent

/-- R239: the record's window meets that of another context's region in a shared core. -/
def State.windowClash (s : State) (x : Nat) (m : RegionRec) : Bool :=
  s.regions.any (fun e =>
    e.2.state != .unmapped && e.2.ctx.val != x &&
    rangesMeet m.ibufBase.toNat m.ibufSize.toNat e.2.ibufBase e.2.ibufSize &&
    (s.clusterOrder e.1).any (s.recOrder m).contains)

/-- The BAD_ARG checks of one record. -/
def State.badRegionRec (s : State) (x : Nat) (recs : List RegionRec) (m : RegionRec) : Bool :=
  m.ctx.toNat != x || m.sampler.toNat / 2048 % 16 != 0 ||
  decide (1 < (recs.filter (fun n => n.region == m.region)).length) ||
  (if m.width = 0 then m.height != 0
   else
    m.height == 0 || decide (40 < m.x0.toNat + m.width.toNat) || decide (40 < m.y0.toNat + m.height.toNat) ||
    m.ibufSize == 0 || decide (8 < m.ibufBase.toNat + m.ibufSize.toNat) ||
    (m.sampler.getLsbD 15 && decide ((s.recOrder m).length ≤ m.sampler.toNat % 2048)) ||
    s.windowClash x m)

/-- The region as a record makes it. -/
def Region.remap (g : Region) (x : CtxId) (m : RegionRec) : Region :=
  { g with
    state := if m.width = 0 then .unmapped else .mapped, cause := .none, ctx := x,
    x0 := m.x0.toNat, y0 := m.y0.toNat, width := m.width.toNat, height := m.height.toNat,
    sampler := m.sampler, ibufBase := m.ibufBase.toNat, ibufSize := m.ibufSize.toNat,
    seq := .idle, roles := [], outstanding := [], finished := [] }

/-- The regions after every record. -/
def State.propose (s : State) (x : CtxId) (recs : List RegionRec) : State :=
  s.each recs (fun s m => s.modRegion m.region.val (fun g => g.remap x m))

/-- A region that is unmapped and whose handles are still declared belongs to its context (R242, DEDUCED, log
entry 29). -/
def Region.owned (g : Region) : Bool := g.state != .unmapped || g.decls != []

/-- The regions of one context that a record's rectangle would share a cluster with. -/
def State.overlapsOwn (p : State) (x : Nat) (m : RegionRec) : Bool :=
  m.width != 0 && p.regions.any (fun e =>
    e.1 != m.region.val && e.2.state != .unmapped && e.2.ctx.val == x &&
    rangesMeet m.x0.toNat m.width.toNat e.2.x0 e.2.width &&
    rangesMeet m.y0.toNat m.height.toNat e.2.y0 e.2.height)

/-- R239: contexts with a region on a cluster. -/
def State.contextsAt (s : State) (k : Nat) : Nat :=
  ((List.range 8).filter (fun x => (s.regionAt x k).isSome)).length

/-- The cluster of a region's sampler. -/
def State.samplerAt (s : State) (r : Nat) : Option Nat :=
  let g := s.regionOf r
  if g.state != .unmapped && g.sampler.getLsbD 15 then (s.clusterOrder r)[g.sampler.toNat % 2048]? else none

def State.samplerShared (p : State) (r : Nat) : Bool :=
  match p.samplerAt r with
  | none => false
  | some k => p.regions.any (fun e => e.1 != r && p.samplerAt e.1 == some k)

/-- R184: some cluster lies in the scope of more than 64 groups. -/
def State.scopeFull (p : State) : Bool :=
  let groups := tkeys (fun g : Peg => g.configured) p.pegs
  decide (64 < groups.length) &&
  (List.range 1600).any (fun k => decide (64 < (groups.filter (fun g => p.pegScope g k)).length))

/-- Some cluster's Basket charge of a context is beyond its quota (R202). -/
def State.basketOver (s : State) (x : Nat) : Bool :=
  s.clusters.any (fun e => decide ((s.ctxOf x).basketQuota * 65536 < tget 0 e.2.basketUsed x))

/-- R200, R242: HOT tiles of a region move to their new home clusters, POISONED where the cluster changes. -/
def State.moveHot (s : State) (x r : Nat) : State :=
  let order := s.clusterOrder r
  if order = [] then s
  else
    s.each (s.regionOf r).decls (fun s d =>
      if !d.flags.getLsbD 0 then s
      else
        s.each (List.range d.count.toNat) (fun s n =>
          let key := x * 2 ^ 29 + d.first.toNat + n
          let t := s.tileOf key
          let new : Home := .basket (Fin.ofNat 1600 (order.getD (n % order.length) 0))
          if t.declHome = new then s
          else
            let len := reservation t.fmt
            let s := match t.declHome with
              | .basket k => s.dischargeBasket k.val x len
              | _ => s
            let s := match new with
              | .basket k => s.chargeBasket k.val x len
              | _ => s
            let t := { t with declHome := new, frags := [] }
            s.putTile key (if t.home = (s.tileOf key).declHome then
              { t with home := new, bytes := [], homePoisoned := true } else t)))

/-- Bytes of a core's step-start copy (R131). -/
def copyBytes : Nat := 2112

/-- R131: the step-start copies of a context in some clusters are released. -/
def State.dropCopies (s : State) (x : Nat) (ks : List Nat) : State :=
  s.each ks (fun s k =>
    s.each ((List.range 32).map (fun j => 32 * k + j)) (fun s c =>
      if (tget none (s.coreOf c).stepCopies x).isSome then
        (s.modCore c (fun q => { q with stepCopies := tput none q.stepCopies x none })).dischargeBasket k x copyBytes
      else s))

/-- R186: the groups that concern a region start again. -/
def State.resetRegionGroups (s : State) (x r : Nat) : State :=
  let groups := tkeys (fun p : Peg => p.configured && p.ctx.val == x && (p.region.val == r || p.scope.getLsbD r)) s.pegs
  let s := s.each groups (fun s g => s.modPeg g (fun p =>
    { p with total := 0, nan := false, completed := 0, linkGen := 0, echo := 0 }))
  s.each (tkeys (fun c : Core => c.observed != []) s.cores) (fun s c =>
    s.modCore c (fun k => { k with observed := k.observed.filter (fun e => !groups.contains e.1) }))

/-- R150: the prediction entries of a context are invalidated. -/
def State.forgetPredictions (s : State) (x : CtxId) : State :=
  { s with clusters := tmap {} (fun _ k => { k with
      predict := k.predict.filter (fun e => e.2.ctx != x || !e.2.valid) }) s.clusters }

/-- R133: the lanes of a region's cores are seeded afresh, under each core's seed and stream identifier. -/
def State.seedRegion (s : State) (r : Nat) : State :=
  s.each (s.coreOrder r) (fun s c =>
    s.modCore c (fun k => { k with lanes := seedLanes k.seed k.sid (s.corePos r c), restored := none }))

/-- A sampler that a region takes over or gives up is configured anew; its path is kept (R138). -/
def State.freshSampler (s : State) (k : Nat) : State :=
  s.modCluster k (fun c => { c with sampler := { c.sampler with
    seed := 0, sid := 0, temperature := 0, topK := 0, topP := 0x3F800000, configured := false,
    seqs := [], draws := [] } })

def State.freshSamplerOf (s : State) (r : Nat) : State :=
  match s.samplerAt r with
  | some k => s.freshSampler k
  | none => s

/-- One record of an accepted REGION_MAP is applied. -/
def State.remapRegion (s : State) (x : CtxId) (m : RegionRec) : State :=
  let r := m.region.val
  let g := s.regionOf r
  let old := rectClusters g.x0 g.y0 g.width g.height
  let same := (g.x0, g.y0, g.width, g.height) == (m.x0.toNat, m.y0.toNat, m.width.toNat, m.height.toNat)
  let s := s.freshSamplerOf r
  let s := if g.state ≠ .unmapped ∧ same = false then s.dropCopies x.val old else s
  let s := s.each old (fun s k => s.modCluster k (fun c => { c with seqs := tput {} c.seqs x.val {} }))
  let s := (s.putRegion r (g.remap x m)).forgetPredictions x
  let s := s.each (List.range 4) (fun s i => s.clearCounter 0 (0x61000 + 32 * r + 8 * i))
  if m.width = 0 then s
  else (((s.resetRegionGroups x.val r).moveHot x.val r).freshSamplerOf r).seedRegion r

/-- R242: the checks of a REGION_MAP for context x, in their order. -/
def State.badRegionMap (s : State) (x : CtxId) (recs : List RegionRec) : Option Bad :=
  let p := s.propose x recs
  let maps := fun (m : RegionRec) => m.width != 0
  firstBad [
    checkRecords recs (s.badRegionRec x.val recs) stBAD_ARG,
    checkRecords recs (fun m => (s.regionOf m.region.val).owned && (s.regionOf m.region.val).ctx != x) stREFUSED,
    check (s.ctxOf x.val).isOpen stBUSY,
    checkRecords recs (fun m => (recClusters m).any (fun k => !fieldServes (s.fieldOf (k / 16)))) stNOT_READY,
    checkRecords recs (p.overlapsOwn x.val) stBAD_ARG,
    checkRecords recs (fun m => maps m && ((recClusters m).any (fun k => decide (4 < p.contextsAt k)) ||
      p.samplerShared m.region.val)) stNO_QUOTA,
    check p.scopeFull stNO_QUOTA 0,
    check ((p.each recs (fun q m => q.moveHot x.val m.region.val)).basketOver x.val) stNO_QUOTA 0,
    checkRecords recs (fun m => maps m && (s.recOrder m).isEmpty) stBAD_ARG]

/-- R242: REGION_MAP for context x, or its failing check. Clusters cut off earlier take part again where they
are reachable (R179). DEDUCED, log entry 59. -/
def State.mapRegions (s : State) (x : CtxId) (recs : List RegionRec) : State × Option Bad :=
  let t := s.readmit
  match t.badRegionMap x recs with
  | some b => (s, some b)
  | none => ((t.each recs (fun s m => s.remapRegion x m)).measure x.val 0x10 (recs.flatMap regionRecBytes), none)

/-! ## Homes (R200) -/

/-- R200: the stack set of a SIDE code, 24 stacks or 6. -/
def stackSet (side : Nat) : List Nat :=
  if side = 0 then List.range 24 else (List.range 6).map (fun i => 6 * (side - 1) + i)

/-- R211: the bytes of a pair. -/
def pairBytes : Nat := 4000000000

/-- The pair of a stack with the most free space, the lowest of equals, among those in use that `ok` admits. -/
def State.freestPair (s : State) (h : Nat) (ok : Nat → Bool) : Option Nat :=
  let used := fun q => tget 0 (s.stackOf h).pairUsed q
  ((List.range 15).filter (fun q => s.pairLive h q && ok q)).foldl (fun (best : Option Nat) q =>
    match best with
    | none => some q
    | some b => if used q < used b then some q else some b) none

def hamperPlace (h q : Nat) : Home := .hamper (Fin.ofNat 24 h) (Fin.ofNat 15 q)

/-- R200: the Hamper home of tile n of a declaration: the freest pair of stack n mod S of its set. A stack without a pair
in use passes the tile on to the next of the set (DEDUCED, log entry 28). -/
def State.hamperHome (s : State) (flags : W16) (n : Nat) : Home :=
  let set := stackSet (flags.toNat / 64 % 8)
  ((List.range set.length).findSome? (fun i =>
    let h := set.getD ((n + i) % set.length) 0
    (s.freestPair h (fun _ => true)).map (hamperPlace h))).getD .lost

/-- R200: the 256-byte lines of a tile's stored bytes. -/
def tileLines (f : Fmt) : Nat := (f.denseLen + 255) / 256

/-- The tiles that have a reservation on a pair. -/
def State.pairTiles (s : State) (p : Home) : List Tile :=
  (s.tiles.map (·.2)).filter (fun t => t.declared && t.declHome == p)

/-- R200: the lowest free run of n lines of a pair, and its lowest free header slot (DESIGN CHOICE, log entry 80). -/
def State.freeLine (s : State) (p : Home) (n : Nat) : Nat :=
  let held := (s.pairTiles p).map (fun t => (t.line, tileLines t.fmt))
  let starts := (0 :: held.map (fun r => r.1 + r.2)).filter (fun b =>
    held.all (fun r => decide (r.1 + r.2 ≤ b ∨ b + n ≤ r.1)))
  starts.foldl Nat.min (held.foldl (fun m r => Nat.max m (r.1 + r.2)) 0)
def State.freeHeadSlot (s : State) (p : Home) : Nat :=
  let held := (s.pairTiles p).map (·.headSlot)
  ((List.range (held.length + 1)).find? (fun i => !held.contains i)).getD 0

/-- R200: the place of a tile of a format on the pair that its home names: line and header slot. -/
def State.linePlace (s : State) (p : Home) (f : Fmt) : Nat × Nat :=
  match p with
  | .hamper _ _ => (s.freeLine p (tileLines f), s.freeHeadSlot p)
  | _ => (0, 0)

/-- A handle's tile comes to be: never written, at its home, with its reservation charged (R196, R200, R202). -/
def State.declareTile (s : State) (x key : Nat) (fmt : Fmt) (flags : W16) (region : Option RegionId) (n : Nat)
    (home : Home) : State :=
  let len := reservation fmt
  let at_ := s.linePlace home fmt
  let s := s.putTile key { declared := true, fmt := fmt, flags := flags, region := region, ordinal := n,
                           home := home, declHome := home, homePoisoned := home == .lost,
                           line := at_.1, headSlot := at_.2 }
  match home with
  | .basket k => s.chargeBasket k.val x len
  | .hamper h q =>
    (s.modStack h.val (fun k => { k with
      pairUsed := tput 0 k.pairUsed q.val (tget 0 k.pairUsed q.val + len) })).modCtx x (fun c =>
        { c with hamperUsed := c.hamperUsed + len })
  | .lost => s.modCtx x (fun c => { c with hamperUsed := c.hamperUsed + len })
  | _ => s

/-- R192, R211, R490: the allocatable Hamper. -/
def State.hamperTotal (s : State) : Nat :=
  let gone := ((List.range 24).flatMap (fun h => (List.range 15).filter (fun q => !s.pairLive h q))).length
  1424000000000 - gone * pairBytes

/-- R202, R211: a Hamper reservation that context x has just taken does not fit. -/
def State.hamperOver (s : State) (x : Nat) : Bool :=
  decide ((s.ctxOf x).hamperQuota * 1000000000 < (s.ctxOf x).hamperUsed) ||
  decide (s.hamperTotal < s.ctxs.foldl (fun n e => n + e.2.hamperUsed) 0)

/-! ## PROGRAM_LOAD (R379) -/

def declFmt (d : Decl) : Fmt := d.fmt.setWidth 4
def declBuffer (d : Decl) : Bool := d.fmt.getLsbD 4

/-- The keys of a declaration's tiles. -/
def declKeys (x : Nat) (d : Decl) : List Nat :=
  (List.range d.count.toNat).map (fun n => x * 2 ^ 29 + d.first.toNat + n)

/-- R198, R199: ALLOC_FLAGS of a declaration or binding. -/
def badFlags (f : W16) : Bool :=
  decide (((List.range 3).filter (fun i => f.getLsbD i)).length ≠ 1) ||
  (f.getLsbD 0 && f.toNat / 64 % 8 != 0) || decide (4 < f.toNat / 64 % 8) || decide (512 ≤ f.toNat)

/-- Reserved fields and ranges of a load (R379 row 1). -/
def State.badLayout (s : State) (a : ProgramArgs) : Bool :=
  let g := s.regionOf a.region.val
  let top := if g.state = .unmapped then 32768 else 4096 * g.ibufSize
  decide (16 < a.colls.length) || a.decls.isEmpty || decide (1024 < a.decls.length) ||
  decide (1024 < a.pegs.length) || decide (a.codeLen.toNat % 8 ≠ 0) || decide (a.codeLen.toNat < 8) ||
  decide (top < a.codeLen.toNat) || decide (a.codeLen.toNat ≠ 8 * a.code.length) ||
  decide (a.len.toNat ≠ 56 + a.codeLen.toNat + 16 * a.decls.length + 40 * a.pegs.length + 32 * a.colls.length) ||
  a.decls.any (fun d => decide (2 ^ 29 ≤ d.first.toNat) || decide (32 ≤ d.fmt.toNat)) ||
  a.pegs.any (fun p => decide (1024 ≤ p.group.toNat) || p.link.getLsbD 6 || (!p.link.getLsbD 7 && p.link != 0)) ||
  decide (a.stage.dist.toNat / 2 % 8 ≠ 0) || decide (a.stage.donePeg.toNat / 1024 % 32 ≠ 0) ||
  a.colls.any (fun c => decide (c.tilePeg.toNat / 1024 % 32 ≠ 0))

/-- Declarations of the other regions of a context. -/
def State.otherDecls (s : State) (x r : Nat) : List Decl :=
  s.regions.flatMap (fun e => if e.1 ≠ r ∧ e.2.ctx.val = x then e.2.decls else [])

/-- R199, R229, R197: the declarations of a load. -/
def State.badDecls (s : State) (x r : Nat) (ds : List Decl) : Bool :=
  let bind := (s.ctxOf x).bindings.filterMap (fun e => e.2.map (fun b => (b.first.toNat, b.count.toNat)))
  let others := (s.otherDecls x r).map (fun d => (d.first.toNat, d.count.toNat)) ++ bind
  decide (64 < (ds.filter declBuffer).length) ||
  ((List.range ds.length).any (fun i =>
    match ds[i]? with
    | none => false
    | some d =>
      declFmt d == 0xF || d.count == 0 || decide (2 ^ 29 < d.first.toNat + d.count.toNat) || badFlags d.flags ||
      (declBuffer d && (!d.flags.getLsbD 0 || d.count.getLsbD 0)) ||
      (ds.take i).any (fun e => rangesMeet d.first.toNat d.count.toNat e.first.toNat e.count.toNat) ||
      others.any (fun e => rangesMeet d.first.toNat d.count.toNat e.1 e.2)))

/-- R245: the stage record, its unused operand slots 0 (R379); `p` holds the groups as the load configures them. -/
def State.badStage (p : State) (x r : Nat) (g : StageRec) : Bool :=
  let kinds := g.opers.map (·.kind)
  g.tileCount == 0xFFFFFFFF || decide (g.dist.toNat / 16 = 0) || decide (8 < g.dist.toNat / 16) ||
  g.dist &&& 0x0E != 0 || g.donePeg &&& 0x7C00 != 0 ||
  decide (4 < g.noper.toNat) || decide (g.opers.length < g.noper.toNat) ||
  (g.opers.drop g.noper.toNat).any (· != { base := 0, stride := 0, kind := 0, div := 0 }) ||
  (g.opers.take g.noper.toNat).any (fun o =>
    decide (3 < o.kind.toNat) || o.div == 0 ||
    ((o.kind == 1 || o.kind == 2) && handleCtx o.base != x) ||
    (o.kind == 3 && (decide (1024 ≤ o.base.toNat) ||
      !((p.pegOf o.base.toNat).configured && (p.pegOf o.base.toNat).ctx.val == x &&
        (p.pegOf o.base.toNat).scope.getLsbD r)))) ||
  (List.range kinds.length).any (fun i => kinds[i]? == some 0 && (kinds.drop i).any (· != 0))

/-- The declaration that holds a run of handles. -/
def runIn (ds : List Decl) (x : Nat) (h : W32) (n : Nat) : Option Decl :=
  if handleCtx h ≠ x then none
  else ds.find? (fun d => decide (d.first.toNat ≤ handleNum h) &&
    decide (handleNum h + n ≤ d.first.toNat + d.count.toNat))

/-- R351: a collective declaration. -/
def State.badColl (s : State) (x : Nat) (ds : List Decl) (c : CollRec) : Bool :=
  let form : Fmt := if c.form = 1 then 0xE else 0x0
  let bad := fun (h : W32) => match runIn ds x h c.tiles.toNat with
    | none => true
    | some d => !d.flags.getLsbD 0 || declFmt d != form
  decide (16 ≤ c.coll.toNat) || (c.form != 1 && c.form != 2) || (c.form == 2 && c.wexp != 0) ||
  decide (64 ≤ c.treeA.toNat) || decide (64 ≤ c.treeB.toNat) ||
  (s.treeRec x c.treeA.toNat).map (·.size) != (s.treeRec x c.treeB.toNat).map (·.size) ||
  c.tiles == 0 || decide (2 ^ 24 < c.tiles.toNat) || c.window == 0 || decide (256 < c.window.toNat) ||
  c.deadline == 0 || bad c.src || bad c.dst

/-- The configuration of a group record. -/
def pegOfRec (x : CtxId) (r : RegionId) (p : PegRec) : Peg :=
  { configured := true, ctx := x, region := r, count := p.count, scope := p.scope,
    link := if p.link.getLsbD 7 then some (p.link.setWidth 6) else none }

/-- Two groups have the same content (R379). -/
def Peg.sameAs (a b : Peg) : Bool := a.count == b.count && a.scope == b.scope && a.link == b.link

/-- Another region of the context has configured the group. -/
def State.groupShared (s : State) (x r : Nat) (g : Nat) : Bool :=
  s.regions.any (fun e => e.1 != r && e.2.ctx.val == x && e.2.groups.any (fun q => q.val == g))

/-- R379: the group records of a load. -/
def State.badPegs (s : State) (x : CtxId) (r : RegionId) (ps : List PegRec) : Bool :=
  (List.range ps.length).any (fun i =>
    match ps[i]? with
    | none => false
    | some p =>
      p.count == 0 || (p.link.getLsbD 7 && p.count != 1) || (ps.take i).any (fun q => q.group == p.group) ||
      (s.groupShared x.val r.val p.group.toNat && !(s.pegOf p.group.toNat).sameAs (pegOfRec x r p)))

/-- The groups of a region's last load that no other region shares are given up; the new ones are configured. DESIGN
CHOICE, log entry 59: their totals and COMPLETED begin at 0, and the cores' OBSERVED stay. -/
def State.configurePegs (s : State) (x : CtxId) (r : RegionId) (ps : List PegRec) : State :=
  let s := s.each (s.regionOf r.val).groups (fun s g =>
    if s.groupShared x.val r.val g.val then s else s.putPeg g.val {})
  let s := s.each ps (fun s p =>
    if s.groupShared x.val r.val p.group.toNat then s else s.putPeg p.group.toNat (pegOfRec x r p))
  s.modRegion r.val (fun g => { g with groups := ps.map (fun p => Fin.ofNat 1024 p.group.toNat) })

/-- R197, R379: the handles of the declarations that a load replaces are released. -/
def State.releaseDecls (s : State) (x r : Nat) : State :=
  let s := s.freeTiles x ((s.regionOf r).decls.flatMap (declKeys x))
  s.modRegion r (fun g => { g with decls := [] })

/-- The declarations of a load are made. -/
def State.makeDecls (s : State) (x : Nat) (r : RegionId) (ds : List Decl) : State :=
  let order := s.clusterOrder r.val
  let s := s.each ds (fun s d =>
    s.each (List.range d.count.toNat) (fun s n =>
      let home := if d.flags.getLsbD 0 then Home.basket (Fin.ofNat 1600 (order.getD (n % order.length) 0))
        else s.hamperHome d.flags n
      s.declareTile x (x * 2 ^ 29 + d.first.toNat + n) (declFmt d) d.flags (some r) n home))
  s.modRegion r.val (fun g => { g with decls := ds })

/-- R351: bytes of the chunk slots of every context's collectives. -/
def State.collBytes (s : State) : Nat :=
  s.ctxs.foldl (fun n e => e.2.colls.foldl (fun n c => match c.2 with
    | some c => n + 2 * c.decl.window.toNat * 16420
    | none => n) n) 0

/-- The collectives of a region's last load are given up and the new ones declared. -/
def State.declareColls (s : State) (x : Nat) (r : RegionId) (cs : List CollRec) : State :=
  let s := s.modCtx x (fun c => { c with colls := c.colls.filter (fun e => match e.2 with
    | some k => k.region != r
    | none => false) })
  s.each cs (fun s d => s.modCtx x (fun c => { c with
    colls := tput none c.colls d.coll.toNat (some { decl := d, region := r }) }))

/-- A load makes its handles, groups and collectives. -/
def State.stageLoad (s : State) (x : CtxId) (a : ProgramArgs) : State :=
  (((s.releaseDecls x.val a.region.val).makeDecls x.val a.region a.decls).configurePegs x a.region a.pegs).declareColls
    x.val a.region a.colls

/-- R379: the checks of a load for context x, in their order. -/
def State.badLoad (s : State) (x : CtxId) (a : ProgramArgs) : Option Bad :=
  let g := s.regionOf a.region.val
  let c := s.ctxOf x.val
  let q := s.configurePegs x a.region a.pegs
  let t := s.stageLoad x a
  firstBad [
    check (s.badLayout a) stBAD_ARG 0,
    check (!((g.state == .mapped || g.state == .loaded) && g.ctx == x)) stNOT_READY,
    check c.isOpen stBUSY,
    check (s.badDecls x.val a.region.val a.decls) stBAD_ARG (56 + a.codeLen.toNat),
    check (q.badStage x.val a.region.val a.stage) stBAD_ARG 16,
    check (a.colls.any (s.badColl x.val (a.decls ++ s.otherDecls x.val a.region.val)) ||
      decide ((a.colls.map (·.coll)).eraseDups.length ≠ a.colls.length)) stBAD_ARG
      (56 + a.codeLen.toNat + 16 * a.decls.length + 40 * a.pegs.length),
    check (s.badPegs x a.region a.pegs) stBAD_ARG (56 + a.codeLen.toNat + 16 * a.decls.length),
    check (a.pegs.any (fun p => (s.pegOf p.group.toNat).configured && (s.pegOf p.group.toNat).ctx != x)) stREFUSED
      (56 + a.codeLen.toNat + 16 * a.decls.length),
    check (t.basketOver x.val || (a.decls.any (fun d => !d.flags.getLsbD 0) && t.hamperOver x.val) || t.scopeFull ||
      decide (67108864 < t.collBytes)) stNO_QUOTA]

/-- R55: the load writes the context's windows of the instruction buffers of a region's cores. -/
def State.fillBuffers (s : State) (x : CtxId) (r : Nat) : State :=
  s.each (s.coreOrder r) (fun s c => s.modCore c (fun k =>
    if k.ibufLost = some x then { k with ibufLost := none } else k))

/-- R379: PROGRAM_LOAD for context x, or its failing check. -/
def State.loadProgram (s : State) (x : CtxId) (a : ProgramArgs) : State × Option Bad :=
  match s.badLoad x a with
  | some b => (s, some b)
  | none =>
    let s := s.stageLoad x a
    (((s.modRegion a.region.val (fun g => { g with
      state := .loaded, cause := .none, stage := a.stage, code := a.code, seq := .idle, shown := none, leases := [], roles := [],
      nextTile := 0, pegBases := [], outstanding := [], finished := [], cutCount := none, cut := [] })).fillBuffers x
        a.region.val).measure x.val 0x11 (programBytes a), none)

end Sys2Proof.Machine
end

