-- ==== Sys2Proof/Machine/Flags.lean ====
section
/-! DEFINITION. The sticky flags of FPSTATUS and ACCSTAT (R71, R73). -/

set_option linter.unusedVariables false

namespace Sys2Proof.Machine

open Sys2Proof

/-- FPSTATUS takes the flags of an operation. -/
def Core.addFlags (k : Core) (f : FpFlags) : Core := { k with fpstatus := k.fpstatus ||| f.setWidth 64 }

/-- The flags of the lanes that take part. -/
def laneFlags (mask : W64) (fs : Vector FpFlags 64) : FpFlags :=
  (List.range 64).foldl (fun a l => if mask.getLsbD l then a ||| fs.getD l 0 else a) 0

/-- W1C on FPSTATUS. -/
def Core.clearFlags (k : Core) (v : W64) : Core := { k with fpstatus := k.fpstatus &&& ~~~v }

/-- The five bits of one accumulator in ACCSTAT (R73). -/
def Acc.stat (a : Acc) : BitVec 5 :=
  BitVec.ofBool a.type.isSome ++ BitVec.ofBool (a.type == some .int32) ++ BitVec.ofBool a.poison ++
  BitVec.ofBool a.nan ++ BitVec.ofBool a.sat

def Core.accstat (k : Core) : W64 := ((k.acc1.stat.setWidth 64) <<< 8) ||| k.acc0.stat.setWidth 64

/-- W1C on ACCSTAT: only SAT and NAN clear. -/
def Acc.clearStat (a : Acc) (v : BitVec 5) : Acc :=
  { a with sat := a.sat && !v.getLsbD 0, nan := a.nan && !v.getLsbD 1 }

def Core.clearAccstat (k : Core) (v : W64) : Core :=
  { k with acc0 := k.acc0.clearStat (v.setWidth 5), acc1 := k.acc1.clearStat ((v >>> 8).setWidth 5) }

end Sys2Proof.Machine
end

