-- ==== Sys2Proof/Machine/Issue.lean ====
section
/-! DEFINITION. The issue of one instruction by a core, and its exceptions (R62, R64, R82 to R91,
R244). A core instruction is the one the core fetched: the command carries its fields. -/

set_option linter.unusedVariables false

namespace Sys2Proof.Machine

open Sys2Proof

/-! ## Exceptions (R86 to R89) -/

def xILLEGAL : W64 := 0x01
def xADDRESS : W64 := 0x02
def xOPERAND : W64 := 0x03
def xDATA_ERROR : W64 := 0x04
def xWAIT_TIMEOUT : W64 := 0x05
def xTILE_FULL : W64 := 0x06
def xSTREAM : W64 := 0x07
def xSAMPLER : W64 := 0x08
def xBREAK : W64 := 0x09

/-- XINFO of an ADDRESS or DATA_ERROR: entry in [7:0], offset or target in [47:16]. -/
def addressInfo (entry off : Nat) : W64 := w64 (entry % 256 + off % 2 ^ 32 * 65536)

/-- XINFO of an OPERAND: entry A, entry B, format. -/
def operandInfo (a b f : Nat) : W64 := w64 (a % 256 + b % 256 * 256 + f % 16 * 65536)

/-- R88, R89: an exception of a core at its PC. With a handler and none entered, the core enters it
at the index 0–4,095 (R64) that XVEC gives; otherwise the program stops, a FAULT is raised and the context
is aborted. -/
def State.takeException (s : State) (c : CoreId) (cause info : W64) : State :=
  let k := s.coreOf c.val
  if k.xvec ≠ 0 ∧ k.inHandler = false then
    s.putCore c.val
      { k with xpc := w64 k.pc, xcause := cause, xinfo := info, pc := k.xvec.toNat % 4096,
               inHandler := true, waiting := none }
  else
    match k.running with
    | none => s
    | some x =>
      let src := match s.servedBy c.val with
        | some p => srcCore p
        | none => srcModule
      let s := s.raise .fault 89 0 src (some x.val) [w64 c.val, w64 x.val, w64 k.pc, cause, info]
      s.abortContext x (bytesLE 8 k.pc ++ bytesLE 8 cause.toNat)

/-! ## Issue -/

/-- What an instruction does once it issues: it completes and the next one follows, or jumps, or
raises an exception with no effect (R87), or waits (R83), the state `s` holding what the wait
records: `stall` is timed against WAITLIM (R84), `hold` is not. -/
inductive Effect
  | done (s : State)
  | jump (pc : Nat) (s : State)
  | raise (cause info : W64)
  | stall (info : W16) (s : State)
  | hold (s : State)

/-- R244: the length of the running program's window. -/
def State.windowLen (s : State) (k : Core) : Nat := 512 * (s.regionOf k.region.val).ibufSize

/-- The core issues the word: it is clocked, runs a program, waits for no other instruction, and has lost no
word of its instruction buffer (R55). -/
def State.canIssue (s : State) (c : CoreId) (word : W64) : Bool :=
  let k := s.coreOf c.val
  s.coreClocked c.val && k.running.isSome && k.ibufLost.isNone &&
    (match k.waiting with
      | none => true
      | some w => w.word == word)

/-- The next PC; the wait is over. An instruction that has stopped its own program leaves no next
one. -/
def State.retire (s : State) (c : CoreId) (x : CtxId) (pc : Nat) : State :=
  s.modCore c.val (fun k => if k.running = some x then { k with pc := pc, waiting := none } else k)

/-- What an effect makes of the state in which its instruction issued. -/
def Effect.apply (e : Effect) (s : State) (c : CoreId) (x : CtxId) (word : W64) : State :=
  match e with
  | .done t => t.retire c x ((s.coreOf c.val).pc + 1)
  | .jump pc t => t.retire c x pc
  | .raise cause info => s.takeException c cause info
  | .stall info t => t.modCore c.val (fun k => { k with waiting := some ⟨word, info, true⟩ })
  | .hold t => t.modCore c.val (fun k => { k with waiting := some ⟨word, 0, false⟩ })

/-! ## The word fetched (R62, R63, R528) -/

/-- R528: how many MINOR values, from 0, a MAJOR has; 0 for a MAJOR that R63 does not list. -/
def minorCount (major : Nat) : Nat :=
  match major with
  | 0x01 | 0x02 => 14
  | 0x03 | 0x09 | 0x17 | 0x28 | 0x29 | 0x34 | 0x37 | 0x3C | 0x3D => 2
  | 0x04 | 0x07 => 7
  | 0x05 | 0x13 | 0x14 | 0x18 | 0x2A => 4
  | 0x06 | 0x08 | 0x15 | 0x19 | 0x3E => 3
  | 0x10 | 0x11 | 0x16 => 9
  | 0x12 => 6
  | 0x20 => 32
  | 0x21 | 0x2B | 0x2C | 0x30 | 0x31 | 0x32 | 0x33 | 0x35 | 0x38 | 0x39 | 0x3A | 0x3F => 1
  | 0x36 => 5
  | _ => 0

/-- R62, R63, R528: the word has a MAJOR and a MINOR that are defined. -/
def wordDefined (w : W64) : Bool :=
  let major := w.toNat / 2 ^ 58
  let minor := w.toNat / 2 ^ 53 % 32
  decide (minor < minorCount major) && !((major == 0x06 || major == 0x13) && minor == 1)

/-- The word of the program at the core's PC. A word of the window beyond the loaded ones reads as cleared
(DESIGN CHOICE, log entry 14). -/
def State.fetched (s : State) (k : Core) : W64 := ((s.regionOf k.region.val).code[k.pc]?).getD 0

/-! ## What the core's codes find (R42, R55, R61) -/

/-- R55: a corrected word of the instruction buffer. -/
def State.meetsFetch (s : State) (c : CoreId) (f : Ecc) : State :=
  match f, s.servedBy c.val with
  | .corrected, some p => s.coreFault p 9 1
  | _, _ => s

/-- R55: an uncorrectable word of the instruction buffer. The core stops issuing until the program is loaded
again, and the contexts on it are aborted. -/
def State.losesFetch (s : State) (c : CoreId) (x : CtxId) : State :=
  match s.servedBy c.val with
  | none => s
  | some p =>
    (((s.coreFault p 6 64).abortOver (fun k => k == c.val / 32) c.val)).modCore c.val (fun k =>
      { k with ibufLost := some x })

/-- R42, R55: what a read of entry words and of an accumulator meets: an uncorrectable word makes the entry or
the accumulator POISONED. `reads` are the entries the instruction reads, `acc` the accumulator. -/
def State.meetsWords (s : State) (c : CoreId) (f : CoreFinding) (reads : List Nat) (acc : Option Bool) : State :=
  match s.servedBy c.val with
  | none => s
  | some p =>
    let off := f.offset.toNat
    let s := match f.pocket, ((s.coreOf c.val).entryAt off).filter reads.contains with
      | .corrected, some _ => s.pocketFault p 8 1 off
      | .uncorrectable, some n => (s.pocketFault p 5 64 off).modEntry c.val n (fun e => { e with state := .poisoned })
      | _, _ => s
    match f.acc, acc with
    | true, some side =>
      (s.coreFault p 7 64).modCore c.val (fun k => k.setAcc side { k.acc side with poison := true })
    | _, _ => s

/-- The effect reads its operands: neither an exception nor a wait. -/
def Effect.reads : Effect → Bool
  | .done _ | .jump _ _ => true
  | _ => false

/-- Issues one instruction: its MAJOR and MINOR, the fields it uses, whether its word is defined, what it does for
the core and the context that runs, and the tile entries and the accumulator whose words it reads. Where the core
does not issue, nothing changes. DEDUCED, log entry 12. DEDUCED, log entry 14. DESIGN CHOICE, log entry 76. -/
def issue (major : BitVec 6) (minor : BitVec 5) (u : Uses) (defined : Bool) (c : CoreId) (a : CoreArgs)
    (s : State) (body : State → Core → CtxId → Effect) (reads : Core → List Nat := fun _ => [])
    (acc : Option Bool := none) : State :=
  let word := assemble major minor a
  if s.canIssue c word then
    let k := s.coreOf c.val
    match k.running with
    | none => s
    | some x =>
      if s.windowLen k ≤ k.pc then
        s.takeException c xADDRESS (addressInfo 0 k.pc)
      else if k.waiting.isNone && a.finding.fetch == .uncorrectable then s.losesFetch c x
      else
        let s := if k.waiting.isNone then s.meetsFetch c a.finding.fetch else s
        if !wordDefined (s.fetched k) then s.takeException c xILLEGAL (s.fetched k)
        else if defined && u.legal a then
          let e := body s k x
          if e.reads then
            let t := s.meetsWords c a.finding (reads k) acc
            (body t (t.coreOf c.val) x).apply t c x word
          else e.apply s c x word
        else s.takeException c xILLEGAL word
  else s

/-- Most instructions change only their core. -/
def Effect.core (s : State) (c : CoreId) (k : Core) : Effect := .done (s.putCore c.val k)

end Sys2Proof.Machine
end

