-- ==== Sys2Proof/Machine/Scalar.lean ====
section
/-! DEFINITION. Scalar instructions (R67, R68): MAJOR 0x01 to 0x08. -/

set_option linter.unusedVariables false

namespace Sys2Proof.Machine

open Sys2Proof

/-! ## ALU (MAJOR 0x01, 0x02) -/

/-- s[RD] ← s[RA] op s[RB], or op sext(IMM). -/
def alu (minor : BitVec 5) (op : W64 → W64 → W64) (c : CoreId) (a : CoreArgs) (s : State) : Result :=
  .next (issue (if a.immForm then 0x02 else 0x01) minor
    { rd := true, ra := true, rb := !a.immForm, imm := a.immForm } true c a s (fun s k x =>
      .core s c (k.setS a.rd (op (k.sreg a.ra) (if a.immForm then sext32 a.imm else k.sreg a.rb)))))

/-- The amount of a shift: the low 6 bits. -/
def shamt (b : W64) : Nat := b.toNat % 64

def boolW (b : Bool) : W64 := if b then 1 else 0

def execAdd (c : CoreId) (a : CoreArgs) (s : State) : Result := alu 0 (· + ·) c a s
def execSub (c : CoreId) (a : CoreArgs) (s : State) : Result := alu 1 (· - ·) c a s
def execAnd (c : CoreId) (a : CoreArgs) (s : State) : Result := alu 2 (· &&& ·) c a s
def execOr (c : CoreId) (a : CoreArgs) (s : State) : Result := alu 3 (· ||| ·) c a s
def execXor (c : CoreId) (a : CoreArgs) (s : State) : Result := alu 4 (· ^^^ ·) c a s
def execSll (c : CoreId) (a : CoreArgs) (s : State) : Result := alu 5 (fun x y => x <<< shamt y) c a s
def execSrl (c : CoreId) (a : CoreArgs) (s : State) : Result := alu 6 (fun x y => x >>> shamt y) c a s
def execSra (c : CoreId) (a : CoreArgs) (s : State) : Result :=
  alu 7 (fun x y => x.sshiftRight (shamt y)) c a s
def execSlt (c : CoreId) (a : CoreArgs) (s : State) : Result := alu 8 (fun x y => boolW (x.slt y)) c a s
def execSltu (c : CoreId) (a : CoreArgs) (s : State) : Result := alu 9 (fun x y => boolW (x.ult y)) c a s
def execMin (c : CoreId) (a : CoreArgs) (s : State) : Result :=
  alu 10 (fun x y => if x.slt y then x else y) c a s
def execMax (c : CoreId) (a : CoreArgs) (s : State) : Result :=
  alu 11 (fun x y => if x.slt y then y else x) c a s
def execMinu (c : CoreId) (a : CoreArgs) (s : State) : Result :=
  alu 12 (fun x y => if x.ult y then x else y) c a s
def execMaxu (c : CoreId) (a : CoreArgs) (s : State) : Result :=
  alu 13 (fun x y => if x.ult y then y else x) c a s

/-! ## LI, LUI (MAJOR 0x03) -/

def execLi (c : CoreId) (a : CoreArgs) (s : State) : Result :=
  .next (issue 0x03 0 { rd := true, imm := true } true c a s (fun s k x =>
    .core s c (k.setS a.rd (sext32 a.imm))))

def execLui (c : CoreId) (a : CoreArgs) (s : State) : Result :=
  .next (issue 0x03 1 { rd := true, imm := true } true c a s (fun s k x =>
    .core s c (k.setS a.rd (a.imm ++ (k.sreg a.rd).setWidth 32))))

/-! ## Multiply and divide (MAJOR 0x04) -/

def muldiv (minor : BitVec 5) (op : W64 → W64 → W64) (c : CoreId) (a : CoreArgs) (s : State) : Result :=
  .next (issue 0x04 minor { rd := true, ra := true, rb := true } true c a s (fun s k x =>
    .core s c (k.setS a.rd (op (k.sreg a.ra) (k.sreg a.rb)))))

/-- R68: quotient of all ones on division by 0; −2^63 ÷ −1 wraps to −2^63. -/
def divS (x y : W64) : W64 := if y = 0 then allOnes64 else x.sdiv y
def divU (x y : W64) : W64 := if y = 0 then allOnes64 else x / y
/-- R68: remainder equal to the dividend on division by 0. -/
def remS (x y : W64) : W64 := if y = 0 then x else x.srem y
def remU (x y : W64) : W64 := if y = 0 then x else x % y
def mulHigh (x y : W64) : W64 := BitVec.ofInt 64 (x.toInt * y.toInt / 2 ^ 64)
def mulHighU (x y : W64) : W64 := BitVec.ofNat 64 (x.toNat * y.toNat / 2 ^ 64)

def execMul (c : CoreId) (a : CoreArgs) (s : State) : Result := muldiv 0 (· * ·) c a s
def execMulh (c : CoreId) (a : CoreArgs) (s : State) : Result := muldiv 1 mulHigh c a s
def execMulhu (c : CoreId) (a : CoreArgs) (s : State) : Result := muldiv 2 mulHighU c a s
def execDiv (c : CoreId) (a : CoreArgs) (s : State) : Result := muldiv 3 divS c a s
def execDivu (c : CoreId) (a : CoreArgs) (s : State) : Result := muldiv 4 divU c a s
def execRem (c : CoreId) (a : CoreArgs) (s : State) : Result := muldiv 5 remS c a s
def execRemu (c : CoreId) (a : CoreArgs) (s : State) : Result := muldiv 6 remU c a s

/-! ## Loads and stores (MAJOR 0x05, 0x06) -/

/-- R67: the tile entry and byte offset of an LD or ST, and its size in bytes. -/
def Core.memEntry (k : Core) (a : CoreArgs) : Nat :=
  if a.opt.getLsbD 1 then (k.sreg a.rb).toNat % 256 else a.imm.toNat % 256
def Core.memOffset (k : Core) (a : CoreArgs) : Nat :=
  (k.sreg a.ra + BitVec.ofNat 64 (a.imm.toNat / 256)).toNat
def memSize (a : CoreArgs) : Nat := 2 ^ a.var.toNat

/-- R67, R68, R70, R83: LD. -/
def execLd (c : CoreId) (a : CoreArgs) (s : State) : Result :=
  .next (issue 0x05 a.opt
    { rd := true, ra := true, rb := a.opt.getLsbD 1, var := true, imm := true } (a.opt.toNat < 4) c a s
    (reads := fun k => [k.memEntry a]) (fun s k x =>
      let n := k.memEntry a
      let off := k.memOffset a
      let e := k.entryFor x n
      if e.state = .empty then .raise xADDRESS (addressInfo n off)
      else if e.state = .filling then .stall (BitVec.ofNat 16 n) s
      else if off % memSize a ≠ 0 ∨ e.header.storedLen.toNat < off + memSize a then
        .raise xADDRESS (addressInfo n off)
      else if e.state = .poisoned then .raise xDATA_ERROR (addressInfo n off)
      else
        let v := BitVec.ofNat (8 * memSize a)
          (ofBytesLE ((List.range (memSize a)).map (fun i => tileByte e.bytes (off + i))))
        .core s c (k.setS a.rd (if a.opt.getLsbD 0 then v.signExtend 64 else v.setWidth 64))))

/-- The blocks that the bytes [off, off + len) of a WRITABLE tile touch (R74, R142). -/
def blocksWritten (f : Fmt) (off len : Nat) : W64 :=
  (List.range 64).foldl (fun m b =>
    if b * f.blockSize < off + len ∧ off < (b + 1) * f.blockSize then m ||| BitVec.twoPow 64 b else m) 0

/-- R74, R83: a raw write of bytes into an entry, or what the instruction does instead. -/
def rawStore (s : State) (c : CoreId) (k : Core) (x : CtxId) (n off align : Nat) (bs : List Byte)
    (poison : Bool) : Effect :=
  let e := k.entryFor x n
  if e.state = .empty then .raise xADDRESS (addressInfo n off)
  else if e.state = .filling then .stall (BitVec.ofNat 16 n) s
  else if s.writeBusy c n then .hold s
  else if !e.writable || decide (off % align ≠ 0) ||
      decide (e.header.storedLen.toNat < off + bs.length) then .raise xADDRESS (addressInfo n off)
  else
    .core s c (k.putEntry n
      { e with
        bytes := writeBytes e.bytes off bs,
        state := if poison then .poisoned else e.state,
        header := { e.header with bitmap := e.header.bitmap ||| blocksWritten e.fmt off bs.length } })

/-- R67, R68, R74: ST. -/
def execSt (c : CoreId) (a : CoreArgs) (s : State) : Result :=
  .next (issue 0x06 a.opt
    { rd := true, ra := true, rb := a.opt.getLsbD 1, var := true, imm := true }
    (a.opt == 0 || a.opt == 2) c a s
    (fun s k x =>
      rawStore s c k x (k.memEntry a) (k.memOffset a) (memSize a)
        (bytesLE (memSize a) (k.sreg a.rd).toNat) false))

/-! ## Branches and jumps (MAJOR 0x07, 0x08) -/

/-- R64, R244: a target within the window, or ADDRESS with no effect. -/
def goto (s t : State) (c : CoreId) (k : Core) (target : Int) : Effect :=
  if 0 ≤ target ∧ target < s.windowLen k then .jump target.toNat t
  else .raise xADDRESS (addressInfo 0 (BitVec.ofInt 32 target).toNat)

def relTarget (k : Core) (a : CoreArgs) : Int := (k.pc : Int) + a.imm.toInt

def branch (minor : BitVec 5) (cond : W64 → W64 → Bool) (c : CoreId) (a : CoreArgs) (s : State) : Result :=
  .next (issue 0x07 minor { ra := true, rb := true, imm := true } true c a s (fun s k x =>
    if cond (k.sreg a.ra) (k.sreg a.rb) then goto s s c k (relTarget k a) else .done s))

def execBeq (c : CoreId) (a : CoreArgs) (s : State) : Result := branch 0 (fun x y => x == y) c a s
def execBne (c : CoreId) (a : CoreArgs) (s : State) : Result := branch 1 (fun x y => x != y) c a s
def execBlt (c : CoreId) (a : CoreArgs) (s : State) : Result := branch 2 (fun x y => x.slt y) c a s
def execBge (c : CoreId) (a : CoreArgs) (s : State) : Result := branch 3 (fun x y => !x.slt y) c a s
def execBltu (c : CoreId) (a : CoreArgs) (s : State) : Result := branch 4 (fun x y => x.ult y) c a s
def execBgeu (c : CoreId) (a : CoreArgs) (s : State) : Result := branch 5 (fun x y => !x.ult y) c a s

def execDbnz (c : CoreId) (a : CoreArgs) (s : State) : Result :=
  .next (issue 0x07 6 { ra := true, imm := true } true c a s (fun s k x =>
    let v := k.sreg a.ra - 1
    let t := s.putCore c.val (k.setS a.ra v)
    if v ≠ 0 then goto s t c k (relTarget k a) else .done t))

def execJ (c : CoreId) (a : CoreArgs) (s : State) : Result :=
  .next (issue 0x08 0 { imm := true } true c a s (fun s k x => goto s s c k (relTarget k a)))

def execJal (c : CoreId) (a : CoreArgs) (s : State) : Result :=
  .next (issue 0x08 1 { rd := true, imm := true } true c a s (fun s k x =>
    goto s (s.putCore c.val (k.setS a.rd (w64 (k.pc + 1)))) c k (relTarget k a)))

def execJr (c : CoreId) (a : CoreArgs) (s : State) : Result :=
  .next (issue 0x08 2 { ra := true } true c a s (fun s k x =>
    goto s s c k (((k.sreg a.ra).toNat % 4096 : Nat) : Int)))

end Sys2Proof.Machine
end

