-- ==== Sys2Proof/Machine/Vector.lean ====
section
/-! DEFINITION. Vector instructions (R36 to R38, R69 to R71, R97 to R102, R107 to R110): MAJOR 0x10
to 0x19. -/

set_option linter.unusedVariables false

namespace Sys2Proof.Machine

open Sys2Proof

/-! ## Shared forms -/

/-- A vector result under the mask (R36), with the poison rule of R70. -/
def Core.putV (k : Core) (a : CoreArgs) (rd : BitVec 5) (v : Lanes) (poison : Bool) : Core :=
  k.setV rd (mergeLanes (k.laneMask a) v (k.vreg rd)) (poison || (a.men && k.vpois rd))

/-- A lane-wise operation of v[RA], v[RB] where used, and v[RD] where used. -/
def laneOp (major : BitVec 6) (minor : BitVec 5) (useB useD : Bool)
    (f : W32 → W32 → W32 → W32 × FpFlags) (c : CoreId) (a : CoreArgs) (s : State) (defined : Bool := true) :
    Result :=
  .next (issue major minor { rd := true, ra := true, rb := useB, men := true } defined c a s (fun s k x =>
    let va := k.vreg a.ra
    let vb := k.vreg a.rb
    let vd := k.vreg a.rd
    let out : Vector (W32 × FpFlags) 64 := Vector.ofFn (fun l => f va[l] vb[l] vd[l])
    let poison := k.vpois a.ra || (useB && k.vpois a.rb) || (useD && k.vpois a.rd)
    .core s c ((k.putV a a.rd (out.map (·.1)) poison).addFlags (laneFlags (k.laneMask a) (out.map (·.2))))))

def floatOp2 (minor : BitVec 5) (f : W32 → W32 → W32 × FpFlags) (c : CoreId) (a : CoreArgs) (s : State) :
    Result := laneOp 0x10 minor true false (fun x y _ => f x y) c a s
def floatOp1 (minor : BitVec 5) (f : W32 → W32 × FpFlags) (c : CoreId) (a : CoreArgs) (s : State) :
    Result := laneOp 0x10 minor false false (fun x _ _ => f x) c a s

/-! ## FP32 (MAJOR 0x10) -/

def execVadd (c : CoreId) (a : CoreArgs) (s : State) : Result := floatOp2 0 add32 c a s
def execVsub (c : CoreId) (a : CoreArgs) (s : State) : Result := floatOp2 1 sub32 c a s
def execVmul (c : CoreId) (a : CoreArgs) (s : State) : Result := floatOp2 2 mul32 c a s
def execVfma (c : CoreId) (a : CoreArgs) (s : State) : Result := laneOp 0x10 3 true true fma32 c a s
def execVfms (c : CoreId) (a : CoreArgs) (s : State) : Result := laneOp 0x10 4 true true fms32 c a s
def execVmin (c : CoreId) (a : CoreArgs) (s : State) : Result := floatOp2 5 min32 c a s
def execVmax (c : CoreId) (a : CoreArgs) (s : State) : Result := floatOp2 6 max32 c a s
def execVabs (c : CoreId) (a : CoreArgs) (s : State) : Result := floatOp1 7 abs32 c a s
def execVneg (c : CoreId) (a : CoreArgs) (s : State) : Result := floatOp1 8 neg32 c a s

/-! ## INT32 (MAJOR 0x11) -/

def intOp (minor : BitVec 5) (f : W32 → W32 → W32) (c : CoreId) (a : CoreArgs) (s : State) : Result :=
  laneOp 0x11 minor true false (fun x y _ => (f x y, 0)) c a s

/-- The shift amount: the low 5 bits. -/
def shamt5 (b : W32) : Nat := b.toNat % 32

def execViadd (c : CoreId) (a : CoreArgs) (s : State) : Result := intOp 0 (· + ·) c a s
def execVisub (c : CoreId) (a : CoreArgs) (s : State) : Result := intOp 1 (· - ·) c a s
def execVimul (c : CoreId) (a : CoreArgs) (s : State) : Result := intOp 2 (· * ·) c a s
def execVand (c : CoreId) (a : CoreArgs) (s : State) : Result := intOp 3 (· &&& ·) c a s
def execVor (c : CoreId) (a : CoreArgs) (s : State) : Result := intOp 4 (· ||| ·) c a s
def execVxor (c : CoreId) (a : CoreArgs) (s : State) : Result := intOp 5 (· ^^^ ·) c a s
def execVsll (c : CoreId) (a : CoreArgs) (s : State) : Result := intOp 6 (fun x y => x <<< shamt5 y) c a s
def execVsrl (c : CoreId) (a : CoreArgs) (s : State) : Result := intOp 7 (fun x y => x >>> shamt5 y) c a s
def execVsra (c : CoreId) (a : CoreArgs) (s : State) : Result :=
  intOp 8 (fun x y => x.sshiftRight (shamt5 y)) c a s

/-! ## Compares (MAJOR 0x12) -/

/-- A mask word from one bit for each lane. -/
def maskWord (f : Fin 64 → Bool) : W64 :=
  (List.finRange 64).foldl (fun m l => if f l then m ||| BitVec.twoPow 64 l.val else m) 0

/-- The mask bits of masked-off lanes keep their value (R36). -/
def Core.putM (k : Core) (a : CoreArgs) (v : W64) : Core :=
  let mask := k.laneMask a
  k.setM a.rd.toNat ((v &&& mask) ||| (k.mreg a.rd.toNat &&& ~~~mask))

def compare (minor : BitVec 5) (f : W32 → W32 → Bool × FpFlags) (c : CoreId) (a : CoreArgs) (s : State) :
    Result :=
  .next (issue 0x12 minor { rd := true, ra := true, rb := true, men := true, rdMask := true } true c a s
    (fun s k x =>
      let va := k.vreg a.ra
      let vb := k.vreg a.rb
      let out : Vector (Bool × FpFlags) 64 := Vector.ofFn (fun l => f va[l] vb[l])
      .core s c ((k.putM a (maskWord (fun l => out[l].1))).addFlags
        (laneFlags (k.laneMask a) (out.map (·.2))))))

def execVceq (c : CoreId) (a : CoreArgs) (s : State) : Result := compare 0 cmpEq32 c a s
def execVclt (c : CoreId) (a : CoreArgs) (s : State) : Result := compare 1 cmpLt32 c a s
def execVcle (c : CoreId) (a : CoreArgs) (s : State) : Result := compare 2 cmpLe32 c a s
def execVcun (c : CoreId) (a : CoreArgs) (s : State) : Result := compare 3 cmpUn32 c a s
def execViceq (c : CoreId) (a : CoreArgs) (s : State) : Result := compare 4 (fun x y => (x == y, 0)) c a s
def execViclt (c : CoreId) (a : CoreArgs) (s : State) : Result := compare 5 (fun x y => (x.slt y, 0)) c a s

/-! ## Conversion (MAJOR 0x13) -/

/-- R66, R101, R121, R125: each lane's rounding for a target format under VAR, `base` being the element
index of lane 0, and the core after the lanes that take part have drawn. -/
def Core.roundModes (k : Core) (f : Fmt) (var : BitVec 2) (mask base : W64) :
    Vector RMode 64 × Core :=
  let r := f.drawBits
  if var = 0 ∨ (2 ≤ var.toNat ∧ r = 0) then (Vector.replicate 64 .rne, k)
  else if var = 1 then (Vector.replicate 64 .rtz, k)
  else if var = 2 then
    (Vector.ofFn (fun l =>
      .stochastic r ((sharedDraw k.seed k.sid (base + BitVec.ofNat 64 l.val)).toNat % 16)), k)
  else
    let out := k.lanes.map laneSlice
    (out.map (fun o => .stochastic r o.2),
      { k with lanes := Vector.ofFn (fun l => if mask.getLsbD l.val then out[l].1 else k.lanes[l]) })

/-- The lanes 32·g to 32·g + 31 with their rounding. -/
def laneGroup (v : Lanes) (modes : Vector RMode 64) (g : Nat) : List (W32 × RMode) :=
  (List.range 32).map (fun i => (v.getD (32 * g + i) 0, modes.getD (32 * g + i) .rne))

/-- R98: a register rounded as two MX groups: scales, element codes, flags. -/
def mxRow (f : Fmt) (v : Lanes) (modes : Vector RMode 64) : List Byte × List Nat × FpFlags :=
  let g0 := mxGroup f (laneGroup v modes 0)
  let g1 := mxGroup f (laneGroup v modes 1)
  ([g0.1, g1.1], g0.2.1 ++ g1.2.1, g0.2.2 ||| g1.2.2)

/-- VCVT of a register: each lane rounded to the format and widened back, and the flags. -/
def convertLanes (f : Fmt) (v : Lanes) (modes : Vector RMode 64) (mask : W64) : Lanes × FpFlags :=
  if f.isMx then
    let r := mxRow f v modes
    let out : Vector (W32 × FpFlags) 64 :=
      Vector.ofFn (fun l => f.widen (r.2.1.getD l.val 0) (r.1.getD (l.val / 32) 0))
    (out.map (·.1), r.2.2 ||| laneFlags mask (out.map (·.2)))
  else
    let out : Vector (Nat × FpFlags) 64 := Vector.ofFn (fun l => f.narrow modes[l] v[l])
    (out.map (fun o => match f.float with
      | some g => (f.widen o.1 0).1
      | none => (roundFp32 (f.elemVal o.1)).1), laneFlags mask (out.map (·.2)))

def execVcvt (c : CoreId) (a : CoreArgs) (s : State) : Result :=
  .next (issue 0x13 0 { rd := true, ra := true, men := true, var := true, imm := true } true c a s
    (fun s k x =>
      let f : Fmt := a.imm.setWidth 4
      if 0xD ≤ f.toNat ∨ (f.isMx = true ∧ a.men = true) then .raise xOPERAND (operandInfo 0 0 f.toNat)
      else
        let mask := k.laneMask a
        let (modes, k) := k.roundModes f a.var mask k.indexBase
        let r := convertLanes f (k.vreg a.ra) modes mask
        .core s c ((k.putV a a.rd r.1 (k.vpois a.ra)).addFlags r.2)))

/-- R528: MINOR is 2, from FP32 to INT32, or 3, from INT32 to FP32. -/
def execVcvti (c : CoreId) (a : CoreArgs) (s : State) : Result :=
  laneOp 0x13 a.opt false false
    (fun x _ _ => if a.opt.getLsbD 0 then ofInt32 x else toInt32 x) c a s (a.opt == 2 || a.opt == 3)

/-! ## Special functions (MAJOR 0x14) -/

def specialOp (minor : BitVec 5) (f : W32 → W32 × FpFlags) (c : CoreId) (a : CoreArgs) (s : State) :
    Result := laneOp 0x14 minor false false (fun x _ _ => f x) c a s

def execVrcp (c : CoreId) (a : CoreArgs) (s : State) : Result := specialOp 0 rcp32 c a s
def execVrsq (c : CoreId) (a : CoreArgs) (s : State) : Result := specialOp 1 rsq32 c a s
def execVexp (c : CoreId) (a : CoreArgs) (s : State) : Result := specialOp 2 exp32 c a s
def execVlog (c : CoreId) (a : CoreArgs) (s : State) : Result := specialOp 3 log32 c a s

/-! ## Reductions (MAJOR 0x15) -/

/-- One level of the pairwise tree of R37. -/
def treeLevel (f : W32 → W32 → W32 × FpFlags) : List W32 → List W32 × FpFlags
  | a :: b :: r =>
    let out := f a b
    let rest := treeLevel f r
    (out.1 :: rest.1, out.2 ||| rest.2)
  | l => (l, 0)

/-- R37: six levels over 64 lanes, masked-off lanes entering as the identity. -/
def reduceLanes (f : W32 → W32 → W32 × FpFlags) (identity : W32) (mask : W64) (v : Lanes) :
    W32 × FpFlags :=
  let l := (List.finRange 64).map (fun i => if mask.getLsbD i.val then v[i] else identity)
  let r := (List.range 6).foldl (fun (p : List W32 × FpFlags) _ =>
    let q := treeLevel f p.1
    (q.1, p.2 ||| q.2)) (l, 0)
  (r.1.headD 0, r.2)

/-- R69: the result is written to every lane. -/
def reduction (minor : BitVec 5) (f : W32 → W32 → W32 × FpFlags) (identity : W32) (c : CoreId)
    (a : CoreArgs) (s : State) : Result :=
  .next (issue 0x15 minor { rd := true, ra := true, men := true } true c a s (fun s k x =>
    let r := reduceLanes f identity (k.laneMask a) (k.vreg a.ra)
    .core s c ((k.setV a.rd (Vector.replicate 64 r.1) (k.vpois a.ra)).addFlags r.2)))

def execVrsum (c : CoreId) (a : CoreArgs) (s : State) : Result := reduction 0 add32 0 c a s
def execVrmax (c : CoreId) (a : CoreArgs) (s : State) : Result := reduction 1 max32 0xFF800000 c a s
def execVrmin (c : CoreId) (a : CoreArgs) (s : State) : Result := reduction 2 min32 0x7F800000 c a s

/-! ## Moves and masks (MAJOR 0x16) -/

def execVmov (c : CoreId) (a : CoreArgs) (s : State) : Result :=
  laneOp 0x16 0 false false (fun x _ _ => (x, 0)) c a s

def execVbcast (c : CoreId) (a : CoreArgs) (s : State) : Result :=
  .next (issue 0x16 1 { rd := true, ra := true, men := true } true c a s (fun s k x =>
    .core s c (k.putV a a.rd (Vector.replicate 64 ((k.sreg a.ra).setWidth 32)) false)))

def execVext (c : CoreId) (a : CoreArgs) (s : State) : Result :=
  .next (issue 0x16 2 { rd := true, ra := true, men := true, imm := true } true c a s (fun s k x =>
    .core s c (k.setS a.rd (((k.vreg a.ra).getD (a.imm.toNat % 64) 0).setWidth 64))))

def execVsel (c : CoreId) (a : CoreArgs) (s : State) : Result :=
  .next (issue 0x16 3 { rd := true, ra := true, rb := true, men := true, msel := true } true c a s
    (fun s k x =>
      .core s c (k.putV a a.rd (mergeLanes (k.mreg a.msel.toNat) (k.vreg a.ra) (k.vreg a.rb))
        (k.vpois a.ra || k.vpois a.rb))))

def maskOp (minor : BitVec 5) (useB : Bool) (f : W64 → W64 → W64) (c : CoreId) (a : CoreArgs) (s : State) :
    Result :=
  .next (issue 0x16 minor
    { rd := true, ra := true, rb := useB, men := true, rdMask := true, raMask := true, rbMask := true }
    true c a s (fun s k x => .core s c (k.putM a (f (k.mreg a.ra.toNat) (k.mreg a.rb.toNat)))))

def execMand (c : CoreId) (a : CoreArgs) (s : State) : Result := maskOp 4 true (· &&& ·) c a s
def execMor (c : CoreId) (a : CoreArgs) (s : State) : Result := maskOp 5 true (· ||| ·) c a s
def execMxor (c : CoreId) (a : CoreArgs) (s : State) : Result := maskOp 6 true (· ^^^ ·) c a s
def execMnot (c : CoreId) (a : CoreArgs) (s : State) : Result := maskOp 7 false (fun x _ => ~~~x) c a s

def execMset (c : CoreId) (a : CoreArgs) (s : State) : Result :=
  .next (issue 0x16 8 { rd := true, men := true, imm := true, rdMask := true } true c a s (fun s k x =>
    .core s c (k.putM a (a.imm ++ a.imm))))

/-! ## Accumulator rows (MAJOR 0x17) -/

/-- R69, R70, R83: VACCR waits until the accumulator is readable. -/
def execVaccr (c : CoreId) (a : CoreArgs) (s : State) : Result :=
  .next (issue 0x17 0 { rd := true, men := true, imm := true } true c a s (acc := some (a.imm.getLsbD 6))
    (fun s k x =>
    let acc := k.acc (a.imm.getLsbD 6)
    if acc.inFlight ≠ 0 then .hold s
    else .core s c (k.putV a a.rd (acc.row (a.imm.toNat % 64)) acc.poison)))

/-- Replaces the lanes of a row that the mask admits. -/
def Acc.setRow (acc : Acc) (row : Nat) (mask : W64) (v : Lanes) : Acc :=
  { acc with elems := (List.finRange 64).foldl (fun t l =>
      if mask.getLsbD l.val then tput 0 t (64 * row + l.val) v[l] else t) acc.elems }

def execVaccw (c : CoreId) (a : CoreArgs) (s : State) : Result :=
  .next (issue 0x17 1 { ra := true, men := true, imm := true } true c a s (fun s k x =>
    let b := a.imm.getLsbD 6
    let acc := (k.acc b).setRow (a.imm.toNat % 64) (k.laneMask a) (k.vreg a.ra)
    .core s c (k.setAcc b { acc with poison := acc.poison || k.vpois a.ra })))

/-! ## Tile rows (MAJOR 0x18) -/

/-- R69: the tile row of VLDR and VSTR. -/
def Core.tileRow (k : Core) (a : CoreArgs) : Nat :=
  (a.imm.toNat / 256 % 64 + (k.sreg a.ra).toNat % 64) % 64
def rowFmt (a : CoreArgs) : Fmt := BitVec.ofNat 4 (a.imm.toNat / 2 ^ 14)

/-- R69, R99: one element widened; an element of a block whose bit is clear reads as zero. -/
def Entry.lane (e : Entry) (fresh r c : Nat) : W32 × FpFlags :=
  if e.header.bitmap.getLsbD (blockOf r c) then
    e.fmt.widen (e.readCode fresh r c) (e.readScale (fresh + 4096) r c)
  else (0, 0)

/-- DEDUCED, log entry 11. -/
def execVldr (c : CoreId) (a : CoreArgs) (s : State) : Result :=
  .next (issue 0x18 0 { rd := true, ra := true, men := true, imm := true } true c a s
    (reads := fun _ => [a.imm.toNat % 256]) (fun s k x =>
    let n := a.imm.toNat % 256
    let e := k.entryFor x n
    let row := k.tileRow a
    if e.state = .empty then .raise xADDRESS (addressInfo n 0)
    else if e.state = .filling then .stall (BitVec.ofNat 16 n) s
    else if rowFmt a ≠ e.fmt ∨ 0xE ≤ e.fmt.toNat then .raise xOPERAND (operandInfo n 0 (rowFmt a).toNat)
    else
      let out : Vector (W32 × FpFlags) 64 := Vector.ofFn (fun l => e.lane s.fresh row l.val)
      .core (if e.short then s.useFrees 8192 else s) c
        ((k.putV a a.rd (out.map (·.1)) (e.state == .poisoned)).addFlags
          (laneFlags (k.laneMask a) (out.map (·.2))))))

/-- R69, R98, R100 to R102: the codes a row is stored with, its MX scales, the flags, and the core after
its draws. FP32 lanes are stored as they are. -/
def Core.storeRow (k : Core) (f : Fmt) (var : BitVec 2) (mask : W64) (row : Nat) (v : Lanes) :
    List Nat × List Byte × FpFlags × Core :=
  match f.float with
  | none =>
    if f.isMx then
      let (modes, k) := k.roundModes f var mask (k.indexBase + BitVec.ofNat 64 (64 * row))
      let r := mxRow f v modes
      (r.2.1, r.1, r.2.2, k)
    else
      let out : Vector (Nat × FpFlags) 64 := v.map f.saturate
      (out.toList.map (·.1), [], laneFlags mask (out.map (·.2)), k)
  | some g =>
    let (modes, k) := k.roundModes f var mask (k.indexBase + BitVec.ofNat 64 (64 * row))
    if f.isMx then
      let r := mxRow f v modes
      (r.2.1, r.1, r.2.2, k)
    else
      let out : Vector (Nat × FpFlags) 64 := Vector.ofFn (fun l =>
        if g = fp32 then (v[l].toNat, 0) else f.narrow modes[l] v[l])
      (out.toList.map (·.1), [], laneFlags mask (out.map (·.2)), k)

/-- A row of codes written into a DENSE tile: its bytes, and the bits of the blocks that receive an
element that does not count as zero (R74, R144). -/
def Entry.putRow (e : Entry) (row : Nat) (mask : W64) (codes : List Nat) (scales : List Byte) : Entry :=
  let f := e.fmt
  let written := (codes.zipIdx).filter (fun p => mask.getLsbD p.2)
  let bytes := written.foldl (fun t p =>
    writeBits t (f.blockSize * blockOf row p.2) (elemBit f row p.2) f.elemBits p.1) e.bytes
  let bytes := writeBytes bytes (64 * f.blockSize + 2 * row) scales
  let bitmap := written.foldl (fun m p =>
    if f.countsZero p.1 (scales.getD (p.2 / 32) 0) then m
    else m ||| BitVec.twoPow 64 (blockOf row p.2)) e.header.bitmap
  { e with bytes := bytes, header := { e.header with bitmap := bitmap } }

def execVstr (c : CoreId) (a : CoreArgs) (s : State) : Result :=
  .next (issue 0x18 1 { rd := true, ra := true, men := true, var := true, imm := true } true c a s
    (fun s k x =>
      let n := a.imm.toNat % 256
      let e := k.entryFor x n
      let row := k.tileRow a
      let mask := k.laneMask a
      if e.state = .empty then .raise xADDRESS (addressInfo n 0)
      else if e.state = .filling then .stall (BitVec.ofNat 16 n) s
      else if s.writeBusy c n then .hold s
      else if e.writable = false then .raise xADDRESS (addressInfo n 0)
      else if rowFmt a ≠ e.fmt ∨ 0xE ≤ e.fmt.toNat ∨ (e.fmt.isMx = true ∧ a.men = true) then
        .raise xOPERAND (operandInfo n 0 (rowFmt a).toNat)
      else
        let (codes, scales, fl, k) := k.storeRow e.fmt a.var mask row (k.vreg a.rd)
        let e := e.putRow row mask codes scales
        .core s c ((k.putEntry n
          { e with state := if k.vpois a.rd then .poisoned else e.state }).addFlags fl)))

/-! ## Raw tiles (MAJOR 0x18) -/

def Core.rawOffset (k : Core) (a : CoreArgs) : Nat :=
  (k.sreg a.ra + BitVec.ofNat 64 (a.imm.toNat / 256)).toNat

def execVld (c : CoreId) (a : CoreArgs) (s : State) : Result :=
  .next (issue 0x18 2 { rd := true, ra := true, men := true, imm := true } true c a s
    (reads := fun _ => [a.imm.toNat % 256]) (fun s k x =>
    let n := a.imm.toNat % 256
    let off := k.rawOffset a
    let e := k.entryFor x n
    if e.state = .empty then .raise xADDRESS (addressInfo n off)
    else if e.state = .filling then .stall (BitVec.ofNat 16 n) s
    else if off % 32 ≠ 0 ∨ e.header.storedLen.toNat < off + 256 then .raise xADDRESS (addressInfo n off)
    else
      let v : Lanes := Vector.ofFn (fun l =>
        BitVec.ofNat 32 (ofBytesLE ((List.range 4).map (fun i => tileByte e.bytes (off + 4 * l.val + i)))))
      .core s c (k.putV a a.rd v (e.state == .poisoned))))

/-- The bytes and block bits of the lanes that take part in a raw store at `off`. -/
def Entry.putRaw (e : Entry) (off : Nat) (mask : W64) (v : Lanes) : Entry :=
  (List.finRange 64).foldl (fun e l =>
    if mask.getLsbD l.val then
      { e with
        bytes := writeBytes e.bytes (off + 4 * l.val) (bytesLE 4 v[l].toNat),
        header := { e.header with
          bitmap := e.header.bitmap ||| blocksWritten e.fmt (off + 4 * l.val) 4 } }
    else e) e

def execVst (c : CoreId) (a : CoreArgs) (s : State) : Result :=
  .next (issue 0x18 3 { rd := true, ra := true, men := true, imm := true } true c a s (fun s k x =>
    let n := a.imm.toNat % 256
    let off := k.rawOffset a
    let e := k.entryFor x n
    if e.state = .empty then .raise xADDRESS (addressInfo n off)
    else if e.state = .filling then .stall (BitVec.ofNat 16 n) s
    else if s.writeBusy c n then .hold s
    else if e.writable = false ∨ off % 32 ≠ 0 ∨ e.header.storedLen.toNat < off + 256 then
      .raise xADDRESS (addressInfo n off)
    else
      let e := e.putRaw off (k.laneMask a) (k.vreg a.rd)
      .core s c (k.putEntry n { e with state := if k.vpois a.rd then .poisoned else e.state })))

/-! ## FW64 (MAJOR 0x19) -/

/-- R107: lane L of a register pair. -/
def pairLane (lo hi : Lanes) (l : Fin 64) : W64 := hi[l] ++ lo[l]

/-- The odd register of a pair. -/
def oddOf (r : BitVec 5) : BitVec 5 := r ||| 1

/-- A result of register pairs under the mask. -/
def Core.putPair (k : Core) (a : CoreArgs) (v : Vector W64 64) (poison : Bool) : Core :=
  (k.putV a a.rd (v.map (fun w => BitVec.setWidth 32 w)) poison).putV a (oddOf a.rd)
    (v.map (fun w => BitVec.extractLsb' 32 32 w)) poison

/-- R69: an odd register number raises ILLEGAL. -/
def evenRegs (a : CoreArgs) : Bool := !a.rd.getLsbD 0 && !a.ra.getLsbD 0 && !a.rb.getLsbD 0

/-- FWEXP as a signed value. -/
def Core.window (k : Core) : Int := k.fwexp.toInt

def execVfwcv (c : CoreId) (a : CoreArgs) (s : State) : Result :=
  .next (issue 0x19 0 { rd := true, ra := true, men := true } (evenRegs a) c a s (fun s k x =>
    let va := k.vreg a.ra
    let out : Vector (W64 × FpFlags) 64 := Vector.ofFn (fun l =>
      let r := fwOfVal (fp32Val va[l]) k.window
      (r.1, r.2 ||| snanFlags [va[l]]))
    .core s c ((k.putPair a (out.map (·.1)) (k.vpois a.ra)).addFlags
      (laneFlags (k.laneMask a) (out.map (·.2))))))

def execVfwadd (c : CoreId) (a : CoreArgs) (s : State) : Result :=
  .next (issue 0x19 1 { rd := true, ra := true, rb := true, men := true } (evenRegs a) c a s (fun s k x =>
    let out : Vector (W64 × FpFlags) 64 := Vector.ofFn (fun l =>
      fwAdd (pairLane (k.vreg a.ra) (k.vreg (oddOf a.ra)) l)
        (pairLane (k.vreg a.rb) (k.vreg (oddOf a.rb)) l))
    let poison := k.vpois a.ra || k.vpois (oddOf a.ra) || k.vpois a.rb || k.vpois (oddOf a.rb)
    .core s c ((k.putPair a (out.map (·.1)) poison).addFlags
      (laneFlags (k.laneMask a) (out.map (·.2))))))

def execVfwcf (c : CoreId) (a : CoreArgs) (s : State) : Result :=
  .next (issue 0x19 2 { rd := true, ra := true, men := true } (evenRegs a) c a s (fun s k x =>
    let out : Vector (W32 × FpFlags) 64 := Vector.ofFn (fun l =>
      fwToFp32 (pairLane (k.vreg a.ra) (k.vreg (oddOf a.ra)) l) k.window)
    .core s c ((k.putV a a.rd (out.map (·.1)) (k.vpois a.ra || k.vpois (oddOf a.ra))).addFlags
      (laneFlags (k.laneMask a) (out.map (·.2))))))

end Sys2Proof.Machine
end

