-- ==== Sys2Proof/Machine/RandomInstr.lean ====
section
/-! DEFINITION. Random instructions (R117 to R133): MAJOR 0x34 to 0x37. -/

set_option linter.unusedVariables false

namespace Sys2Proof.Machine

open Sys2Proof

/-- Draws written to v[RD] under the mask. -/
def Core.putDraws (k : Core) (a : CoreArgs) (v : Lanes) : Core := k.putV a a.rd v false

/-- The element index of a lane. -/
def elemIndex (k : Core) (a : CoreArgs) (l : Fin 64) : W64 := k.sreg a.ra + BitVec.ofNat 64 l.val

def execRidx (c : CoreId) (a : CoreArgs) (s : State) : Result :=
  .next (issue 0x34 a.opt { rd := true, ra := true, men := true } (a.opt.toNat < 2) c a s (fun s k x =>
    let draw := if a.opt = 0 then sharedDraw else fullDraw
    .core s c (k.putDraws a (Vector.ofFn (fun l => draw k.seed k.sid (elemIndex k a l))))))

/-- The lane states of the lanes that take part replaced (R125). -/
def Core.stepLanes (k : Core) (mask : W64) (f : LaneState → LaneState) : Core :=
  { k with lanes := Vector.ofFn (fun l => if mask.getLsbD l.val then f k.lanes[l] else k.lanes[l]) }

def execRlane (c : CoreId) (a : CoreArgs) (s : State) : Result :=
  .next (issue 0x35 0 { rd := true, men := true } true c a s (fun s k x =>
    .core s c ((k.putDraws a (k.lanes.map (fun l => (laneStep l).2))).stepLanes (k.laneMask a)
      (fun l => (laneStep l).1))))

/-- R128: an indexed normal variate. -/
def indexedNormal (seed sid : W64) (table : Bool) (i : W64) : W32 :=
  if table then
    normalByTable (pickDraw (blockDraws seed sid 0x04 0 (BitVec.ofNat 64 (i.toNat / 4))) i.toNat)
  else
    let y := blockDraws seed sid 0x03 0 (BitVec.ofNat 64 (i.toNat / 2))
    boxMuller y.1 y.2.1 (i.toNat % 2 == 1)

/-- R128, R129: a normal variate of a lane and the lane after it. -/
def laneNormal (table : Bool) (l : LaneState) : LaneState × W32 :=
  let (l1, d1) := laneStep l
  if table then (l1, normalByTable d1)
  else
    let (l2, d2) := laneStep l1
    (l2, boxMuller d1 d2 false)

def execRnorm (c : CoreId) (a : CoreArgs) (s : State) : Result :=
  .next (issue 0x37 a.opt { rd := true, ra := a.opt == 0, men := true, var := true }
    (a.opt.toNat < 2 && a.var.toNat < 2) c a s (fun s k x =>
      let table := a.var == 1
      if a.opt = 0 then
        .core s c (k.putDraws a (Vector.ofFn (fun l => indexedNormal k.seed k.sid table (elemIndex k a l))))
      else
        .core s c ((k.putDraws a (k.lanes.map (fun l => (laneNormal table l).2))).stepLanes
          (k.laneMask a) (fun l => (laneNormal table l).1))))

/-! ## RSET, RSAVE, RLOAD (MAJOR 0x36) -/

def execRsetSeed (c : CoreId) (a : CoreArgs) (s : State) : Result :=
  .next (issue 0x36 0 { ra := true } true c a s (fun s k x => .core s c { k with seed := k.sreg a.ra }))

/-- R124, R133: a pending restored state is taken where seed and stream identifier equal the saved
ones, and is gone either way. -/
def execRsetStreamId (c : CoreId) (a : CoreArgs) (s : State) : Result :=
  .next (issue 0x36 1 { ra := true } true c a s (fun s k x =>
    let sid := k.sreg a.ra
    let fresh := seedLanes k.seed sid (s.corePos k.region.val c.val)
    let lanes := match k.restored with
      | some r => if r.seed = k.seed ∧ r.sid = sid then r.lanes else fresh
      | none => fresh
    .core s c { k with sid := sid, lanes := lanes, restored := none }))

def execRsetIndexBase (c : CoreId) (a : CoreArgs) (s : State) : Result :=
  .next (issue 0x36 2 { ra := true } true c a s (fun s k x =>
    .core s c { k with indexBase := k.sreg a.ra }))

/-- Length of the record of R132. -/
def recordLen : Nat := 2112

/-- R132: the record of a core. -/
def State.laneRecord (s : State) (c : Nat) (k : Core) : LaneRec :=
  let r := k.region.val
  { seed := k.seed, sid := k.sid, laneBase := BitVec.ofNat 32 (64 * s.corePos r c),
    laneCount := BitVec.ofNat 32 (64 * (s.coreOrder r).length), indexBase := k.indexBase, lanes := k.lanes }

/-- The bytes of a record. -/
def recordBytes (r : LaneRec) : List Byte :=
  bytesLE 8 r.seed.toNat ++ bytesLE 8 r.sid.toNat ++ bytesLE 4 r.laneBase.toNat ++
  bytesLE 4 r.laneCount.toNat ++ bytesLE 8 r.indexBase.toNat ++ bytesLE 32 0 ++
  r.lanes.toList.flatMap (fun l => bytesLE 8 l.a.toNat ++ bytesLE 8 l.b.toNat ++
    bytesLE 4 l.buffer.toNat ++ bytesLE 1 l.nibbles.toNat ++ bytesLE 11 0)

/-- The lanes of a record's bytes, verbatim (R132). -/
def lanesOfBytes (t : Table Byte) : Vector LaneState 64 :=
  Vector.ofFn (fun l =>
    let at_ := 64 + 32 * l.val
    let num := fun off n => ofBytesLE ((List.range n).map (fun i => tileByte t (at_ + off + i)))
    { a := BitVec.ofNat 64 (num 0 8), b := BitVec.ofNat 64 (num 8 8), buffer := BitVec.ofNat 32 (num 16 4),
      nibbles := BitVec.ofNat 8 (num 20 1) })

/-- DEDUCED, log entry 15. -/
def execRsave (c : CoreId) (a : CoreArgs) (s : State) : Result :=
  .next (issue 0x36 3 { imm := true } true c a s (fun s k x =>
    let n := a.imm.toNat % 256
    let e := k.entryFor x n
    if e.state ≠ .empty ∧ e.state ≠ .filling ∧ e.header.storedLen.toNat < recordLen then
      .raise xADDRESS (addressInfo n 0)
    else rawStore s c k x n 0 1 (recordBytes (s.laneRecord c.val k)) false))

def execRload (c : CoreId) (a : CoreArgs) (s : State) : Result :=
  .next (issue 0x36 4 { imm := true } true c a s (reads := fun _ => [a.imm.toNat % 256]) (fun s k x =>
    let n := a.imm.toNat % 256
    let e := k.entryFor x n
    if e.state = .empty then .raise xADDRESS (addressInfo n 0)
    else if e.state = .filling then .stall (BitVec.ofNat 16 n) s
    else if e.header.storedLen.toNat < recordLen then .raise xADDRESS (addressInfo n 0)
    else
      let word := fun at_ => BitVec.ofNat 64 (ofBytesLE ((List.range 8).map (fun i =>
        tileByte e.bytes (at_ + i))))
      .core s c { k with
        seed := word 0, sid := word 8, indexBase := word 24, lanes := lanesOfBytes e.bytes }))

end Sys2Proof.Machine
end

