-- ==== Sys2Proof/Machine/Begin.lean ====
section
/-! DEFINITION. The start of a step or batch, shared by STEP_BEGIN and BEGIN, and the Peg arrivals that
join a step or a linked group across modules (R21, R22, R131, R185, R251, R264, R279, R300, R301, R343,
R344, R380). -/

set_option linter.unusedVariables false

namespace Sys2Proof.Machine

open Sys2Proof

/-! ## STEP_BEGIN (R21, R22, R251, R380) -/

/-- R22: the step number may open the next step. -/
def Ctx.stepFollows (c : Ctx) (step : W32) : Bool :=
  if c.freshStep then !c.stepRecorded || step != c.step else precedes c.step step

/-- R380: DONE_GROUP names a group of the context that fits its tree table. -/
def State.doneGroupOk (s : State) (x : CtxId) (g : W16) : Bool :=
  let p := s.pegOf g.toNat
  decide (g.toNat < 1024) && p.configured && p.ctx == x &&
  (match (s.ctxOf x.val).jobRec with
    | none => p.link.isNone
    | some j => p.link == some j.ctrlTree)

/-- Regions of a context with a state or a sequencer state. -/
def State.anyRegion (s : State) (x : Nat) (p : Region → Bool) : Bool := (s.regionsOf x).any (fun r => p (s.regionOf r))

/-- The cores of a context's regions. -/
def State.coresOf (s : State) (x : Nat) : List Nat := (s.regionsOf x).flatMap s.coreOrder

/-- R131: a core of the region copies its lanes, after reloading its copy where the last step has to be
repeated. The copy is charged to the Basket of its cluster. -/
def State.stepCopy (s : State) (x r c : Nat) : State :=
  let k := s.coreOf c
  let old := tget none k.stepCopies x
  let lanes := match (s.ctxOf x).reloadLanes, old with
    | true, some o => o.lanes
    | _, _ => k.lanes
  let k := { k with lanes := lanes }
  let rec_ := s.laneRecord c { k with region := Fin.ofNat 256 r }
  let s := s.putCore c { k with stepCopies := tput none k.stepCopies x (some rec_) }
  if old.isSome then s else s.chargeBasket (c / 32) x copyBytes

def State.takeCopies (s : State) (x : Nat) : State :=
  s.each (s.regionsOf x) (fun s r => s.each (s.coreOrder r) (fun s c => s.stepCopy x r c))

/-- R481: a slice other than of spares runs on a cluster of a region of the context. -/
def State.sliceUnder (s : State) (x : Nat) : Bool :=
  (s.regionsOf x).any (fun r => (s.clusterOrder r).any (fun k => match (s.fieldOf (k / 16)).slice with
    | some l => l.kind == .field || l.kind == .scan || (l.kind == .cluster && l.ci.val == k % 16)
    | none => false))

/-- R22, R251, R279, R380, R481: the checks of a STEP_BEGIN, the host's own apart. -/
def State.badBegin (s : State) (x : CtxId) (b : BeginArgs) : Option Bad :=
  let c := s.ctxOf x.val
  firstBad [
    check (!c.stepFollows b.step) stBAD_ARG 0,
    check (c.serving && b.version != 0) stBAD_ARG 4,
    check (!s.doneGroupOk x b.doneGroup) stBAD_ARG 8,
    check (s.anyRegion x.val (fun g => g.state == .mapped || g.state == .stale)) stNOT_READY,
    check (c.isOpen || s.anyRegion x.val (fun g => g.seq == .running || g.seq == .draining) || s.sliceUnder x.val) stBUSY,
    check ((s.takeCopies x.val).basketOver x.val) stNO_QUOTA]

/-- R263: in a training context the tiles of the bindings pass to the newly ACTIVE slot, and so do the
streams that resolved them. -/
def State.passTiles (s : State) (x : CtxId) (toB : Bool) : State :=
  let handles := (s.ctxOf x.val).bindings.flatMap (fun e => match e.2 with
    | some b => (List.range b.count.toNat).map (fun i => x.val * 2 ^ 29 + b.first.toNat + i)
    | none => [])
  let s := s.each handles (fun s h =>
    let from_ := h + (if toB then 0 else 2 ^ 32)
    let to_ := h + (if toB then 2 ^ 32 else 0)
    (s.putTile to_ (s.tileOf from_)).putTile from_ {})
  { s with clusters := tmap {} (fun _ k => { k with
      streams := tmap {} (fun _ v => { v with
        stream := v.stream.map (fun m => if m.ctx = x then { m with slotB := toB } else m) }) k.streams }) s.clusters }

/-- R21: a training context activates a slot for a version. -/
def State.activate (s : State) (x : CtxId) (version : W32) : State :=
  let c := s.ctxOf x.val
  if c.serving then s
  else
    let holds := fun (q : Slot) => q.valid && q.tag == version
    let toB := if holds c.slotA then false else if holds c.slotB then true else !c.activeB
    let fresh := !holds c.slotA && !holds c.slotB
    let s := if toB = c.activeB then s else s.passTiles x toB
    s.modCtx x.val (fun c => { c with
      activeB := toB,
      slotA := if fresh && !toB then { tag := version, valid := true } else c.slotA,
      slotB := if fresh && toB then { tag := version, valid := true } else c.slotB })

/-- R264: the placed marks of STREAMED bindings are cleared. -/
def State.clearPlaced (s : State) (x : CtxId) : State :=
  s.each (s.ctxOf x.val).bindings (fun s e =>
    match e.2 with
    | some b =>
      if b.resident then s
      else
        s.each (List.range b.count.toNat) (fun s i =>
          s.modTile (s.tileKeyIn (BitVec.ofNat 32 (x.val * 2 ^ 29 + b.first.toNat + i)) (s.ctxOf x.val).activeB)
            (fun t => { t with placed := false }))
    | none => s)

/-- R251: a core is given the program of a context to run. -/
def State.queueProgram (s : State) (x : CtxId) (r c : Nat) : State :=
  let k := s.coreOf c
  if k.running = none then s.putCore c (k.start x (Fin.ofNat 256 r))
  else if k.queue.contains x then s
  else s.putCore c { k with queue := k.queue ++ [x] }

/-- R251: a region's stage is armed and its program queued. -/
def State.armRegion (s : State) (x : CtxId) (r : Nat) : State :=
  let s := s.modRegion r (fun g => { g with
    seq := .armed, shown := none, leases := [], handed := 0, doneTiles := 0, nextTile := 0, outstanding := [], finished := [],
    pegBases := g.stage.opers.map (fun o => if o.kind = 3 then (s.pegOf (o.base.toNat % 1024)).completed else 0),
    cutCount := none, cut := [] })
  let s := s.each (s.clusterOrder r) (fun s k =>
    s.modCluster k (fun c => { c with seqs := tput {} c.seqs x.val {} }))
  s.each (s.coreOrder r) (fun s c => s.queueProgram x r c)

/-- R343: the counts of the linked groups are step state. -/
def State.dropLinked (s : State) (x : CtxId) : State :=
  let s := s.modCtx x.val (fun c => { c with linked := [] })
  s.each (tkeys (fun p : Peg => p.configured && p.ctx == x) s.pegs) (fun s g =>
    s.modPeg g (fun p => { p with linkGen := 0 }))

/-- R27: version v − 1 of the step that opens is available: the slot that is not ACTIVE holds it (DEDUCED, log
entry 77). -/
def Ctx.previousAvailable (c : Ctx) : Bool :=
  let active := if c.activeB then c.slotB else c.slotA
  let other := if c.activeB then c.slotA else c.slotB
  other.valid && other.tag + 1 == active.tag

/-- A step or batch opens. What a pass of the sort-and-merge tree still holds is step state (R17). -/
def State.openStep (s : State) (x : CtxId) (b : BeginArgs) (cmd : Option Hdr) : State :=
  let s := (((s.dropTreePasses x).takeCopies x.val).activate x b.version).clearPlaced x
  let s := s.modCtx x.val (fun c => { c with
    step := b.step, version := if c.serving then 0 else b.version, stepRecorded := true, freshStep := false,
    isOpen := true, reloadLanes := false, batch := b.batch, doneGroup := Fin.ofNat 1024 b.doneGroup.toNat,
    outstanding := 0, marks := {}, reported := [], doneSent := false, heldDone := none, grads := [],
    decided := false, heldNan := false, beginCmd := cmd, batchOnOld := false, canInvalid := c.previousAvailable })
  let s := s.dropLinked x
  s.each (s.regionsOf x.val) (fun s r => s.armRegion x r)

/-- R21, R22, R251, R344: a step begins, or its failing check. -/
def State.beginStep (s : State) (x : CtxId) (b : BeginArgs) (cmd : Option Hdr) :
    State × Option Bad :=
  match s.badBegin x b with
  | some e => (s, some e)
  | none => ((s.openStep x b cmd).closeBatch x, none)

/-! ## The change of slots (R280, R281) -/

/-- The streams of a context that hold a reference to a slot's tiles: those that run, and those whose last reply
has not arrived. -/
def State.slotReferences (s : State) (x : CtxId) (slotB : Bool) : Nat :=
  s.clusters.foldl (fun n e =>
    let running := (e.2.streams.filter (fun v => match v.2.stream with
      | some m => m.ctx == x && m.bound && m.slotB == slotB && m.ended.isNone
      | none => false)).map (fun v => (v.1, v.2.epoch))
    let owed := e.2.xfers.filterMap (fun v => match v.2.busy with
      | some b => if b.ctx = x ∧ b.bound = true ∧ b.slotB = slotB then some (b.slot, b.epoch) else none
      | none => none)
    n + (running ++ owed).eraseDups.length) 0

/-- R280: the new copy of a swap is placed, and no batch is open. -/
def State.changesSlot (s : State) (x : CtxId) : Bool :=
  let c := s.ctxOf x.val
  c.swap == .waiting && !c.isOpen

/-- R280 steps 4 and 5: the new slot becomes ACTIVE. -/
def State.switchSlots (s : State) (x : CtxId) : State :=
  let c := s.ctxOf x.val
  let object := fun (i : Nat) (b : Binding) => match c.swapObjects.find? (fun e => e.1 == i) with
    | some e => { b with object := e.2 }
    | none => b
  let refs := s.slotReferences x c.activeB
  let s := s.putCtx x.val { c with
    activeB := !c.activeB, swap := .freeing, swapObjects := [], swapCmd := none, refs := refs,
    bindings := tmap none (fun i b => b.map (object i)) c.bindings }
  s.completeSome c.swapCmd stOK

/-! ## Linked groups and step-done (R301, R343) -/

/-- R343 points 4 and 5: COMPLETE goes to the children, and one arrival to the local group as an EXT source. -/
def State.linkComplete (s : State) (x : CtxId) (r : TreeRec) (g : GroupId) (m : PegMsg) : State :=
  let s := s.sendDown x.val r (.pegDown { m with node := s.nodeOf x.val, count := 0, nan := false })
  let s := s.modPeg g.val (fun p => { p with echo := p.echo + 1 })
  s.postPeg g.val x.val 0 true false

/-- R343 points 2 to 4: n arrivals for a generation of a linked group at this node. -/
def State.linkArrive (s : State) (x : CtxId) (tree : Nat) (g : GroupId) (gen : W32) (n : Nat) (nan : Bool) : State :=
  match s.treeRec x.val tree with
  | none => s
  | some r =>
    let c := s.ctxOf x.val
    let old := (c.linked.find? (fun e => e.group == g && e.gen == gen)).getD
      { group := g, gen := gen, count := 0, nan := false }
    let now := { old with count := old.count + n, nan := old.nan || nan }
    let rest := c.linked.filter (fun e => !(e.group == g && e.gen == gen))
    let keep := s.putCtx x.val { c with linked := rest ++ [now] }
    let gone := s.putCtx x.val { c with linked := rest }
    let m : PegMsg := { job := c.job, node := s.nodeOf x.val, tree := BitVec.ofNat 8 tree, group := g, step := c.step,
                        gen := gen, count := r.subtree, nan := now.nan }
    if !treeRoot r then
      if now.count < r.subtree.toNat then keep else gone.sendUp x.val r (.pegUp m)
    else if now.count < r.size.toNat then keep
    else
      let ctrl := match c.jobRec with
        | some j => j.ctrlTree.toNat == tree
        | none => false
      if g = c.doneGroup ∧ ctrl = true then gone.decideStep x (.done now.nan)
      else gone.linkComplete x r g m

/-- R343 point 1: this node's own arrival. -/
def State.linkLocal (s : State) (x : CtxId) (tree : Nat) (g : GroupId) (nan : Bool) : State :=
  let gen := (s.pegOf g.val).linkGen + 1
  (s.modPeg g.val (fun p => { p with linkGen := gen })).linkArrive x tree g gen 1 nan

/-- R301: a step-done post is held by the fabric interface; a mark other than NAN discards it. -/
def State.holdDone (s : State) (x : CtxId) (nan : Bool) : State :=
  let c := s.ctxOf x.val
  if !c.isOpen || c.doneSent || c.heldDone.isSome || c.marks != { nan := c.marks.nan } then s
  else s.putCtx x.val { c with heldDone := some nan }

/-- R301: the held post leaves once no record is outstanding. -/
def State.releaseDone (s : State) (x : CtxId) : State :=
  let c := s.ctxOf x.val
  match c.heldDone with
  | none => s
  | some n =>
    if !c.isOpen || c.outstanding ≠ 0 || !s.mode.works then s
    else
      let nan := n || c.marks.nan
      let s := s.putCtx x.val { c with heldDone := none, doneSent := true }
      match c.jobRec with
      | none => s.decideStep x (.done nan)
      | some j => s.linkLocal x j.ctrlTree.toNat c.doneGroup nan

/-- R185, R301, R343: a group's total has reached COUNT. -/
def State.completeGroup (s : State) (g : GroupId) : State :=
  let p := s.pegOf g.val
  if !p.configured || p.total < p.count.toNat then s
  else
    let s := s.putPeg g.val { p with total := p.total - p.count.toNat, nan := false, completed := p.completed + 1,
                                     echo := p.echo - 1 }
    let c := s.ctxOf p.ctx.val
    if 0 < p.echo then s
    else if g = c.doneGroup ∧ c.isOpen = true then (if c.serving then s else s.holdDone p.ctx p.nan)
    else
      match p.link with
      | some t => s.linkLocal p.ctx t.toNat g p.nan
      | none => s

end Sys2Proof.Machine
end

