-- ==== Sys2Proof/Machine/Registers.lean ====
section
/-! DEFINITION. The registers of the processor spaces as TELEM_READ and the Tack monitor read them, the status
mirror's words, and the telemetry bodies (R60, R61, R156, R171, R212, R257, R258, R285, R286, R305, R333, R335,
R361 to R363, R385, R422, R423, R441 to R443, R457, R463, R464, R489 to R493, R503, R507, R508). -/

set_option linter.unusedVariables false

namespace Sys2Proof.Machine

open Sys2Proof

/-- A register from its fields: lowest bit, width, value. DESIGN CHOICE, log entry 31: an RSV bit, which R14 leaves
undefined, reads 0. -/
def pack (fields : List (Nat × Nat × Nat)) : W64 :=
  BitVec.ofNat 64 (fields.foldl (fun a f => a + f.2.2 % 2 ^ f.2.1 * 2 ^ f.1) 0)

def flag (b : Bool) : Nat := if b then 1 else 0

/-- Word i of a value of several words. -/
def wordOf {w : Nat} (v : BitVec w) (i : Nat) : W64 := BitVec.ofNat 64 (v.toNat / 2 ^ (64 * i))

def Counter.word (c : Counter) : W64 := pack [(0, 48, c.count.toNat), (63, 1, flag c.ovf)]

/-! ## Codes -/

/-- MOD_STATUS.STATE (R362). -/
def ModState.code : ModState → Nat
  | .off => 0
  | .bringup => 1
  | .ready => 2
  | .run => 3
  | .hold => 4
  | .drain => 5
  | .maint => 6
  | .faulted => 7

def FieldState.code : FieldState → Nat
  | .off => 0
  | .test => 1
  | .online => 2
  | .throttled => 3
  | .dark => 4
  | .retired => 5

def RegionState.code : RegionState → Nat
  | .unmapped => 0
  | .mapped => 1
  | .loaded => 2
  | .stale => 3

def SeqState.code : SeqState → Nat
  | .idle => 0
  | .armed => 1
  | .running => 2
  | .draining => 3
  | .done => 4
  | .aborted => 5

def SeqState.ofCode : Nat → SeqState
  | 1 => .armed
  | 2 => .running
  | 3 => .draining
  | 4 => .done
  | 5 => .aborted
  | _ => .idle

def StaleCause.code : StaleCause → Nat
  | .none => 0
  | .row => 1
  | .dark => 2
  | .retired => 3
  | .cutoff => 4

def SwapState.code : SwapState → Nat
  | .none => 0
  | .filling => 1
  | .waiting => 2
  | .freeing => 3

def ImageState.code : ImageState → Nat
  | .empty => 0
  | .incomplete => 1
  | .complete => 2
  | .erasing => 3

def UnitState.code : UnitState → Nat
  | .down => 0
  | .wait => 1
  | .training => 2
  | .active => 3
  | .retrain => 4

def Width.code : Width → Nat
  | .none => 0
  | .half => 1
  | .full => 2

def DownCause.code : DownCause → Nat
  | .none => 0
  | .train => 1
  | .lanes => 2
  | .role => 3

def TimeState.code : TimeState → Nat
  | .free => 0
  | .acquiring => 1
  | .locked => 2
  | .holdover => 3

def OscState.code : OscState → Nat
  | .free => 0
  | .joining => 1
  | .locked => 2
  | .leaving => 3

def RefState.code : RefState → Nat
  | .absent => 0
  | .outOfRange => 1
  | .qualifying => 2
  | .good => 3

def FwState.code : FwState → Nat
  | .empty => 0
  | .incomplete => 1
  | .staged => 2
  | .valid => 3

def Planner.code : Planner → Nat
  | .idle => 0
  | .planning => 1
  | .applying => 2
  | .waitHost => 3

/-! ## Step in force (R457) -/

def State.stepInForce (s : State) (f : Nat) : Nat :=
  let v := s.fieldOf f
  if fieldServes v then Nat.max v.thStep.toNat s.power.pwrStep.toNat else 0

/-! ## Field-controller registers -/

/-- CORE_STATUS.STATE of physical core n of a field (R60). -/
def State.coreStateCode (s : State) (f n : Nat) : Nat :=
  let p := 576 * f + n
  let v := s.fieldOf f
  if v.state = .off then 0
  else if v.state = .test then 6
  else if s.restoredSpare p && !s.rowRetired (p / 9) then 2
  else if s.badCore p || (s.physOf p).health == .failed then 4
  else if s.rowRetired (p / 9) || v.state == .retired then 5
  else if (s.physOf p).health = .suspect then 3
  else if (s.serves p).isSome then 1
  else if n % 9 = 8 then 2
  else 5

def State.coreStatus (s : State) (f n : Nat) : W64 :=
  let p := 576 * f + n
  let k := s.physOf p
  let c := if (s.fieldOf f).state = .off then none else s.serves p
  let mask := match c with
    | some c => ((List.range 8).filter (fun x => (s.regionAt x (c / 32)).isSome)).foldl (fun a x => a + 2 ^ x) 0
    | none => 0
  pack [(0, 3, s.coreStateCode f n), (3, 3, c.getD 0 % 8), (6, 1, flag c.isSome), (8, 8, mask),
    (16, 16, k.score.toNat), (32, 2, k.hbMissed.toNat), (40, 8, k.lastFault.toNat), (48, 16, k.hbSeq.toNat)]

/-- MESH_BND of direction b of a field (R171). -/
def State.meshBnd (s : State) (f b : Nat) : W64 :=
  let v := s.fieldOf f
  let absent := v.state == .off || (if b < 8 then f % 10 == 9 else f / 10 == 9)
  let m := v.boundary b
  let n := popcount m.bad
  let st := match boundaryWidth m.bad with
    | .full => 0
    | .half => 1
    | .off => 2
  if absent then 3
  else pack [(0, 2, st), (8, 7, n), (16, 3, 4 - n), (32, 16, m.score.toNat)]

/-- A minute in units of the time base. -/
def minute : Nat := ms 60000

/-- BIST_STATUS (R493). -/
def State.bistStatus (s : State) (f : Nat) : W64 :=
  let v := s.fieldOf f
  let oldest := (List.range 16).foldl (fun a c => Nat.max a (s.since (tget 0 v.sparePassed c) / minute)) 0
  pack [(0, 4, v.lastCluster.toNat), (4, 2, v.lastKind.toNat), (6, 1, flag v.slice.isSome), (7, 1, flag v.lastPass),
    (16, 16, v.slices.toNat), (32, 16, v.sliceFails.toNat), (48, 16, Nat.min oldest 0xFFFF)]

def State.thermStatus (s : State) (f : Nat) : W64 :=
  let v := s.fieldOf f
  pack [(0, 16, v.temp.toNat), (16, 4, v.thStep.toNat), (20, 4, s.stepInForce f), (24, 4, v.hotSensor.toNat),
    (28, 4, popcount v.badSensors), (32, 1, flag v.regFault), (33, 1, flag (s.mgmt.hostFunctions.getLsbD 6)),
    (48, 16, v.darkCount.toNat)]

def State.clkStatus (s : State) (f : Nat) : W64 :=
  let v := s.fieldOf f
  pack [(0, 2, v.osc.code), (2, 4, s.stepInForce f), (6, 1, flag v.arithGated), (7, 1, flag v.meshGated),
    (8, 1, flag v.cdcIdle), (16, 16, v.phaseErr.toNat), (32, 16, v.cdcTimeouts.toNat)]

/-- Field-controller space: an unmapped offset reads 0. -/
def State.readField (s : State) (f off : Nat) : W64 :=
  if 0x10000 ≤ off ∧ off < 0x10000 + 16 * 576 then
    let n := (off - 0x10000) / 16
    if off % 16 = 0 then s.coreStatus f n else (s.physOf (576 * f + n)).fault
  else if (0x20000 ≤ off ∧ off < 0x20400) ∨ (0x21000 ≤ off ∧ off < 0x21400) ∨ (0x31000 ≤ off ∧ off < 0x31400) then
    (s.counterOf (counterKey (f + 1) off)).word
  else if 0x20400 ≤ off ∧ off < 0x20480 then
    let k := s.clusterOf (16 * f + (off - 0x20400) / 8)
    pack [(0, 16, k.basketScore.toNat), (16, 16, k.routerScore.toNat)]
  else if 0x30000 ≤ off ∧ off < 0x30080 then s.meshBnd f ((off - 0x30000) / 8)
  else if 0x30100 ≤ off ∧ off < 0x30200 then
    wordOf ((s.fieldOf f).boundary ((off - 0x30100) / 16)).bad (off % 16 / 8)
  else if off = 0x40000 then s.clkStatus f
  else if off = 0x40008 then pack [(0, 1, flag (s.fieldOf f).compat)]
  else if off = 0x40010 then s.thermStatus f
  else if off = 0x40018 then s.bistStatus f
  else 0

/-! ## Firmware images (R402) -/

/-- n bytes of an image, little-endian. -/
def FwSlot.word (f : FwSlot) (off n : Nat) : Nat := ofBytesLE ((List.range n).map (fun i => tget 0 f.image (off + i)))

def FwSlot.version (f : FwSlot) : W32 := BitVec.ofNat 32 (f.word 4 4)
def FwSlot.rollback (f : FwSlot) : Nat := f.word 8 1
def FwSlot.digest (f : FwSlot) : BitVec 384 := BitVec.ofNat 384 (f.word 16 48)

/-- FORMAT is known, and the lengths and the rollback level are in range. -/
def FwSlot.headerOk (f : FwSlot) : Bool :=
  f.word 0 4 == 1 && decide (f.rollback ≤ 64) && decide (f.word 12 4 ≤ 33554432) && decide (f.word 160 4 ≤ 16384)

/-! ## MMP registers -/

/-- HAMPER_CH (R212). -/
def State.hamperCh (s : State) (p : Nat) : W64 :=
  let c := s.channelOf p
  let h := p / 32
  let place := if s.hamperUp then s.channelServes h (p % 32) else none
  let st := if s.badChannel h (p % 32) || c.failed then 4
    else if !s.hamperUp then 0
    else if (s.stackOf h).retired then 5
    else if c.suspect then 3
    else match place with
      | some q => if s.pairLive h q.1 then 1 else 5
      | none => 2
  pack [(0, 3, st), (8, 4, match place with
      | some q => q.1
      | none => 15), (12, 1, match place with
      | some q => q.2
      | none => 0), (16, 16, c.score.toNat), (32, 16, c.ueLines.toNat)]

def State.regionStatus (s : State) (r : Nat) : W64 :=
  let g := s.regionOf r
  pack [(0, 3, g.state.code), (3, 3, (g.shown.getD g.seq).code), (6, 1, flag (g.state != .unmapped && g.sampler.getLsbD 15)), (8, 3, g.ctx.val), (16, 6, g.x0),
    (22, 6, g.y0), (28, 6, g.width), (34, 6, g.height), (40, 16, (s.coreOrder r).length), (56, 3, g.cause.code)]

def State.regionProgress (s : State) (r : Nat) : W64 :=
  let g := s.regionOf r
  pack [(0, 32, g.handed.toNat), (32, 32, g.doneTiles.toNat)]

/-- WSLOT (R285), its low and high words. -/
def Ctx.wslot (c : Ctx) : W64 :=
  pack [(0, 1, flag c.activeB), (1, 1, flag c.slotA.valid), (2, 1, flag c.slotB.valid), (3, 2, c.swap.code),
    (16, 16, Nat.min c.refs 0xFFFF)]
def Ctx.wtags (c : Ctx) : W64 := pack [(0, 32, c.slotA.tag.toNat), (32, 32, c.slotB.tag.toNat)]

/-- Bits [86:80] of STEP_STATE (R305). -/
def Ctx.markBits (c : Ctx) : Nat :=
  flag c.doneSent + 2 * flag c.marks.nan + 4 * flag c.marks.crc + 8 * flag c.marks.egress + 16 * flag c.marks.short +
    32 * flag c.marks.poison + 64 * flag c.marks.aborted

/-- STEP_STATE (R305), its low and high words. -/
def Ctx.stepLow (c : Ctx) : W64 := pack [(0, 32, c.step.toNat), (32, 32, c.version.toNat)]
def Ctx.stepHigh (c : Ctx) : W64 :=
  pack [(0, 16, Nat.min c.outstanding 0xFFFF), (16, 7, c.markBits), (24, 3, c.lastOutcome.val),
    (32, 32, c.lastOutcomeStep.toNat)]

/-- PRESS_SLOT (R286), word i. -/
def ImageSlot.word (m : ImageSlot) (i : Nat) : W64 :=
  match i with
  | 0 => pack [(0, 2, m.state.code), (2, 1, flag m.compress), (3, 1, flag m.held), (16, 16, m.extents.toNat),
      (32, 32, m.version.toNat)]
  | 1 => m.imageId
  | 2 => pack [(0, 16, m.extentsTotal.toNat)]
  | _ => 0

def LinkUnit.status (k : LinkUnit) : W64 :=
  pack [(0, 3, k.state.code), (3, 2, k.width.code), (5, 4, k.txSpare.toNat), (9, 4, k.rxSpare.toNat),
    (13, 9, (k.badTx ||| k.badRx).toNat), (24, 2, k.gangPos.toNat), (26, 3, k.gangSize.toNat), (29, 3, k.cause.code),
    (32, 2, match k.peer with
      | none => 0
      | some .module => 1
      | some .server => 2),
    (34, 1, flag k.hostTrained), (35, 1, flag k.locked), (36, 1, flag k.timeParent), (40, 8, k.openCtx.toNat),
    (48, 16, k.score.toNat)]

def LinkUnit.peerWord (k : LinkUnit) : W64 := pack [(0, 48, k.serial.toNat), (48, 7, k.peerUnit.toNat)]

/-- The time parent's link index, 0x7F for none. -/
def State.timeParent (s : State) : Nat := ((List.range 128).find? (fun u => (s.unitOf u).timeParent)).getD 0x7F

def State.timeWord (s : State) : W64 :=
  let t := s.timeStatus
  pack [(0, 2, t.state.code), (2, 1, flag t.stepped), (3, 1, flag s.clocks.selB), (4, 7, s.timeParent),
    (16, 16, t.offset.toNat), (32, 16, t.rtt.toNat), (48, 8, t.depth.toNat)]

/-- LANE_SCORE (R491), word i of direction d of a unit. -/
def State.laneScore (s : State) (u d i : Nat) : W64 :=
  let v := if d = 0 then (s.unitOf u).txLaneScore else (s.unitOf u).rxLaneScore
  pack ((List.range 4).map (fun j => (16 * j, 16, (v.toList.getD (4 * i + j) 0).toNat)))

def State.mgmtStatus (s : State) : W64 :=
  let m := s.mgmt
  let other := if m.runningB then m.slotA else m.slotB
  pack [(0, 1, flag m.runningB), (1, 1, flag m.trialRunning), (2, 1, flag m.recovery), (3, 2, other.state.code),
    (5, 1, flag m.standbyServes), (6, 1, flag m.standbyOk), (7, 1, flag m.gloved), (8, 1, flag s.tack.isOpen),
    (9, 1, flag s.tack.en), (10, 1, flag m.zeroise), (16, 7, m.rollback.val), (24, 7, m.lmsSteps.val),
    (32, 7, m.tackSteps.val), (40, 9, (tkeys (fun k : KeySlot => k.filled) s.keys).length)]

/-- FC_RELOADS: the controller's reloads in the last 24 hours. -/
def State.fcReloads (s : State) (v : Field) : Nat :=
  Nat.min 0xFFFF (v.fcFailures.filter (fun t => decide (s.since t ≤ ms 86400000))).length

/-- FIELD_STATUS (R423). -/
def State.fieldStatus (s : State) (f : Nat) : W64 :=
  let v := s.fieldOf f
  pack [(0, 3, v.state.code), (3, 3, ringOfField f), (6, 2, v.tests.toNat), (8, 1, flag v.fcOk),
    (9, 1, flag (v.state == .retired && s.darn.fuses.contains { kind := 3, t0 := BitVec.ofNat 8 f })),
    (16, 16, s.fcReloads v)]

def State.refclkStatus (s : State) : W64 :=
  let c := s.clocks
  pack [(0, 2, c.a.code), (2, 2, c.b.code), (4, 1, flag c.selB), (5, 1, flag c.noneSelected), (16, 16, c.aPpm.toNat),
    (32, 16, c.bPpm.toNat), (48, 16, c.switches.toNat)]

def State.powerStatus (s : State) : W64 :=
  let p := s.power
  pack [(0, 16, p.inputW.toNat), (16, 16, p.inputV.toNat), (32, 4, p.pwrStep.toNat), (36, 4, p.convOk.toNat),
    (40, 8, p.bus48.toNat), (48, 16, p.capEvents.toNat)]

def State.holdStatus (s : State) : W64 :=
  let h := s.holdArea
  pack [(0, 32, h.holdNo.toNat), (32, 1, flag h.recordOk), (33, 1, flag h.newest1), (34, 1, flag h.freeErased),
    (48, 16, h.writeTime.toNat)]

def State.darnStatus (s : State) : W64 :=
  let d := s.darn
  pack [(0, 2, d.planner.code), (2, 1, flag d.hostPlan), (3, 1, flag d.patchFull), (16, 16, d.patch.length),
    (32, 11, d.fuses.length), (48, 16, Nat.min d.pendingParts.length 0xFFFF)]

/-- The words of an event record (R496). The widths of the items in DETAIL follow the structures that define
them and are not carried (DESIGN CHOICE, log entry 32). -/
def EventRec.word (e : EventRec) (cls i : Nat) : W64 :=
  match i with
  | 0 => pack [(0, 16, e.code.toNat), (16, 8, cls), (24, 1, flag e.coalesced), (25, 1, flag e.standby),
      (32, 32, e.seq.toNat)]
  | 1 => e.firstTime
  | 2 => e.lastTime
  | 3 => pack [(0, 32, e.count.toNat), (32, 32, e.dropped.toNat)]
  | 4 => pack [(0, 8, e.domain.toNat), (8, 24, e.index), (32, 8, e.ctx.toNat), (48, 16, e.job.toNat)]
  | _ => if e.detail = [] then 0 else Config.detailWord e.code e.detail (i - 5)

/-- R503: word at an offset of the bring-up copy of a ring, in slot order. -/
def State.previousWord (s : State) (cls off : Nat) : W64 :=
  match (s.ringOf cls).previous.reverse.find? (fun e => e.seq.toNat % 1024 == off / 64) with
  | some e => e.word cls (off % 64 / 8)
  | none => 0

/-- R508: the body kept of a node; one from a node silent for 1 s reads as zero. -/
def State.telemWord (s : State) (x node i : Nat) : W64 :=
  match (s.ctxOf x).telem.find? (fun e => e.1 == node) with
  | some e => if s.since e.2.at_ < ms 1000 then wordOf e.2.body i else 0
  | none => 0

/-- The counters of the MMP space. -/
def isMmpCounter (off : Nat) : Bool :=
  decide ((0x50000 ≤ off ∧ off < 0x50600) ∨ (0x50800 ≤ off ∧ off < 0x50840) ∨ (0x61000 ≤ off ∧ off < 0x63000) ∨
    (0x70000 ≤ off ∧ off < 0x70800) ∨ (0x74000 ≤ off ∧ off < 0x74200) ∨ (0x81000 ≤ off ∧ off < 0x83200))

/-- MMP space: an unmapped offset reads 0. -/
def State.readMmp (s : State) (off : Nat) : W64 :=
  if isMmpCounter off then (s.counterOf (counterKey 0 off)).word
  else if 0x50C00 ≤ off ∧ off < 0x50CC0 then
    let k := s.stackOf ((off - 0x50C00) / 8)
    pack [(0, 16, k.score.toNat), (16, 1, flag k.suspect), (17, 1, flag k.retired)]
  else if 0x52000 ≤ off ∧ off < 0x53800 then s.hamperCh ((off - 0x52000) / 8)
  else if 0x60000 ≤ off ∧ off < 0x61000 then
    (if off % 16 = 0 then s.regionStatus ((off - 0x60000) / 16) else s.regionProgress ((off - 0x60000) / 16))
  else if 0x72000 ≤ off ∧ off < 0x72080 then
    (if off % 16 = 0 then (s.ctxOf ((off - 0x72000) / 16)).wslot else (s.ctxOf ((off - 0x72000) / 16)).wtags)
  else if 0x73000 ≤ off ∧ off < 0x73400 then
    (tget ({} : ImageSlot) s.press.slots ((off - 0x73000) / 32)).word (off % 32 / 8)
  else if 0x75000 ≤ off ∧ off < 0x75080 then
    (if off % 16 = 0 then (s.ctxOf ((off - 0x75000) / 16)).stepLow else (s.ctxOf ((off - 0x75000) / 16)).stepHigh)
  else if 0x80000 ≤ off ∧ off < 0x80800 then
    (if off % 16 = 0 then (s.unitOf ((off - 0x80000) / 16)).status else (s.unitOf ((off - 0x80000) / 16)).peerWord)
  else if off = 0x83800 then s.timeWord
  else if 0x84000 ≤ off ∧ off < 0x86000 then
    s.laneScore ((off - 0x84000) / 64) (off % 64 / 32) (off % 32 / 8)
  else if off = 0x90000 then s.mgmtStatus
  else if 0x90100 ≤ off ∧ off < 0x90420 then s.fieldStatus ((off - 0x90100) / 8)
  else if off = 0x90800 then s.refclkStatus
  else if off = 0x90808 then pack [(0, 1, flag s.clocks.compat)]
  else if off = 0x90810 then
    pack [(0, 1, flag s.clocks.cdcIdle), (1, 1, flag s.clocks.fallback), (16, 16, s.clocks.cdcTimeouts.toNat)]
  else if off = 0x90A00 then s.powerStatus
  else if off = 0x90A08 then s.holdStatus
  else if off = 0x90C00 then s.darnStatus
  else if 0xA0000 ≤ off ∧ off < 0xB0000 then s.previousWord 0 (off - 0xA0000)
  else if 0xB0000 ≤ off ∧ off < 0xC0000 then s.previousWord 1 (off - 0xB0000)
  else if 0x100000 ≤ off ∧ off < 0x1100000 then
    s.telemWord ((off - 0x100000) / 0x200000) ((off - 0x100000) % 0x200000 / 32) (off % 32 / 8)
  else 0

/-! ## Identity record (R385) -/

def State.identityWord (s : State) (i : Nat) : W64 :=
  let m := s.mgmt
  let run := if m.runningB then m.slotB else m.slotA
  let other := if m.runningB then m.slotA else m.slotB
  match i with
  | 0 => Config.serial.setWidth 64
  | 1 => pack [(0, 16, 0x64), (16, 8, 0xB1)]
  | 2 => pack [(0, 32, run.version.toNat), (32, 32, other.version.toNat)]
  | _ => 0

/-- R385: the register at an offset of a processor space: 0 the MMP, 1 the controller of a field, 2 the
identity record. -/
def State.readReg (s : State) (space field off : Nat) : W64 :=
  match space with
  | 0 => s.readMmp off
  | 1 => s.readField field off
  | 2 => s.identityWord (off / 8)
  | _ => 0

/-- Bytes of a space. The manual gives none for the processor spaces; OFFSET reaches 4 GiB (DESIGN CHOICE, log entry 31). -/
def spaceSize (space : Nat) : Nat := if space = 2 then 64 else 2 ^ 32

/-! ## Mirror words (R361 to R363) and samples (R507, R508) -/

def State.fieldCount (s : State) (st : FieldState) : Nat :=
  ((List.range 100).filter (fun f => (s.fieldOf f).state == st)).length

/-- FIELDS. -/
def State.fieldsWord (s : State) : W64 :=
  pack [(0, 7, s.fieldCount .online), (7, 7, s.fieldCount .throttled), (14, 7, s.fieldCount .dark),
    (21, 7, s.fieldCount .retired), (28, 7, s.fieldCount .test), (35, 7, s.fieldCount .off)]

/-- MOD_STATUS bits the shadow holds, apart from MMP_OK, the ports and MIRROR_SEQ, which are read live. -/
def State.modStatus (s : State) : W64 :=
  let hostUnits := s.units.any (fun e => e.2.hostMode)
  let hostRed := s.ctxs.any (fun e => e.2.reductionMode != 0)
  let hostSmp := s.ctxs.any (fun e => e.2.hostSampling)
  pack [(0, 3, s.mode.code), (3, 1, flag s.mgmt.gloved), (4, 1, flag s.mgmt.standbyServes),
    (6, 1, flag ((s.ringOf 0).unread != [])), (7, 1, flag s.pfSeen),
    (16, 8, (s.mgmt.hostFunctions &&& 0xEC).toNat + flag hostUnits + 2 * flag hostRed + 16 * flag hostSmp)]

/-- A CTX entry. -/
def State.ctxWord (s : State) (x : Nat) : W64 :=
  let c := s.ctxOf x
  pack [(0, 1, flag c.live), (1, 1, flag c.isOpen), (2, 1, flag c.serving), (3, 1, flag c.sumFp32),
    (4, 3, c.lastOutcome.val), (16, 16, c.job.toNat), (32, 32, c.step.toNat)]

/-- The hottest field temperature over fields that read one, and its field; the lower number wins a tie. -/
def State.hottest (s : State) : W16 × Nat :=
  let on := (List.range 100).filter (fun f => (s.fieldOf f).state != .off && (s.fieldOf f).state != .retired)
  on.foldl (fun (b : W16 × Nat) f =>
    if b.1.toInt < (s.fieldOf f).temp.toInt then ((s.fieldOf f).temp, f) else b)
    ((s.fieldOf (on.headD 0)).temp, on.headD 0)

/-- POWER: input power and voltage, coolant inlet, hottest junction in 0.1 °C. -/
def State.powerWord (s : State) : W64 :=
  let t := s.hottest.1.toInt * 10 / 16
  pack [(0, 16, s.power.inputW.toNat), (16, 16, s.power.inputV.toNat), (32, 16, s.power.coolantIn.toNat),
    (48, 16, (BitVec.ofInt 16 t).toNat)]

/-- EVENTS. -/
def State.eventsWord (s : State) : W64 :=
  pack [(0, 16, (s.ringOf 0).raised.toNat), (16, 16, (s.ringOf 1).raised.toNat), (32, 16, (s.ringOf 2).raised.toNat)]

/-- TELEM_SAMPLE's CTX entry (R507). -/
def Ctx.sampleWord (c : Ctx) : W64 :=
  pack [(0, 16, Nat.min c.outstanding 0xFFFF), (16, 7, c.markBits), (32, 32, c.step.toNat)]

/-! ## The mirror and the sample as they are read (R361, R362, R507) -/

/-- MOD_STATUS, with the bits that the CivLink interface keeps. -/
def State.modStatusWord (s : State) : W64 :=
  s.mirror.status + pack [(5, 1, flag s.mmpOk), (8, 1, flag s.portA), (9, 1, flag s.portB), (32, 32, s.mirrorSeq.toNat)]

/-- R517, R518: ALERT_N is low while MOD_STATUS.ALARM is 1; in OFF it is not driven. -/
def State.alertLow (s : State) : Bool := s.mode != .off && s.modStatusWord.getLsbD 6

/-- Word i of the mirror. -/
def State.mirrorWord (s : State) (i : Nat) : W64 :=
  let four := fun (l : List W16) (j : Nat) => pack ((List.range 4).map (fun k => (16 * k, 16, (l.getD (4 * j + k) 0).toNat)))
  if i = 0 then s.modStatusWord
  else if i = 1 then pack [(0, 48, Config.serial.toNat), (48, 8, 0xB1)]
  else if i = 2 then s.mirror.time
  else if i = 3 then s.mirror.fields
  else if i < 12 then s.mirror.ctxs.toList.getD (i - 4) 0
  else if i < 16 then four s.mirror.heads.toList (i - 12)
  else if i < 20 then four s.mirror.tails.toList (i - 16)
  else if i = 20 then s.mirror.power
  else if i = 21 then s.mirror.events
  else if i = 22 then (s.counterOf (counterKey 0 0xB0)).word
  else 0

/-- Word i of TELEM_SAMPLE. -/
def TelemSample.word (t : TelemSample) (i : Nat) : W64 :=
  if i = 0 then t.time
  else if i = 1 then t.sampleNo.setWidth 64
  else if i = 2 then t.power
  else if i = 3 then t.fields
  else if i = 4 then t.refclk
  else if i = 5 then pack [(0, 16, t.tMax.toNat), (16, 8, t.tMaxField.toNat)]
  else if i < 13 then wordOf t.steps (i - 6)
  else if i < 21 then t.ctxs.toList.getD (i - 13) 0
  else if i < 25 then t.events.toList.getD (i - 21) 0
  else 0

/-- The body of a TELEM message (R508). -/
def State.telemBody (s : State) (x : Nat) : BitVec 256 :=
  let c := s.ctxOf x
  BitVec.ofNat 256 (s.time.toNat + 2 ^ 64 * s.powerStatus.toNat +
    2 ^ 128 * (pack [(0, 16, s.hottest.1.toNat), (16, 16, (s.ringOf 0).raised.toNat), (32, 8, s.mode.code),
      (40, 8, s.fieldCount .dark), (48, 8, s.fieldCount .retired)]).toNat +
    2 ^ 192 * (pack [(0, 32, c.step.toNat), (32, 7, c.markBits)]).toNat)

end Sys2Proof.Machine
end

