-- ==== Sys2Proof/Machine/Manager.lean ====
section
/-! DEFINITION. Messages of the control tree and of the Peg trees, the manager's timeout, broadcast commands
and telemetry (R302, R317, R329, R338 to R350, R508). -/

set_option linter.unusedVariables false

namespace Sys2Proof.Machine

open Sys2Proof

/-! ## Admission (R317, R329) -/

/-- An MTYPE is admitted on the unit's kind. -/
def mtypeAdmitted (u : Nat) (t : Byte) : Bool :=
  match t.toNat with
  | 0x01 | 0x02 | 0x11 => true
  | 0x13 => isServerPort u
  | 0x20 | 0x21 | 0x22 => !isServerPort u
  | _ => false

def mPEG : Byte := 0x20
def mSTEP : Byte := 0x21
def mCOLL : Byte := 0x22

/-- The context that an admitted message of a job goes to. -/
def State.admitted (s : State) (u : UnitId) (t : Byte) (job : W16) : Option CtxId :=
  if !s.mode.works || (s.unitOf u.val).state != .active || !mtypeAdmitted u.val t || !s.brimLive (brimOf u.val) then none
  else
    match s.ctxOfJob job with
    | some x => if s.unitOpen u.val x then some (Fin.ofNat 8 x) else none
    | none => none

/-- R338: a message from a unit that is no neighbour in its tree. -/
def State.stray (s : State) (x : CtxId) : State := s.treeBump x.val 4 1

/-! ## Peg messages (R340, R343) -/

/-- ARRIVE comes from a child, for the context's current step. -/
def execPegArrive (u : UnitId) (m : PegMsg) (s : State) : Result :=
  match s.admitted u mPEG m.job with
  | none => .next s
  | some x =>
    match s.treeRec x.val m.tree.toNat with
    | none => .next (s.stray x)
    | some r =>
      if !treeHasChild r u.val || m.step != (s.ctxOf x.val).step then .next (s.stray x)
      else .next (s.linkArrive x m.tree.toNat m.group m.gen m.count.toNat m.nan)

/-- COMPLETE comes from the parent. -/
def execPegComplete (u : UnitId) (m : PegMsg) (s : State) : Result :=
  match s.admitted u mPEG m.job with
  | none => .next s
  | some x =>
    match s.treeRec x.val m.tree.toNat with
    | none => .next (s.stray x)
    | some r => if treeParentIs r u.val then .next (s.linkComplete x r m.group m) else .next (s.stray x)

/-! ## Messages down the control tree (R302, R338, R344) -/

/-- A STEP message that comes down: its context and the record of CTRL_TREE, or what it changes where it is
stray. -/
def State.fromParent (s : State) (u : UnitId) (job : W16) (f : CtxId → TreeRec → State) : Result :=
  match s.admitted u mSTEP job with
  | none => .next s
  | some x =>
    match s.ctrlTree x.val with
    | none => .next (s.stray x)
    | some r => .next (if treeParentIs r u.val then f x r else s.stray x)

/-- A STEP message that comes up. -/
def State.fromChild (s : State) (u : UnitId) (job : W16) (f : CtxId → TreeRec → State) : Result :=
  match s.admitted u mSTEP job with
  | none => .next s
  | some x =>
    match s.ctrlTree x.val with
    | none => .next (s.stray x)
    | some r => .next (if treeHasChild r u.val then f x r else s.stray x)

/-- The REPORT of a worker that cannot apply a BEGIN (R344); its detail is the status. -/
def State.reportBegin (s : State) (x : CtxId) (r : TreeRec) (step : W32) (st : Byte) : State :=
  (s.treeBump x.val 5 1).sendUp x.val r
    (.step 0x08 { s.stepMsg x.val with step := step, cause := 0x06 } [st])

/-- R344: BEGIN is applied as the host command would be; a step still open is abandoned first, and a change of slots that
is due comes first (R280). -/
def execBeginMsg (u : UnitId) (m : StepMsg) (b : BeginArgs) (s : State) : Result :=
  s.fromParent u m.job (fun x r =>
    let s := s.sendDown x.val r (.begin m b)
    let s := if (s.ctxOf x.val).isOpen then s.closeStep x 3 else s
    let s := if s.changesSlot x then s.switchSlots x else s
    if s.mode ≠ .ready ∧ s.mode ≠ .run then s.reportBegin x r b.step stNOT_READY
    else
      match s.beginStep x b none with
      | (t, none) => t
      | (t, some e) => t.reportBegin x r b.step e.1)

/-- R302: an outcome comes down; one of another step is discarded and counted. -/
def State.outcome (s : State) (u : UnitId) (m : StepMsg) (sub : Byte) (code : Fin 6) : Result :=
  s.fromParent u m.job (fun x r =>
    let s := s.sendDown x.val r (.step sub m [])
    if m.step ≠ (s.ctxOf x.val).step then s.gradBump x.val 7 1 else s.closeStep x code)

def execCommitMsg (u : UnitId) (m : StepMsg) (s : State) : Result := s.outcome u m 0x02 1
def execSkipMsg (u : UnitId) (m : StepMsg) (s : State) : Result := s.outcome u m 0x03 2
def execAbandonMsg (u : UnitId) (m : StepMsg) (s : State) : Result := s.outcome u m 0x04 3
def execInvalidMsg (u : UnitId) (m : StepMsg) (s : State) : Result := s.outcome u m 0x05 4

/-! ## Reports and the manager (R345, R346) -/

/-- A trigger for a step that is not open at the manager. -/
def State.lateTrigger (s : State) (x : CtxId) (step : W32) : State :=
  (s.treeBump x.val 6 1).raise .notice 345 0 (srcCtx x.val) (some x.val) [w64 x.val, step.setWidth 64]

/-- R345, R346: a REPORT goes up unchanged and is a trigger at the manager. -/
def execReportMsg (u : UnitId) (m : StepMsg) (detail : BitVec 256) (s : State) : Result :=
  s.fromChild u m.job (fun x r =>
    if s.isManager x.val then
      (if m.step = (s.ctxOf x.val).step then s.decideStep x (.report m.cause m.node) else s.lateTrigger x m.step)
    else (s.treeBump x.val 5 1).sendUp x.val r (.step 0x08 m (bytesLE 32 detail.toNat)))

/-- R345: STEP_LIMIT has passed with no decision. DESIGN CHOICE, log entry 77: while the step is held for NAN the limit
passes without effect. -/
def execStepLimitExpiry (x : CtxId) (s : State) : Result :=
  let c := s.ctxOf x.val
  if s.mode.works && s.isManager x.val && c.isOpen && !c.decided && !c.heldNan && !c.serving then
    .next (s.decideStep x .timeout)
  else .next s

/-! ## Broadcast commands (R350) -/

/-- The nodes of a broadcast that have succeeded, and the first failure with its node, once every child has
answered; none while an answer is missing. -/
def State.bcastEnd (s : State) (x : CtxId) (r : TreeRec) (b : Bcast) : Option (Nat × Byte × W16) :=
  match b.own with
  | none => none
  | some own =>
    let got := (treeChildren r).filterMap (fun u => b.answers.find? (fun a => a.unit.val == u))
    if got.length < (treeChildren r).length then none
    else
      let ok := got.foldl (fun n a => n + a.okCount.toNat) (if own = stOK then 1 else 0)
      if own ≠ stOK then some (ok, own, s.nodeOf x.val)
      else
        match got.find? (fun a => a.status != stOK) with
        | some a => some (ok, a.status, a.failNode)
        | none => some (ok, stOK, 0xFFFF)

/-- A node sends its RESULT, or the manager's command completes (DEDUCED, log entry 30 for where the failing node
stands). -/
def State.settleBcast (s : State) (x : CtxId) : State :=
  match (s.ctxOf x.val).bcast with
  | none => s
  | some b =>
    match s.ctrlTree x.val with
    | none =>
      match b.hdr, b.own with
      | some h, some st => (s.modCtx x.val (fun c => { c with bcast := none })).complete h st
      | _, _ => s
    | some r =>
      match s.bcastEnd x r b with
      | none => s
      | some (ok, st, node) =>
        let done := s.modCtx x.val (fun c => { c with bcast := none })
        match b.hdr with
        | some h =>
          if st ≠ stOK then done.complete h st noDetail false [node.setWidth 64]
          else if ok = s.nodesOf x.val then done.complete h stOK
          else s
        | none =>
          done.sendUp x.val r (.step 0x11
            { s.stepMsg x.val with status := st, okCount := BitVec.ofNat 16 ok, failNode := node } [])

/-- A broadcast command is applied here, as the host command would be. -/
def State.applyBcast (s : State) (x : CtxId) (c : BcastCmd) : State × Byte :=
  if s.mode ≠ .ready ∧ s.mode ≠ .run then (s, stNOT_READY)
  else
    let r := match c with
      | .regionMap recs => s.mapRegions x (recs.map (fun (m : RegionRec) => { m with ctx := BitVec.ofNat 8 x.val }))
      | .programLoad a => s.loadProgram x a
    (r.1, match r.2 with
      | some b => b.1
      | none => stOK)

/-- R350: a segment is forwarded; the last one gives the command. What is left of a broadcast that never ended is given
up. -/
def execSegmentMsg (u : UnitId) (m : StepMsg) (body : Segment) (s : State) : Result :=
  s.fromParent u m.job (fun x r =>
    let s := s.sendDown x.val r (.segment m body)
    match body.cmd with
    | none => s
    | some c =>
      let (t, st) := s.applyBcast x c
      let old := match (t.ctxOf x.val).bcast with
        | some b => if b.own.isNone then b.answers else []
        | none => []
      (t.modCtx x.val (fun q => { q with bcast := some ⟨none, some st, old⟩ })).settleBcast x)

/-- R350: a child's RESULT. -/
def execResultMsg (u : UnitId) (m : StepMsg) (s : State) : Result :=
  s.fromChild u m.job (fun x r =>
    let a : ChildResult := { unit := u, okCount := m.okCount, status := m.status, failNode := m.failNode }
    let add := fun (b : Bcast) => { b with answers := b.answers.filter (fun e => e.unit != u) ++ [a] }
    match (s.ctxOf x.val).bcast with
    | some b => (s.modCtx x.val (fun c => { c with bcast := some (add b) })).settleBcast x
    | none =>
      if s.isManager x.val then s
      else s.modCtx x.val (fun c => { c with bcast := some (add ⟨none, none, []⟩) }))

/-- R350: STEP_LIMIT has passed before every RESULT arrived at the manager. -/
def execBroadcastTimeout (x : CtxId) (s : State) : Result :=
  match (s.ctxOf x.val).bcast with
  | some b =>
    match b.hdr with
    | some h =>
      if s.mode.works then .next ((s.modCtx x.val (fun c => { c with bcast := none })).complete h stTIMEOUT)
      else .next s
    | none => .next s
  | none => .next s

/-! ## Telemetry (R508) -/

def execTelemMsg (u : UnitId) (m : StepMsg) (body : BitVec 256) (s : State) : Result :=
  s.fromChild u m.job (fun x r =>
    if s.isManager x.val then
      s.modCtx x.val (fun c => { c with telem := tput {} c.telem m.node.toNat { body := body, at_ := s.time } })
    else s.sendUp x.val r (.step 0x12 m (bytesLE 32 body.toNat)))

/-- A worker of a job of more than one node sends its body. -/
def execTelemSend (x : CtxId) (s : State) : Result :=
  match s.ctrlTree x.val with
  | some r =>
    if s.mode.works && (s.ctxOf x.val).live && !s.isManager x.val && decide (1 < s.nodesOf x.val) then
      .next (s.sendUp x.val r (.step 0x12 (s.stepMsg x.val) (bytesLE 32 (s.telemBody x.val).toNat)))
    else .next s
  | none => .next s

end Sys2Proof.Machine
end

