-- ==== Sys2Proof/Machine/SeamCode.lean ====
section
/-! DEFINITION. The lane coding of Seam: codewords, their symbols on the lanes, and alignment blocks (R307, R308, R324).
-/

set_option linter.unusedVariables false

namespace Sys2Proof.Machine

open Sys2Proof

/-! ## Codewords -/

abbrev Symbol := BitVec 10

/-- R307: the 544 symbols of a codeword that carries 640 bytes: 20 transcoded and scrambled blocks of 32 bytes, as 514
symbols, and 30 check symbols. The transcoding, the scrambler and the code are IEEE 802.3's, which the manual names and
does not define (log entry 85); `block` numbers the codeword in the lane stream, on which the scrambler depends. -/
def codeword (block : Nat) (payload : List Byte) : List Symbol :=
  let blocks : List (BitVec 257) := (List.range 20).map (fun i =>
    Config.transcodedBlock (20 * block + i) ((payload.drop (32 * i)).take 32))
  let bits : Nat → Bool := fun i => (blocks.getD (i / 257) 0).getLsbD (i % 257)
  let message : List Symbol := (List.range 514).map (fun i =>
    BitVec.ofNat 10 ((List.range 10).foldl (fun a j => a + if bits (10 * i + j) then 2 ^ j else 0) 0))
  message ++ (List.range 30).map (Config.rsCheck message)

/-- R307: the logical lane of symbol i over n active lanes; symbol 0 goes to the lowest. -/
def symbolLane (n i : Nat) : Nat := i % n

/-- R308, R322: the physical lanes of the active logical lanes, lowest first: at FULL lanes 0 to 7, with lane 8 in place
of the lane it stands in for; at HALF the four lowest good lanes. -/
def activeLanes (width : Width) (bad : BitVec 9) (spare : BitVec 4) : List Nat :=
  match width with
  | .full => (List.range 8).map (fun l => if spare.toNat = l then 8 else l)
  | .half => ((List.range 9).filter (fun l => !bad.getLsbD l)).take 4
  | .none => []

def LinkUnit.rxLanes (k : LinkUnit) : List Nat := activeLanes k.width k.badRx k.rxSpare
def LinkUnit.txLanes (k : LinkUnit) : List Nat := activeLanes k.width k.badTx k.txSpare

/-- The symbols of a codeword that one of n active lanes carries. -/
def laneSymbols (n lane : Nat) : List Nat := (List.range 544).filter (fun i => symbolLane n i == lane)

/-- R307: the code corrects up to 15 wrong symbols. -/
def correctable (wrong : List (Fin 544)) : Bool := wrong.eraseDups.length ≤ 15

/-- R307, R335: the codeword that ends with a flit arrives with some symbols wrong: it counts as corrected, or as
uncorrectable. -/
def State.codewordEnds (s : State) (u : Nat) (wrong : List (Fin 544)) : State :=
  if wrong.isEmpty then s else s.linkBump u (if correctable wrong then 0 else 1) 1

/-! ## Alignment blocks -/

/-- Units of the time base between alignment blocks: 16,384 flit slots of 2 ns at FULL, of 4 ns at HALF. -/
def alignPeriod : Width → Nat
  | .full => 327680
  | .half => 655360
  | .none => 0

/-- R307: the 32-bit counter of the alignment block last sent or received: the blocks since ALIGN framed the lanes (DESIGN
CHOICE, log entry 85: the counter's start). -/
def State.blockCounter (s : State) (u : Nat) : W32 :=
  BitVec.ofNat 32 ((s.time - (s.unitOf u).framedAt).toNat / alignPeriod (s.unitOf u).width)

/-- R307: what an alignment block carries on one lane. -/
structure AlignBlock where
  lane : Fin 9
  counter : W32
  deriving DecidableEq, Repr

/-- The alignment blocks of a unit, one on each lane it sends on. -/
def State.alignBlocks (s : State) (u : Nat) : List AlignBlock :=
  (s.unitOf u).txLanes.map (fun l => { lane := Fin.ofNat 9 l, counter := s.blockCounter u })

/-- Flit slot j of a unit is an alignment block on every lane. -/
def alignmentSlot (j : Nat) : Bool := j % 16384 == 0

/-- R307, R324: lanes whose arrival differs by no more than the limit can be deskewed: 40 ns within a unit, 100 ns
within a gang. -/
def deskews (gang : Bool) (arrivals : List Nat) : Bool :=
  arrivals.all (fun a => arrivals.all (fun b => decide (a ≤ b + if gang then 1000 else 400)))

/-- R309: the connector (M0 to M8) and the fibre that carry physical lane l of unit u (0 to 7) of a Cuff: transmit on
fibres 1 to 8, receive on 9 to 16, and the spare lanes on M8. -/
def laneFibre (u l : Nat) (rx : Bool) : Nat × Nat :=
  (if l < 8 then u else 8, (if l < 8 then l else u) + if rx then 9 else 1)

end Sys2Proof.Machine
end

