-- ==== Sys2Proof/Machine/Links.lean ====
section
/-! DEFINITION. Seam units: flits, admission, training, spare lanes, gangs, and the time base (R306 to R335,
R483, R486). -/

set_option linter.unusedVariables false

namespace Sys2Proof.Machine

open Sys2Proof

/-! ## Flits (R315 to R321) -/

/-- R319: the transmitter goes back. -/
def State.goBack (s : State) (u : Nat) : State :=
  let l := s.gangLead u
  if (s.unitOf l).replay = [] then s
  else ((s.modUnit l (fun k => { k with goBacks := k.goBacks + 1 }.replayAll)).linkBump u 3 1).scoreUnit u 2

/-- ACK and CREDIT of a good flit: what they cover leaves the replay buffer, and waiting flits go out. -/
def LinkUnit.takeAck (k : LinkUnit) (f : Flit) : LinkUnit :=
  ({ k with
    goBacks := if f.ack = k.ackSeq then k.goBacks else 0, ackSeq := f.ack,
    credit := tput 0 k.credit f.cvc.val f.credit.toNat }.acked f.ack).drain

/-- ACK, NAK and CREDIT of a good flit. -/
def State.takeAck (s : State) (u : Nat) (f : Flit) : State :=
  let s := s.modUnit (s.gangLead u) (fun k => k.takeAck f)
  if f.nak then s.goBack u else s

/-- R320: the receiver takes up a later SEQ: every message with a flit in the gap is lost. -/
def State.resync (s : State) (u : Nat) (f : Flit) : State :=
  let l := s.gangLead u
  let k := s.unitOf l
  if f.seq = k.nextSeq then s
  else
    let lost := (k.rxOpen.filter (fun e => e.2.isSome)).length
    let freed := k.rxCount.foldl (fun t e => tput 0 t e.1 (tget 0 t e.1 + e.2)) k.freed
    let s := s.putUnit l { k with
      nextSeq := f.seq, rxOpen := [], rxCount := [], freed := freed,
      rxSkip := [(0, true), (1, true), (2, true), (3, true)] }
    if lost = 0 then s else (s.linkBump u 4 lost).scoreUnit u (16 * lost)

/-- R317: a DATA flit in order; a message whose EOM flit has come waits for its admission. -/
def LinkUnit.takeData (k : LinkUnit) (f : Flit) : LinkUnit :=
  let v := f.vc.val
  let now := if f.som then some (f.mtype, f.payload.getD 4 0) else tget none k.rxOpen v
  let skip := !f.som && tget false k.rxSkip v
  let kept := now.isSome && !skip
  let held := tget 0 k.rxCount v
  let count := if kept then (if f.som then 1 else held + 1) else 0
  let free := (if kept then 0 else 1) + (if f.som then held else 0)
  { k with
    nextSeq := k.nextSeq + 1, nakSent := false,
    rxSkip := tput false k.rxSkip v skip,
    rxOpen := tput none k.rxOpen v (if f.eom then none else now),
    rxCount := tput 0 k.rxCount v (if f.eom then 0 else count),
    freed := tput 0 k.freed v (tget 0 k.freed v + free),
    delivered := match now, f.eom && !skip with
      | some t, true => k.delivered ++ [{ mtype := t.1, job := f.job, subtype := t.2, vc := v, flits := count }]
      | _, _ => k.delivered }

/-- R316, R319: a flit is received. DEDUCED, log entry 63. -/
def execFlitReceive (u : UnitId) (a : FlitArrival) (s : State) : Result :=
  let f := a.flit
  if !f.wf then .fault .illFormed
  else if !s.mode.works || (s.unitOf u.val).state != .active then .next s
  else
  let s := s.codewordEnds u.val a.wrong
  if f.reservedSet || f.crc != flitCrc f then
    .next (((s.modUnit (s.gangLead u.val) (fun k => k.nak)).linkBump u.val 2 1).scoreUnit u.val 1)
  else
    let s := s.takeAck u.val f
    match f.kind with
    | .data =>
      let s := if f.resync then s.resync u.val f else s
      let l := s.gangLead u.val
      let k := s.unitOf l
      if f.seq ≠ k.nextSeq then .next (if k.nakSent then s else s.putUnit l k.nak)
      else .next (s.putUnit l (k.takeData f))
    | _ => .next s

/-- R319: ACK does not advance in time. -/
def execReplayTimeout (u : UnitId) (s : State) : Result :=
  if s.mode.works && (s.unitOf u.val).state == .active then .next (s.goBack u.val) else .next s

/-- R341: the SUBTYPEs of STEP messages. -/
def stepSubtype (t : Byte) : Bool :=
  match t.toNat with
  | 0x01 | 0x02 | 0x03 | 0x04 | 0x05 | 0x08 | 0x10 | 0x11 | 0x12 => true
  | _ => false

/-- R329: a message leaves the receive buffer. A STEP message of no known SUBTYPE is dropped by the fabric interface
(R341). -/
def execMessageAdmission (u : UnitId) (mtype : Byte) (job : W16) (s : State) : Result :=
  let l := s.gangLead u.val
  match (s.unitOf l).delivered.find? (fun d => d.mtype == mtype && d.job == job) with
  | none => .next s
  | some d =>
    if !s.mode.works || (s.unitOf u.val).state != .active then .next s
    else
    let s := s.putUnit l ((s.unitOf l).release d)
    let link := mtype == 0x01 || mtype == 0x02
    if link != (job == 0) then .next (s.linkBump u.val 6 1)
    else if link then .next s
    else
      match s.ctxOfJob job with
      | none => .next (s.linkBump u.val 6 1)
      | some x =>
        if !s.unitOpen u.val x then .next (s.linkBump u.val 7 1)
        else if mtypeAdmitted u.val mtype then
          .next (if mtype = mSTEP ∧ stepSubtype d.subtype = false then s.stray (Fin.ofNat 8 x) else s)
        else if mtype = 0x12 then .next (s.brimBump (brimOf u.val) 2 1)
        else .next (s.linkBump u.val 6 1)

/-! ## Lanes and widths (R308, R322, R323) -/

def lanePart (u : Nat) (rx : Bool) (lane : Nat) : Part :=
  { kind := 7, t0 := BitVec.ofNat 8 u, t1 := if rx then 1 else 0, t2 := BitVec.ofNat 8 lane }

/-- The bad lanes that fuses and the Patch table record (R467). -/
def State.recordedLanes (s : State) (u : Nat) (rx : Bool) : BitVec 9 :=
  (List.range 9).foldl (fun m l => if s.badParts.contains (lanePart u rx l) then m ||| BitVec.twoPow 9 l else m) 0

/-- R323. -/
def laneWidth (bad : BitVec 9) : Width :=
  let n := popcount bad
  if n ≤ 1 then .full else if n ≤ 5 then .half else .none

/-- The logical lane that lane 8 stands in for: the one bad lane, where lane 8 is good. -/
def spareFor (bad : BitVec 9) : BitVec 4 :=
  if popcount bad = 1 then
    match (List.range 8).find? (fun l => bad.getLsbD l) with
    | some l => BitVec.ofNat 4 l
    | none => 0xF
  else 0xF

/-- A message of a unit itself, which belongs to no context. -/
def State.unitSend (s : State) (u : Nat) (m : OutMsg) : State :=
  if (s.unitOf u).state = .active ∨ (s.unitOf u).state = .retrain then s.transmit u 0 m else s

/-! ## Gangs (R324, R325) -/

/-- The flit state of a unit that has exchanged none (DESIGN CHOICE, log entry 63: both ends begin at SEQ 0). -/
def LinkUnit.clearFlits (k : LinkUnit) : LinkUnit :=
  { k with
    nextSeq := 0, nakSent := false, rxOpen := [], rxSkip := [], rxCount := [], delivered := [], freed := [], credit := [],
    ackSeq := 0xFFF, txSeq := 0, txWait := [], txCount := [], replay := [], goBacks := 0 }

def State.gangMembers (s : State) (u : Nat) : List Nat :=
  match (s.unitOf u).gangLow with
  | none => [u]
  | some g => (List.range 128).filter (fun v => (s.unitOf v).gangLow == some g)

/-- R324, R325: the sequence, the buffers and the waiting flits of a unit pass to another. -/
def State.moveFlits (s : State) (a b : Nat) : State :=
  let k := s.unitOf a
  let s := s.modUnit b (fun m => { m with
    nextSeq := k.nextSeq, nakSent := k.nakSent, rxOpen := k.rxOpen, rxSkip := k.rxSkip, rxCount := k.rxCount,
    delivered := k.delivered, freed := k.freed, credit := k.credit, ackSeq := k.ackSeq, txSeq := k.txSeq,
    txWait := k.txWait, txCount := k.txCount, replay := k.replay })
  s.modUnit a LinkUnit.clearFlits

/-- Units form a gang, or none where there is one; its lowest member takes up the flits that wait at the others. -/
def State.formGang (s : State) (us : List Nat) : State :=
  let s := s.each (us.drop 1) (fun s v =>
    let w := (s.unitOf v).txWait
    (s.modUnit (us.headD v) (fun k => { k with txWait := k.txWait ++ w })).modUnit v LinkUnit.clearFlits)
  s.each us.zipIdx (fun s e => s.modUnit e.1 (fun k => { k with
    gangLow := if us.length ≤ 1 then none else (us.head?).map (Fin.ofNat 128),
    gangPos := if us.length ≤ 1 then 0 else BitVec.ofNat 2 e.2,
    gangSize := BitVec.ofNat 3 (Nat.max 1 us.length) }))

/-- R312, R321: a fast retrain begins. Each retrain counts (R323) and adds to the unit's score (R483). -/
def State.beginRetrain (s : State) (u : Nat) : State :=
  ((s.modUnit u (fun k => { k with state := .retrain, stage := .lock, fastRetrain := true, goBacks := 0 })).linkBump u
    5 1).scoreUnit u 16

/-- R325: a member that leaves FULL leaves its gang, which forms again by a fast retrain of the others. -/
def State.leaveGang (s : State) (u : Nat) : State :=
  match (s.unitOf u).gangLow with
  | none => s
  | some _ =>
    let rest := (s.gangMembers u).filter (fun v => v != u)
    let s := match rest with
      | v :: _ => if s.gangLead u = u then s.moveFlits u v else s
      | [] => s
    let s := (s.formGang [u]).formGang rest
    s.each rest (fun s v => if (s.unitOf v).state = .active then s.beginRetrain v else s)

/-- A unit becomes DOWN: its queued and buffered messages are discarded (R321). -/
def LinkUnit.down (k : LinkUnit) (cause : DownCause) : LinkUnit :=
  { k.clearFlits with
    state := .down, stage := .lock, fastRetrain := false, width := .none, cause := cause, failures := 0,
    txq := [], hostStop := false }

/-- R321, R325: a unit becomes DOWN; a gang that it was in keeps its flits. -/
def State.unitDown (s : State) (u : Nat) (cause : DownCause) : State :=
  (s.leaveGang u).modUnit u (fun k => k.down cause)

/-- Every unit becomes DOWN, and no gang is left (R431, R448). -/
def State.downAll (s : State) : State :=
  s.each (List.range 128) (fun s u => s.modUnit u (fun k =>
    { (if k.state = .down then k else k.down .none) with gangLow := none, gangPos := 0, gangSize := 1 }))

/-- Training starts with WAIT; a mode chosen by MODE_SET takes effect here (R386). -/
def State.beginTraining (s : State) (u : Nat) : State :=
  s.modUnit u (fun k => { k with
    state := .wait, stage := .lock, fastRetrain := false, failures := 0, cause := .none, width := .none,
    hostTrained := k.hostMode, hostStop := false })

/-! ## Training (R311 to R314) -/

def TrainStage.code : TrainStage → Nat
  | .lock => 1
  | .eq => 2
  | .align => 3
  | .ident => 4
  | .rtt => 5

/-- R388: a host request is put in the queue of those not yet given. -/
def State.addRequest (s : State) (k : RequestKind) : State :=
  { s with requests := s.requests ++ [{ id := s.nextRequest, kind := k }], nextRequest := s.nextRequest + 1 }

/-- R322, R323: ALIGN has chosen the lanes. -/
def State.alignUnit (s : State) (u : Nat) (badTx badRx : BitVec 9) : State :=
  let k := s.unitOf u
  let tx := badTx ||| s.recordedLanes u false
  let rx := badRx ||| s.recordedLanes u true
  let width := if laneWidth tx = .none ∨ laneWidth rx = .none then Width.none
    else if laneWidth tx = .half ∨ laneWidth rx = .half then .half else .full
  let subs := (if spareFor tx ≠ 0xF ∧ spareFor tx ≠ k.txSpare then 1 else 0) +
    (if spareFor rx ≠ 0xF ∧ spareFor rx ≠ k.rxSpare then 1 else 0)
  let s := s.putUnit u { k with
    badTx := tx, badRx := rx, txSpare := spareFor tx, rxSpare := spareFor rx, width := width, stage := .ident,
    framedAt := match k.gangLow with
      | some g => if (s.unitOf g.val).state = .active ∨ (s.unitOf g.val).stage = .ident then (s.unitOf g.val).framedAt
        else s.time
      | none => s.time }
  let s := if subs = 0 then s else (s.linkBump u 5 subs).scoreUnit u (64 * subs)
  match width with
  | .none => s.unitDown u .lanes
  | .half => s.leaveGang u
  | .full => s

/-- R314: IDENT gives the peer. -/
def State.identUnit (s : State) (u : Nat) (kind : PeerKind) (serial : BitVec 48) (unit : BitVec 7)
    (gangAgrees : Bool) : State :=
  let s := s.modUnit u (fun k => { k with peer := some kind, serial := serial, peerUnit := unit })
  if (kind = .server) ≠ (isServerPort u = true) ∨ !gangAgrees then
    (s.unitDown u .role).raise .fault 314 0 (srcUnit u) none [w64 u]
  else s.modUnit u (fun k => { k with stage := .rtt })

def LinkUnit.trains (k : LinkUnit) : Bool := k.state == .training || k.state == .retrain

/-- R311, R313: a stage ends well. In host-assisted mode the unit stops after LOCK and after EQ. -/
def execTrainingStage (u : UnitId) (o : StageOutcome) (s : State) : Result :=
  let k := s.unitOf u.val
  let stop := fun (atEq : Bool) (lanes : BitVec 576) =>
    (s.putUnit u.val { k with hostStop := true }).addRequest (.training u atEq lanes)
  if !s.mode.works || k.hostStop then .next s
  else
    match o with
    | .wait signal =>
      if k.state ≠ .wait ∨ popcount signal < 4 then .next s
      else .next (s.putUnit u.val { k with state := .training, stage := .lock, badRx := ~~~signal })
    | .lock lanes =>
      if !k.trains || k.stage ≠ .lock then .next s
      else if k.fastRetrain then .next (s.putUnit u.val { k with stage := .align })
      else if k.hostTrained then .next (stop false lanes)
      else .next (s.putUnit u.val { k with stage := .eq })
    | .eq lanes =>
      if !k.trains || k.stage ≠ .eq then .next s
      else if k.hostTrained then .next (stop true lanes)
      else .next (s.putUnit u.val { k with stage := .align })
    | .align badTx badRx =>
      if !k.trains || k.stage ≠ .align then .next s
      else .next (s.alignUnit u.val badTx (if k.fastRetrain then badRx else badRx ||| k.badRx))
    | .ident kind serial unit gangAgrees =>
      if !k.trains || k.stage ≠ .ident then .next s
      else .next (s.identUnit u.val kind serial unit gangAgrees)
    | .rtt ns =>
      if !k.trains || k.stage ≠ .rtt then .next s
      else
        let s := if k.timeParent then { s with timeStatus := { s.timeStatus with rtt := ns } } else s
        let s := s.putUnit u.val { k with state := .active, stage := .lock, fastRetrain := false, failures := 0 }
        .next (s.modUnit (s.gangLead u.val) LinkUnit.drain)

/-- R312: a stage fails. -/
def State.stageFails (s : State) (u : Nat) : State :=
  let k := s.unitOf u
  if k.fastRetrain then
    s.putUnit u { k with state := .training, stage := .lock, fastRetrain := false, hostStop := false,
                         hostTrained := k.hostMode }
  else if 2 ≤ k.failures then
    (s.unitDown u .train).raise .fault 312 0 (srcUnit u) none [w64 u, w64 k.stage.code]
  else s.putUnit u { k with stage := .lock, failures := k.failures + 1, hostStop := false }

def execTrainingStageFail (u : UnitId) (s : State) : Result :=
  if s.mode.works && (s.unitOf u.val).trains then .next (s.stageFails u.val) else .next s

/-- R312, R314: a DOWN unit trains again, unless its cause was ROLE. -/
def execTrainingRestart (u : UnitId) (s : State) : Result :=
  let k := s.unitOf u.val
  if s.mode.works && k.state == .down && k.enabled && k.cause != .role then .next (s.beginTraining u.val)
  else .next s

/-- R321: eight go-backs in a row. -/
def execFastRetrain (u : UnitId) (s : State) : Result :=
  let k := s.unitOf u.val
  if s.mode.works && k.state == .active && decide (8 ≤ k.goBacks) then .next (s.beginRetrain u.val) else .next s

/-! ## Lanes in service (R322, R323) -/

def LinkUnit.bad (k : LinkUnit) (rx : Bool) : BitVec 9 := if rx then k.badRx else k.badTx
def LinkUnit.markBad (k : LinkUnit) (rx : Bool) (lane : Nat) : LinkUnit :=
  if rx then { k with badRx := k.badRx ||| BitVec.twoPow 9 lane }
  else { k with badTx := k.badTx ||| BitVec.twoPow 9 lane }
def LinkUnit.laneScored (k : LinkUnit) (rx : Bool) (lane : Fin 9) (n : Nat) : LinkUnit :=
  if rx then { k with rxLaneScore := k.rxLaneScore.set lane (satAdd16 k.rxLaneScore[lane] n) }
  else { k with txLaneScore := k.txLaneScore.set lane (satAdd16 k.txLaneScore[lane] n) }

/-- R322: a degrading lane is copied onto lane 8, and both ends change over. -/
def State.switchLane (s : State) (u : Nat) (rx : Bool) (lane : Fin 9) (host : Bool) : State :=
  let k := s.unitOf u
  if k.state ≠ .active ∨ lane.val = 8 ∨ k.bad rx ≠ 0 then s
  else
    let k := k.markBad rx lane.val
    let k := if rx then { k with rxSpare := spareFor k.badRx } else { k with txSpare := spareFor k.badTx }
    let score := if rx then k.rxLaneScore[lane] else k.txLaneScore[lane]
    let s := (((s.putUnit u k).unitSend u (.link (.laneCopy lane))).linkBump u 5 1).scoreUnit u 64
    s.record (lanePart u rx lane.val) host score

def execLaneSpareSwitch (u : UnitId) (rx : Bool) (lane : Fin 9) (s : State) : Result :=
  if s.mode.works then .next (s.switchLane u.val rx lane false) else .next s

/-- R323, R483: a lane stops; a lane event during a retrain joins that retrain. -/
def execLaneLoss (u : UnitId) (rx : Bool) (lane : Fin 9) (s : State) : Result :=
  let k := s.unitOf u.val
  if !s.mode.works || !(k.state == .active || k.trains) then .next s
  else
    let k := (k.markBad rx lane.val).laneScored rx lane 64
    if k.state = .active then .next ((s.putUnit u.val (k.laneScored rx lane 16)).beginRetrain u.val)
    else .next (s.putUnit u.val k)

/-- R311, R322, R486: a LINK message. A request to copy a lane is answered by the announcement. -/
def execLinkMsg (u : UnitId) (m : LinkMsg) (s : State) : Result :=
  let k := s.unitOf u.val
  if !s.mode.works then .next s
  else
    match m with
    | .ident kind serial unit gangAgrees =>
      if k.trains && k.stage == .ident then .next (s.identUnit u.val kind serial unit gangAgrees) else .next s
    | .laneCopy lane => .next (s.unitSend u.val (.link (.laneCopy lane)))
    | .equaliserCheck => .next s

/-- R486: each unit checks its transmit equaliser. -/
def execEqualiserCheck (u : UnitId) (s : State) : Result :=
  if s.mode.works && (s.unitOf u.val).state == .active then .next (s.unitSend u.val (.link .equaliserCheck))
  else .next s

/-! ## The time base (R326 to R328) -/

def State.parentUnit (s : State) : Option Nat :=
  (List.range 96).find? (fun u => (s.unitOf u).timeParent && (s.unitOf u).state == .active)

/-- R326: one tick of the selected REFCLK: 64 units; while it is disciplined, 63 or 65 on one tick in eight. With
no REFCLK it goes on by 64, without discipline (R431). -/
def State.advance (s : State) : State :=
  let t := s.timeStatus
  if s.clocks.noneSelected ∨ t.slew = 0 then { s with time := s.time + 64 }
  else if t.phase ≠ 7 then { s with time := s.time + 64, timeStatus := { t with phase := t.phase + 1 } }
  else if t.slew.msb then { s with time := s.time + 63, timeStatus := { t with phase := 0, slew := t.slew + 1 } }
  else { s with time := s.time + 65, timeStatus := { t with phase := 0, slew := t.slew - 1 } }

def saturate16 (n : Int) : W16 :=
  BitVec.ofInt 16 (if n < -32768 then -32768 else if 32767 < n then 32767 else n)

/-- R326, R327: the four stamps of an exchange with the parent. The first lock may step the time base, before
any context exists; after that it is slewed. -/
def State.takeTime (s : State) (t1 t2 t3 t4 : W64) (depth : Byte) : State :=
  let offset : Int := Int.tdiv ((t2 - t1).toInt - (t4 - t3).toInt) 2
  let rtt := ((t4 - t1).toInt - (t3 - t2).toInt) / 10
  let t := { s.timeStatus with
    offset := saturate16 offset, rtt := BitVec.ofNat 16 (Nat.min rtt.toNat 0xFFFF), depth := depth + 1 }
  let free := s.ctxs.all (fun e => !e.2.live)
  let locks := t.state == .locked || t.state == .holdover || offset == 0
  if !t.stepped && free && !locks then
    { s with time := s.time + BitVec.ofInt 64 offset,
             timeStatus := { t with state := .locked, stepped := true, slew := 0, phase := 0 } }
  else
    { s with timeStatus := { t with state := if locks then .locked else .acquiring, slew := BitVec.ofInt 64 offset } }

/-- R327: a TIME message is stamped and answered; an answer disciplines the time base. -/
def execTimeMsg (u : UnitId) (m : TimeMsg) (s : State) : Result :=
  if !s.mode.works || (s.unitOf u.val).state != .active then .next s
  else
    match m with
    | .request t1 => .next (s.unitSend u.val (.time (.answer t1 s.time s.time 0 s.timeStatus.depth)))
    | .answer t1 t2 t3 t4 depth =>
      if s.parentUnit = some u.val then .next (s.takeTime t1 t2 t3 t4 depth) else .next s

/-- R327: a child asks its parent. -/
def execTimeExchange (s : State) : Result :=
  match s.parentUnit with
  | none => .next s
  | some u =>
    if !s.mode.works then .next s
    else
      let t := s.timeStatus
      let t := if t.state = .free then { t with state := .acquiring } else t
      .next (({ s with timeStatus := t } : State).unitSend u (.time (.request s.time)))

/-- R328: no answer for 10 ms. -/
def execHoldover (s : State) : Result :=
  let t := s.timeStatus
  if s.mode.works && t.state == .locked then .next { s with timeStatus := { t with state := .holdover, slew := 0 } }
  else .next s

end Sys2Proof.Machine
end

