-- ==== Sys2Proof/Machine/DarnOps.lean ====
section
/-! DEFINITION. The repairs of the firmware planner: which part a TARGET names, the spares brought in, the rows,
pairs, stacks, routers and fields retired (R30 to R32, R56 to R59, R170, R179, R210, R211, R255, R256, R437, R465 to
R475, R478, R479). -/

set_option linter.unusedVariables false

namespace Sys2Proof.Machine

open Sys2Proof

/-! ## Parts (R467) -/

/-- TARGET bytes that a KIND does not list are 0, and the listed ones are in range. -/
def partOk (p : Part) : Bool :=
  let within := fun (b : Byte) (n : Nat) => decide (b.toNat < n)
  let tail := fun (n : Nat) => ([p.t0, p.t1, p.t2, p.t3, p.t4, p.t5].drop n).all (· == 0)
  match p.kind.toNat with
  | 1 => within p.t0 100 && within p.t1 16 && within p.t2 4 && within p.t3 9 && tail 4
  | 2 => within p.t0 100 && within p.t1 16 && within p.t2 4 && tail 3
  | 3 => within p.t0 100 && tail 1
  | 4 => within p.t0 100 && within p.t1 16 && tail 2
  | 5 => within p.t0 100 && within p.t1 16 && within p.t2 68 && tail 3
  | 6 => within p.t0 24 && within p.t1 32 && tail 2
  | 7 => within p.t0 128 && within p.t1 2 && within p.t2 9 && tail 3
  | _ => false

/-- The physical core of a CORE part, and the row of a CORE or ROW part. -/
def Part_phys (p : Part) : Nat := 576 * p.t0.toNat + 36 * p.t1.toNat + 9 * p.t2.toNat + p.t3.toNat
def Part_row (p : Part) : Nat := 64 * p.t0.toNat + 4 * p.t1.toNat + p.t2.toNat
def rowPart (row : Nat) : Part :=
  { kind := 2, t0 := BitVec.ofNat 8 (row / 64), t1 := BitVec.ofNat 8 (row % 64 / 4), t2 := BitVec.ofNat 8 (row % 4) }
def routerPart (k : Nat) : Part := { kind := 4, t0 := BitVec.ofNat 8 (k / 16), t1 := BitVec.ofNat 8 (k % 16) }
def groupPart (f b g : Nat) : Part :=
  { kind := 5, t0 := BitVec.ofNat 8 f, t1 := BitVec.ofNat 8 b, t2 := BitVec.ofNat 8 g }
def fieldPart (f : Nat) : Part := { kind := 3, t0 := BitVec.ofNat 8 f }

/-! ## Cores reset and emptied (R43, R437, R479) -/

/-- The entries of cores that satisfy p become EMPTY, and tiles that had their homes there are POISONED. -/
def State.losePockets (s : State) (p : Nat → Bool) : State :=
  let mark := fun (t : Tile) => match t.home with
    | .pocket c _ => if p c.val then { t with home := t.declHome, bytes := [], homePoisoned := true } else t
    | _ => t
  { s with tiles := tmap {} (fun _ t => mark t) s.tiles,
           cores := tmap {} (fun c k => if p c then { k with tiles := [] } else k) s.cores }

/-- R437: a core reset. The step-start copies are in the Basket (R131). -/
def State.resetCore (s : State) (c : Nat) : State :=
  (s.losePockets (fun d => d == c)).modCore c (fun k => { stepCopies := k.stepCopies })

/-- R53: the core that serves a column begins to serve it. -/
def State.beginServing (s : State) (c : Nat) : State :=
  match s.servedBy c with
  | none => s
  | some p => s.startBeats p

/-! ## Repairs (R472, R473) -/

/-- R472: the NOTICE of a spare brought in and the ALARM of a part retired. -/
def State.noteSpare (s : State) (src : Source) (d : List W64) : State := s.raise .notice 472 0 src none d
def State.noteRetired (s : State) (src : Source) (d : List W64) : State := s.raise .alarm 472 1 src none d

/-- R32: a row is retired: its cores keep no data, and the regions above its cluster become STALE. -/
def State.retireRow (s : State) (row : Nat) (host : Bool) : State :=
  if s.rowRetired row && s.badParts.contains (rowPart row) then s
  else
    let s := (s.each (List.range 8) (fun s j => s.resetCore (8 * row + j))).record (rowPart row) host 0
    (s.staleRegions .row (fun k => k == row / 4)).noteRetired (srcCluster (row / 4))
      [w64 (row / 64), w64 (row % 64 / 4), w64 (row % 4)]

/-! ## Spares and their slices (R59, R473, R475, R480) -/

/-- SPARE cores of a cluster: physical column 8 that serves nothing, of a row in service, and the restored ones. -/
def State.sparesOf (s : State) (k : Nat) : List Nat :=
  ((List.range 36).map (fun i => 36 * k + i)).filter (fun p => !s.rowRetired (p / 9) &&
    ((p % 9 == 8 && !s.badCore p && (s.serves p).isNone && (s.physOf p).health == .good) || s.restoredSpare p))

/-- R475: the cores of a cluster that RESTORE has sent to test. -/
def State.restoringOf (s : State) (k : Nat) : List Nat := s.darn.restoring.filter (fun p => p / 36 == k)

/-- The cores that a SPARE slice tests. -/
def State.spareTests (s : State) (k : Nat) : List Nat := s.sparesOf k ++ s.restoringOf k

/-- R483: a failed slice of a physical core. -/
def State.failSlice (s : State) (p : Nat) : State := s.scorePhys p 1024

/-- The cores of a list that a slice of a cluster found failing. -/
def SliceOutcome_bad (o : SliceOutcome) (k : Nat) (ps : List Nat) : List Nat :=
  ps.filter (fun p => o.failedCores.any (fun i => 36 * k + i.val == p))

/-- R475: the restored cores of a cluster have been tested: those that passed are SPARE. -/
def State.endRestoring (s : State) (k : Nat) (bad : List Nat) : State :=
  let s' := s.each ((s.restoringOf k).filter (fun p => !bad.contains p)) (fun s p =>
    s.modPhys p (fun v => { v with health := .good, clockStopped := false }))
  { s' with darn := { s'.darn with restoring := s'.darn.restoring.filter (fun p => p / 36 != k) } }

/-- The kind and the cluster of a slice as BIST_STATUS shows them. -/
def Field.noted (v : Field) (k : Nat) (kind : SliceKind) : Field :=
  { v with lastKind := BitVec.ofNat 2 (SliceKind.code kind), lastCluster := BitVec.ofNat 4 (k % 16) }

def State.noteSlice (s : State) (k : Nat) (kind : SliceKind) : State := s.modField (k / 16) (fun v => v.noted k kind)

/-- The result of a slice as BIST_STATUS shows it. -/
def State.sliceDone (s : State) (f : Nat) (pass : Bool) : State :=
  s.modField f (fun v => { v with
    slice := none, lastPass := pass, slices := satAdd16 v.slices 1,
    sliceFails := if pass then v.sliceFails else satAdd16 v.sliceFails 1 })

/-- A physical core is out of use. -/
def State.failPhys (s : State) (p : Nat) : State :=
  s.modPhys p (fun k => { k with health := .failed, clockStopped := true })

/-- R59, R480: a SPARE slice ends; spares that fail are FAILED. -/
def State.endSpare (s : State) (k : Nat) (o : SliceOutcome) : State :=
  let bad := SliceOutcome_bad o k (s.spareTests k)
  let s := (s.each bad (fun s p => (s.failSlice p).failPhys p)).endRestoring k bad
  let s := if bad = [] then s.modField (k / 16) (fun v => { v with
      sparePassed := tput 0 v.sparePassed (k % 16) s.time,
      spareNoted := v.spareNoted &&& ~~~(BitVec.twoPow 16 (k % 16)) })
    else s
  s.sliceDone (k / 16) (bad == [])

/-- R473: before a spare stands in for a failed core the planner runs a SPARE slice, where the last one that passed is more
than an hour old; `failed` holds the cores that fail it. -/
def State.freshSpare (s : State) (failed : List PhysId) (p : Part) : State :=
  let k := Part_phys p / 36
  let spares := (s.sparesOf k).filter (fun q => q / 9 == Part_row p)
  if p.kind ≠ 1 ∨ s.serves (Part_phys p) = none ∨ spares = [] ∨
      s.since (tget 0 (s.fieldOf (k / 16)).sparePassed (k % 16)) ≤ ms 3600000 then s
  else (s.noteSlice k .spare).endSpare k
    { failedCores := (List.finRange 36).filter (fun i => failed.any (fun q => q.val == 36 * k + i.val)) }

/-- R475, R468: a restored core of a row is brought in: the columns whose core changes begin afresh. -/
def State.bringIn (s : State) (row q : Nat) : State :=
  let t := { s with darn := { s.darn with unrecorded := s.darn.unrecorded.filter (fun e => e != corePart q) } }
  t.each ((List.range 8).filter (fun j => s.servedBy (8 * row + j) != t.servedBy (8 * row + j))) (fun t j =>
    (t.resetCore (8 * row + j)).beginServing (8 * row + j))

/-- R58, R473: a failed core. A spare of the row stands in where there is one, otherwise the row is retired. -/
def State.repairCore (s : State) (p : Nat) (host : Bool) : State :=
  let row := p / 9
  let spare := 9 * row + 8
  let was := s.serves p
  let free := (s.serves spare).isNone && !s.badCore spare && (s.physOf spare).health == .good
  let restored := ((List.range 9).map (fun j => 9 * row + j)).find? s.restoredSpare
  let gone := s.rowRetired row
  let s := (s.failPhys p).record (corePart p) host (s.physOf p).score
  match was with
  | none => s
  | some c =>
    if gone then s
    else if free && p != spare then ((s.resetCore c).beginServing c).noteSpare (srcCore spare) [w64 c]
    else match restored with
      | some q => (s.bringIn row q).noteSpare (srcCore q) [w64 c]
      | none => s.retireRow row host

/-- R180, R473: a router's cluster leaves the geometry; the packets inside are lost. -/
def State.repairRouter (s : State) (k : Nat) (host : Bool) : State :=
  if s.badParts.contains (routerPart k) then s
  else
    let s := (s.record (routerPart k) host (s.clusterOf k).routerScore).noteRetired (srcCluster k) [w64 k]
    ((s.staleRegions .cutoff (fun j => j == k)).strand (fun j => j == k) (srcCluster k) (32 * k) []).detourUpdate

/-- R479, R473: a failed shared unit retires the four rows of its cluster. -/
def State.repairShared (s : State) (k : Nat) (host : Bool) : State :=
  s.each (List.range 4) (fun s r => s.retireRow (4 * k + r) host)

/-- R398, R473. -/
def State.repairField (s : State) (f : Nat) (host : Bool) : State :=
  if (s.fieldOf f).state = .retired then s
  else ((s.stopField f .retired .retired {}).record (fieldPart f) host 0).noteRetired (srcField f) [w64 f]

/-- R170: the recorded map of bad groups is applied to a boundary direction. -/
def State.applyBoundary (s : State) (f b : Nat) : State :=
  let old := boundaryWidth ((s.fieldOf f).boundary b).bad
  let new := s.recordedGroups f b
  let s := s.modField f (fun v => { v with boundaries := tput {} v.boundaries b { v.boundary b with bad := new } })
  if boundaryWidth new = old then s else s.detourUpdate

/-- R483: weight added to a boundary direction's score. -/
def Field.scoreGroup (v : Field) (b n : Nat) : Field :=
  { v with boundaries := tput {} v.boundaries b { v.boundary b with score := satAdd16 (v.boundary b).score n } }

def State.repairGroup (s : State) (p : Part) (host : Bool) : State :=
  let f := p.t0.toNat
  let b := p.t1.toNat
  let s := (s.record p host ((s.fieldOf f).boundary b).score).applyBoundary f b
  if popcount ((s.fieldOf f).boundary b).bad ≤ 4 then s.noteSpare (srcField f) [w64 b] else s

/-- R211: where a tile of a retired pair goes: a pair in use with room for it, of its stack set or else of any
stack. -/
def State.newPair (s : State) (t : Tile) : Option Home :=
  let room := fun h => s.freestPair h (fun q =>
    decide (tget 0 (s.stackOf h).pairUsed q + reservation t.fmt ≤ pairBytes))
  (stackSet (t.flags.toNat / 64 % 8) ++ stackSet 0).findSome? (fun h => (room h).map (hamperPlace h))

/-- R211: the reservation of a tile on a retired pair moves, and the tile with it where its home is there, keeping its
handle; with no place for it the reservation is gone and the tile POISONED. DEDUCED, log entry 71. -/
def State.moveOff (s : State) (key : Nat) (fits : Bool) : State × Bool :=
  let t := s.tileOf key
  let len := reservation t.fmt
  let home := fun p => if t.home = t.declHome then p else t.home
  match (if fits then s.newPair t else none) with
  | some (.hamper h q) =>
    let p := Home.hamper h q
    let at_ := s.linePlace p t.fmt
    ((s.modStack h.val (fun k => { k with pairUsed := tput 0 k.pairUsed q.val (tget 0 k.pairUsed q.val + len) })).putTile
      key { t with home := home p, declHome := p, line := at_.1, headSlot := at_.2 }, true)
  | _ =>
    let lost := s.putTile key { t with home := home .lost, declHome := .lost }
    (if t.home = t.declHome then lost.poisonTile key else lost, false)

/-- The tiles with a reservation on a pair. -/
def State.tilesOfPair (s : State) (h q : Nat) : List Nat :=
  tkeys (fun t : Tile => match t.declHome with
    | .hamper a b => a.val == h && b.val == q
    | _ => false) s.tiles

/-- R211: the tiles of pairs that have been retired are moved while the reservations still fit; tiles that do not
fit raise one ALARM. -/
def State.emptyPair (s : State) (h q : Nat) : State :=
  let keys := s.tilesOfPair h q
  let placed := s.hamperStacks.foldl (fun n e => e.2.pairUsed.foldl (fun n u => n + u.2) n) 0
  let excess := placed - s.hamperTotal
  let s := s.modStack h (fun k => { k with pairUsed := tput 0 k.pairUsed q 0 })
  let r := keys.foldl (fun (r : State × Nat × Bool) key =>
    let len := reservation (r.1.tileOf key).fmt
    let m := r.1.moveOff key (r.2.1 == 0)
    (m.1, if r.2.1 = 0 then 0 else r.2.1 - len, r.2.2 && m.2)) (s, excess, true)
  if r.2.2 then r.1 else r.1.raise .alarm 211 0 (srcStack h) none [w64 h, w64 q]

/-- R210, R473: a failed channel: a spare of its stack takes its place, or its pair is retired. -/
def State.repairChannel (s : State) (h ch : Nat) (host : Bool) : State :=
  let was := s.channelServes h ch
  let s := (s.record (channelPart h ch) host (s.channelOf (32 * h + ch)).score).modChannel (32 * h + ch) (fun c =>
    { c with failed := true })
  match was with
  | none => s
  | some (q, half) =>
    if (s.channelFor h q half).isSome then s.noteSpare (srcStack h) [w64 q]
    else (s.emptyPair h q).noteRetired (srcStack h) [w64 h, w64 q]

/-- R473: a controller that stays SUSPECT: all pairs of its stack are retired. -/
def State.repairStack (s : State) (h : Nat) : State :=
  let s := s.modStack h (fun k => { k with retired := true })
  (s.each (List.range 15) (fun s q => s.emptyPair h q)).noteRetired (srcStack h) [w64 h]

/-- R322, R323: a lane taken as bad: lane 8 stands in for it, or the unit retrains at the width left. -/
def State.repairLane (s : State) (p : Part) (host : Bool) : State :=
  let u := p.t0.toNat
  let rx := p.t1 == 1
  let lane : Fin 9 := Fin.ofNat 9 p.t2.toNat
  let k := s.unitOf u
  if k.state = .active ∧ lane.val ≠ 8 ∧ k.bad rx = 0 then
    (s.switchLane u rx lane host).noteSpare (srcUnit u) [w64 lane.val]
  else
    let s := (s.record p host (if rx then k.rxLaneScore[lane] else k.txLaneScore[lane])).modUnit u (fun k =>
      k.markBad rx lane.val)
    if k.state = .active then s.beginRetrain u else s

/-- R473, R475: a part is taken as failed and repaired. -/
def State.repair (s : State) (p : Part) (host : Bool) : State :=
  if s.badParts.contains p then s
  else match p.kind.toNat with
    | 1 => s.repairCore (Part_phys p) host
    | 2 => s.retireRow (Part_row p) host
    | 3 => s.repairField p.t0.toNat host
    | 4 => s.repairRouter (16 * p.t0.toNat + p.t1.toNat) host
    | 5 => s.repairGroup p host
    | 6 => s.repairChannel p.t0.toNat p.t1.toNat host
    | 7 => s.repairLane p host
    | _ => s

/-- R255: the contexts above a part that MARK_BAD or a host plan takes from service are aborted. -/
def State.abortAbove (s : State) (p : Part) : State :=
  if s.badParts.contains p then s
  else match p.kind.toNat with
    | 1 => match s.serves (Part_phys p) with
      | some c => s.abortOver (fun k => k == c / 32) c
      | none => s
    | 2 => s.abortOver (fun k => k == Part_row p / 4) (8 * Part_row p)
    | 4 => s.abortOver (fun k => k == 16 * p.t0.toNat + p.t1.toNat) (32 * (16 * p.t0.toNat + p.t1.toNat))
    | _ => s

/-- R475: the parts whose mapping a repair changed (DEDUCED, log entry 47): the logical columns of a CORE or ROW part that
another core serves or none, and one for any other part newly bad. -/
def State.changedBy (s t : State) (p : Part) : Nat :=
  if p.kind = 1 ∨ p.kind = 2 then
    ((List.range 8).filter (fun j => s.servedBy (8 * Part_row p + j) != t.servedBy (8 * Part_row p + j))).length
  else if !s.badParts.contains p && t.badParts.contains p then 1 else 0

def State.staleCount (s : State) : Nat :=
  ((List.range 256).filter (fun r => (s.regionOf r).state == .stale)).length

/-! ## Streams ended, DRAIN (R397, R471, R472) -/

/-- Every stream of the module has ended. -/
def State.streamsEnded (s : State) : Bool :=
  s.clusters.all (fun e => e.2.streams.all (fun v => match v.2.stream with
    | some m => m.ended.isSome
    | none => true))

/-- Some step or batch is open. -/
def State.stepOpen (s : State) : Bool := s.ctxs.any (fun e => e.2.isOpen)

/-- READY, or RUN where a context exists. -/
def State.serviceMode (s : State) : ModState := if s.ctxs.any (fun e => e.2.live) then .run else .ready

/-- R396, R472 point 5: Darning completes; a DRAIN that the module entered itself ends. -/
def State.endDarning (s : State) : State :=
  let s := { s with darn := { s.darn with planner := .idle, pendingParts := [] } }
  if s.mode = .drain ∧ s.darn.drainByCommand = false then { s with mode := s.serviceMode } else s

/-! ## DARN_REQUEST (R475) -/

/-- A record: OP and the part. -/
abbrev DarnRec := Byte × Part

/-- The Patch entry of a part. -/
def State.patchOf (s : State) (p : Part) : Option PatchEntry := s.darn.patch.find? (fun e => e.part == p)

/-- The fuse entries that records to harden would add. -/
def State.newFuses (s : State) (rs : List DarnRec) : List Part :=
  ((rs.filter (fun r => r.1 == 3)).map (·.2)).eraseDups.filter (fun p => !s.darn.fuses.contains p)

/-- R475: the checks of every record, before any is applied. DETAIL is the index of the record. -/
def State.darnBad (s : State) (rs : List DarnRec) : Option Bad :=
  let at_ := fun (bad : DarnRec → Bool) (st : Byte) =>
    (rs.findIdx? bad).map (fun i => ((st, BitVec.ofNat 32 i) : Bad))
  firstBad [
    check (rs.isEmpty || decide (64 < rs.length)) stBAD_ARG 0,
    at_ (fun r => r.1 == 0 || decide (3 < r.1.toNat) || !partOk r.2) stBAD_ARG,
    at_ (fun r => r.1 != 1 && s.mode != .maint) stREFUSED,
    at_ (fun r => r.1 == 2 && (s.darn.fuses.contains r.2 || (s.patchOf r.2).any (·.hard))) stREFUSED,
    at_ (fun r => r.1 != 1 && (s.patchOf r.2).isNone) stREFUSED,
    check (decide (1024 < s.darn.fuses.length + (s.newFuses rs).length)) stNO_QUOTA]

/-- RESTORE: the soft entry is removed and the part goes to test. A lane or group is taken up at its next training,
a field goes to TEST, a core to the next slice of its cluster; any other part stays out of use until the next bring-up maps
it again (DEDUCED, log entry 48). -/
def State.restorePart (s : State) (p : Part) : State :=
  let s := { s with darn := { s.darn with patch := s.darn.patch.filter (fun e => e.part != p) } }
  match p.kind.toNat with
  | 3 => (s.resetField p.t0.toNat).modField p.t0.toNat (fun v => { v with state := .test, tests := 0 })
  | 5 | 7 => s
  | 1 => { s with darn := { s.darn with
      unrecorded := s.darn.unrecorded ++ [p], restoring := s.darn.restoring ++ [Part_phys p] } }
  | _ => { s with darn := { s.darn with unrecorded := s.darn.unrecorded ++ [p] } }

/-- R469: the fields of a TARGET, with their widths. -/
def Part_fields (p : Part) : List (Nat × Byte) :=
  match p.kind.toNat with
  | 1 => [(7, p.t0), (4, p.t1), (2, p.t2), (4, p.t3)]
  | 2 => [(7, p.t0), (4, p.t1), (2, p.t2)]
  | 3 => [(7, p.t0)]
  | 4 => [(7, p.t0), (4, p.t1)]
  | 5 => [(7, p.t0), (4, p.t1), (7, p.t2)]
  | 6 => [(5, p.t0), (5, p.t1)]
  | 7 => [(7, p.t0), (1, p.t1), (4, p.t2)]
  | _ => []

/-- R469: the 32 bits of the fuse entry of a part. -/
def Part_fuseWord (p : Part) : W32 :=
  BitVec.ofNat 32 (p.kind.toNat +
    ((Part_fields p).foldl (fun (a : Nat × Nat) f => (a.1 + f.2.toNat * 2 ^ a.2, a.2 + f.1)) (0, 4)).1)

/-- HARDEN: the entry is copied into fuses. -/
def State.hardenPart (s : State) (p : Part) : State :=
  { s with darn := { s.darn with
      fuses := if s.darn.fuses.contains p then s.darn.fuses else s.darn.fuses ++ [p],
      patch := s.darn.patch.map (fun e => if e.part = p then { e with hard := true } else e) } }

/-- Records that have been checked are applied, with the number of changed mappings; `failed` holds the spares that fail a
slice that the planner runs first. -/
def State.applyDarn (s : State) (rs : List DarnRec) (failed : List PhysId) : State × Nat :=
  rs.foldl (fun (r : State × Nat) d =>
    if d.1 = 1 then
      let t := ((r.1.abortAbove d.2).freshSpare failed d.2).repair d.2 true
      (t, r.2 + r.1.changedBy t d.2)
    else if d.1 = 2 then (r.1.restorePart d.2, r.2)
    else (r.1.hardenPart d.2, r.2)) (s, 0)

/-- R210: tiles on replaced channels that cannot be read, each a handle and whether it is the copy in slot B, are POISONED
at their homes. -/
def State.poisonUnreadable (s : State) (hs : List (W32 × Bool)) : State :=
  s.each hs (fun s h =>
    let key := h.1.toNat + (if h.2 then 2 ^ 32 else 0)
    if (s.tileOf key).declared then s.poisonTile key else s)

/-- R210, R475: MARK_BAD of a channel leaves the tiles with lines that its spare could not take over POISONED. -/
def State.poisonReplaced (s : State) (rs : List DarnRec) (hs : List (W32 × Bool)) : State :=
  if rs.any (fun d => d.1 == 1 && d.2.kind == 6) then s.poisonUnreadable hs else s

/-- R474: the spares that the firmware planner would use for failed parts: of a core its row's, of a Hamper channel the first
of its stack's that serves nothing. -/
def State.planSpares (s : State) (ps : List Part) : List Part :=
  (ps.flatMap (fun p =>
    if p.kind = 1 then
      (((s.sparesOf (Part_phys p / 36)).filter (fun q => q / 9 == Part_row p)).take 1).map corePart
    else if p.kind = 6 then
      (([30, 31].filter (fun c => !s.badChannel p.t0.toNat c && (s.channelServes p.t0.toNat c).isNone)).take 1).map
        (channelPart p.t0.toNat)
    else [])).eraseDups

/-- A plan request of the host planner has not been answered and has not run out. -/
def State.planPending (s : State) : Bool := s.requests.any (fun r => match r.kind with
  | .sparePlan _ => true
  | _ => false)

end Sys2Proof.Machine
end

