-- ==== Sys2Proof/Machine/CivLink.lean ====
section
/-! DEFINITION. The CivLink ports and window: doorbells, mailbox configuration, descriptor fetch, host-memory
accesses that fail, the status mirror, event export and the telemetry sample (R356 to R369, R504 to R507). -/

set_option linter.unusedVariables false

namespace Sys2Proof.Machine

open Sys2Proof

/-- Some port is ACTIVE and the module is on: a window access reaches it. -/
def State.windowUp (s : State) : Bool := (s.portA || s.portB) && s.mode != .off

def low16 (v : W64) : W16 := v.setWidth 16

/-! ## Doorbells and mailbox configuration (R364 to R366) -/

/-- A doorbell takes 8 bytes, or 4 at its low half. -/
def doorbellSize (n : Nat) : Bool := n == 8 || n == 4

/-- PRODUCER; a value more than 64 beyond MBOX_HEAD is ignored. -/
def State.ringSq (s : State) (m : Nat) (v : W16) : State :=
  let b := s.mboxOf m
  if 64 < (v - b.head).toNat then s.winErr else s.putMbox m { b with producer := v }

/-- CONSUMER. -/
def State.ringCq (s : State) (m : Nat) (v : W16) : State :=
  let b := s.mboxOf m
  if 64 < (b.tail - v).toNat then s.winErr else s.putMbox m { b with consumer := v }

def execSqDb (m : MboxId) (value : W64) (bytes : Nat) (s : State) : Result :=
  if !s.windowUp then .next s
  else if doorbellSize bytes then .next (s.ringSq m.val (low16 value)) else .next s.winErr

def execCqDb (m : MboxId) (value : W64) (bytes : Nat) (s : State) : Result :=
  if !s.windowUp then .next s
  else if doorbellSize bytes then .next (s.ringCq m.val (low16 value)) else .next s.winErr

/-- R365: while ENABLE is 1 or IDLE is 0 the configuration is fixed. -/
def Mbox.fixed (b : Mbox) : Bool := b.enable || b.held != []

/-- R365: a write of MBOX_CTRL. -/
def Mbox.control (b : Mbox) (m : Nat) (v : W64) : Mbox :=
  let c := if b.fixed then { b with irqEn := v.getLsbD 3 }
    else { b with
      admin := m == 0 || v.getLsbD 1, preferB := v.getLsbD 2, irqEn := v.getLsbD 3,
      vector := (v >>> 4).setWidth 5, ctxMask := (v >>> 16).setWidth 8, seq0 := (v >>> 32).setWidth 32 }
  if !v.getLsbD 0 then { c with enable := false, err := false, errCause := 0 }
  else if b.enable then c
  else if c.sqBase.toNat % 16384 ≠ 0 ∨ c.cqBase.toNat % 4096 ≠ 0 then { c with err := true, errCause := 3 }
  else { c with enable := true, expectSeq := c.seq0 }

def State.writeMbox (s : State) (m : Nat) (v : W64) : State := s.modMbox m (fun b => b.control m v)

def execMboxCtrl (m : MboxId) (value : W64) (s : State) : Result :=
  if s.windowUp then .next (s.writeMbox m.val value) else .next s

/-! ## Event export (R504, R505) -/

def State.writeExpCtrl (s : State) (c : Nat) (v : W64) : State :=
  s.modRing c (fun g => { g with enable := v.getLsbD 0, irqEn := v.getLsbD 1, vector := (v >>> 2).setWidth 5 })

/-- A value that would pass EXP_PROD is ignored. -/
def State.writeExpCons (s : State) (c : Nat) (v : W64) : State :=
  let g := s.ringOf c
  let n : W32 := v.setWidth 32
  if precedes g.prod n || unordered g.prod n then s.winErr else s.putRing c { g with cons := n }

def execExpCtrl (cls : Fin 4) (value : W64) (s : State) : Result :=
  if s.windowUp then .next (s.writeExpCtrl cls.val value) else .next s

def execExpCons (cls : Fin 4) (value : W64) (s : State) : Result :=
  if s.windowUp then .next (s.writeExpCons cls.val value) else .next s

/-- Records are copied while EXP_PROD is less than 1,024 beyond EXP_CONS. -/
def Ring.exportable (g : Ring) : List EventRec := g.unread.take (1024 - (g.prod - g.cons).toNat)

/-- R358, R505: a failed write of an event record. -/
def State.exportFails (s : State) (c : Nat) : State :=
  (s.modRing c (fun g => { g with enable := false })).raise .fault 505 0 srcModule none [w64 c]

def execEventExport (cls : Fin 4) (writeOk : Bool) (s : State) : Result :=
  let g := s.ringOf cls.val
  match g.exportable.getLast? with
  | none => .next s
  | some last =>
    if !s.windowUp || s.mode == .hold || !g.enable then .next s
    else if !writeOk then .next (s.exportFails cls.val)
    else
      let out := g.exportable.map (fun e => HostOut.event (g.base + BitVec.ofNat 64 (64 * (e.seq.toNat % 1024))) cls e)
      .next { (s.putRing cls.val { g with unread := g.unread.drop g.exportable.length, prod := last.seq + 1 }) with
        hostOut := s.hostOut ++ out ++ (if g.irqEn then [.vector g.vector] else []) }

/-! ## Window writes (R359) -/

/-- A write of 8 aligned bytes at a window offset; to an RO or reserved location it counts in WIN_ERR. -/
def State.writeWindow (s : State) (off : Nat) (v : W64) : State :=
  if 0x100 ≤ off ∧ off < 0x200 then
    let m := (off - 0x100) / 16
    if off % 16 = 0 then s.ringSq m (low16 v) else s.ringCq m (low16 v)
  else if 0x200 ≤ off ∧ off < 0x600 then
    let m := (off - 0x200) / 64
    let b := s.mboxOf m
    match off % 64 with
    | 0 => if b.fixed then s else s.putMbox m { b with sqBase := v }
    | 8 => if b.fixed then s else s.putMbox m { b with cqBase := v }
    | 16 => s.writeMbox m v
    | _ => s.winErr
  else if 0x1000 ≤ off ∧ off < 0x1100 then
    let c := (off - 0x1000) / 64
    let g := s.ringOf c
    match off % 64 with
    | 0 => if g.enable then s.winErr else s.putRing c { g with base := v }
    | 8 => s.writeExpCtrl c v
    | 0x18 => s.writeExpCons c v
    | _ => s.winErr
  else if off = 0x1100 then { s with traceMask := v }
  else s.winErr

/-- DEDUCED, log entry 65. -/
def execRegisterWrite (offset : W16) (value : W64) (bytes : Nat) (s : State) : Result :=
  if !s.windowUp then .next s
  else
    let off := offset.toNat
    let bell := decide (0x100 ≤ off ∧ off < 0x200)
    if off % 8 = 0 ∧ (bytes = 8 ∨ (bytes = 4 ∧ bell = true)) then .next (s.writeWindow off value)
    else .next s.winErr

/-! ## Descriptors (R367 to R369) -/

/-- Bytes 0 to 29 of a descriptor. -/
def descriptorBytes (d : Descriptor) : List Byte :=
  bytesLE 2 d.opcode.toNat ++ [d.flags, d.opt] ++ bytesLE 4 d.seq.toNat ++ [d.ctx, d.rsv9] ++
  bytesLE 2 d.job.toNat ++ bytesLE 4 d.len.toNat ++ bytesLE 8 d.extAddr.toNat ++ bytesLE 6 d.rsv24.toNat

/-- R375: the OPT bits that have a meaning, by opcode; none for an unknown OPCODE. -/
def optBits (op : W16) : Option Byte :=
  match op.toNat with
  | 0x04 => some 3
  | 0x10 | 0x11 | 0x31 => some 1
  | 0x01 | 0x02 | 0x03 | 0x12 | 0x20 | 0x21 | 0x30 | 0x32 | 0x33 | 0x40 | 0x41 | 0x50 | 0x51 | 0x60 | 0x61 | 0x62
  | 0x70 | 0x71 | 0x72 | 0x80 | 0x81 | 0x90 | 0x91 => some 0
  | _ => none

/-- The first check of R369. -/
def descriptorOk (d : Descriptor) (expect : W32) : Bool :=
  let ext := d.flags.getLsbD 1
  d.hcheck == crc16 (descriptorBytes d) && d.flags &&& 0xF8 == 0 && d.rsv9 == 0 && d.rsv24 == 0 &&
  !d.inlineBeyond && (ext || d.extAddr == 0) && (decide (d.ctx.toNat < 8) || d.ctx == 0xFF) &&
  (match optBits d.opcode with
    | some b => d.opt &&& ~~~b == 0
    | none => false) &&
  d.seq == expect && decide (d.len.toNat ≤ (if ext then 67108864 else 224)) && (!ext || d.args == .ok)

/-- R358: the cause of a failed access. -/
def accessCause (late : Bool) : BitVec 2 := if late then 1 else 2

/-- R367, R405: the next descriptor of a mailbox is fetched; the command waits among those fetched and not yet
completed, or is refused at once. -/
def execDescriptorFetch (m : MboxId) (d : Descriptor) (s : State) : Result :=
  let b := s.mboxOf m.val
  let may := b.enable && !b.err && b.producer != b.head && decide ((b.head - b.consumer).toNat < 64)
  if !s.windowUp || s.mode == .hold || !may || (s.mgmt.recovery && m.val != 0) then .next s
  else
    match d.fetch with
    | .failed => .next (s.putMbox m.val { b with err := true, errCause := accessCause false })
    | .late => .next (s.putMbox m.val { b with err := true, errCause := accessCause true })
    | .ok =>
      let h : Hdr := { mbox := m, seq := d.seq, ctx := d.ctx, job := d.job, opt := d.opt }
      let e : HeldCmd := { opcode := d.opcode, hdr := h, order := d.flags.getLsbD 0, irq := d.flags.getLsbD 2 }
      let s := s.putMbox m.val { b with
        head := b.head + 1, expectSeq := b.expectSeq + 1, held := b.held ++ [e] }
      if descriptorOk d b.expectSeq then .next s
      else
        let c : Completion :=
          { seq := d.seq, opcode := d.opcode, status := stBAD_ARG, nan := false, ctx := d.ctx, mbox := m, job := d.job,
            detail := 0xFFFFFFFF, time := s.time, result := [], phase := b.tail.toNat / 64 % 2 == 0,
            onB := s.throughB b }
        .next { (s.putMbox m.val { b with
            head := b.head + 1, expectSeq := b.expectSeq + 1, tail := b.tail + 1 }) with
          hostOut := s.hostOut ++ (.completion c :: (if e.irq && b.irqEn then [.vector b.vector] else [])) }

/-! ## Host-memory accesses that fail (R358) -/

/-- R372: a completion whose write fails is lost. Where it is the newest of its mailbox, MBOX_TAIL has not
advanced (DEDUCED, log entry 37). -/
def State.loseCompletion (s : State) (m : MboxId) (seq : W32) (late : Bool) : State :=
  let mine := fun (o : HostOut) => match o with
    | .completion c => c.mbox == m
    | _ => false
  let newest := match s.hostOut.reverse.find? mine with
    | some (.completion c) => c.seq == seq
    | _ => false
  let s := s.modMbox m.val (fun b => { b with
    err := true, errCause := accessCause late, tail := if newest then b.tail - 1 else b.tail })
  { s with hostOut := s.hostOut.filter (fun o => match o with
      | .completion c => !(c.mbox == m && c.seq == seq)
      | _ => true) }

def execHostAccessDeadline (a : HostAccess) (s : State) : Result :=
  match a with
  | .descriptor m late =>
    let b := s.mboxOf m.val
    if s.windowUp && b.enable && !b.err then
      .next (s.putMbox m.val { b with err := true, errCause := accessCause late })
    else .next s
  | .completion m seq late =>
    if s.hostOut.any (fun o => match o with
        | .completion c => c.mbox == m && c.seq == seq
        | _ => false) then .next (s.loseCompletion m seq late)
    else .next s
  | .exportRing cls => if (s.ringOf cls.val).enable then .next (s.exportFails cls.val) else .next s

/-! ## Mirror, ports and sample (R357, R360 to R363, R506, R507) -/

/-- R360: the MMP updates the shadow. -/
def State.updateMirror (s : State) : State :=
  { s with
    mirror := { status := s.modStatus, time := s.time, fields := s.fieldsWord,
                ctxs := Vector.ofFn (fun i => s.ctxWord i.val), heads := Vector.ofFn (fun i => (s.mboxOf i.val).head),
                tails := Vector.ofFn (fun i => (s.mboxOf i.val).tail), power := s.powerWord, events := s.eventsWord }
    mirrorSeq := s.mirrorSeq + 1, mmpOk := true }

def execMirrorUpdate (s : State) : Result := if s.mode = .off then .next s else .next s.updateMirror

/-- R362: the shadow has not been updated for 10 ms. -/
def execMmpOkClear (s : State) : Result := .next { s with mmpOk := false }

def execCivlinkPortDown (portB : Bool) (s : State) : Result :=
  .next (if portB then { s with portB := false } else { s with portA := false })

def execCivlinkPortActive (portB : Bool) (s : State) : Result :=
  if s.mode = .off then .next s
  else .next (if portB then { s with portB := true } else { s with portA := true })

def execTelemSample (s : State) : Result :=
  if s.mode = .off ∨ s.mode = .hold then .next s
  else
    let hot := s.hottest
    .next { s with telemSample :=
      { time := s.time, sampleNo := s.telemSample.sampleNo + 1, power := s.powerStatus, fields := s.fieldsWord,
        refclk := s.refclkStatus, tMax := hot.1, tMaxField := BitVec.ofNat 8 hot.2,
        steps := BitVec.ofNat 400 ((List.range 100).foldl (fun n f => n + s.stepInForce f * 16 ^ f) 0),
        ctxs := Vector.ofFn (fun i => (s.ctxOf i.val).sampleWord),
        events := Vector.ofFn (fun i =>
          pack [(0, 32, (s.ringOf i.val).next.toNat),
            (32, 32, Nat.min (s.ringOf i.val).dropTotal.count.toNat 0xFFFFFFFF)]) } }

end Sys2Proof.Machine
end

