-- ==== Sys2Proof/Machine/Memory.lean ====
section
/-! DEFINITION. Background work and failures of the tiers: scrub, Hamper controllers and channels, Press blocks,
the extents and the erasure of images (R205 to R216, R274 to R277, R470, R486, R487). -/

set_option linter.unusedVariables false

namespace Sys2Proof.Machine

open Sys2Proof

/-! ## Scrub (R207, R386, R486, R487) -/

/-- Scrub may run: always under the hardware programme, in a window that grants it otherwise.
DEDUCED, log entry 64. -/
def State.scrubRuns (s : State) : Bool :=
  s.mode.works && (!s.mgmt.hostFunctions.getLsbD 3 || (match s.darn.window with
    | some w => w.args.flags.getLsbD 1 && !w.ended
    | none => false))

def ScrubPlace.tier : ScrubPlace → Tier
  | .basket k _ _ => .home (.basket k)
  | .hamper h p _ => .home (.hamper h p)

def ScrubPlace.handle : ScrubPlace → Option W32
  | .basket _ t _ => t
  | .hamper _ _ t => t

def ScrubPlace.source : ScrubPlace → Source
  | .basket k _ _ => srcCluster k.val
  | .hamper h _ _ => srcStack h.val

/-- The place within its unit: the bank of a Basket, or the pair of a stack. -/
def ScrubPlace.spot : ScrubPlace → Nat
  | .basket _ _ b => b.val
  | .hamper _ p _ => p.val

/-- Keys of the tiles of a handle with their home at a place. -/
def State.tilesAt (s : State) (h : W32) (t : Tier) : List Nat :=
  tkeys (fun q : Tile => Tier.home q.home == t)
    (s.tiles.filter (fun e => e.1 % 2 ^ 32 == h.toNat))

/-- A scrub reads a word or a line, corrects it, or poisons the tile that holds it. -/
def execScrub (place : ScrubPlace) (found : ScrubResult) (s : State) : Result :=
  let gone := match place with
    | .basket k _ _ => !s.meshRuns k.val
    | .hamper h _ _ => (s.stackOf h.val).retired
  if !s.scrubRuns || gone then .next s
  else
    match found with
    | .clean => .next s
    | .corrected ch =>
      let s := s.countCorrected (ScrubPlace.tier place) ch false 0
      .next (match place with
        | .hamper h _ _ => s.hamperBump h.val 7 1
        | .basket _ _ _ => s)
    | .uncorrectable ch =>
      let s := s.countUncorrectable (ScrubPlace.tier place) ch 0
      let x := (ScrubPlace.handle place).map handleCtx
      let s := match ScrubPlace.handle place with
        | some h => s.each (s.tilesAt h (ScrubPlace.tier place)) (fun s key => s.poisonTile key)
        | none => s
      .next (s.raise .fault 207 0 (ScrubPlace.source place) x
        [w64 (match place with
          | .basket _ _ _ => 1
          | .hamper _ _ _ => 2),
         w64 (ScrubPlace.source place).index, w64 (ScrubPlace.spot place), w64 ((ScrubPlace.handle place).map (·.toNat) |>.getD 0)])

/-! ## Hamper controllers and channels (R209, R210, R470, R486) -/

/-- R209: a controller that answers nothing for 1 ms. -/
def execHamperSuspect (h : StackId) (s : State) : Result :=
  let k := s.stackOf h.val
  if !s.mode.works || k.suspect || k.retired then .next s
  else
    .next (((s.putStack h.val { k with suspect := true }).scoreStack h.val 1024).raise .alarm 209 0
      (srcStack h.val) none [w64 h.val])

/-- R470: a controller declares a channel FAILED; the module leaves service for Darning. No region lies on a
channel, so no context is aborted (R471). -/
def execHamperChannelFailed (h : StackId) (ch : Fin 32) (s : State) : Result :=
  let p := 32 * h.val + ch.val
  if !s.mode.works || (s.channelOf p).failed || s.badChannel h.val ch.val then .next s
  else
    let s := s.modChannel p (fun c => { c with failed := true })
    .next ({ s with darn := { s.darn with
      pendingParts := s.darn.pendingParts ++ [channelPart h.val ch.val] } }).autoDrain

/-- R486: the recalibration of a channel holds its traffic for at most 2 µs and changes nothing else. -/
def execHamperChannelRecalibration (h : StackId) (ch : Fin 32) (s : State) : Result := .next s

/-! ## Press areas and blocks (R213 to R216; DESIGN CHOICE, log entry 35) -/

/-- R213: bytes of data capacity after parity, and of its three areas at delivery. -/
def pressImageArea : Nat := 8000000000000
def pressSystemArea : Nat := 64000000000
def pressReserveArea : Nat := 164600000000
def pressCapacity : Nat := pressImageArea + pressSystemArea + pressReserveArea

def Press.block (p : Press) (b : Nat) : PressBlock := tget {} p.blocks b

/-- The blocks that take no new data: in use or retired. -/
def Press.taken (p : Press) (b : Nat) : Bool := (p.block b).inUse || (p.block b).retired

/-- R214: the free block with the lowest erase count, among those used before and one never used. -/
def Press.freshBlock (p : Press) : Nat :=
  let next := (p.blocks.map (·.1)).foldl Nat.max 0 + 1
  ((p.blocks.map (·.1)).filter (fun b => !p.taken b)).foldl (fun best b =>
    if (p.block b).erases < (p.block best).erases then b else best) next

/-- R214: the reserve, of which the retired blocks have been taken, holds less than 1/d of its size at delivery. -/
def Press.reserveBelow (p : Press) (d : Nat) : Bool :=
  decide (d * (pressReserveArea - p.reserveRetired * Config.pressBlockBytes) < pressReserveArea)

def State.putBlock (s : State) (b : Nat) (k : PressBlock) : State :=
  { s with press := { s.press with blocks := tput {} s.press.blocks b k } }

/-- R214: a block is retired; the reserve falls. -/
def State.retireBlock (s : State) (b : Nat) : State :=
  let s := s.putBlock b { s.press.block b with retired := true, inUse := false }
  let p := { s.press with reserveRetired := s.press.reserveRetired + 1 }
  let low := p.reserveBelow 10 && !p.lowNoticed
  let s := ({ s with press := { p with lowNoticed := p.lowNoticed || low } }).pressBump 5 1
  if low then s.raise .notice 214 0 srcPress none [w64 p.reserveRetired] else s

/-- R214, R215: new data of a logical block go to a fresh block; one whose erase was interrupted is erased first. -/
def State.programBlock (s : State) (logical : Nat) : State :=
  let p := s.press
  let f := p.freshBlock
  let k := p.block f
  let s := s.putBlock f { erases := if k.eraseDue then k.erases + 1 else k.erases, inUse := true, programmed := s.time }
  { s with press := { s.press with map := tput none s.press.map logical (some f) } }

/-- R214: a block whose program fails is retired. -/
def State.failProgram (s : State) : State := s.retireBlock s.press.freshBlock

/-- A block is erased and free; one whose erase fails is retired (R214). -/
def State.eraseBlock (s : State) (b : Nat) (ok : Bool) : State :=
  if ok then s.putBlock b { erases := (s.press.block b).erases + 1 } else s.retireBlock b

/-- The logical blocks that a block holds. -/
def Press.heldBy (p : Press) (b : Nat) : List Nat := tkeys (fun v => v == some b) p.map

/-- R215: the data of a block move to a fresh one, the map switches, and the old block is erased; until the switch the
old block holds them. A block that gave an uncorrectable codeword, or whose erase fails, is retired (R214). -/
def State.copyBlock (s : State) (b : Nat) (readable : Bool) (r : BlockCopy) : State :=
  match r with
  | .copyInterrupted =>
    let f := s.press.freshBlock
    s.putBlock f { s.press.block f with eraseDue := true }
  | .done => ((s.press.heldBy b).foldl State.programBlock s).eraseBlock b readable
  | .eraseFailed => ((s.press.heldBy b).foldl State.programBlock s).eraseBlock b false
  | .eraseInterrupted =>
    let s := (s.press.heldBy b).foldl State.programBlock s
    if readable then s.putBlock b { erases := (s.press.block b).erases, eraseDue := true } else s.retireBlock b

/-- R215: the block is due for a refresh. -/
def State.refreshDue (s : State) (b : Nat) : Bool :=
  let k := s.press.block b
  k.inUse && !k.retired &&
  (k.softDecode || decide (200000 ≤ k.reads) || decide (ms (60 * 86400000) ≤ s.since k.programmed))

/-- R215: a refresh. -/
def execPressRefresh (block : Nat) (readable : Bool) (copy : BlockCopy) (s : State) : Result :=
  if !s.mode.works || !s.refreshDue block then .next s
  else
    let s := (s.copyBlock block readable copy).pressBump 4 1
    .next (if readable then s else s.pressBump 2 1)

/-- R214: the block holds the least-worn data, and another block in use has been erased over 500 times more. -/
def Press.leastWorn (p : Press) (b : Nat) : Bool :=
  let used := p.blocks.filter (fun e => e.2.inUse)
  (p.block b).inUse && used.all (fun e => decide ((p.block b).erases ≤ e.2.erases)) &&
  used.any (fun e => decide ((p.block b).erases + 500 < e.2.erases))

/-- R214: wear levelling moves the least-worn data. -/
def execPressWearMove (m : BlockMove) (s : State) : Result :=
  if !s.mode.works || !s.press.leastWorn m.block then .next s else .next (s.copyBlock m.block true m.copy)

/-! ## Images (R202, R274 to R277) -/

def State.imageOf (s : State) (n : Nat) : ImageSlot := tget {} s.press.slots n
def State.putImage (s : State) (n : Nat) (i : ImageSlot) : State :=
  { s with press := { s.press with slots := tput {} s.press.slots n i } }

/-- R202: what an image is charged: its stored length once that is known, and until then its tiles at their dense length,
the most they can store (DEDUCED, log entry 36). -/
def imageCharge (i : ImageSlot) : Nat :=
  if i.extentsTotal = 0 then i.tileCount.toNat * Fmt.denseLen i.fmt else i.stored

/-- R202: the charge of an image is released. -/
def State.dischargeImage (s : State) (n : Nat) : State :=
  let i := s.imageOf n
  match i.charged with
  | some x => (s.modCtx x.val (fun c => { c with pressUsed := c.pressUsed - imageCharge i })).putImage n
      { i with charged := none }
  | none => s

/-- The installation has ended. -/
def State.endInstall (s : State) (st : Byte) : State :=
  match s.press.install with
  | none => s
  | some w => ({ s with press := { s.press with install := none } }).complete w.cmd st

/-- An installation waits for a tile of its image: one of no committed extent that has not arrived. -/
def State.installWants (s : State) (i : Install) (t : W32) : Bool :=
  let m := s.imageOf i.slot.val
  decide (m.nextTile.toNat ≤ t.toNat) && decide (t.toNat < m.tileCount.toNat) && (tget none i.arrived t.toNat).isNone

/-- R272: a tile is asked for and not answered. -/
def Asks.pending (a : Asks) (t : W32) : Bool := a.out.any (fun e => e.1 == t.toNat)

def Asks.answered (a : Asks) (t : W32) : Asks := { a with out := a.out.filter (fun e => e.1 != t.toNat) }

/-- R225, R272: the next requests, each a port, a first tile and a count: a block of 256 tile indices goes to the next
port in turn, and one that is full holds the rest (DESIGN CHOICE, log entry 83). -/
def Asks.more (ports : List UnitId) (load : UnitId → Nat) :
    Nat → Asks → List (UnitId × Nat × Nat) → Asks × List (UnitId × Nat × Nat)
  | 0, a, l => (a, l)
  | fuel + 1, a, l =>
    match ports[a.next / 256 % ports.length]? with
    | none => (a, l)
    | some u =>
      let sent := ((l.filter (fun e => e.1 == u)).map (fun e => e.2.2)).sum
      let c := Nat.min (Nat.min (256 - a.next % 256) (a.last - a.next)) (1024 - (load u + sent))
      if c = 0 then (a, l)
      else
        Asks.more ports load fuel
          { a with next := a.next + c, out := a.out ++ (List.range c).map (fun j => (a.next + j, u)) }
          (l ++ [(u, a.next, c)])

/-- The requests leave; record numbers count from tile `base`. -/
def State.sendAsks (s : State) (x : Nat) (number : W32) (object : W64) (version : W32) (base : Nat)
    (l : List (UnitId × Nat × Nat)) : State :=
  s.each l (fun s e => s.send x e.1.val (.wreq
    { job := (s.ctxOf x).job, node := s.nodeOf x, stream := number, object := object, version := version,
      first := BitVec.ofNat 32 e.2.1, count := BitVec.ofNat 16 e.2.2, seq0 := BitVec.ofNat 48 (e.2.1 - base) }))

/-- A fill asks for as many tiles as its ports take. -/
def State.pumpFill (s : State) (x : Nat) (f : Fill) : State :=
  let p := Asks.more (s.portsFor x) s.portLoad 256 f.asks []
  (s.modCtx x (fun c => { c with
    fills := c.fills.map (fun g => if g = f then { g with asks := p.1 } else g) })).sendAsks x f.number f.object f.version 0
      p.2

/-- The installation asks for as many tiles as its ports take. -/
def State.pumpInstall (s : State) : State :=
  match s.press.install with
  | none => s
  | some i =>
    let m := s.imageOf i.slot.val
    let p := Asks.more (s.portsFor i.ctx.val) s.portLoad 256 i.asks []
    ({ s with press := { s.press with install := some { i with asks := p.1 } } } : State).sendAsks i.ctx.val i.number
      m.imageId m.version i.first p.2

/-- R225: the requests that a full port held go on. -/
def State.pump (s : State) : State :=
  (s.each (List.range 8) (fun s x => s.each (s.ctxOf x).fills (fun s f => s.pumpFill x f))).pumpInstall

/-- R142, R204: what a tile of an image stores: its header, and its bytes in the form that the Press gives them. -/
def imageTileBytes (compress : Bool) (q : ImageTile) : Nat := 16 + (outboundForm compress q.header q.bytes).2.length

/-- R276: the tiles `first` to `last` of an installation, all arrived, as an extent holds them: each behind the one
before; none where one is missing. -/
def extentTiles (i : ImageSlot) (arrived : Table (Option ImageTile)) (first last : Nat) : Option (List (Nat × ImageTile)) :=
  (List.range (last + 1 - first)).foldl (fun acc n =>
    match acc, tget none arrived (first + n) with
    | some l, some q =>
      let at_ := match l.getLast? with
        | some e => e.2.offset + imageTileBytes i.compress e.2
        | none => 0
      some (l ++ [(first + n, { q with extent := i.extents.toNat, offset := at_ })])
    | _, _ => none) (some [])

/-- R142, R276: what a tile of an image stores: its header with its check, and its bytes. -/
def imageTileContent (compress : Bool) (q : ImageTile) : List Byte :=
  let f := outboundForm compress q.header q.bytes
  headerBytes f.1 ++ bytesLE 2 (headerCheck f.1).toNat ++ f.2

/-- The byte at a place of extent e of an image; one that no tile stores is 0 (DESIGN CHOICE, log entry 80). -/
def ImageSlot.byteAt (i : ImageSlot) (e p : Nat) : Byte :=
  (i.tiles.findSome? (fun t => t.2.bind (fun q =>
    if q.extent = e ∧ q.offset ≤ p then (imageTileContent i.compress q)[p - q.offset]? else none))).getD 0

/-- R205: codeword n of extent e of an image slot, as the Press stores it: its 4,096-byte payload under the key pair of the
image, with the slot and the codeword number as the tweak. -/
def State.pressCodeword (s : State) (slot e n : Nat) : Option (List Byte) :=
  let i := s.imageOf slot
  i.xts.map (fun k => Config.xts (Config.keyPair k) [slot, 2 ^ 18 * e + n]
    ((List.range 4096).map (fun j => i.byteAt e (4096 * n + j))))

/-- R276: an extent of at most 1 GiB. -/
def extentBytes : Nat := 2 ^ 30

/-- R276: the bytes that tiles of an extent store. -/
def extentStored (i : ImageSlot) (l : List (Nat × ImageTile)) : Nat :=
  l.foldl (fun n e => n + imageTileBytes i.compress e.2) 0

/-- R276: the extent closes here: it is the image's last, or the next tile, which has arrived, would not fit. -/
def extentCloses (i : ImageSlot) (arrived : Table (Option ImageTile)) (last stored : Nat) : Bool :=
  decide (last + 1 = i.tileCount.toNat) ||
  (match tget none arrived (last + 1) with
    | some q => decide (extentBytes < stored + imageTileBytes i.compress q)
    | none => false)

/-- R276: the logical blocks that an extent's data lie in. -/
def extentBlocks (slot extent stored : Nat) : List Nat :=
  (List.range ((stored + Config.pressBlockBytes - 1) / Config.pressBlockBytes)).map (fun j =>
    (slot * 65536 + extent) * 2 ^ 32 + j)

/-- The blocks that some logical blocks lie in are erased, but for those that fail. -/
def State.eraseLogical (s : State) (p : Nat → Bool) (failed : List Nat) : State :=
  let gone := s.press.map.filter (fun e => p e.1)
  let s := s.each (gone.filterMap (·.2)) (fun s b => s.eraseBlock b (!failed.contains b))
  { s with press := { s.press with map := s.press.map.filter (fun e => !p e.1) } }

/-- R276: an extent is written to fresh blocks, of which some fail to program (R214), read back and committed; one that
fails its check is written once more to others, and a second failure puts the slot into ERASING. The slot is charged its
stored length once that is known (R202). -/
def execPressExtentCommit (firstTile lastTile : W32) (written : ExtentWrite) (verifyOk lastExtent : Bool)
    (s : State) : Result :=
  match s.press.install with
  | none => .next s
  | some w =>
    let n := w.slot.val
    let i := s.imageOf n
    match extentTiles i w.arrived firstTile.toNat lastTile.toNat with
    | none => .next s
    | some tiles =>
      let fits := i.state == .incomplete && firstTile == i.nextTile && decide (firstTile.toNat ≤ lastTile.toNat) &&
        decide (lastTile.toNat < i.tileCount.toNat) && decide (written.bytes = extentStored i tiles) &&
        decide (written.bytes ≤ extentBytes) && extentCloses i w.arrived lastTile.toNat written.bytes &&
        (lastExtent == decide (lastTile.toNat + 1 = i.tileCount.toNat))
      if !s.mode.works || !fits then .next s
      else
        let blocks := extentBlocks n i.extents.toNat written.bytes
        let s := (List.range written.failedBlocks).foldl (fun s _ => s.failProgram) s
        let s := blocks.foldl State.programBlock s
        if !verifyOk then
          let s := s.eraseLogical blocks.contains []
          if w.retried then .next ((s.putImage n { i with state := .erasing }).endInstall stPOISONED)
          else .next { s with press := { s.press with install := some { w with retried := true } } }
        else
          let done := { i with extents := satAdd16 i.extents 1, nextTile := lastTile + 1,
                               stored := i.stored + written.bytes,
                               tiles := tiles.foldl (fun t e => tput none t e.1 (some e.2)) i.tiles }
          let s := { s with press := { s.press with install := some { w with
            retried := false, arrived := w.arrived.filter (fun e => lastTile.toNat < e.1) } } }
          if lastExtent then
            let done := { done with state := .complete, held := false, extentsTotal := done.extents }
            let s := s.modCtx w.ctx.val (fun c => { c with pressUsed := c.pressUsed - imageCharge i + imageCharge done })
            .next ((s.putImage n done).endInstall stOK)
          else .next (s.putImage n done)

/-- R277: a slot that was INCOMPLETE at the last bring-up and at the one before it is erased in the
background. -/
def execIncompleteSlotErase (slot : Fin 32) (s : State) : Result :=
  let i := s.imageOf slot.val
  let busy := match s.press.install with
    | some w => w.slot == slot
    | none => false
  if s.mode.works && i.state == .incomplete && !i.held && !busy then
    .next (s.putImage slot.val { i with state := .erasing })
  else .next s

/-- R214, R274: an erase has finished, blocks whose erase failed being retired; the slot is EMPTY and its charge is
released. -/
def execImageSlotErased (e : SlotErase) (s : State) : Result :=
  let n := e.slot.val
  if s.mode.works && (s.imageOf n).state == .erasing then
    .next (((s.dischargeImage n).eraseLogical (fun l => l / 2 ^ 48 == n) e.failed).putImage n {})
  else .next s

end Sys2Proof.Machine
end

