-- ==== Sys2Proof/Machine/Tiles.lean ====
section
/-! DEFINITION. Tile and stream instructions (R74 to R76, R220 to R223, R229 to R233, R270, R271, R288,
R293, R531): MAJOR 0x28 to 0x2C. -/

set_option linter.unusedVariables false

namespace Sys2Proof.Machine

open Sys2Proof

/-! ## TALLOC, TFREE, TSTATE, THDR (MAJOR 0x2A) -/

/-- The bytes of a tile that TALLOC places for context x at `base`: zeros where another context used the space
last (R43), otherwise free values. -/
def Core.freshBytes (k : Core) (x : CtxId) (base fresh len : Nat) : Table Byte :=
  writeBytes [] 0 ((List.range len).map (fun i =>
    match k.lastUser (base + i) with
    | some u => if u = some x then (Config.freeWord (fresh + i)).setWidth 8 else 0
    | none => (Config.freeWord (fresh + i)).setWidth 8))

/-- DEDUCED, log entry 19. -/
def execTalloc (c : CoreId) (a : CoreArgs) (s : State) : Result :=
  .next (issue 0x2A 0 { imm := true } true c a s (fun s k x =>
    let n := a.imm.toNat % 256
    let f : Fmt := BitVec.ofNat 4 (a.imm.toNat / 256)
    let len := round32 f.denseLen
    if (k.entry n).state ≠ .empty ∨ f = 0xF then .raise xOPERAND (operandInfo n 0 f.toNat)
    else
      let full := w64 (n + len / 32 * 65536)
      match k.findPocket len with
      | none => .raise xTILE_FULL full
      | some base =>
        if s.pocketQuota x < k.pocketUsed x + len then .raise xTILE_FULL full
        else
          .core (s.useFrees f.denseLen) c ((k.claim base len x).putEntry n
            { state := .resident, writable := true, holder := x, base := base, reserved := len,
              header := writableHeader f 0, bytes := k.freshBytes x base s.fresh f.denseLen })))

def execTfree (c : CoreId) (a : CoreArgs) (s : State) : Result :=
  .next (issue 0x2A 1 { imm := true } true c a s (fun s k x =>
    let n := a.imm.toNat % 256
    if k.heldByOther x n then .raise xADDRESS (addressInfo n 0)
    else if (k.entry n).state = .filling then .stall (BitVec.ofNat 16 n) s
    else if s.writeBusy c n then .hold s
    else .done (s.emptyEntry c n)))

/-- The state code of TSTATE. -/
def Entry.stateCode (e : Entry) (x : CtxId) : Nat :=
  match e.state with
  | .empty => 0
  | .filling => 1 + (if e.holder = x then 0 else 8)
  | .resident => 2 + (if e.writable then 4 else 0) + (if e.holder = x then 0 else 8)
  | .poisoned => 3 + (if e.writable then 4 else 0) + (if e.holder = x then 0 else 8)

def execTstate (c : CoreId) (a : CoreArgs) (s : State) : Result :=
  .next (issue 0x2A 2 { rd := true, imm := true } true c a s (fun s k x =>
    .core s c (k.setS a.rd (w64 ((k.entry (a.imm.toNat % 256)).stateCode x)))))

/-- A header word as THDR gives it. HCHECK is the one copied with the header (R41), and is not kept current
(R143): that of an entry which the core has written is a free value. -/
def Entry.headerWord (e : Entry) (free : W64) (high : Bool) : W64 :=
  let h := e.header
  if high then
    (if e.writable then free.setWidth 16 else headerCheck h) ++ h.elemNz ++ h.storedLen ++ (0 : Byte) ++
      (if e.state = .poisoned then h.fmt ||| 0x20 else h.fmt)
  else h.bitmap

def execThdr (c : CoreId) (a : CoreArgs) (s : State) : Result :=
  .next (issue 0x2A 3 { rd := true, imm := true } true c a s (fun s k x =>
    let n := a.imm.toNat % 256
    let e := k.entryFor x n
    let high := a.imm.getLsbD 8
    if e.state = .empty then .raise xADDRESS (addressInfo n 0)
    else if e.state = .filling then .stall (BitVec.ofNat 16 n) s
    else .core (if high && e.writable then s.useFree else s) c (k.setS a.rd (e.headerWord s.freeValue high))))

/-! ## Descriptors (R220 to R222, R531) -/

/-- The 96 bytes of a descriptor. -/
abbrev DescBytes := List Byte

/-- A little-endian field of `n` bytes at an offset. -/
def DescBytes.field (b : DescBytes) (off n : Nat) : Nat := ofBytesLE ((b.drop off).take n)

def DescBytes.op (b : DescBytes) : Byte := BitVec.ofNat 8 (b.field 0 1)
def DescBytes.count (b : DescBytes) (d : Nat) : Nat := b.field (32 + 12 * d) 4
def DescBytes.srcStride (b : DescBytes) (d : Nat) : Nat := b.field (36 + 12 * d) 4
def DescBytes.dstStride (b : DescBytes) (d : Nat) : Nat := b.field (40 + 12 * d) 4

/-- What a side of a descriptor names (R221, R270, R293). -/
inductive Side | handle | entry | index | none
  deriving DecidableEq, Repr

/-- The sides and the flags that apply to each OP; none for an undefined OP. DESIGN CHOICE, log entry 81: BUF_SRC and
BUF_DST apply to the tile and raw operations, and not to the index operations. -/
def opShape (op : Byte) : Option (Side × Side × Nat) :=
  match op.toNat with
  | 0x01 => some (.handle, .entry, 0x0F)
  | 0x02 => some (.handle, .entry, 0x0F)
  | 0x03 => some (.entry, .handle, 0x16)
  | 0x04 => some (.handle, .none, 0x0E)
  | 0x05 => some (.entry, .handle, 0x16)
  | 0x06 => some (.handle, .entry, 0x0E)
  | 0x07 => some (.entry, .handle, 0x16)
  | 0x10 => some (.index, .handle, 0x46)
  | 0x11 => some (.index, .handle, 0x46)
  | 0x12 => some (.index, .handle, 0x06)
  | 0x18 => some (.handle, .index, 0x86)
  | 0x19 => some (.entry, .index, 0x06)
  | 0x20 => some (.handle, .handle, 0x26)
  | 0x21 => some (.handle, .entry, 0x06)
  | 0x22 => some (.entry, .none, 0x06)
  | _ => none

/-- A flag word within the flags that apply. -/
def flagsWithin (flags allowed : Nat) : Bool := (List.range 16).all (fun i =>
  !flags.testBit i || allowed.testBit i)

def DescBytes.isIndex (b : DescBytes) : Bool := b.op == 0x20 || b.op == 0x21 || b.op == 0x22
def DescBytes.isRaw (b : DescBytes) : Bool := b.op == 0x06 || b.op == 0x07

/-- R531: dimensions, counts and strides. -/
def DescBytes.shapeOk (b : DescBytes) : Bool :=
  let n := b.field 1 1
  if b.isIndex then
    let zero := fun l : List Nat => l.all (· == 0)
    n == 0 &&
    (if b.op == 0x20 then
      zero [b.srcStride 0, b.dstStride 0] &&
      zero ([3, 4].flatMap (fun d => [b.count d, b.srcStride d, b.dstStride d]))
    else
      zero ((List.range 5).flatMap (fun d => [b.srcStride d, b.dstStride d])) &&
      zero ((List.range 5).filterMap (fun d =>
        if d < (if b.op == 0x21 then 2 else 1) then Option.none else some (b.count d))))
  else
    decide (1 ≤ n ∧ n ≤ 5) &&
    (List.range 5).all (fun d =>
      if d < n then b.count d != 0
      else b.count d == 0 && b.srcStride d == 0 && b.dstStride d == 0)

/-- R220, R221, R270, R293: each field within the range that its row and its operation give. -/
def DescBytes.fieldsOk (b : DescBytes) (src dst : Side) : Bool :=
  let cl := b.field 26 2
  let unit := b.field 20 2
  let bundle := b.field 22 2
  let total := b.field 30 2
  let needsTotal := b.op == 0x05 || b.op == 0x12 || b.op == 0x18
  b.field 92 4 == 0 && decide (b.field 24 2 < 1024) && cl / 2048 % 16 == 0 &&
  decide (cl < 32768 ∨ cl % 2048 < 1600) &&
  (b.isRaw || b.isIndex || src == .index || b.field 8 4 == 0) &&
  (b.isRaw || b.isIndex || dst == .index || b.field 16 4 == 0) &&
  (if b.isRaw then decide (32 ≤ unit ∧ unit ≤ 1024) && unit % 32 == 0 else unit == 0) &&
  (if b.op == 0x21 then decide (64 ≤ bundle ∧ bundle ≤ 4096) && bundle % 64 == 0 else bundle == 0) &&
  (b.op == 0x05 || b.field 28 2 == 0) && (needsTotal == (total != 0)) &&
  (src != .entry || decide (b.field 4 4 < 256)) && (dst != .entry || decide (b.field 12 4 < 256)) &&
  (src != .index || decide (b.field 4 4 < 16)) && (dst != .index || decide (b.field 12 4 < 16)) &&
  (b.op != 0x04 || (b.field 12 4 == 0 && (List.range 5).all (fun d => b.dstStride d == 0)))

/-- The checks that depend on the bytes alone (R222, R531). -/
def DescBytes.ok (b : DescBytes) : Bool :=
  match opShape b.op with
  | .none => false
  | some (src, dst, allowed) =>
    let fl := b.field 2 2
    flagsWithin fl allowed && !(fl.testBit 1 && fl.testBit 2) && b.shapeOk && b.fieldsOk src dst

/-- The checked descriptor. -/
def DescBytes.desc (b : DescBytes) : StreamDesc :=
  let dims := if b.isIndex then 5 else b.field 1 1
  let cl := b.field 26 2
  { op := b.op
    ndim := b.field 1 1
    flags := BitVec.ofNat 16 (b.field 2 2)
    src := BitVec.ofNat 32 (b.field 4 4)
    srcOffset := BitVec.ofNat 32 (b.field 8 4)
    dst := BitVec.ofNat 32 (b.field 12 4)
    dstOffset := BitVec.ofNat 32 (b.field 16 4)
    unitLen := b.field 20 2
    bundle := b.field 22 2
    peg := Fin.ofNat 1024 (b.field 24 2)
    dstCluster := if 32768 ≤ cl then some (Fin.ofNat 1600 (cl % 2048)) else Option.none
    wexp := BitVec.ofNat 16 (b.field 28 2)
    total := BitVec.ofNat 16 (b.field 30 2)
    counts := (List.range dims).map (fun d => BitVec.ofNat 32 (b.count d))
    srcStrides := (List.range dims).map (fun d => BitVec.ofNat 32 (b.srcStride d))
    dstStrides := (List.range dims).map (fun d => BitVec.ofNat 32 (b.dstStride d)) }

def StreamDesc.srcSide (d : StreamDesc) : Side :=
  match opShape d.op with
  | some (a, _, _) => a
  | .none => .none
def StreamDesc.dstSide (d : StreamDesc) : Side :=
  match opShape d.op with
  | some (_, b, _) => b
  | .none => .none

/-! ## Buffers (R229) -/

/-- The tile count of the buffer of a region whose handle is h. -/
def State.bufferOf (s : State) (x : CtxId) (r : Nat) (h : W32) : Option Nat :=
  if handleCtx h ≠ x.val then none
  else ((s.regionOf r).decls.find? (fun d => d.fmt.getLsbD 4 && d.first.toNat == handleNum h)).map
    (fun d => d.count.toNat)

def State.roleOf (s : State) (r : Nat) (h : W32) : Bool := tget false (s.regionOf r).roles (handleNum h)

/-- R229: the descriptor with each buffer handle replaced by the first handle of the half its flag names:
the DRAIN half for SRC, the FILL half for DST. -/
def State.resolveRoles (s : State) (x : CtxId) (r : Nat) (d : StreamDesc) : StreamDesc :=
  let half := fun h : W32 => ((s.bufferOf x r h).getD 0) / 2
  { d with
    src := if d.flags.getLsbD 3 then
        d.src + BitVec.ofNat 32 (if s.roleOf r d.src then 0 else half d.src) else d.src
    dst := if d.flags.getLsbD 4 then
        d.dst + BitVec.ofNat 32 (if s.roleOf r d.dst then half d.dst else 0) else d.dst }

/-- First tile number and length of the range a side may name (R223): a half of a buffer, or the
declaration or binding of the handle. -/
def State.sideRange (s : State) (x : CtxId) (r : Nat) (h : W32) (buf : Bool) : Option (Nat × Nat) :=
  if buf then
    (s.regionOf r).decls.findSome? (fun d =>
      let m := d.count.toNat / 2
      if d.fmt.getLsbD 4 && (d.first.toNat == handleNum h || d.first.toNat + m == handleNum h) then
        some (handleNum h, m) else none)
  else s.declOf h

/-! ## Checks at SISSUE that depend on the state (R75, R222, R231, R288, R386) -/

/-- The tile table entries, 0 to 255, among the values base + walk over the points. -/
def StreamDesc.entriesAt (d : StreamDesc) (base : Int) (strides : List W32) : List Nat :=
  (List.range d.points).filterMap (fun n =>
    let e := base + walk d.counts strides n
    if 0 ≤ e ∧ e < 256 then some e.toNat else none)

/-- The tile table entries that a descriptor names on a side (R75). -/
def StreamDesc.srcEntries (d : StreamDesc) : List Nat :=
  if !d.drainsPocket then []
  else if d.isRaw || d.isIndex then [d.src.toNat % 256]
  else d.entriesAt d.srcBase d.srcStrides
def StreamDesc.dstEntries (d : StreamDesc) : List Nat :=
  if !d.fillsPocket then []
  else if d.isRaw then [d.dst.toNat % 256]
  else d.entriesAt d.dstBase d.dstStrides

/-- R288, R531: WEXP, and the formats of the entries and of the declared destinations that a REDUCE stream names;
what lies out of range is R223's. -/
def State.reduceOk (s : State) (x : CtxId) (k : Core) (d : StreamDesc) : Bool :=
  let c := s.ctxOf x.val
  let sumFmt : Fmt := if c.sumFp32 then 0x0 else 0xE
  (!c.sumFp32 || d.wexp == 0) &&
  (List.range d.points).all (fun n =>
    let e := d.srcBase + walk d.counts d.srcStrides n
    let h := d.dstBase + walk d.counts d.dstStrides n
    let t := s.tileOf (s.tileKey (BitVec.ofNat 32 (x.val * 2 ^ 29 + h.toNat)))
    let f := (k.entryFor x e.toNat).fmt
    (decide (e < 0 ∨ 256 ≤ e) || f == 0x1 || f == sumFmt) &&
    (decide (h < 0 ∨ 2 ^ 29 ≤ h) || !t.declared || t.fmt == sumFmt))

/-- A failed check that names no Pocket entry. -/
def State.descAllowed (s : State) (c : CoreId) (k : Core) (x : CtxId) (d : StreamDesc) : Bool :=
  let fl := d.flags
  let own := fun (side : Side) (h : W32) => side != .handle || handleCtx h == x.val
  let peg := s.pegOf d.peg.val
  own d.srcSide d.src && own d.dstSide d.dst &&
  (d.op != 0x20 ||
    (handleCtx (d.srcStrides.getD 1 0) == x.val && handleCtx (d.srcStrides.getD 2 0) == x.val)) &&
  (!fl.getLsbD 3 || (s.bufferOf x k.region.val d.src).isSome) &&
  (!fl.getLsbD 4 || (s.bufferOf x k.region.val d.dst).isSome) &&
  (!(fl.getLsbD 1 || fl.getLsbD 2) ||
    (peg.configured && peg.ctx == x && s.pegScope d.peg.val (c.val / 32))) &&
  !((d.op == 0x05 || d.op == 0x18) && (s.ctxOf x.val).reductionMode == 2)

/-- R223: the smallest and the largest source and destination lie in range; the outputs of a MERGE start on 16-byte
boundaries (R157; DEDUCED, log entry 22). -/
def State.boundsOk (s : State) (x : CtxId) (k : Core) (d : StreamDesc) : Bool :=
  let inside := fun (lo hi base len : Int) => decide (base ≤ lo ∧ hi < base + len)
  let a := walkRange d.counts d.srcStrides
  let b := walkRange d.counts d.dstStrides
  let tiles := fun (h : W32) (buf : Bool) (r : Int × Int) =>
    match s.sideRange x k.region.val h buf with
    | some (first, len) => inside (handleNum h + r.1) (handleNum h + r.2) first len
    | none => false
  let stored := fun h : W32 => ((s.tileOf (s.tileKey h)).readHeader.storedLen.toNat : Int)
  let entry := fun n : Nat => ((k.entryFor x n).header.storedLen.toNat : Int)
  if d.isIndex then
    match d.op.toNat with
    | 0x20 =>
      let room := fun (h : W32) (off len : Nat) => (s.declOf h).isSome &&
        decide ((off : Int) + len ≤ stored h)
      room d.src d.srcOffset.toNat (d.counts.getD 0 0).toNat &&
      room (d.srcStrides.getD 1 0) (d.dstStrides.getD 1 0).toNat (d.counts.getD 1 0).toNat &&
      room d.dst d.dstOffset.toNat (d.counts.getD 2 0).toNat &&
      room (d.srcStrides.getD 2 0) (d.dstStrides.getD 2 0).toNat (d.counts.getD 2 0).toNat &&
      d.dstOffset.toNat % 16 == 0 && (d.dstStrides.getD 2 0).toNat % 16 == 0
    | 0x21 => (s.declOf d.src).isSome &&
        decide ((d.srcOffset.toNat : Int) + (d.counts.getD 0 0).toNat ≤ stored d.src)
    | _ => decide (((d.counts.getD 0 0).toNat : Int) ≤ entry (d.src.toNat % 256))
  else if d.isRaw then
    let h := if d.op == 0x06 then d.src else d.dst
    let e := if d.op == 0x06 then d.dst.toNat % 256 else d.src.toNat % 256
    let side := fun (off : W32) (r : Int × Int) (len : Int) =>
      inside (off.toNat + r.1) (off.toNat + r.2 + (d.unitLen - 1)) 0 len
    (s.declOf h).isSome &&
    side d.srcOffset a (if d.op == 0x06 then stored h else entry e) &&
    side d.dstOffset b (if d.op == 0x06 then entry e else stored h)
  else
    (match d.srcSide with
      | .handle => tiles d.src (d.flags.getLsbD 3) a
      | .entry => inside (d.src.toNat % 256 + a.1) (d.src.toNat % 256 + a.2) 0 256
      | .index => inside (d.srcOffset.toNat + a.1) (d.srcOffset.toNat + a.2) 0 (2 ^ 32)
      | .none => true) &&
    (match d.dstSide with
      | .handle => tiles d.dst (d.flags.getLsbD 4) b
      | .entry => inside (d.dst.toNat % 256 + b.1) (d.dst.toNat % 256 + b.2) 0 256
      | .index => inside (d.dstOffset.toNat + b.1) (d.dstOffset.toNat + b.2) 0 (2 ^ 32)
      | .none => true)

/-- R270, R293: the binding a stream names. -/
def State.streamBinding (s : State) (x : CtxId) (d : StreamDesc) : Option (Nat × Binding) :=
  let n := match d.srcSide with
    | .index => d.src.toNat
    | _ => d.dst.toNat
  match d.srcSide, d.dstSide with
  | .index, _ | _, .index =>
    match tget none (s.ctxOf x.val).bindings n with
    | some b => some (n, b)
    | none => none
  | _, _ => none

def StreamDesc.usesBinding (d : StreamDesc) : Bool := d.srcSide == .index || d.dstSide == .index

/-- R270, R293: the binding suits the operation; its handles hold the destinations. -/
def State.bindingOk (s : State) (x : CtxId) (d : StreamDesc) : Bool :=
  if !d.usesBinding then true
  else
    match s.streamBinding x d with
    | none => false
    | some (n, b) =>
      (match d.op.toNat with
        | 0x10 => b.source == 0
        | 0x11 => b.source == 1
        | 0x12 => true
        | _ => b.source == 0) &&
      (!d.flags.getLsbD 6 || b.tree.isSome) &&
      (d.dstSide != .index || decide (2 * d.points ≤ 2 ^ 46)) &&
      (d.srcSide != .index ||
        (match s.bindingOf d.dst with
          | some (m, _) => m == n
          | none => false)) &&
      (d.op != 0x18 ||
        (let c := s.ctxOf x.val
         let sumFmt : Fmt := if c.sumFp32 then 0x0 else 0xE
         (List.range d.points).all (fun i =>
          (s.tileOf (s.tileKey (BitVec.ofNat 32 (x.val * 2 ^ 29 + (d.point i).1)))).fmt == sumFmt)))

/-- R195, R289: the tile is the destination of a reduction of which a fragment has arrived and that has not reached
TOTAL in all its 32 fragments. -/
def Tile.reducing (t : Tile) : Bool :=
  t.frags.any (fun f => f.2.written) &&
  !(List.range 32).all (fun i =>
    let f := tget {} t.frags i
    f.written && decide (f.total.toNat ≤ f.count) && f.step == (tget {} t.frags 0).step)

/-- R195: a tile that a stream may not move. -/
def Tile.immovable (t : Tile) : Bool := (t.flags.getLsbD 3 && t.written) || t.moving || t.reducing

def StreamDesc.moves (d : StreamDesc) : Bool := d.op == 0x02 || d.op == 0x04

/-- The engine's checks when it accepts a stream: BAD_ARG, NO_QUOTA, or none. -/
def State.acceptStatus (s : State) (c : CoreId) (x : CtxId) (d : StreamDesc) : Option Byte :=
  let k := s.coreOf c.val
  let h := fun n : Nat => s.tileKey (BitVec.ofNat 32 (x.val * 2 ^ 29 + n))
  if !s.boundsOk x k d || !s.bindingOk x d then some stBAD_ARG
  else if (d.op == 0x10 || d.op == 0x18 || d.op == 0x19) && (s.portsFor x.val).isEmpty then some stBAD_ARG
  else if d.moves && (List.range d.points).any (fun n => (s.tileOf (h (d.point n).1)).immovable) then
    some stBAD_ARG
  else none

/-! ## Acceptance (R76, R153, R202, R232) -/

/-- The lowest free queue slot of a core. -/
def State.freeQueueSlot (s : State) (c : CoreId) : Option Nat :=
  (List.range 16).find? (fun q => (s.slotAt (c.val / 32) (slotOf c.val q)).stream.isNone)

/-- R76: a destination entry becomes FILLING; what it held is gone. -/
def State.startFill (s : State) (c : CoreId) (x : CtxId) (e : Nat) (f : Fmt) (n : Nat)
    (ep : BitVec 7) : State :=
  (s.emptyEntry c e).modEntry c e (fun _ =>
    { state := .filling, holder := x, header := { fmt := f.setWidth 8 }, filler := some (n, ep) })

/-- R153: the dense length reserved for an entry, or none beyond the quota or without space. -/
def State.reserveFill (s : State) (c : CoreId) (x : CtxId) (e : Nat) : Option State :=
  let k := s.coreOf c.val
  let len := round32 (k.entry e).fmt.denseLen
  match k.findPocket len with
  | none => none
  | some base =>
    if s.pocketQuota x < k.pocketUsed x + len then none
    else some (s.modCore c (fun k => (k.claim base len x).modEntry e (fun t => { t with base := base, reserved := len })))

def reserveFills (c : CoreId) (x : CtxId) : List Nat → State → Option State
  | [], s => some s
  | e :: r, s =>
    match s.reserveFill c x e with
    | none => none
    | some t => reserveFills c x r t

/-- The format a fill of a handle brings (R149). -/
def State.handleFmt (s : State) (h : Nat) : Fmt := (s.tileOf h).fmt

def clusterOfCore (c : CoreId) : ClusterId := ⟨c.val / 32, by have := c.isLt; omega⟩

/-- WRECV, RACC_TILE and RACC_POCKET: every point waits from acceptance (R270, R293). -/
def StreamDesc.waitsWhole (d : StreamDesc) : Bool := d.op == 0x12 || d.op == 0x18 || d.op == 0x19

/-- The engine takes a stream into queue slot q. One that ends with BAD_ARG here changes nothing but its slot (R195,
R223). DEDUCED, log entry 20. -/
def State.acceptStream (s : State) (c : CoreId) (x : CtxId) (q : Nat) (d : StreamDesc) (nowait : Bool) :
    State :=
  let k := clusterOfCore c
  let n := slotOf c.val q
  let v := s.slotAt k n
  let ep := v.epoch + 1
  let r := (s.coreOf c.val).region
  let d := s.resolveRoles x r.val d
  let b := s.streamBinding x d
  let key := (b.map (fun p => p.2.key)).getD 0
  let m : Stream :=
    { desc := d, ctx := x, core := c, region := r, nowait := nowait, slotB := (s.ctxOf x.val).activeB,
      bound := (d.srcSide == .handle && (s.bindingOf d.src).isSome) ||
        (d.dstSide == .handle && (s.bindingOf d.dst).isSome),
      order := (s.clusterOf k).accepted,
      number := BitVec.ofNat 32 (s.keyOf key).counter, key := key,
      version := (match b with
        | some (_, w) =>
          if d.op = 0x11 then (tget ({} : ImageSlot) s.press.slots (w.object.toNat % 65536)).version
          else if (s.ctxOf x.val).activeB then (s.ctxOf x.val).slotB.tag else (s.ctxOf x.val).slotA.tag
        | none => 0),
      object := (match b with
        | some (_, w) =>
          if w.source = 1 ∧ d.op ≠ 0x11 then (tget ({} : ImageSlot) s.press.slots (w.object.toNat % 65536)).imageId
          else w.object
        | none => 0) }
  let status := s.acceptStatus c x d
  let s := (s.putSlot k n { v with epoch := ep, stream := some m }).modCluster k (fun c =>
    { c with accepted := c.accepted + 1 })
  let s := if b.isSome then s.modKey key (fun k => { k with counter := k.counter + 1 }) else s
  let s := if d.fillsPocket && status.isNone then
      (if d.isRaw then s.modEntry c (d.dst.toNat % 256) (fun e => { e with state := .filling, writable := false })
       else s.each (List.range d.points) (fun s i =>
        let p := d.point i
        s.startFill c x p.2 (s.handleFmt (s.streamKey m p.1)) n ep))
    else s
  match status with
  | some st => s.endStream k n st
  | none =>
    match (if d.fillsPocket && !d.isRaw then reserveFills c x d.dstEntries s else some s) with
    | none => s.endStream k n stNO_QUOTA
    | some s =>
      let s := s.modStream k n (fun m => if d.waitsWhole then
          { m with started := true, next := d.points,
                   live := (List.range d.points).map (fun i =>
                    { idx := i, src := (d.point i).1, dst := (d.point i).2 }) }
        else { m with started := true })
      if d.moves then
        s.each (List.range d.points) (fun s i =>
          s.modTile (s.streamKey m (d.point i).1) (fun t => { t with
            moving := true,
            reservedAt := if d.op = 0x04 then
                some ((d.dstCluster.map Home.basket).getD t.declHome, k, n, ep) else t.reservedAt }))
      else s

/-! ## SISSUE (MAJOR 0x28) -/

/-- The bytes of the descriptor that SISSUE reads, or none where it may not lie there (R220). -/
def Entry.descriptor (e : Entry) (off : Nat) : Option DescBytes :=
  if e.state = .empty ∨ off % 32 ≠ 0 ∨ e.header.storedLen.toNat < off + 96 then none
  else some ((List.range 96).map (fun i => tileByte e.bytes (off + i)))

/-- The first Pocket entry of a descriptor that fails R75, R194 or R288. -/
def State.failingEntry (s : State) (k : Core) (x : CtxId) (d : StreamDesc) : Option Nat :=
  match d.srcEntries.find? (fun e =>
      (k.entryFor x e).state == .empty || (d.op == 0x03 && (k.entryFor x e).readImage)) with
  | some e => some e
  | none =>
    match d.dstEntries.find? (fun e => k.heldByOther x e) with
    | some e => some e
    | none => if d.op == 0x05 && !s.reduceOk x k d then some (d.srcBase.toNat) else none

def execSissue (c : CoreId) (a : CoreArgs) (s : State) : Result :=
  .next (issue 0x28 a.opt { rd := true, ra := true, imm := true } (a.opt.toNat < 2) c a s
    (reads := fun _ => [a.imm.toNat % 256]) (fun s k x =>
    let n := a.imm.toNat % 256
    let e := k.entryFor x n
    match s.freeQueueSlot c with
    | none => .stall (BitVec.ofNat 16 n) s
    | some q =>
      if e.state = .filling then .stall (BitVec.ofNat 16 n) s
      else
        match e.descriptor (k.sreg a.ra).toNat with
        | none => .raise xSTREAM (w64 n)
        | some b =>
          if !b.ok then .raise xSTREAM (w64 n)
          else
            let d := b.desc
            if !s.descAllowed c k x d then .raise xSTREAM (w64 n)
            else if ((s.streamBinding x d).map (fun p => decide (2 ^ 32 ≤ (s.keyOf p.2.key).counter))).getD
                false then .raise xSTREAM (w64 n)
            else
              let waits := (d.srcEntries ++ d.dstEntries).filter (fun e =>
                (k.entry e).state == .filling && (k.entry e).holder == x)
              match s.failingEntry k x d, waits with
              | some f, _ => .raise xSTREAM (w64 (f % 256))
              | none, w :: _ => .stall (BitVec.ofNat 16 w) s
              | none, [] =>
                if d.dstEntries.any (fun e => s.writeBusy c e) then .hold s
                else
                  let t := ticketOf q (s.slotAt (c.val / 32) (slotOf c.val q)).gen
                  .done ((s.putCore c.val (k.setS a.rd t)).acceptStream c x q d (a.opt.getLsbD 0))))

/-! ## SWAIT, STEST, SCANCEL (MAJOR 0x29, 0x2C) -/

/-- R75: the slot whose current generation a ticket names. -/
def State.ticketSlot (s : State) (c : CoreId) (t : W64) : Option (Nat × Stream) :=
  let n := slotOf c.val (t.toNat % 16)
  let v := s.slotAt (c.val / 32) n
  if v.gen.toNat = t.toNat / 16 % 4096 then v.stream.map (fun m => (n, m)) else none

/-- The status of an ended stream is reported and its slot freed. -/
def State.reportEnd (s : State) (c : CoreId) (k : Core) (rd : BitVec 5) (n : Nat) (st : Byte) : State :=
  let s := s.putCore c.val (k.setS rd (st.setWidth 64))
  s.putSlot (c.val / 32) n (s.slotAt (c.val / 32) n).free

def execSwait (c : CoreId) (a : CoreArgs) (s : State) : Result :=
  .next (issue 0x29 0 { rd := true, ra := true } true c a s (fun s k x =>
    match s.ticketSlot c (k.sreg a.ra) with
    | none => .core s c (k.setS a.rd (stBAD_ARG.setWidth 64))
    | some (n, m) =>
      match m.ended with
      | some st => .done (s.reportEnd c k a.rd n st)
      | none => .stall ((k.sreg a.ra).setWidth 16) s))

def execStest (c : CoreId) (a : CoreArgs) (s : State) : Result :=
  .next (issue 0x29 1 { rd := true, ra := true } true c a s (fun s k x =>
    match s.ticketSlot c (k.sreg a.ra) with
    | none => .core s c (k.setS a.rd (stBAD_ARG.setWidth 64))
    | some (n, m) =>
      match m.ended with
      | some st => .done (s.reportEnd c k a.rd n st)
      | none => .core s c (k.setS a.rd (stPENDING.setWidth 64))))

def execScancel (c : CoreId) (a : CoreArgs) (s : State) : Result :=
  .next (issue 0x2C 0 { ra := true } true c a s (fun s k x =>
    match s.ticketSlot c (k.sreg a.ra) with
    | none => .done s
    | some (n, _) => .done (s.cancelStream (clusterOfCore c) n)))

/-! ## BSWAP (MAJOR 0x2B) -/

/-- A stream of the core that satisfies p has not ended. -/
def State.openStreams (s : State) (c : CoreId) (p : StreamDesc → Bool) : Bool :=
  (List.range 16).any (fun q =>
    match (s.slotAt (c.val / 32) (slotOf c.val q)).stream with
    | some m => m.ended.isNone && p m.desc
    | none => false)

/-- R77, R230: earlier instructions of the core have completed. DEDUCED, log entry 17. -/
def Core.settled (k : Core) : Bool := k.acc0.inFlight == 0 && k.acc1.inFlight == 0

def execBswap (c : CoreId) (a : CoreArgs) (s : State) : Result :=
  .next (issue 0x2B 0 { rd := true, ra := true } true c a s (fun s k x =>
    let v := k.sreg a.ra
    let h : W32 := v.setWidth 32
    if !k.settled || s.openStreams c (fun _ => true) then .hold s
    else if v ≠ h.setWidth 64 ∨ s.bufferOf x k.region.val h = none then
      .raise xADDRESS (addressInfo 0 h.toNat)
    else
      let role := !s.roleOf k.region.val h
      .done ((s.putCore c.val (k.setS a.rd (boolW role))).modRegion k.region.val (fun g =>
        { g with roles := tput false g.roles (handleNum h) role }))))

end Sys2Proof.Machine
end

