-- ==== Sys2Proof/Machine/Engine.lean ====
section
/-! DEFINITION. The stream engines: which transfer comes next, what its issue does, and what its reply, its
deadline and its reclaim do (R150 to R154, R194, R208, R224 to R228, R232 to R235). -/

set_option linter.unusedVariables false

namespace Sys2Proof.Machine

open Sys2Proof

/-! ## Write locks (R226) -/

/-- Directory keys of the tiles a stream still has to write. -/
def State.writeKeys (s : State) (m : Stream) : List Nat :=
  let d := m.desc
  if d.op = 0x03 ∨ d.op = 0x10 ∨ d.op = 0x11 ∨ d.op = 0x12 then m.unfinished.map (fun n => s.streamKey m (d.point n).2)
  else if d.op = 0x07 then [s.tileKeyIn d.dst m.slotB]
  else if d.op = 0x20 then [s.tileKeyIn d.dst m.slotB, s.tileKeyIn (d.srcStrides.getD 2 0) m.slotB]
  else []

/-- Between two streams of one engine the earlier accepted one writes first. -/
def State.earlierWriter (s : State) (k : ClusterId) (m : Stream) (key : Nat) : Bool :=
  (s.clusterOf k).streams.any (fun e => match e.2.stream with
    | some o => o.ended.isNone && decide (o.order < m.order) && (s.writeKeys o).contains key
    | none => false)

/-- R194, R226: stream slot n of engine k may start to write a tile. -/
def State.mayWrite (s : State) (k : ClusterId) (n : Nat) (m : Stream) (key : Nat) : Bool :=
  let t := s.tileOf key
  !t.moving && !s.earlierWriter k m key &&
  (t.lock == some (k, n) || (t.lock.isNone && (t.lockQueue == [] || t.lockQueue.head? == some (k, n))))

/-- The lock is taken. -/
def Tile.take (t : Tile) (w : ClusterId × Nat) : Tile :=
  { t with lock := some w, lockQueue := t.lockQueue.filter (fun x => x != w) }

/-- The tiles that the stream's next transfer would start to write. -/
def State.nextWrites (s : State) (m : Stream) : List Nat :=
  let d := m.desc
  if m.next < d.points then
    if d.op = 0x03 then [s.streamKey m (d.point m.next).2]
    else if d.op = 0x07 ∨ d.op = 0x20 then s.writeKeys m
    else []
  else []

/-! ## The next transfer of a stream -/

/-- The tile that a point of READ, MOVE_IN, RELOCATE or RAW_READ reads. -/
def State.sourceKey (s : State) (m : Stream) (src : Nat) : Nat :=
  if m.desc.isRaw then s.tileKeyIn m.desc.src m.slotB else s.streamKey m src

/-- Blocks of the lowest run among those still wanted that fits one transfer (R224): in the PACKED form
blocks that follow each other in the bitmap `held` adjoin, in the DENSE form only neighbours do. -/
def runMask (f : Fmt) (dense : Bool) (held want : W64) : W64 :=
  let most := 1024 / f.blockSize
  let r := (List.range 64).foldl (fun (acc : W64 × Nat × Bool) b =>
    -- mask so far, its size, still growing
    if want.getLsbD b && acc.2.2 && decide (acc.2.1 < most) then
      (acc.1 ||| BitVec.twoPow 64 b, acc.2.1 + 1, true)
    else if acc.2.1 = 0 then acc
    else if dense || held.getLsbD b then (acc.1, acc.2.1, false)
    else acc) (0, 0, true)
  r.1

/-- What a started point wants next. -/
def State.pointNext (s : State) (m : Stream) (p : Point) : Option W64 :=
  let f : Fmt := match p.header with
    | some h => h.fmt.setWidth 4
    | none => (s.tileOf (s.sourceKey m p.src)).fmt
  let want := match p.header with
    | some _ => p.need &&& ~~~p.asked
    | none => p.predicted &&& ~~~p.asked
  let dense := match p.header with
    | some h => if m.desc.op = 0x03 then p.held else (s.tileOf (s.sourceKey m p.src)).header.fmt.getLsbD 4
    | none => true
  if want = 0 then none else some (runMask f dense (if p.header.isSome then p.need else p.predicted) want)

/-- Raw points that follow each other at both ends and fit one transfer (R224). -/
def StreamDesc.rawRun (d : StreamDesc) (n : Nat) : Nat :=
  let most := Nat.min (1024 / d.unitLen) (d.points - n)
  1 + ((List.range (most - 1)).takeWhile (fun i =>
    (d.point (n + i + 1)).1 == (d.point (n + i)).1 + d.unitLen &&
    (d.point (n + i + 1)).2 == (d.point (n + i)).2 + d.unitLen)).length

/-- The tile whose header a point's header transfer carries: a MOVE_OUT's destination, otherwise the source. -/
def State.headTile (s : State) (m : Stream) (n : Nat) : Tile :=
  s.tileOf (s.streamKey m (if m.desc.op = 0x03 then (m.desc.point n).2 else (m.desc.point n).1))

/-- R200, R224: the headers of points n and n + 1 adjoin: at the home they lie in neighbouring slots of one header line
of a pair, and in the tile table in neighbouring entries. DEDUCED, log entry 55. -/
def State.headersMeet (s : State) (m : Stream) (n : Nat) : Bool :=
  let a := s.headTile m n
  let b := s.headTile m (n + 1)
  let e := fun i => if m.desc.op = 0x03 then (m.desc.point i).1 else (m.desc.point i).2
  m.desc.op != 0x04 && e (n + 1) == e n + 1 &&
  (match a.home with
    | .hamper _ _ => a.home == b.home
    | _ => false) &&
  b.headSlot == a.headSlot + 1 && b.headSlot / 16 == a.headSlot / 16

/-- The headers from point n on that one transfer carries; a writer takes its tiles one by one. -/
def State.headerRun (s : State) (m : Stream) (n : Nat) : Nat :=
  if m.desc.op = 0x03 then 1
  else
    1 + ((List.range (Nat.min 15 (m.desc.points - (n + 1)))).takeWhile (fun i =>
      s.headersMeet m (n + i))).length

/-- The next transfer of a stream, with the tier that its request goes to; a REDUCE fragment is no
transfer. -/
def State.nextXfer (s : State) (k : ClusterId) (n : Nat) (m : Stream) : Option (XferKind × Tier) :=
  let d := m.desc
  let writes := (s.nextWrites m).all (s.mayWrite k n m)
  let homeOf := fun key => Tier.home (s.tileOf key).home
  if m.ended.isSome || !m.started then none
  else
    match m.live.findSome? (fun p => (s.pointNext m p).map (fun w => (p, w))) with
    | some (p, w) =>
      some (.blocks p.idx w,
        if d.op = 0x03 then homeOf (s.streamKey m p.dst) else homeOf (s.sourceKey m p.src))
    | none =>
      if d.points ≤ m.next || !writes then none
      else
        let p := d.point m.next
        match d.op.toNat with
        | 0x01 | 0x02 | 0x04 => some (.header m.next (s.headerRun m m.next), homeOf (s.streamKey m p.1))
        | 0x03 => some (.header m.next 1, homeOf (s.streamKey m p.2))
        | 0x06 => some (.raw m.next (d.rawRun m.next), homeOf (s.tileKeyIn d.src m.slotB))
        | 0x07 => some (.raw m.next (d.rawRun m.next), homeOf (s.tileKeyIn d.dst m.slotB))
        | 0x10 =>
          match s.portsFor m.ctx.val with
          | [] => none
          | u :: us => some (.tile m.next, .port ((u :: us).getD (m.next % (us.length + 1)) u))
        | 0x11 => some (.tile m.next, .press)
        | 0x20 | 0x21 => some (.index, homeOf (s.tileKeyIn d.src m.slotB))
        | 0x22 => if s.treeTaken k m.ctx then none
            else some (.index, .home (.pocket m.core (d.src.toNat % 256)))
        | _ => none

/-- The next fragment of a REDUCE stream: its point and number (R172, R221). -/
def Stream.nextFrag (m : Stream) : Option (Nat × Fin 32) :=
  if m.desc.op ≠ 0x05 ∨ m.ended.isSome ∨ !m.started then none
  else
    match m.live with
    | p :: _ => some (p.idx, Fin.ofNat 32 p.asked.toNat)
    | [] => if m.next < m.desc.points then some (m.next, 0) else none

/-! ## Issue (R224, R225, R145, R151) -/

/-- The prediction entry that covers a handle of a context (R150). -/
def State.predicted (s : State) (k : ClusterId) (x : CtxId) (h : W32) : Option W64 :=
  let e := tget {} (s.clusterOf k).predict (Config.predictIndex (x.val * 2 ^ 32 + h.toNat) % 2048)
  if e.valid && e.ctx == x && e.handle == h then some e.bitmap else none

/-- R150: the bitmap of a header that arrived. -/
def State.learn (s : State) (k : ClusterId) (x : CtxId) (h : W32) (map : W64) : State :=
  s.modCluster k (fun c => { c with
    predict := tput {} c.predict (Config.predictIndex (x.val * 2 ^ 32 + h.toNat) % 2048)
      { valid := true, ctx := x, handle := h, bitmap := map } })

/-- R76: the engine has read the last byte of a Pocket entry that it moves out. -/
def State.drained (s : State) (m : Stream) (p : Point) : State :=
  if m.desc.op = 0x03 ∧ p.header.isSome = true ∧ p.need &&& ~~~p.asked = 0 then
    s.emptyEntry m.core p.src else s

/-- A point of a stream. -/
def Stream.pointAt (m : Stream) (idx : Nat) : Option Point := m.live.find? (fun p => p.idx == idx)

def State.modPoint (s : State) (k : ClusterId) (n idx : Nat) (f : Point → Point) : State :=
  s.modStream k n (fun m => { m with live := m.live.map (fun p => if p.idx = idx then f p else p) })

/-- The directory keys of the tiles that a reading transfer reads (R194, R226). -/
def State.readKeys (s : State) (m : Stream) (kind : XferKind) : List Nat :=
  let d := m.desc
  let tile := fun i => s.sourceKey m (d.point i).1
  match d.op.toNat with
  | 0x01 | 0x02 | 0x04 =>
    match kind with
    | .header i c => (List.range c).map (fun j => tile (i + j))
    | .blocks i _ => [tile i]
    | _ => []
  | 0x06 | 0x21 => [s.tileKeyIn d.src m.slotB]
  | 0x20 => [s.tileKeyIn d.src m.slotB, s.tileKeyIn (d.srcStrides.getD 1 0) m.slotB].eraseDups
  | _ => []

/-- The point that a header transfer starts: a MOVE_OUT has read the header and the bytes of its entry. -/
def State.startPoint (s : State) (k : ClusterId) (m : Stream) (i : Nat) : Point :=
  let d := m.desc
  let q := d.point i
  if d.op = 0x03 then
    let e := (s.coreOf m.core.val).entry q.1
    let r := e.moved
    { idx := i, src := q.1, dst := q.2, header := some r.1, need := r.1.bitmap, bytes := r.2.1,
      held := e.header.fmt.getLsbD 4 || e.writable, poisoned := e.state == .poisoned, outstanding := 1 }
  else
    let map := if d.flags.getLsbD 0 && !s.heldMangled (s.tileOf (s.streamKey m q.1)) then
        s.predicted k m.ctx (m.handle q.1) else none
    { idx := i, src := q.1, dst := q.2, predicted := map.getD 0, hit := map.isSome, outstanding := 1 }

/-- What a weight server owes a transfer (R272). -/
def State.wantOf (s : State) (m : Stream) (kind : XferKind) (t : Tier) : Option (W32 × W64 × W32 × W32) :=
  match kind, t with
  | .tile i, .port _ => some (m.number, m.object, m.version, BitVec.ofNat 32 (m.desc.point i).1)
  | _, _ => none

/-- What issuing a transfer changes, the transfer slot apart. DEDUCED, log entry 55. -/
def State.beginXfer (s : State) (k : ClusterId) (n : Nat) (m : Stream) (kind : XferKind) (t : Tier) :
    State :=
  let d := m.desc
  let add := fun (s : State) (ps : List Point) => s.modStream k n (fun m =>
    { m with live := m.live ++ ps, next := m.next + ps.length })
  let lock := fun (s : State) => s.each (s.nextWrites m) (fun s key => s.modTile key (·.take (k, n)))
  let s := s.each (s.readKeys m kind) (fun s key => s.modTile key (fun t => { t with reads := t.reads + 1 }))
  match kind with
  | .header i c =>
    let s := if 1 < c then s.engineBump k 1 (c - 1) else s
    let ps := (List.range c).map (fun j => s.startPoint k m (i + j))
    let s := add (if d.op = 0x03 then lock s else s) ps
    let p := s.startPoint k m i
    let trimmed := ((s.coreOf m.core.val).entry (d.point i).1).moved.2.2
    if d.op = 0x03 then
      let s := s.drained m p
      if trimmed = 0 then s else s.sparsityBump k 4 trimmed
    else s
  | .blocks i w =>
    let s := if 1 < popcount w then s.engineBump k 1 (popcount w - 1) else s
    match m.pointAt i with
    | none => s
    | some p =>
      let p := { p with asked := p.asked ||| w, outstanding := p.outstanding + 1 }
      (s.modPoint k n i (fun _ => p)).drained m p
  | .raw i c =>
    let s := if 1 < c then s.engineBump k 1 (c - 1) else s
    add (lock s) ((List.range c).map (fun j =>
      { idx := i + j, src := (d.point (i + j)).1, dst := (d.point (i + j)).2, outstanding := 1 }))
  | .tile i =>
    let q := d.point i
    (add s [{ idx := i, src := q.1, dst := q.2, outstanding := 1 }]).modStream k n (Stream.skip 512)
  | .grad _ => s
  | .index => add (lock s) [{ idx := 0, src := 0, dst := 0, outstanding := 1 }]

/-- The lowest transfer slot that is neither occupied nor held out (R232, R235). -/
def State.freeXfer (s : State) (k : ClusterId) : Option Nat :=
  (List.range 512).find? (fun i =>
    let x := xferSlot (s.clusterOf k) i
    x.busy.isNone && x.expired.isNone && !x.heldOut)

/-- R225: a transfer takes the lowest free slot. -/
def State.takeXferSlot (s : State) (k : ClusterId) (b : Xfer) : State :=
  match s.freeXfer k with
  | none => s
  | some x => (s.engineBump k 0 1).modCluster k (fun c => { c with
      xfers := tput {} c.xfers x { xferSlot c x with busy := some b } })

/-- R225: a transfer of a stream takes a slot and begins. -/
def State.issueXfer (s : State) (k : ClusterId) (n : Nat) (m : Stream) (kind : XferKind) (t : Tier) : State :=
  (s.takeXferSlot k
    { slot := n, epoch := (s.slotAt k n).epoch, kind := kind, tier := t, ctx := m.ctx, core := m.core, slotB := m.slotB,
      bound := m.bound, reads := (s.readKeys m kind).map (fun key => (key, (s.tileOf key).moves)),
      want := s.wantOf m kind t }).beginXfer k n m kind t

/-- Transfer slots that are neither occupied nor held out. -/
def State.freeXfers (s : State) (k : ClusterId) : Nat :=
  ((List.range 512).filter (fun i =>
    let x := xferSlot (s.clusterOf k) i
    x.busy.isNone && x.expired.isNone && !x.heldOut)).length

/-- R272: the tiles from point i on that one request to a port asks for: at most 256 consecutive indices, each of which
finds a transfer slot and room at the port. -/
def State.tileRun (s : State) (k : ClusterId) (m : Stream) (i : Nat) (u : UnitId) : Nat :=
  let most := Nat.min (Nat.min 256 (m.desc.points - i)) (Nat.min (s.freeXfers k) (1024 - s.portLoad u))
  ((List.range most).takeWhile (fun j =>
    !m.early.contains (i + j) && (m.desc.point (i + j)).1 == (m.desc.point i).1 + j)).length

/-- R272: c tiles from point i on are requested of a weight server, each a transfer of its own. MANGLE_OK is set in every
request (DESIGN CHOICE, log entry 83). -/
def State.issueTiles (s : State) (k : ClusterId) (n : Nat) (m : Stream) (i c : Nat) (u : UnitId) : State :=
  (s.each (List.range c) (fun s j => s.issueXfer k n m (.tile (i + j)) (.port u))).send m.ctx.val u (.wreq
    { job := (s.ctxOf m.ctx.val).job, node := s.nodeOf m.ctx.val, stream := m.number, object := m.object,
      version := m.version, first := BitVec.ofNat 32 (m.desc.point i).1, count := BitVec.ofNat 16 c,
      seq0 := BitVec.ofNat 48 i })

/-- The elements of a block as RED codes, in the form of the source (R173). -/
def Entry.blockCodes (e : Entry) (b : Nat) : List W64 :=
  (List.range 64).map (fun i => w64 (e.code (8 * (b / 8) + i / 8) (8 * (b % 8) + i % 8)))

/-- R172, R173, R221: a fragment of a REDUCE point enters the mesh at the engine's router. `dest` is the
router of the destination's home. -/
def State.redFragment (s : State) (m : Stream) (idx : Nat) (f : Fin 32) : RedPacket :=
  let d := m.desc
  let p := d.point idx
  let e := (s.coreOf m.core.val).entry p.1
  let c := s.ctxOf m.ctx.val
  let key := s.streamKey m p.2
  let bits := BitVec.ofNat 2 (e.header.bitmap.toNat / 4 ^ f.val)
  let form : WireForm := if e.fmt = 0x1 then .bf16 else if c.sumFp32 then .fp32 else .fw64
  { dest := s.homeRouter (s.tileOf key).home, src := routerAddr (m.core.val / 32), ctx := m.ctx, job := c.job, step := c.step,
    handle := m.handle p.2, frag := f, form := form, sumFp32 := c.sumFp32, bmap := bits,
    poison := e.state == .poisoned, notub := c.reductionMode != 0, count := 1, total := d.total,
    wexp := d.wexp,
    data := (if bits.getLsbD 0 then e.blockCodes (2 * f.val) else []) ++
      (if bits.getLsbD 1 then e.blockCodes (2 * f.val + 1) else []) }

/-- A fragment is sent; the 32nd of a point completes it. -/
def State.sendFragment (s : State) (k : ClusterId) (n : Nat) (m : Stream) (idx : Nat) (f : Fin 32) : State :=
  let p := m.desc.point idx
  let s := { s with mesh := s.mesh ++ [Flight.mk (s.redFragment m idx f) none] }
  let s := if f = 0 then
      s.modStream k n (fun m => { m with
        live := m.live ++ [{ idx := idx, src := p.1, dst := p.2, asked := 1 }], next := idx + 1 })
    else s.modPoint k n idx (fun p => { p with asked := p.asked + 1 })
  if f = 31 then
    -- R231: the destination tile completes at its home, which PEG_TILE waits for
    let s := if m.desc.pegTile then s.modTile (s.streamKey m p.2) (fun t =>
        { t with redPegs := t.redPegs ++ [((s.ctxOf m.ctx.val).step, k, m.desc.peg)] }) else s
    s.pointEnds k n idx (((s.coreOf m.core.val).entry p.1).state == .poisoned) false
  else s

/-- The stream slots in the order of the round-robin (R225). -/
def State.turnOrder (s : State) (k : ClusterId) : List Nat :=
  (List.range 512).map (fun i => ((s.clusterOf k).turn + 1 + i) % 512)

/-- R226: writers that find a tile locked take their place in its line. -/
def State.queueWriters (s : State) (k : ClusterId) : State :=
  s.each (s.clusterOf k).streams (fun s e =>
    match e.2.stream with
    | some m =>
      if m.ended.isSome || !m.started then s
      else
        s.each (s.nextWrites m) (fun s key =>
          let t := s.tileOf key
          if t.lock.isNone || t.lock == some (k, e.1) || t.lockQueue.contains (k, e.1) ||
            s.earlierWriter k m key then s
          else s.putTile key { t with lockQueue := t.lockQueue ++ [(k, e.1)] })
    | none => s)

/-- What the engine does next: a transfer or a fragment of a stream slot. -/
def State.nextWork (s : State) (k : ClusterId) : Option (Nat × Stream × Sum (XferKind × Tier) (Nat × Fin 32)) :=
  (s.turnOrder k).findSome? (fun n =>
    match (s.slotAt k n).stream with
    | none => none
    | some m =>
      match m.nextFrag with
      | some f => some (n, m, .inr f)
      | none =>
        match s.nextXfer k n m with
        | some (kind, t) => if s.tierReady t then some (n, m, .inl (kind, t)) else none
        | none => none)

/-- R225: the engine issues its next transfer. -/
def execXferIssue (k : ClusterId) (s : State) : Result :=
  if !s.meshRuns k then .next s
  else
    let s := s.queueWriters k
    match s.nextWork k with
    | none => .next s
    | some (n, m, w) =>
      let s1 := s.modCluster k (fun c => { c with turn := n })
      match w with
      | .inr (i, f) => .next (s1.sendFragment k n m i f)
      | .inl (kind, t) =>
        if (s.freeXfer k).isNone then .next s
        else
          match kind, t with
          | .tile i, .port u => .next (s1.issueTiles k n m i (s.tileRun k m i u) u)
          | _, _ => .next (s1.issueXfer k n m kind t)

/-! ## Arrival (R148, R149, R152, R194, R228) -/

/-- A point whose content has all arrived is written at its destination. -/
def State.landPoint (s : State) (k : ClusterId) (n : Nat) (m : Stream) (p : Point) : State :=
  let d := m.desc
  let h := p.header.getD (poisonHeader 0)
  let h := if p.poisoned then { h with fmt := h.fmt ||| 0x20 } else h
  let len := h.storedLen.toNat
  let e : Entry :=
    { state := if p.poisoned then .poisoned else .resident, readImage := d.op == 0x01, holder := m.ctx,
      reserved := round32 len, header := h, bytes := if p.poisoned then p.bytes.filter (·.1 < len) else p.bytes }
  if d.op = 0x01 ∨ d.op = 0x02 then
    let s := s.modEntry m.core p.dst (fun o => { e with base := o.base })
    let s := if d.op = 0x02 then
        s.moveHome (s.streamKey m p.src) (.pocket m.core (p.dst % 256)) h e.bytes p.poisoned else s
    s.pointEnds k n p.idx p.poisoned true
  else if d.op = 0x04 then
    let key := s.streamKey m p.src
    let new := match d.dstCluster with
      | some c => Home.basket c
      | none => (s.tileOf key).declHome
    (s.moveHome key new h e.bytes p.poisoned).pointEnds k n p.idx p.poisoned true
  else
    let key := s.streamKey m p.dst
    let s := s.storeTile key (s.ctxOf m.ctx.val).step
      { h with fmt := h.fmt &&& 0xDF } p.bytes p.poisoned
    let s := s.modTile key (fun t => { t with placed := false })
    let last := m.unfinished.all (fun i => i == p.idx || (d.point i).2 != p.dst)
    let s := if last then s.modTile key (·.unlock (k, n)) else s
    s.pointEnds k n p.idx p.poisoned true

/-- The point is complete: its header is in and no block is missing. -/
def Point.whole (p : Point) : Bool :=
  p.header.isSome && p.outstanding == 0 && p.need &&& ~~~p.asked == 0

/-- Lands a point that has become whole. -/
def State.settlePoint (s : State) (k : ClusterId) (n idx : Nat) : State :=
  match (s.slotAt k n).stream with
  | none => s
  | some m =>
    match m.pointAt idx with
    | some p => if p.whole then s.landPoint k n m p else s
    | none => s

/-- What failed in a transfer of a tile: its header (R149), or its bytes. -/
inductive Damage | none | header | bytes
  deriving DecidableEq, Repr

def replyDamage : Reply → Damage
  | .uncorrectable _ _ => .bytes
  | .badHeader => .header
  | _ => .none

/-- A header arrives (R149, R152): the content of the tile at the home that serves the read (R194), under one writer
(R226). -/
def State.takeHeader (s : State) (k : ClusterId) (n : Nat) (m : Stream) (idx : Nat) (reads : List (Nat × Nat))
    (bad : Damage) : State :=
  match m.pointAt idx with
  | none => s
  | some p =>
    let t := s.tileFor reads (s.streamKey m p.src)
    let ok := bad == .none && headerSound t.readHeader
    let h := if ok then t.sent.1 else poisonHeader t.fmt
    let map := if ok then h.bitmap else 0
    let q := { p with
      header := some h, need := map, outstanding := p.outstanding - 1, bytes := if ok then t.sent.2 else [],
      poisoned := p.poisoned || !ok || h.fmt.getLsbD 5 }
    let s := if ok || bad == .bytes then s else s.sparsityBump k 5 1
    let s := s.modPoint k n idx (fun _ => q)
    let s := if ok then s.learn k m.ctx (m.handle p.src) map else s
    if ok && p.hit then
      let s := s.sparsityBump k 0 (popcount (p.predicted &&& map))
      let s := s.sparsityBump k 1 (popcount (p.predicted &&& ~~~map))
      s.sparsityBump k 2 (popcount (~~~p.predicted &&& map))
    else s

/-- R149: the format that a receiver records for a point whose header failed: that of the handle it writes, or of the
source handle for a Pocket entry. -/
def State.declaredFmt (s : State) (m : Stream) (p : Point) : Fmt :=
  (s.tileOf (if m.desc.op = 0x03 then s.streamKey m p.dst else s.sourceKey m p.src)).fmt

/-- R149: a point whose header failed at its receiver: nothing of it is written. What a MOVE_OUT has not read of its
entry is given up with it. -/
def State.failHeader (s : State) (k : ClusterId) (n : Nat) (m : Stream) (idx : Nat) : State :=
  match m.pointAt idx with
  | none => s
  | some p =>
    let q := { p with outstanding := p.outstanding - 1, poisoned := true, bytes := [], need := 0,
                      header := some (poisonHeader (s.declaredFmt m p)) }
    let s := (s.sparsityBump k 5 1).modPoint k n idx (fun _ => q)
    if m.desc.op = 0x03 ∧ p.need &&& ~~~p.asked ≠ 0 then s.emptyEntry m.core p.src else s

/-- Blocks arrive; a damaged tile keeps no bytes. -/
def State.takeBlocks (s : State) (k : ClusterId) (n : Nat) (m : Stream) (idx : Nat) (bad : Damage) : State :=
  match bad with
  | .header => s.failHeader k n m idx
  | .bytes => s.modPoint k n idx (fun p => { p with outstanding := p.outstanding - 1, poisoned := true, bytes := [] })
  | .none => s.modPoint k n idx (fun p => { p with outstanding := p.outstanding - 1 })

/-- Raw points arrive (R221): bytes of the tile into the entry, or of the entry into the tile. -/
def State.takeRaw (s : State) (k : ClusterId) (n : Nat) (m : Stream) (idx count : Nat) (reads : List (Nat × Nat))
    (bad : Damage) : State :=
  let d := m.desc
  let first := d.point idx
  let len := count * d.unitLen
  let key := if d.op = 0x06 then s.tileKeyIn d.src m.slotB else s.tileKeyIn d.dst m.slotB
  let en := (if d.op = 0x06 then d.dst else d.src).toNat % 256
  let entry := (s.coreOf m.core.val).entry en
  let t := s.tileFor reads key
  let poison := bad != .none || (if d.op = 0x06 then t.homePoisoned else entry.state == .poisoned)
  let s :=
    if d.op = 0x06 then
      s.modEntry m.core en (fun e => { e with bytes := writeBytes e.bytes first.2 (t.range first.1 len) })
    else s.writeRaw key first.2 ((List.range len).map (fun i => tileByte entry.bytes (first.1 + i)))
  let s := s.modStream k n (fun m => { m with
    live := m.live.filter (fun p => !(idx ≤ p.idx && p.idx < idx + count)),
    doneCount := m.doneCount + count, poisoned := m.poisoned || poison })
  match (s.slotAt k n).stream with
  | none => s
  | some m =>
    if !m.allDone then s
    else
      let s :=
        if d.op = 0x06 then
          s.modEntry m.core en (fun e => { e with state := if m.poisoned then .poisoned else .resident })
        else s.touchTile m key m.poisoned
      let s := if m.poisoned then s.engineBump k 3 1 else s
      s.endStream k n m.endStatus

/-- R270, R278: a tile of the Press image is placed, and sent down the binding's tree with FWD. -/
def State.takePress (s : State) (k : ClusterId) (n : Nat) (m : Stream) (idx : Nat) (bad : Damage) : State :=
  let d := m.desc
  let p := d.point idx
  let key := s.streamKey m p.2
  match s.streamBinding m.ctx d with
  | none => s.pointEnds k n idx true true
  | some (_, b) =>
    if bad ≠ .none then (s.failTile key b.fmt).pointEnds k n idx true true
    else
      let n := m.object.toNat % 65536
      let image := tget ({} : ImageSlot) s.press.slots n
      let c := s.pressContent n p.1 b.fmt
      let s := (s.usePress n p.1).placeTile key c.1 c.2 m.version none
      let f : Fmt := c.1.fmt.setWidth 4
      let out := outboundForm image.compress c.1 c.2
      let rec_ : WeightRecord :=
        { job := (s.ctxOf m.ctx.val).job, node := s.nodeOf m.ctx.val, stream := m.number,
          object := image.imageId, version := m.version, tile := BitVec.ofNat 32 p.1,
          seq := BitVec.ofNat 48 idx, last := idx + 1 == d.points, header := out.1, hcheck := headerCheck out.1,
          body := out.2, crcs := [chunkCrc f c.1.bitmap c.2 0, chunkCrc f c.1.bitmap c.2 1] }
      let rec_ := WeightRecord.seal rec_ (s.keyOf m.key).key
      let s := match d.flags.getLsbD 6, b.tree.bind (fun t => s.treeRec m.ctx.val t.toNat) with
        | true, some r => s.sendDown m.ctx.val r (.wrec rec_)
        | _, _ => s
      s.pointEnds k n idx false true

/-- The content of a transfer arrives for its stream. -/
def State.takeXfer (s : State) (k : ClusterId) (b : Xfer) (m : Stream) (bad : Damage) : State :=
  match b.kind with
  | .header i c =>
    if m.desc.op = 0x03 then
      (if bad = .header then s.failHeader k b.slot m i
       else s.modPoint k b.slot i (fun p => { p with outstanding := p.outstanding - 1,
                                                     poisoned := p.poisoned || bad != .none })).settlePoint k b.slot i
    else
      s.each (List.range c) (fun s j => (s.takeHeader k b.slot m (i + j) b.reads bad).settlePoint k b.slot (i + j))
  | .blocks i _ => (s.takeBlocks k b.slot m i bad).settlePoint k b.slot i
  | .raw i c => s.takeRaw k b.slot m i c b.reads bad
  | .tile i =>
    match b.tier with
    | .press => s.takePress k b.slot m i bad
    | _ =>
      -- a server answers with a record; only its deadline ends here
      let key := s.streamKey m (m.desc.point i).2
      (s.failTile key (s.tileOf key).fmt).pointEnds k b.slot i true true
  | .index => s.doIndex k b.slot m b.reads (bad != .none)
  | .grad _ => s

/-- R226: a tile that the transfer reads is locked by another writer, or the weight tile that it writes has to wait for
one. -/
def State.readHeld (s : State) (k : ClusterId) (b : Xfer) (m : Stream) : Bool :=
  b.reads.any (fun r =>
    let t := s.tileOf r.1
    r.2 == t.moves && t.lock.isSome && t.lock != some (k, b.slot)) ||
  (match b.kind with
    | .tile i => !s.mayWrite k b.slot m (s.streamKey m (m.desc.point i).2)
    | _ => false)

/-- R194: the reads of a transfer have been answered or have ended. -/
def State.endReads (s : State) (b : Xfer) : State :=
  s.each b.reads (fun s r => s.modTile r.1 (·.readDone r.2))

/-- The transfer slot is given back. -/
def State.freeXferSlot (s : State) (k : ClusterId) (n : Nat) (expired : Option Xfer) : State :=
  s.modCluster k (fun c => { c with
    xfers := tput {} c.xfers n { xferSlot c n with busy := none, expired := expired } })

/-- R206 to R208: what a damaged reply counts at the tier, and the mark it leaves on the home. A write's
source is the issuing core's Pocket. -/
def State.countReply (s : State) (b : Xfer) (m : Stream) (r : Reply) : State :=
  let tier := if m.desc.drainsPocket then Tier.home (.pocket m.core 0) else b.tier
  match r with
  | .data | .badHeader | .dropped _ => s
  | .corrected ch soft off =>
    let s := match b.tier, b.kind with
      | .press, .tile i => if soft then s.readBlock (m.object.toNat % 65536) (m.desc.point i).1 true else s
      | _, _ => s
    s.countCorrected tier ch soft off.toNat
  | .uncorrectable ch off =>
    let s := s.countUncorrectable tier ch off.toNat
    match tier with
    | .home (.basket _) | .home (.hamper _ _) => s.each b.reads (fun s r => s.modTile r.1 (·.poisonAt r.2))
    | _ => s

def Tier.isPort : Tier → Bool
  | .port _ => true
  | _ => false

/-- R206, R263, R279, R283: tile t of a fill from an image has been read, or its read has failed. -/
def State.pressFillReply (s : State) (x : CtxId) (b : Nat) (t : W32) (r : Reply) : State :=
  match (s.ctxOf x.val).fills.find? (fun f => f.binding == b), tget none (s.ctxOf x.val).bindings b with
  | some f, some w =>
    match f.image, s.fillWants x.val b t with
    | some n, true =>
      let s := match r with
        | .corrected ch soft off =>
          (if soft then s.readBlock n.val t.toNat true else s).countCorrected .press ch soft off.toNat
        | .uncorrectable ch off => s.countUncorrectable .press ch off.toNat
        | _ => s
      let key := s.tileKeyIn (BitVec.ofNat 32 (x.val * 2 ^ 29 + w.first.toNat + t.toNat)) f.slotB
      if replyDamage r ≠ .none then (s.failTile key w.fmt).failFill x.val stPOISONED
      else
        let c := s.pressContent n.val t.toNat w.fmt
        ((s.usePress n.val t.toNat).placeTile key c.1 c.2 f.version none).settleFills x.val
    | _, _ => s
  | _, _ => s

/-- R225, R232: a reply arrives with a TAG: the transfer slot and an epoch; or, with `fill`, the Press gives a tile of a
fill. -/
def execXferReply (k : ClusterId) (slot : Fin 512) (epoch : BitVec 7) (reply : TaggedReply) (s : State) :
    Result :=
  match reply.reply, reply.fill with
  | .dropped r, _ => if s.meshRuns r then .next (s.routerBump r 6 1) else .next s
  | _, some (y, b, t) => if s.mode.works then .next (s.pressFillReply y b.val t reply.reply) else .next s
  | _, none =>
  let reply := reply.reply
  if !s.meshRuns k then .next s
  else
    let x := xferSlot (s.clusterOf k) slot.val
    let stale := s.engineBump k 5 1
    match x.busy with
    | none =>
      match x.expired with
      | some e =>
        if e.tier.isPort then .next s
        else if e.epoch = epoch then .next ((stale.freeXferSlot k slot.val none).countLate e.tier false)
        else .next stale
      | none => .next stale
    | some b =>
      if b.tier.isPort then .next s
      else if b.epoch ≠ epoch then .next stale
      else
        match (s.slotAt k b.slot).stream, decide ((s.slotAt k b.slot).epoch = b.epoch) with
        | some m, true =>
          -- a read of a locked tile is held at its home
          if s.readHeld k b m then .next s
          else
            -- R209, R529: a SUSPECT stack answers nothing, nor does one that no live router reaches
            let mute := match b.tier with
              | .home (.hamper h _) => (s.stackOf h.val).suspect || !s.stackReached h.val
              | _ => false
            if mute then .next s
            else
              let s := s.freeXferSlot k slot.val none
              .next ((((s.countReply b m reply).endReads b)).takeXfer k b m (replyDamage reply))
        | _, _ =>
          .next (((stale.freeXferSlot k slot.val none).endReads b).releaseLast k b.slot b.epoch b.core b.ctx b.slotB b.bound)

/-- R208, R272: a request passes its deadline. For a stream that is gone it only counts (R236). `fill` names
a tile of a fill instead: context, binding, tile index (R283); with no binding, a tile of the installation that the context
runs (R275; DEDUCED, log entry 36). -/
def execRequestDeadline (k : ClusterId) (slot : Fin 512) (fill : Option (CtxId × Option (Fin 16) × W32)) (s : State) :
    Result :=
  match fill with
  | some (x, none, t) =>
    match s.press.install with
    | some i =>
      if s.mode.works && i.ctx == x && s.installWants i t && i.asks.pending t then .next (s.endInstall stTIMEOUT)
      else .next s
    | none => .next s
  | some (x, some b, t) =>
    match (s.ctxOf x.val).fills.find? (fun f => f.binding == b.val) with
    | some f =>
      if s.mode.works && (f.image.isSome || f.asks.pending t) && s.fillWants x.val b.val t then
        .next ((if f.image.isSome then s.countLate .press true else s).failFill x.val stTIMEOUT)
      else .next s
    | none => .next s
  | none =>
  match (xferSlot (s.clusterOf k) slot.val).busy with
  | none => .next s
  | some b =>
    let record := match b.kind with
      | .grad _ => true
      | _ => false
    if !s.meshRuns k || record then .next s
    else
      let s := (s.freeXferSlot k slot.val (some b)).countLate b.tier true
      match (s.slotAt k b.slot).stream, decide ((s.slotAt k b.slot).epoch = b.epoch) with
      | some m, true =>
        .next (((s.endReads b).markTimeout k b.slot).takeXfer k b m .bytes).pump
      | _, _ => .next ((s.endReads b).releaseLast k b.slot b.epoch b.core b.ctx b.slotB b.bound).pump

/-- R226: the lock of a tile is free and passes to the writer that has waited longest; with none waiting,
held reads go on. -/
def execWriteLockGrant (h : W32) (s : State) : Result :=
  let grant := fun t : Tile =>
    match t.lockQueue with
    | w :: r => { t with lock := some w, lockQueue := r }
    | [] => t
  .next { s with tiles := tmap {} (fun key t =>
    if key % 2 ^ 32 = h.toNat ∧ t.lock = none then grant t else t) s.tiles }

/-- R194: a moved tile's old home is released once every read issued against it has been answered. -/
def execOldHomeRelease (h : W32) (s : State) : Result :=
  let free := fun t : Tile => { t with oldHomes := t.oldHomes.filter (fun e => e.reads != 0) }
  .next { s with tiles := tmap {} (fun key t => if key % 2 ^ 32 = h.toNat then free t else t) s.tiles }

/-- R235: a transfer of a cancelled stream is reclaimed; one that its deadline has ended already still occupies its
slot (R232). -/
def execCancelForced (k : ClusterId) (slot : Fin 512) (s : State) : Result :=
  let x := xferSlot (s.clusterOf k) slot.val
  match x.busy.or x.expired with
  | none => .next s
  | some b =>
    if !s.meshRuns k || (s.slotAt k b.slot).epoch == b.epoch then .next s
    else
      let s := s.modCluster k (fun c => { c with
        xfers := tput {} c.xfers slot.val { busy := none, expired := none, heldOut := true } })
      let s := (s.engineBump k 6 1).raise .fault 235 0 (srcCluster k) (some b.ctx.val)
        [w64 b.ctx.val, w64 b.slot, w64 (match b.tier with
          | .port u => u.val
          | _ => 0)]
      .next (if x.busy.isSome then (s.endReads b).releaseLast k b.slot b.epoch b.core b.ctx b.slotB b.bound else s).pump

/-- R235: the hold of a reclaimed transfer slot ends. -/
def execReclaimHoldEnd (k : ClusterId) (slot : Fin 512) (s : State) : Result :=
  .next (s.modCluster k (fun c => { c with
    xfers := tput {} c.xfers slot.val { xferSlot c slot.val with heldOut := false } }))

end Sys2Proof.Machine
end

