-- ==== Sys2Proof/Machine/Weights.lean ====
section
/-! DEFINITION. Weight records, the deadlines of the streams and fills that expect them, and the swap of slots
(R26, R263, R264, R266 to R273, R277, R279 to R283). -/

set_option linter.unusedVariables false

namespace Sys2Proof.Machine

open Sys2Proof

/-! ## Expected points (R268 step 1, R271) -/

/-- Who expects a record: a point of a stream, a tile of a fill, or the installation of an image. -/
inductive Expects
  | point (k : ClusterId) (n idx : Nat)
  | fill (f : Fill)
  | install (i : Install)
  deriving DecidableEq, Repr

/-- The object that the records of a binding name (R260, R278). -/
def State.bindingObject (s : State) (b : Binding) : W64 :=
  if b.source = 1 then (s.imageOf (b.object.toNat % 65536)).imageId else b.object

/-- The object that the records of a running weight stream name: that of its acceptance (R263, R282). -/
def State.streamObject (s : State) (m : Stream) : W64 :=
  if m.desc.op = 0x11 then (s.imageOf (m.object.toNat % 65536)).imageId else m.object

/-- The first point of an open stream of a context that expects a record. -/
def State.expectsPoint (s : State) (x : CtxId) (w : WeightRecord) : Option (ClusterId × Nat × Nat) :=
  s.clusters.findSome? (fun e =>
    if h : e.1 < 1600 then
      e.2.streams.findSome? (fun v =>
        match v.2.stream with
        | none => none
        | some m =>
          let fetches := m.desc.op == 0x10 || m.desc.op == 0x11 || m.desc.op == 0x12
          if m.ctx ≠ x ∨ m.ended.isSome ∨ !m.started ∨ !fetches ∨ m.version ≠ w.version ∨
            s.streamObject m ≠ w.object then none
          else (m.unfinished.find? (fun i => (m.desc.point i).1 == w.tile.toNat)).map (fun i => (⟨e.1, h⟩, v.1, i)))
    else none)

def State.expects (s : State) (x : CtxId) (w : WeightRecord) : Option Expects :=
  match s.expectsPoint x w with
  | some (k, n, i) => some (.point k n i)
  | none =>
    match (s.ctxOf x.val).fills.find? (fun f => f.image.isNone && f.object == w.object && f.version == w.version &&
        s.fillWants x.val f.binding w.tile) with
    | some f => some (.fill f)
    | none =>
      match s.press.install with
      | some i =>
        let m := s.imageOf i.slot.val
        if i.ctx = x ∧ m.imageId = w.object ∧ m.version = w.version ∧ s.installWants i w.tile then some (.install i)
        else none
      | none => none

/-- R232, R272: the transfer that a record answers too late: its deadline has passed, or its stream is gone. -/
def State.staleXfer (s : State) (x : CtxId) (w : WeightRecord) : Option (ClusterId × Nat × Xfer) :=
  s.clusters.findSome? (fun e =>
    if h : e.1 < 1600 then
      e.2.xfers.findSome? (fun v =>
        match v.2.busy.or v.2.expired with
        | some b =>
          match b.kind with
          | .tile _ => if b.ctx = x ∧ b.want = some (w.stream, w.object, w.version, w.tile) then some (⟨e.1, h⟩, v.1, b) else none
          | _ => none
        | none => none)
    else none)

/-- R232: a stale record: its slot is given back. -/
def State.dropStale (s : State) (k : ClusterId) (n : Nat) (b : Xfer) : State :=
  let live := (xferSlot (s.clusterOf k) n).busy.isSome
  let s := (s.engineBump k 5 1).freeXferSlot k n none
  if live then s.releaseLast k b.slot b.epoch b.core b.ctx b.slotB b.bound else s

/-- A tile that a fill or the installation asked for is answered. -/
def State.answerAsks (s : State) (x : CtxId) (w : WeightRecord) : State :=
  let s := s.modCtx x.val (fun c => { c with fills := c.fills.map (fun f =>
    if f.object = w.object ∧ f.version = w.version then { f with asks := f.asks.answered w.tile } else f) })
  match s.press.install with
  | none => s
  | some i =>
    let m := s.imageOf i.slot.val
    if i.ctx = x ∧ m.imageId = w.object ∧ m.version = w.version then
      { s with press := { s.press with install := some { i with asks := i.asks.answered w.tile } } }
    else s

/-! ## Forwarding (R273) -/

/-- A record is sent to the children of a tree. -/
def State.forwardRecord (s : State) (x : CtxId) (brim : Nat) (r : TreeRec) (w : WeightRecord) : State :=
  if treeChildren r = [] then s
  else (s.brimBump brim 1 (treeChildren r).length).sendDown x.val r (.wrec w)

/-- The tree down which a record of an object goes: that of the lowest-numbered binding with a VALID tree. -/
def State.recordTree (s : State) (x : CtxId) (object : W64) : Option TreeRec :=
  match (s.ctxOf x.val).bindings.findSome? (fun e => match e.2 with
      | some b => if s.bindingObject b = object then b.tree else none
      | none => none) with
  | some t => s.treeRec x.val t.toNat
  | none => none

/-! ## The checks (R268) -/

/-- A point of a stream has been answered: its transfer slot is given back, and a point that was not yet
requested is passed over. -/
def State.closePoint (s : State) (k : ClusterId) (n idx : Nat) : State :=
  let e := (s.slotAt k n).epoch
  let s := s.modCluster k.val (fun c => { c with
    xfers := tmap {} (fun _ x => match x.busy with
      | some b => if b.slot = n ∧ b.epoch = e ∧ b.kind = .tile idx then { x with busy := none } else x
      | none => x) c.xfers })
  s.modStream k n (fun m =>
    if idx < m.next then m else Stream.skip 512 { m with early := m.early ++ [idx] })

/-- The port of a point's outstanding request. -/
def State.pointPort (s : State) (k n idx : Nat) : Option UnitId :=
  (s.clusterOf k).xfers.findSome? (fun e => match e.2.busy with
    | some b =>
      if b.slot = n ∧ b.epoch = (s.slotAt k n).epoch ∧ b.kind = .tile idx then
        match b.tier with
        | .port u => some u
        | _ => none
      else none
    | none => none)

/-- The tile of a point ends POISONED. -/
def State.failPoint (s : State) (k : ClusterId) (n idx : Nat) : State :=
  match (s.slotAt k n).stream with
  | none => s
  | some m =>
    let key := s.streamKey m (m.desc.point idx).2
    ((s.failTile key (s.tileOf key).fmt).closePoint k n idx).pointEnds k n idx true true

/-- What a bad record counts, and the events and marks it leaves. `k` is the cluster that receives the tile: the engine's,
or for a fill and an installation that of the router through which R529 places it (DESIGN CHOICE, log entry 83). -/
def State.countFinding (s : State) (x : CtxId) (brim : Nat) (k : Nat) (w : WeightRecord) (f : Finding) : State :=
  match f with
  | .refused =>
    (s.brimBump brim 5 1).raise .fault 268 0 (srcBrim brim) (some x.val)
      [w.object, w.version.setWidth 64, w.tile.setWidth 64]
  | .header => s.sparsityBump k 5 1
  | .mangle => s.brimBump brim 6 1
  | .crc c =>
    let s := s.brimBump brim 7 1
    if (s.ctxOf x.val).serving then s
    else s.setMark x .crc (bytesLE 8 w.object.toNat ++ bytesLE 4 w.version.toNat ++ bytesLE 4 w.tile.toNat ++
      [BitVec.ofNat 8 c, 0])
  | .good _ _ => s

/-- R268 steps 2 to 7 for a point of a stream. -/
def State.recordAtPoint (s : State) (u : UnitId) (x : CtxId) (w : WeightRecord) (k : ClusterId) (n idx : Nat) :
    State :=
  match (s.slotAt k n).stream with
  | none => s
  | some m =>
    let brim := brimOf u.val
    if !w.tagOk then
      match s.pointPort k n idx, m.pointAt idx with
      | some p, some q =>
        if isServerPort u.val && !q.resent then
          ((s.brimBump brim 3 1).modPoint k n idx (fun q => { q with resent := true })).send x.val p.val
            (.wreq { job := (s.ctxOf x.val).job, node := s.nodeOf x.val, stream := m.number, object := w.object,
                     version := m.version, first := w.tile, seq0 := BitVec.ofNat 48 idx, resend := true })
        else (s.brimBump brim 4 1).failPoint k n idx
      | _, _ => (s.brimBump brim 4 1).failPoint k n idx
    else
      match WeightRecord.finding w with
      | .good h bytes =>
        let key := s.streamKey m (m.desc.point idx).2
        let direct := if isServerPort u.val then m.desc.dstCluster else none
        let s := (s.placeTile key h bytes w.version direct).modTile key (fun t =>
          { t with mangledIn := w.header.fmt.getLsbD 6 })
        (s.closePoint k n idx).pointEnds k n idx (h.fmt.getLsbD 5) true
      | f => (s.failPoint k n idx).countFinding x brim k.val w f

/-- R268 steps 2 to 7 for a tile of a fill (R279, R283). -/
def State.recordAtFill (s : State) (u : UnitId) (x : CtxId) (w : WeightRecord) (f : Fill) : State :=
  let brim := brimOf u.val
  let t := w.tile.toNat
  if !w.tagOk then
    match isServerPort u.val && !f.resent.contains t, s.portsFor x.val with
    | true, p :: ps =>
      let port := (p :: ps).getD (t % (ps.length + 1)) p
      let s := (s.brimBump brim 3 1).modCtx x.val (fun c => { c with
        fills := c.fills.map (fun (g : Fill) => if g = f then
          { g with resent := g.resent ++ [t], asks := { g.asks with out := g.asks.out ++ [(t, port)] } } else g) })
      s.send x.val port.val (.wreq
        { job := (s.ctxOf x.val).job, node := s.nodeOf x.val, stream := f.number, object := f.object,
          version := f.version, first := w.tile, seq0 := BitVec.ofNat 48 t, resend := true })
    | _, _ => (s.brimBump brim 4 1).failFill x.val stPOISONED
  else
    match WeightRecord.finding w, tget none (s.ctxOf x.val).bindings f.binding with
    | .good h bytes, some b =>
      let key := s.tileKeyIn (BitVec.ofNat 32 (x.val * 2 ^ 29 + b.first.toNat + t)) f.slotB
      let s := (s.placeTile key h bytes w.version none).modTile key (fun t =>
        { t with mangledIn := w.header.fmt.getLsbD 6 })
      if h.fmt.getLsbD 5 then s.failFill x.val stPOISONED else s.settleFills x.val
    | g, _ => (s.countFinding x brim (brimRouter brim t) w g).failFill x.val stPOISONED

/-- R268 steps 2 to 7 for a tile of an image being installed (R275, R276). A tile that fails ends the command POISONED and
leaves the slot INCOMPLETE, so that PRESS_RESUME can go on. DEDUCED, log entry 36. -/
def State.recordAtInstall (s : State) (u : UnitId) (x : CtxId) (w : WeightRecord) (i : Install) : State :=
  let brim := brimOf u.val
  let t := w.tile.toNat
  let put := fun (s : State) (j : Install) => { s with press := { s.press with install := some j } }
  if !w.tagOk then
    match isServerPort u.val && !i.resent.contains t, s.portsFor x.val with
    | true, p :: ps =>
      let port := (p :: ps).getD ((t - i.first) % (ps.length + 1)) p
      (put (s.brimBump brim 3 1) { i with
        resent := i.resent ++ [t], asks := { i.asks with out := i.asks.out ++ [(t, port)] } }).send x.val port.val (.wreq
          { job := (s.ctxOf x.val).job, node := s.nodeOf x.val, stream := i.number, object := w.object,
            version := w.version, first := w.tile, seq0 := BitVec.ofNat 48 (t - i.first), resend := true })
    | _, _ => (s.brimBump brim 4 1).endInstall stPOISONED
  else
    match WeightRecord.finding w with
    | .good h bytes =>
      if h.fmt.getLsbD 5 then s.endInstall stPOISONED
      else put s { i with arrived := tput none i.arrived t (some { header := h, bytes := bytes }) }
    | g => (s.countFinding x brim (brimRouter brim t) w g).endInstall stPOISONED

/-- R226: the tile of a point has to wait for another writer. -/
def State.recordWaits (s : State) (k : ClusterId) (n idx : Nat) : Bool :=
  match (s.slotAt k n).stream with
  | some m => !s.mayWrite k n m (s.streamKey m (m.desc.point idx).2)
  | none => false

/-- R268, R273: a weight record arrives. Records that came down their tree are forwarded whether or not the
module expects them; a reader's FWD forwards those that pass step 1. A record for a tile that another writer holds waits
(R226). Requests that a full port held go on behind it (R225). DEDUCED, log entry 61. -/
def execWeightRecord (u : UnitId) (w : WeightRecord) (s : State) : Result :=
  match s.admitted u 0x11 w.job with
  | none => .next s
  | some x =>
    let brim := brimOf u.val
    let held := s
    let s := (s.answerAsks x w).brimBump brim 0 1
    let tree := s.recordTree x w.object
    let down := match tree with
      | some r => treeParentIs r u.val
      | none => false
    let s := match down, tree with
      | true, some r => s.forwardRecord x brim r w
      | _, _ => s
    match s.expects x w with
    | none =>
      match s.staleXfer x w with
      | some (k, n, b) => .next (s.dropStale k n b).pump
      | none => .next (s.brimBump brim 2 1).pump
    | some (.point k n i) =>
      if s.recordWaits k n i then .next held
      else
      let fwd := match (s.slotAt k n).stream with
        | some m => m.desc.op != 0x12 && m.desc.flags.getLsbD 6 && !down
        | none => false
      let s := match fwd, tree with
        | true, some r => s.forwardRecord x brim r w
        | _, _ => s
      .next (s.recordAtPoint u x w k n i).pump
    | some (.fill f) => .next (s.recordAtFill u x w f).pump
    | some (.install i) => .next (s.recordAtInstall u x w i).pump

/-- R270: a WRECV point that is not placed by its deadline. -/
def execWrecvPointDeadline (k : ClusterId) (slot : Fin 512) (point : Nat) (s : State) : Result :=
  match (s.slotAt k slot.val).stream with
  | none => .next s
  | some m =>
    if !s.mode.works || m.desc.op ≠ 0x12 || m.ended.isSome || (m.pointAt point).isNone then .next s
    else .next ((s.markTimeout k slot.val).failPoint k slot.val point)

/-! ## Slots (R280, R281) -/

/-- R280 step 4: at a batch boundary the filled slot becomes ACTIVE, and WEIGHT_SWAP completes. -/
def execSlotSwitch (x : CtxId) (s : State) : Result :=
  if s.mode.works && s.changesSlot x then .next (s.switchSlots x) else .next s

/-- R280 step 6: the old copy is free of references. -/
def execOldCopyFree (x : CtxId) (s : State) : Result :=
  let c := s.ctxOf x.val
  if !s.mode.works || c.swap ≠ .freeing || c.refs ≠ 0 then .next s
  else
    let s := s.freeTiles x.val (s.slotKeys x.val (!c.activeB))
    .next (s.modCtx x.val (fun c => { c with
      swap := .none,
      slotA := if c.activeB then { c.slotA with valid := false } else c.slotA,
      slotB := if c.activeB then c.slotB else { c.slotB with valid := false } }))

end Sys2Proof.Machine
end

