-- ==== Sys2Proof/Machine/HostOps.lean ====
section
/-! DEFINITION. What the host commands share: the checks of R369 and R405 and the end of a command (R369 to
R375). -/

set_option linter.unusedVariables false

namespace Sys2Proof.Machine

open Sys2Proof

/-! ## The command loop (R369, R370, R374, R375) -/

/-- How the MMP ends a command it has taken: it completes, it is carried out and waits for its end, or it has to
be taken again later. -/
inductive CmdEnd
  | done (s : State) (st : Byte) (detail : W32) (result : List W64)
  | waits (s : State)
  | later
  deriving DecidableEq, Repr

/-- OK, with a RESULT. -/
def CmdEnd.ok (s : State) (result : List W64 := []) : CmdEnd := .done s stOK noDetail result

/-- A status other than OK; nothing is changed (R374). -/
def CmdEnd.fails (s : State) (b : Bad) : CmdEnd := .done s b.1 b.2 []

/-- A state and its failing check, if any. -/
def CmdEnd.of (r : State × Option Bad) (f : State → CmdEnd) : CmdEnd :=
  match r.2 with
  | some b => .fails r.1 b
  | none => f r.1

/-- The first failing check, or the effect. -/
def CmdEnd.checked (s : State) (checks : List (Option Bad)) (f : CmdEnd) : CmdEnd :=
  match firstBad checks with
  | some b => .fails s b
  | none => f

/-- What a command's CTX must be (R368). -/
inductive CtxRule | names | none | either | creates
  deriving DecidableEq, Repr

/-- A row of R375, whether the command is carried out in recovery (R405), and whether its own rule checks its
reserved bytes, which the module otherwise ignores (R15). -/
structure CmdRow where
  opcode : W16
  admin : Bool
  ctx : CtxRule
  states : List ModState
  recovery : Bool := false
  rsvChecked : Bool := false
  deriving DecidableEq, Repr

/-- The state groups of R375. -/
def groupW : List ModState := [.ready, .run]
def groupM : List ModState := [.ready, .run, .maint]
def groupA : List ModState := [.bringup, .ready, .run, .drain, .maint]

/-- R370: the command that the MMP would take next from a mailbox: the oldest one not yet taken, where ORDER does not hold
it back for an earlier command of the mailbox. -/
def Mbox.front (b : Mbox) : Option HeldCmd :=
  match b.held.find? (fun e => !e.waiting && !e.taken) with
  | some e => if !e.order || b.held.head? == some e then some e else none
  | none => none

/-- R370: mailbox m comes next in the round, which starts after the mailbox served last. -/
def State.turnOf (s : State) (m : MboxId) : Bool :=
  let place := fun (j : MboxId) => (j - s.mgmt.served - 1 : Fin 16)
  (List.finRange 16).all (fun j => (s.mboxOf j.val).front.isNone || decide (place m ≤ place j))

/-- R370: the MMP may take the command: it is held, the module fetches and completes, and it is the front of the mailbox
whose turn it is; a command that has been taken and is held back by its own rule is taken up again. DEDUCED, log entry
33. -/
def State.takes (s : State) (h : Hdr) (op : W16) : Bool :=
  match s.heldCmd h op with
  | none => false
  | some e => !e.waiting && s.mode != .off && s.mode != .hold &&
      (e.taken || ((s.mboxOf h.mbox.val).front == some e && s.turnOf h.mbox))

/-- R370: the mailbox of the command is the one served last. -/
def State.serve (s : State) (h : Hdr) : State := { s with mgmt := { s.mgmt with served := h.mbox } }

/-- A command that has been taken and has to be taken up again. -/
def State.markTaken (s : State) (h : Hdr) : State :=
  s.modMbox h.mbox.val (fun m => { m with
    held := m.held.map (fun e => if e.hdr.seq = h.seq then { e with taken := true } else e) })

/-- R365, R369: the admin and CTX_MASK check. -/
def State.refusedMbox (s : State) (h : Hdr) (admin : Bool) : Bool :=
  let m := s.mboxOf h.mbox.val
  (admin && !(m.admin || h.mbox.val == 0)) || (decide (h.ctx.toNat < 8) && !m.ctxMask.getLsbD h.ctx.toNat)

/-- R369: JOB, and CTX where the command names a context or none. -/
def State.badJob (s : State) (h : Hdr) (r : CtxRule) : Bool :=
  let named := decide (h.ctx.toNat < 8)
  (match r with
    | .names | .creates => !named
    | .none => named
    | .either => false) ||
  (if named then r != .creates && h.job != (s.ctxOf h.ctx.toNat).job else h.job != 0)

/-- The checks of R369 up to the command's own; a command on a context that does not exist is BAD_ARG (DEDUCED, log
entry 39). -/
def State.rowChecks (s : State) (h : Hdr) (r : CmdRow) : Option Bad :=
  firstBad [
    check (s.refusedMbox h r.admin) stREFUSED,
    check (s.badJob h r.ctx) stBAD_ARG,
    check (!r.states.contains s.mode || (s.mgmt.recovery && !r.recovery)) stNOT_READY,
    check (r.ctx == .names && !(s.ctxOf h.ctx.toNat).live) stBAD_ARG]

/-- The context a command names. -/
def namedCtx (h : Hdr) : CtxId := Fin.ofNat 8 h.ctx.toNat

/-- A command is taken, checked and carried out. A reserved field that is set is the first of
its own checks, where it has that check (DESIGN CHOICE, log entry 26). -/
def State.hostCommand (s : State) (h : Hdr) (r : CmdRow) (body : State → CmdEnd) : Result :=
  if !s.takes h r.opcode then .next s
  else
    match s.rowChecks h r with
    | some b => .next ((s.serve h).complete h b.1 b.2)
    | none =>
      if h.rsv && r.rsvChecked then .next ((s.useFree.serve h).complete h stBAD_ARG (BitVec.ofNat 32 s.rsvDetail))
      else
        match body s with
        | .done t st d res => .next ((t.serve h).complete h st d false res)
        | .waits t => .next ((t.serve h).markWaiting h)
        | .later => .next ((s.serve h).markTaken h)

end Sys2Proof.Machine
end

