-- ==== Sys2Proof/Machine/HostState.lean ====
section
/-! DEFINITION. STATE_SET, DARN_REQUEST and BIST_WINDOW (R396, R397, R405, R469, R472 to R475, R481). -/

set_option linter.unusedVariables false

namespace Sys2Proof.Machine

open Sys2Proof

/-! ## STATE_SET (R396, R397) -/

/-- Every target but RESET. -/
def stateSetRow : CmdRow :=
  { opcode := 0x62, admin := true, ctx := .none, states := [.ready, .run, .drain, .maint] }

/-- RESET is taken in FAULTED and in recovery too. -/
def stateResetRow : CmdRow :=
  { opcode := 0x62, admin := true, ctx := .none, states := [.ready, .run, .drain, .maint, .faulted], recovery := true }

/-- READY is reached from MAINT and from a DRAIN entered by command; with contexts, that leads to RUN.
DEDUCED, log entry 69. -/
def execStateSetReady (h : Hdr) (s : State) : Result :=
  s.hostCommand h stateSetRow (fun s =>
    CmdEnd.checked s [check (!(s.mode == .maint || (s.mode == .drain && s.darn.drainByCommand))) stREFUSED]
      (.ok { s with mode := s.serviceMode }))

/-- DRAIN is entered once every stream of the module has ended. -/
def execStateSetDrain (h : Hdr) (s : State) : Result :=
  s.hostCommand h stateSetRow (fun s =>
    CmdEnd.checked s [
      check (!(s.mode == .ready || s.mode == .run)) stREFUSED,
      check s.stepOpen stBUSY]
      (if s.streamsEnded then
        .ok ({ s with mode := .drain, darn := { s.darn with drainByCommand := true } } : State).snapshotScores
       else .later))

def execStateSetMaint (h : Hdr) (s : State) : Result :=
  s.hostCommand h stateSetRow (fun s =>
    CmdEnd.checked s [
      check (!(s.mode == .ready || s.mode == .drain)) stREFUSED,
      check (s.ctxs.any (fun e => e.2.live)) stBUSY]
      (.ok ({ s with mode := .maint } : State).snapshotScores))

/-- The module is reset 1 ms after the completion. -/
def execStateSetReset (h : Hdr) (s : State) : Result :=
  s.hostCommand h stateResetRow (fun s => .ok { s with mgmt := { s.mgmt with resetPending := true } })

/-! ## DARN_REQUEST (R475) -/

def darnRow : CmdRow := { opcode := 0x60, admin := true, ctx := .none, states := [.drain, .maint], rsvChecked := true }

/-- Checked records are applied; a plan whose reply ran out takes the first request as its reply (R474). -/
def State.darnRequest (s : State) (rs : List DarnRec) (hs : List (W32 × Bool)) (failed : List PhysId) : CmdEnd :=
  let r := s.applyDarn rs failed
  let t := r.1.poisonReplaced rs hs
  let t := if s.darn.planner = .waitHost ∧ s.planPending = false then t.endDarning else t
  .ok t [w64 (Nat.min r.2 0xFFFF + Nat.min (r.1.staleCount - s.staleCount) 0xFFFF * 65536)]

/-- A repair waits until every stream has ended (R472). -/
def State.darnCommand (s : State) (h : Hdr) (op : Byte) (ps : List Part) (hs : List (W32 × Bool)) (failed : List PhysId) :
    Result :=
  s.hostCommand h darnRow (fun s =>
    let rs : List DarnRec := ps.map (fun p => (op, p))
    CmdEnd.checked s [s.darnBad rs] (if s.streamsEnded then s.darnRequest rs hs failed else .later))

def execMarkBad (h : Hdr) (b : BadParts) (s : State) : Result := s.darnCommand h 1 b.parts b.unreadable b.failed
def execRestore (h : Hdr) (parts : List Part) (s : State) : Result := s.darnCommand h 2 parts [] []
def execHarden (h : Hdr) (parts : List Part) (s : State) : Result := s.darnCommand h 3 parts [] []

/-! ## BIST_WINDOW (R481) -/

def bistWindowRow : CmdRow := { opcode := 0x61, admin := true, ctx := .none, states := groupM, rsvChecked := true }

/-- The window is open until its DURATION ends. -/
def execBistWindow (h : Hdr) (a : WindowArgs) (s : State) : Result :=
  s.hostCommand h bistWindowRow (fun s =>
    CmdEnd.checked s [
      check (a.flags &&& 0xF8 != 0) stBAD_ARG 0,
      check (a.duration == 0 || decide (3600000 < a.duration.toNat)) stBAD_ARG 4,
      check (decide (2 ^ 100 ≤ a.fields.toNat)) stBAD_ARG 8,
      check (a.flags.getLsbD 2 && s.mgmt.gloved) stREFUSED,
      check s.darn.window.isSome stBUSY]
      (.waits { s with darn := { s.darn with window := some { cmd := h, args := a } } }))

/-- The clusters that a window names. -/
def WindowArgs_clusters (a : WindowArgs) : List Nat :=
  (List.range 1600).filter (fun k => a.fields.getLsbD (k / 16) && a.clusters.getLsbD (k % 16))

/-- TESTED counts clusters, FAILED cores, SKIPPED clusters (DEDUCED, log entry 53). -/
def Window.counts (w : Window) : W64 :=
  let skipped := ((WindowArgs_clusters w.args).filter (fun k => !w.touched.contains k)).length
  w64 (w.tested.toNat + w.failedCores.toNat * 2 ^ 16 + Nat.min skipped 0xFFFF * 2 ^ 32)

/-- A slice that a window started still runs. -/
def State.windowBusy (s : State) : Bool :=
  s.fields.any (fun e => match e.2.slice with
    | some l => l.inWindow
    | none => false)

/-- A window whose DURATION has ended closes once the slices it started have finished. -/
def State.closeWindow (s : State) : State :=
  match s.darn.window with
  | some w =>
    if w.ended && !s.windowBusy then
      ({ s with darn := { s.darn with window := none } } : State).complete w.cmd stOK noDetail false [w.counts]
    else s
  | none => s

/-- DURATION ends: no slice starts any more. -/
def execBistWindowEnd (s : State) : Result :=
  match s.darn.window with
  | none => .next s
  | some w =>
    if !s.mode.works then .next s
    else .next ({ s with darn := { s.darn with window := some { w with ended := true } } } : State).closeWindow

end Sys2Proof.Machine
end

