-- ==== Sys2Proof/Machine/Clocks.lean ====
section
/-! DEFINITION. Reference clocks, calibration and crossings (R425, R429 to R431, R436). -/

set_option linter.unusedVariables false

namespace Sys2Proof.Machine

open Sys2Proof

/-! ## Reference clocks (R429 to R431) -/

def Clocks.ref (c : Clocks) (inputB : Bool) : RefState := if inputB then c.b else c.a
def Clocks.putRef (c : Clocks) (inputB : Bool) (r : RefState) : Clocks := if inputB then { c with b := r } else { c with a := r }
def State.setRef (s : State) (inputB : Bool) (r : RefState) : State := { s with clocks := s.clocks.putRef inputB r }

/-- R430: an input has been selected at bring-up. -/
def State.pastBoot (s : State) : Bool := s.mode.works || (s.mode == .bringup && s.ring != 0)

/-- R430: the module switches to the other input. -/
def State.switchRef (s : State) (toB : Bool) : State :=
  ({ s with clocks := { s.clocks with selB := toB, switches := satAdd16 s.clocks.switches 1 } }).raise .alarm 430 0
    srcModule none [w64 (if toB then 1 else 0)]

/-- R431: no input is GOOD: the module runs without a reference. -/
def State.loseRefs (s : State) : State :=
  let s := { s.downAll with
    portA := false, portB := false,
    clocks := { s.clocks with noneSelected := true, fallback := true },
    timeStatus := { s.timeStatus with state := .holdover, slew := 0 } }
  s.raise .alarm 431 0 srcModule none []

/-- An input leaves GOOD or its range. -/
def execRefclkLoss (inputB outOfRange : Bool) (s : State) : Result :=
  let t := s.setRef inputB (if outOfRange then .outOfRange else .absent)
  if s.pastBoot && !s.clocks.noneSelected && s.clocks.selB == inputB && s.clocks.ref inputB == .good then
    .next (if s.clocks.ref (!inputB) = .good then t.switchRef (!inputB) else t.loseRefs)
  else .next t

def execRefclkQualifying (inputB : Bool) (s : State) : Result :=
  match s.clocks.ref inputB with
  | .absent | .outOfRange => .next (s.setRef inputB .qualifying)
  | _ => .next s

/-- R431: the module selects the input and restarts its PLLs; the units train again. -/
def State.regainRef (s : State) (inputB : Bool) : State :=
  let s := { s with clocks := { s.clocks with
    selB := inputB, noneSelected := false, fallback := false,
    switches := if s.clocks.selB = inputB then s.clocks.switches else satAdd16 s.clocks.switches 1 } }
  let parent := (List.range 128).any (fun u => (s.unitOf u).timeParent)
  let s := if parent then s else { s with timeStatus := { s.timeStatus with state := .free } }
  s.each (List.range 128) (fun s u =>
    if (s.unitOf u).enabled && (s.unitOf u).state == .down && (s.unitOf u).cause != .role then s.beginTraining u else s)

def execRefclkGood (inputB : Bool) (s : State) : Result :=
  if s.clocks.ref inputB ≠ .qualifying then .next s
  else
    let t := s.setRef inputB .good
    if s.pastBoot && s.clocks.noneSelected then .next (t.regainRef inputB) else .next t

/-- R425: the mesh is calibrated against the selected input, while one is GOOD. -/
def execOscCalibration (aPpm bPpm : W16) (s : State) : Result :=
  if s.pastBoot && !s.clocks.noneSelected && s.clocks.ref s.clocks.selB == .good then
    .next { s with clocks := { s.clocks with
      aPpm := aPpm, bPpm := bPpm, calibrations := s.clocks.calibrations + 1 } }
  else .next s

/-! ## Crossings (R436) -/

/-- A crossing closes until the reset of its domain; the event names both domains and the crossing. -/
def execCdcTimeout (x : Crossing) (s : State) : Result :=
  if s.mode = .off then .next s
  else
    match x with
    | .field f other index =>
      let v := s.fieldOf f.val
      if v.closedCrossings.contains (other, index) then .next s
      else
        .next ((s.putField f.val { v with
          closedCrossings := v.closedCrossings ++ [(other, index)], cdcTimeouts := satAdd16 v.cdcTimeouts 1 }).raise
            .fault 436 0 (srcField f.val) none [w64 1, other.setWidth 64, index.setWidth 64])
    | .mmp other index =>
      let c := s.clocks
      if c.closedCrossings.contains (other, index) then .next s
      else
        .next (({ s with clocks := { c with
          closedCrossings := c.closedCrossings ++ [(other, index)], cdcTimeouts := satAdd16 c.cdcTimeouts 1 } }).raise
            .fault 436 0 srcModule none [w64 0, other.setWidth 64, index.setWidth 64])

end Sys2Proof.Machine
end

