-- ==== Sys2Proof/Machine/HostContext.lean ====
section
/-! DEFINITION. The commands that create, destroy, save and restore contexts (R131 to R133, R201, R202, R376 to
R378, R450 to R453). -/

set_option linter.unusedVariables false

namespace Sys2Proof.Machine

open Sys2Proof

/-! ## CTX_CREATE (R201, R376) -/

/-- Some context exists. -/
def State.anyLive (s : State) : Bool := (List.range 8).any (fun x => (s.ctxOf x).live)

/-- The sum of a quota over the existing contexts. -/
def State.quotas (s : State) (f : Ctx → Nat) : Nat :=
  (List.range 8).foldl (fun n x => if (s.ctxOf x).live then n + f (s.ctxOf x) else n) 0

/-- R201: the Press bytes of images that no existing context is charged for (DESIGN CHOICE, log entry 40). -/
def State.imagesUncharged (s : State) : Nat :=
  s.press.slots.foldl (fun n e => if e.2.state != .empty && e.2.charged.isNone then n + imageCharge e.2 else n) 0

/-- R201: the new quotas go beyond a limit. -/
def State.quotaOver (s : State) (a : CtxCreateArgs) : Bool :=
  decide (32 < s.quotas (·.pocketQuota) + a.pocket.toNat) ||
  decide (184 < s.quotas (·.basketQuota) + a.basket.toNat) ||
  decide (s.hamperTotal < 1000000000 * (s.quotas (·.hamperQuota) + a.hamper.toNat)) ||
  decide (8000000000000 < 1000000000 * (s.quotas (·.pressQuota) + a.press.toNat) + s.imagesUncharged)

/-- R304, R329, R330, R355: what a new context finds cleared: its counters, and every unit fenced for it. -/
def State.clearForCtx (s : State) (x : CtxId) : State :=
  let s := s.each (List.range 8) (fun s i =>
    (s.clearCounter 0 (0x74000 + 64 * x.val + 8 * i)).clearCounter 0 (0x83000 + 64 * x.val + 8 * i))
  let s := s.each (List.range 128) (fun s u =>
    s.modUnit u (fun k => { k with openCtx := k.openCtx &&& ~~~(BitVec.twoPow 8 x.val) }))
  s.forgetPredictions x

/-- The context as CTX_CREATE makes it, with its key pair (R205). -/
def newCtx (h : Hdr) (a : CtxCreateArgs) (pair : Nat) : Ctx :=
  { live := true, xts := some pair, job := h.job, sumFp32 := a.sumf == 1, tubHold := a.tubHold.toNat, pocketQuota := a.pocket.toNat,
    basketQuota := a.basket.toNat, hamperQuota := a.hamper.toNat, pressQuota := a.press.toNat }

def ctxCreateRow : CmdRow := { opcode := 0x01, admin := true, ctx := .creates, states := groupW }

def execCtxCreate (h : Hdr) (a : CtxCreateArgs) (s : State) : Result :=
  s.hostCommand h ctxCreateRow (fun s =>
    let x := namedCtx h
    CmdEnd.checked s [
      check (decide (1 < a.sumf.toNat)) stBAD_ARG 0,
      check (decide (4095 < a.tubHold.toNat)) stBAD_ARG 2,
      check (decide (32 < a.pocket.toNat)) stBAD_ARG 4,
      check (decide (184 < a.basket.toNat)) stBAD_ARG 6,
      check (decide (1424 < a.hamper.toNat)) stBAD_ARG 8,
      check (decide (8000 < a.press.toNat)) stBAD_ARG 12,
      check (s.ctxOf x.val).live stREFUSED,
      check (s.ctxOfJob h.job).isSome stBAD_ARG,
      check (s.quotaOver a) stNO_QUOTA]
      (let s := ((s.clearForCtx x).putCtx x.val (newCtx h a s.mgmt.keyPairs)).measure x.val 0x01 (ctxCreateBytes a)
       let s := { s with mgmt := { s.mgmt with keyPairs := s.mgmt.keyPairs + 1 } }
       .ok (if s.mode = .ready then { s with mode := .run } else s)))

/-! ## CTX_DESTROY (R377) -/

/-- R377 point 1: every held command of the context but `h` completes with ABORTED. -/
def State.abortHeld (s : State) (x : Nat) (h : Option Hdr) : State :=
  s.each (List.range 16) (fun s m =>
    s.each ((s.mboxOf m).held.filter (fun e => e.hdr.ctx.toNat == x && some e.hdr != h)) (fun s e =>
      s.complete e.hdr stABORTED))

/-- R377 point 2: the context's host requests are withdrawn. -/
def State.withdrawRequests (s : State) (x : CtxId) : State :=
  { s with requests := s.requests.filter (fun r => match r.kind with
      | .sampling g _ => (s.regionOf g.val).ctx != x
      | _ => true) }

/-- The tiles, Pocket entries, Basket charges and predictions of a context are given up. -/
def State.releaseTiles (s : State) (x : CtxId) : State :=
  let s := s.freeTiles x.val ((s.tiles.map (·.1)).filter (fun key => key % 2 ^ 32 / 2 ^ 29 == x.val))
  let s := { s with cores := tmap {} (fun _ (k : Core) =>
    { (k.emptyEntries x (fun _ => true)) with
        stepCopies := tput none k.stepCopies x.val none,
        space := k.space.map (fun (r : Nat × Nat × Option CtxId) => if r.2.2 = some x then (r.1, r.2.1, none) else r) }) s.cores }
  let s := { s with clusters := tmap {} (fun _ k =>
    { k with basketUsed := tput 0 k.basketUsed x.val 0, seqs := tput {} k.seqs x.val {} }) s.clusters }
  s.forgetPredictions x

/-- The context's regions and Peg groups are given up. -/
def State.releaseRegions (s : State) (x : CtxId) : State :=
  let s := s.each (s.regionsOf x.val) (fun s r => s.freshSamplerOf r)
  let s := s.resetPegs x.val
  let s := { s with pegs := s.pegs.filter (fun e => !(e.2.configured && e.2.ctx == x)) }
  { s with regions := s.regions.filter (fun e => !(e.2.owned && e.2.ctx == x)) }

/-- R202, R274, R277: an installation of the context stops, and the images it installed belong to no context. -/
def State.releaseImages (s : State) (x : CtxId) : State :=
  let p := s.press
  let install := match p.install with
    | some i => if i.ctx = x then none else some i
    | none => none
  { s with press := { p with
      install := install,
      slots := tmap {} (fun _ i => if i.charged = some x then { i with charged := none } else i) p.slots } }

/-- R377: a context is destroyed; `h` is the command that does it. -/
def State.destroyCtx (s : State) (x : CtxId) (h : Option Hdr) : State :=
  let s := (s.abortHeld x.val h).withdrawRequests x
  let s := if (s.ctxOf x.val).isOpen then s.abortContext x (bytesLE 4 0xFFFFFFFF ++ bytesLE 4 0xFFFFFFFF) else s
  let s := (s.cancelStreams (fun _ m => m.ctx == x)).stopCores x
  let s := (((s.freeSlots x).freeTubs x).dropTreePasses x)
  let s := (((s.releaseTiles x).releaseRegions x).releaseImages x).putCtx x.val {}
  if s.mode = .run ∧ s.anyLive = false then { s with mode := .ready } else s

def ctxDestroyRow : CmdRow :=
  { opcode := 0x02, admin := true, ctx := .names, states := [.ready, .run, .drain, .maint, .faulted] }

/-- Its completion names the job that was bound. The quotas are released at once (DEDUCED, log entry 38). -/
def execCtxDestroy (h : Hdr) (s : State) : Result :=
  s.hostCommand h ctxDestroyRow (fun s => .ok (s.destroyCtx (namedCtx h) (some h)))

/-! ## The context record (R452) -/

/-- A region over clusters whose Baskets are lost (R452). -/
def State.lostRegion (s : State) (r : Nat) : Bool :=
  let g := s.regionOf r
  (rectClusters g.x0 g.y0 g.width g.height).any (fun k =>
    let st := (s.fieldOf (k / 16)).state
    st == .dark || st == .retired || st == .off)

/-- The lane record of a core of a region: its step-start copy, or its own state where no step has begun (DEDUCED, log
entry 41). -/
def State.coreRecord (s : State) (x r c : Nat) : LaneRec :=
  match tget none (s.coreOf c).stepCopies x with
  | some l => l
  | none => s.laneRecord c { s.coreOf c with region := Fin.ofNat 256 r }

def State.regionLanes (s : State) (x r : Nat) : List LaneRec :=
  if s.lostRegion r then [] else (s.coreOrder r).map (fun c => s.coreRecord x r c)

/-- Streams of a region that have not ended. -/
def State.openStreamsOf (s : State) (x : CtxId) (r : Nat) : Nat :=
  s.clusters.foldl (fun n e => n + (e.2.streams.filter (fun v => match v.2.stream with
    | some m => m.ctx == x && m.region.val == r && m.ended.isNone
    | none => false)).length) 0

/-- The region entries, and the number of lane records before each. -/
def State.regionEntries (s : State) (x : CtxId) : List Nat → Nat → List RegionEntry
  | [], _ => []
  | r :: rs, first =>
    let n := (s.regionLanes x.val r).length
    { status := s.regionStatus r, progress := s.regionProgress r, laneFirst := BitVec.ofNat 32 first,
      laneCount := BitVec.ofNat 32 n, openStreams := satAdd16 0 (s.openStreamsOf x r) } ::
      s.regionEntries x rs (first + n)

/-- A SUSPECT core lies under a region of the context. -/
def State.suspectUnder (s : State) (x : CtxId) : Bool :=
  s.phys.any (fun e => e.2.health == .suspect && (match s.serves e.1 with
    | some c => (s.regionAt x.val (c / 32)).isSome
    | none => false))

/-- R57: the step shows as open in the record of HOLD while the fault of a core that aborted it is being handled. -/
def State.recordOpen (s : State) (x : CtxId) (hold : Bool) : Bool :=
  (s.ctxOf x.val).isOpen || (hold && (s.ctxOf x.val).marks.aborted && s.suspectUnder x)

/-- The context record of a context. -/
def State.ctxRecord (s : State) (x : CtxId) (hold : Bool) : CtxRecord :=
  let c := s.ctxOf x.val
  { serial := Config.serial, time := s.time, ctx := BitVec.ofNat 8 x.val, hold := hold, serving := c.serving,
    sumFp32 := c.sumFp32, stepOpen := s.recordOpen x hold, job := c.job, step := c.step, version := c.version,
    wslot := c.wslot.setWidth 32, aTag := c.slotA.tag, bTag := c.slotB.tag, batch := c.batch,
    ledger := c.stepHigh.setWidth 32, regions := s.regionEntries x (s.regionsOf x.val) 0,
    lanes := (s.regionsOf x.val).flatMap (s.regionLanes x.val) }

/-- LENGTH. -/
def ctxRecordLen (r : CtxRecord) : Nat := 84 + 32 * r.regions.length + recordLen * r.lanes.length

/-! ## CTX_SAVE (R378) -/

def ctxSaveRow : CmdRow := { opcode := 0x03, admin := false, ctx := .names, states := [.ready, .run, .drain] }

/-- A buffer that is too small completes with the length needed. -/
def execCtxSave (h : Hdr) (a : BufArgs) (s : State) : Result :=
  s.hostCommand h ctxSaveRow (fun s =>
    let r := s.ctxRecord (namedCtx h) false
    let n := ctxRecordLen r
    CmdEnd.checked s [check (a.source != 0) stBAD_ARG 0]
      (if a.len.toNat < n then .done s stBAD_ARG 16 [w64 n]
       else .ok { s with hostOut := s.hostOut ++ [.record a.addr r] }))

/-! ## CTX_RESTORE (R133, R378, R450, R453) -/

/-- The newest half of the HOLD area. -/
def HoldArea.newest (a : HoldArea) : HoldHalf := if a.newest1 then a.half1 else a.half0

/-- R450: the record that SOURCE 1 reads: that of the context's number in the newest verified half. -/
def State.holdRecord (s : State) (x : CtxId) : Option CtxRecord :=
  let half := s.holdArea.newest
  if s.holdArea.recordOk && half.verified && half.committed then
    half.records.find? (fun r => r.ctx.toNat == x.val)
  else none

/-- Old lane g of the saved records of a region. -/
def savedLane (old : List LaneRec) (g : Nat) : LaneState :=
  match old[g / 64]? with
  | some r => r.lanes[g % 64]'(Nat.mod_lt _ (by decide))
  | none => {}

/-- R133: the restored record of the core at position q, of n cores. DESIGN CHOICE, log entry 42: a core beyond the saved
ones takes the seed, stream identifier and IB of the last saved record. -/
def restoredRec (old : List LaneRec) (first : LaneRec) (remap : Bool) (n q : Nat) : LaneRec :=
  let mine := (old[q]?).getD ((old.getLast?).getD first)
  if old.length = n then mine
  else
    let fresh := seedLanes mine.seed mine.sid q
    let lanes := if remap then
        Vector.ofFn (fun l : Fin 64 =>
          if 64 * q + l.val < 64 * old.length then savedLane old (64 * q + l.val) else fresh[l])
      else fresh
    { mine with laneBase := BitVec.ofNat 32 (64 * q), laneCount := BitVec.ofNat 32 (64 * n), lanes := lanes }

/-- R133, R453: the lane records of one region entry are applied; one without records is seeded afresh, with a
NOTICE. -/
def State.restoreRegion (s : State) (x r : Nat) (old : List LaneRec) (remap : Bool) : State :=
  let order := s.coreOrder r
  match old with
  | [] =>
    (s.each order (fun s c => s.modCore c (fun k => { k with restored := none }))).raise .notice 453 0 (srcRegion r)
      (some x) [w64 r]
  | first :: _ =>
    s.each order.zipIdx (fun s e =>
      let rec_ := restoredRec old first remap order.length e.2
      s.modCore e.1 (fun k => { k with
        seed := rec_.seed, sid := rec_.sid, indexBase := rec_.indexBase, restored := some rec_ }))

/-- The lane records of each entry, with the region it is applied to: entries carry no region number, so entry i
is taken for the context's region i in increasing number (DEDUCED, log entry 42). -/
def State.restorePlan (s : State) (x : Nat) (r : CtxRecord) : List (Nat × List LaneRec) :=
  (s.regionsOf x).zip (r.regions.map (fun e => (r.lanes.drop e.laneFirst.toNat).take e.laneCount.toNat))

/-- R253: the sequencer's saved state, HANDED and DONE_TILES are reported and not resumed: the sequencer is IDLE. DEDUCED,
log entry 42. -/
def Region.restore (g : Region) (e : RegionEntry) : Region :=
  { g with seq := .idle, shown := some (SeqState.ofCode (e.status.toNat / 8 % 8)), handed := e.progress.setWidth 32,
           doneTiles := (e.progress >>> 32).setWidth 32, outstanding := [], leases := [] }

/-- R453: the rest of a record. -/
def Ctx.restore (c : Ctx) (r : CtxRecord) : Ctx :=
  let keep := fun (i : Nat) => !r.serving && r.wslot.getLsbD i
  let c := { c with
    activeB := r.wslot.getLsbD 0,
    slotA := { tag := r.aTag, valid := keep 1 }, slotB := { tag := r.bTag, valid := keep 2 },
    step := r.step, version := r.version, batch := r.batch, stepRecorded := true, freshStep := true }
  if r.stepOpen then { c with lastOutcome := 5, lastOutcomeStep := r.step } else c

def ctxRestoreRow : CmdRow := { opcode := 0x04, admin := false, ctx := .names, states := groupW }

/-- R453: a record that has been read is checked and applied. -/
def State.restoreCtx (s : State) (h : Hdr) (r : CtxRecord) : CmdEnd :=
  let x := namedCtx h
  let plan := s.restorePlan x.val r
  let mapped := fun (g : Nat) => (s.regionOf g).state == .mapped || (s.regionOf g).state == .loaded
  CmdEnd.checked s [
    check (!r.crcOk) stBAD_ARG,
    check (r.job != h.job) stBAD_ARG,
    check (r.regions.length != (s.regionsOf x.val).length || !(s.regionsOf x.val).all mapped) stNOT_READY,
    check (plan.any (fun e => !e.2.isEmpty && e.2.length != (s.coreOrder e.1).length) && h.opt &&& 3 == 0)
      stGEOMETRY]
    (let s := s.each plan (fun s e => s.restoreRegion x.val e.1 e.2 (h.opt.getLsbD 1))
     let s := s.each ((s.regionsOf x.val).zip r.regions) (fun s e => s.modRegion e.1 (fun g => g.restore e.2))
     .ok (s.modCtx x.val (fun c => c.restore r)))

/-- SOURCE 0 reads the record `rec` from the host buffer; a buffer that gives none is BAD_ARG. -/
def execCtxRestore (h : Hdr) (a : BufArgs) (rec : Option CtxRecord) (s : State) : Result :=
  s.hostCommand h ctxRestoreRow (fun s =>
    CmdEnd.checked s [
      check (decide (1 < a.source.toNat)) stBAD_ARG 0,
      check (a.source == 1 && a.addr != 0) stBAD_ARG 8,
      check (h.opt &&& 3 == 3) stBAD_ARG]
      (if a.source = 1 then
        match s.holdRecord (namedCtx h) with
        | some r => s.restoreCtx h r
        | none => .fails s (stNOT_READY, noDetail)
       else
        match rec with
        | none => .fails s (stBAD_ARG, 8)
        | some r => if a.len.toNat < ctxRecordLen r then .fails s (stBAD_ARG, 16) else s.restoreCtx h r))

end Sys2Proof.Machine
end

