-- ==== Sys2Proof/Machine/Power.lean ====
section
/-! DEFINITION. Supply: converters and caps, the power governor, the warning and HOLD, and the readings (R437, R444 to
R454, R462). -/

set_option linter.unusedVariables false

namespace Sys2Proof.Machine

open Sys2Proof

/-! ## Caps and converters (R445) -/

/-- Sustained and peak cap in W for k working converters. -/
def sustainedCap (k : Nat) : Nat := if 7 ≤ k then 24000 else if k = 6 then 20000 else 4000 * k - 4000
def peakCap (k : Nat) : Nat := if 7 ≤ k then 26000 else if k = 6 then 22000 else 4000 * k - 2000

def execConverterFailure (s : State) : Result :=
  let k := s.power.convOk.toNat
  if s.mode = .off ∨ k = 0 then .next s
  else .next (({ s with power := { s.power with convOk := BitVec.ofNat 4 (k - 1) } }).raise .alarm 445 0 srcModule none
    [w64 (k - 1)])

def execConverterReturn (s : State) : Result :=
  let k := s.power.convOk.toNat
  if s.mode = .off ∨ 8 ≤ k then .next s else .next { s with power := { s.power with convOk := BitVec.ofNat 4 (k + 1) } }

/-! ## The governor (R446) -/

/-- The power step rises by n, up to 15; a rise counts in CAP_EVENTS. -/
def Power.rise (p : Power) (n : Nat) : Power :=
  { p with pwrStep := BitVec.ofNat 4 (Nat.min 15 (p.pwrStep.toNat + n)), capEvents := satAdd16 p.capEvents 1 }

/-- R446, R462: it falls by 1, and not below the step that a coolant reading holds. -/
def Power.fall (p : Power) : Power :=
  { p with pwrStep := BitVec.ofNat 4 (Nat.max (if p.hold4 then 4 else 0) (p.pwrStep.toNat - 1)) }

/-- The time since a mark has reached d, or there is no mark. -/
def elapsed (now : W64) (mark : Option W64) (d : Nat) : Bool :=
  match mark with
  | none => false
  | some t => decide (d ≤ (now - t).toNat)

/-- Point 1: a 10 µs value beyond the peak cap. -/
def Power.onPeak (p : Power) : Power := if peakCap p.convOk.toNat < p.inputW.toNat then p.rise 2 else p

/-- Point 2: every 1 ms for which the average has exceeded the sustained cap. -/
def Power.onAverage (p : Power) (now : W64) : Power :=
  if sustainedCap p.convOk.toNat < p.averageW.toNat then
    match p.overSince with
    | none => { p with overSince := some now, lastRise := some now }
    | some _ => if elapsed now p.lastRise (ms 1) then { p.rise 1 with lastRise := some now } else p
  else { p with overSince := none, lastRise := none }

/-- Point 3: every 10 ms for which the average has stayed below 95 % of the sustained cap. -/
def Power.onSlack (p : Power) (now : W64) : Power :=
  if 100 * p.averageW.toNat < 95 * sustainedCap p.convOk.toNat then
    match p.underSince with
    | none => { p with underSince := some now }
    | some _ => if elapsed now p.underSince (ms 10) then { p.fall with underSince := some now } else p
  else { p with underSince := none }

/-- When every field has reached step 15. -/
def Power.onMax (p : Power) (now : W64) : Power :=
  { p with allMaxSince := if p.pwrStep.toNat = 15 then some (p.allMaxSince.getD now) else none }

/-- The last resort: an ALARM, and the hottest field goes DARK every 10 ms, until the average falls below the
cap. -/
def State.shed (s : State) : State :=
  let p := s.power
  let still := p.overSince.isSome && elapsed s.time p.allMaxSince (ms 1000)
  if !still then { s with power := { p with lastShed := none } }
  else if p.lastShed.isSome && !elapsed s.time p.lastShed (ms 10) then s
  else
    let s := { s with power := { p with lastShed := some s.time } }
    let s := if p.lastShed.isNone then s.raise .alarm 446 0 srcModule none [] else s
    match ((List.range 100).filter (fun f => fieldServes (s.fieldOf f))) with
    | [] => s
    | f :: r =>
      s.goDark (r.foldl (fun b g => if (s.fieldOf b).temp.toInt < (s.fieldOf g).temp.toInt then g else b) f) {}

def execPowerSample (r : PowerReading) (s : State) : Result :=
  if s.mode = .off ∨ s.mode = .hold then .next s
  else
    let p := { s.power with inputW := r.inputW, averageW := r.averageW }
    let p := ((p.onPeak.onAverage s.time).onSlack s.time).onMax s.time
    .next ({ s with power := p } : State).shed

/-! ## The warning (R448, R454) -/

/-- What is in the Hamper is lost. -/
def State.loseHamper (s : State) : State :=
  { s with hamperUp := false, tiles := tmap {} (fun _ t => match t.home with
      | .hamper _ _ => { t with bytes := [], homePoisoned := true }
      | _ => t) s.tiles }

/-- A filtered falling edge of PF_WARN_N. -/
def State.enterHold (s : State) : State :=
  if s.mode = .off ∨ s.mode = .hold then s
  else
    let s := ((s.threadPass (mmpNode s.mgmt.standbyServes) everyFc .hold).downAll.loseHamper).pressBump 6 1
    { s with
      mode := .hold, resumeMode := s.mode, pfWarnLow := true, pfSeen := true, mesh := [],
      fields := tmap {} (fun _ v => { v with arithGated := true, slice := none }) s.fields,
      press := { s.press with install := none, paused := true },
      darn := { s.darn with window := none, planner := .idle },
      holdArea := { s.holdArea with warnTime := s.time } }

def execPfWarn (s : State) : Result := .next s.enterHold

/-- R449: treated as PF_WARN_N, with an ALARM. -/
def execSupplyOutOfRange (kind : SupplyFault) (s : State) : Result :=
  if s.mode = .off ∨ s.mode = .hold then .next s
  else
    let code := match kind with
      | .j1Low => 0
      | .j1High => 1
      | .bus48 => 2
    .next ((s.raise .alarm 449 code srcModule none [w64 code]).enterHold)

/-! ## A module reset and OFF (R437) -/

/-- What the Press, the fuses and the pointers keep; the key pair of the working space is made anew (R205). -/
def Mgmt.kept (m : Mgmt) : Mgmt :=
  { bootB := m.bootB, trialPointer := m.trialPointer, slotA := m.slotA, slotB := m.slotB, gloved := m.gloved,
    zeroise := m.zeroise, keyPairs := m.keyPairs + 1, workPair := m.keyPairs, rollback := m.rollback, lmsSteps := m.lmsSteps, tackSteps := m.tackSteps,
    hssNext := m.hssHigh, hssHigh := m.hssHigh, authorities := m.authorities,
    keyEncryptionKey := m.keyEncryptionKey, bringups := m.bringups, snapshotTime := m.snapshotTime, scores := m.scores }

/-- R440, R277: an installation under way stops; the image slots and the blocks stay. -/
def Press.kept (p : Press) : Press :=
  { slots := tmap {} (fun _ i => { i with charged := none }) p.slots, blocks := p.blocks, map := p.map,
    reserveRetired := p.reserveRetired, lowNoticed := p.lowNoticed }

/-- R503: the copies of the rings. -/
def keptRings (rs : Table Ring) : Table Ring := rs.foldl (fun t e => tput {} t e.1 { previous := e.2.previous }) []

/-- Firmware caught in WRITE stays INCOMPLETE, and so does what was STAGED under a trial (R406, R440). -/
def State.afterReset (s : State) (m : ModState) : State :=
  { pending := s.pending, fresh := s.fresh, mode := m, resetLow := s.resetLow, pfWarnLow := s.pfWarnLow,
    press := s.press.kept, holdArea := s.holdArea, mgmt := s.mgmt.kept,
    darn := { patch := s.darn.patch, fuses := s.darn.fuses },
    tack := { en := s.tack.en, nonces := s.tack.nonces, uart := s.tack.uart },
    hostOut := s.hostOut, rings := keptRings s.rings }

/-! ## HOLD (R450 to R452) -/

/-- R450: the records go into the erased half. -/
def HoldArea.commit (a : HoldArea) (records : List CtxRecord) (was : ModState) (now : W64) : HoldArea :=
  let no := a.holdNo + 1
  let half : HoldHalf := { erased := false, holdNo := no, time := a.warnTime, state := BitVec.ofNat 8 was.code,
                           committed := true, records := records }
  { a with
    half0 := if a.newest1 then half else a.half0, half1 := if a.newest1 then a.half1 else half,
    holdNo := no, freeErased := false,
    writeTime := BitVec.ofNat 16 (Nat.min ((now - a.warnTime).toNat / 100000) 0xFFFF) }

/-- The existing contexts, in increasing number. -/
def State.liveCtxs (s : State) : List CtxId := (List.finRange 8).filter (fun x => (s.ctxOf x.val).live)

/-- R451: a HOLD with no context writes nothing. -/
def State.writeHold (s : State) : State :=
  match s.liveCtxs with
  | [] => s
  | xs => { s with holdArea := s.holdArea.commit (xs.map (fun x => s.ctxRecord x true)) s.resumeMode s.time }

/-- The commit word is written, the regulators and converters stop, and the module is OFF. -/
def execHoldCommit (s : State) : Result :=
  if s.mode = .hold then .next (s.writeHold.afterReset .off) else .next s

/-! ## Readings (R462) -/

/-- A J1 reading for which the NOTICE is raised; R449 covers the rest. -/
def j1High (v : W16) : Bool := decide (4100 < v.toNat) && decide (v.toNat ≤ 4200)

/-- A coolant inlet for which the NOTICE is raised, and readings that hold the power step at 4. -/
def inletOdd (t : W16) : Bool := decide (t.toInt < 150) || (decide (450 < t.toInt) && decide (t.toInt ≤ 500))
def inletHot (t : W16) : Bool := decide (500 < t.toInt)
def riseHigh (tin tout : W16) : Bool := decide (150 < tout.toInt - tin.toInt)

/-- The readings outside their range, each with its event: J1 high, inlet, inlet hot, rise. -/
def SupplyReading_odd (r : SupplyReading) : List Bool :=
  [j1High r.j1, inletOdd r.coolantIn, inletHot r.coolantIn, riseHigh r.coolantIn r.coolantOut]

/-- A NOTICE or ALARM is raised when a reading leaves its range. -/
def State.noteReadings (s : State) (odd : List Bool) (d : List W64) : State :=
  let was := s.power.excursions
  let s := s.each odd.zipIdx (fun s e =>
    if e.1 && !was.getLsbD e.2 then s.raise (if e.2 < 2 then .notice else .alarm) 462 e.2 srcModule none d else s)
  { s with power := { s.power with
      excursions := odd.zipIdx.foldl (fun m e => if e.1 then m ||| BitVec.twoPow 4 e.2 else m) 0 } }

def execReadingCheck (r : SupplyReading) (s : State) : Result :=
  if s.mode = .off ∨ s.mode = .hold then .next s
  else
    let p := s.power
    let hold := inletHot r.coolantIn || riseHigh r.coolantIn r.coolantOut
    let s : State := { s with power := { p with
      inputV := r.j1, bus48 := r.bus48, coolantIn := r.coolantIn, coolantOut := r.coolantOut, hold4 := hold,
      pwrStep := if hold then BitVec.ofNat 4 (Nat.max 4 p.pwrStep.toNat) else p.pwrStep } }
    .next (s.noteReadings (SupplyReading_odd r)
      [r.j1.setWidth 64, r.coolantIn.setWidth 64, r.coolantOut.setWidth 64])

end Sys2Proof.Machine
end

