-- ==== Sys2Proof/Machine/Sync.lean ====
section
/-! DEFINITION. Sync instructions (R77, R84, R186, R187): MAJOR 0x30 to 0x33. -/

set_option linter.unusedVariables false

namespace Sys2Proof.Machine

open Sys2Proof

def groupOf (a : CoreArgs) : Nat := a.imm.toNat % 1024

/-- R77: a release issues once every earlier instruction has completed and every earlier writing stream
of the core has ended. -/
def State.released (s : State) (c : CoreId) (k : Core) : Bool :=
  k.settled && !s.openStreams c StreamDesc.writes

def execPegpost (c : CoreId) (a : CoreArgs) (s : State) : Result :=
  .next (issue 0x30 0 { imm := true } true c a s (fun s k x =>
    if s.released c k then .done (s.postPeg (groupOf a) x.val (c.val / 32) false false) else .hold s))

/-- R187: a wait on a group completes only for a configured group of the context with the core in
scope. -/
def State.mayWait (s : State) (c : CoreId) (x : CtxId) (g : Nat) : Bool :=
  let p := s.pegOf g
  p.configured && p.ctx == x && s.pegScope g (c.val / 32)

def execPegwait (c : CoreId) (a : CoreArgs) (s : State) : Result :=
  .next (issue 0x31 0 { rd := true, imm := true } true c a s (fun s k x =>
    let g := groupOf a
    let seen := tget 0 k.observed g
    if s.mayWait c x g && precedes seen (s.pegOf g).completed then
      .core s c ({ k with observed := tput 0 k.observed g (seen + 1) }.setS a.rd ((seen + 1).setWidth 64))
    else .stall (BitVec.ofNat 16 g) s))

def execPegtest (c : CoreId) (a : CoreArgs) (s : State) : Result :=
  .next (issue 0x32 0 { rd := true, ra := true, imm := true } true c a s (fun s k x =>
    let g := groupOf a
    .core s c (k.setS a.rd (boolW (s.mayWait c x g &&
      precedes ((k.sreg a.ra).setWidth 32) (s.pegOf g).completed)))))

def execFence (c : CoreId) (a : CoreArgs) (s : State) : Result :=
  .next (issue 0x33 0 {} true c a s (fun s k x =>
    if k.settled && !s.openStreams c (fun _ => true) then .done s else .stall 0 s))

end Sys2Proof.Machine
end

