-- ==== Sys2Proof/Machine/Control.lean ====
section
/-! DEFINITION. Control instructions (R80, R86, R88, R243, R249, R252): MAJOR 0x3C to 0x3F. -/

set_option linter.unusedVariables false

namespace Sys2Proof.Machine

open Sys2Proof

/-- The tiles of the stage in this step; none while the CUT stream that fixes the count runs (R245,
R248). -/
def Region.tileTotal (g : Region) : Option W32 :=
  if g.stage.tileCount = 0 then g.cutCount else some g.stage.tileCount

/-- R249: the last tile of the step has been handed. -/
def Region.allHanded (g : Region) : Bool :=
  match g.tileTotal with
  | some n => decide (n.toNat ≤ g.handed.toNat)
  | none => false

def Region.allDone (g : Region) : Bool :=
  match g.tileTotal with
  | some n => decide (n.toNat ≤ g.doneTiles.toNat)
  | none => false

/-- R80, R249: TILENEXT gives the end value, or waits for TILE_HAND. -/
def execTilenext (c : CoreId) (a : CoreArgs) (s : State) : Result :=
  .next (issue 0x3C 0 { rd := true } true c a s (fun s k x =>
    if (s.regionOf k.region.val).allHanded then .core s c (k.setS a.rd allOnes64)
    else
      .stall 0 (s.modCluster (c.val / 32) (fun q =>
        let i := tget {} q.seqs x.val
        if i.waiters.contains c then q
        else { q with seqs := tput {} q.seqs x.val { i with waiters := i.waiters ++ [c] } }))))

/-- R249: the sequencer's own abort, with its FAULT. -/
def State.sequencerFault (s : State) (c : CoreId) (x : CtxId) (r tile : Nat) : State :=
  (s.raise .fault 249 0 (srcRegion r) (some x.val) [w64 r, w64 c.val, w64 tile]).abortContext x
    (bytesLE 4 r ++ bytesLE 4 c.val)

/-- R252: the last TILEDONE of the step has come: DONE, and DONE_PEG. -/
def State.stageDone (s : State) (x : CtxId) (r : Nat) : State :=
  let g := s.regionOf r
  if g.seq = .draining ∧ g.allDone = true then
    let s := s.putRegion r { g with seq := .done }
    let s :=
      if g.stage.donePeg.getLsbD 15 then
        s.postPeg (g.stage.donePeg.toNat % 1024) x.val ((s.clusterOrder r).headD 0) true false
      else s
    s.closeBatch x
  else s

/-- R249, R252, R253: a TILEDONE that reaches the sequencer. In ARMED, that of a run of an earlier step, behind which the new
run still waits on its core (R251), is discarded. -/
def State.tileDone (s : State) (c : CoreId) (x : CtxId) (r : Nat) (tile : W64) : State :=
  let g := s.regionOf r
  let t : W32 := tile.setWidth 32
  if g.seq = .idle ∨ g.seq = .aborted ∨ (g.seq = .armed ∧ (s.coreOf c.val).queue.contains x = true) then s
  else if tile = t.setWidth 64 ∧ g.outstanding.contains (t, c) = true then
    let s := s.putRegion r
      { g with outstanding := g.outstanding.erase (t, c), finished := g.finished ++ [t],
               doneTiles := g.doneTiles + 1 }
    (s.regionBump r 0 1).stageDone x r
  else s.sequencerFault c x r tile.toNat

def execTiledone (c : CoreId) (a : CoreArgs) (s : State) : Result :=
  .next (issue 0x3C 1 { ra := true } true c a s (fun s k x =>
    if s.released c k then .done (s.tileDone c x k.region.val (k.sreg a.ra)) else .hold s))

def execNop (c : CoreId) (a : CoreArgs) (s : State) : Result :=
  .next (issue 0x3D 0 {} true c a s (fun s k x => .done s))

/-- WAITC: its cycles are timing. -/
def execWaitc (c : CoreId) (a : CoreArgs) (s : State) : Result :=
  .next (issue 0x3D 1 { imm := true } true c a s (fun s k x => .done s))

/-- R88: XRET resumes `skip` instructions after the one that raised. -/
def xret (minor : BitVec 5) (skip : Nat) (c : CoreId) (a : CoreArgs) (s : State) : Result :=
  .next (issue 0x3E minor {} true c a s (fun s k x =>
    if k.inHandler then .jump (k.xpc.toNat + skip) (s.putCore c.val { k with inHandler := false })
    else .raise xILLEGAL (assemble 0x3E minor a)))

def execXretRetrying (c : CoreId) (a : CoreArgs) (s : State) : Result := xret 0 0 c a s
def execXretSkipping (c : CoreId) (a : CoreArgs) (s : State) : Result := xret 1 1 c a s

def execBrk (c : CoreId) (a : CoreArgs) (s : State) : Result :=
  .next (issue 0x3E 2 { imm := true } true c a s (fun s k x => .raise xBREAK (a.imm.setWidth 64)))

/-- R80, R243, R249, R251: END. A program that starts on the core next starts at PC 0, of the same context too. -/
def execEndProgram (c : CoreId) (a : CoreArgs) (s : State) : Result :=
  .next (issue 0x3F 0 {} true c a s (fun s k x =>
    if !k.settled then .hold s
    else
      match (s.regionOf k.region.val).outstanding.find? (fun e => e.2 == c) with
      | some e => .done (s.sequencerFault c x k.region.val e.1.toNat)
      | none =>
        .jump 0 ((s.putCore c.val { k with running := none, waiting := none, inHandler := false }).startNext
          c.val x.val)))

end Sys2Proof.Machine
end

