-- ==== Sys2Proof/Machine/Sampler.lean ====
section
/-! DEFINITION. The token sampler (R79, R134 to R139): MAJOR 0x38 to 0x3A and its events. -/

set_option linter.unusedVariables false

namespace Sys2Proof.Machine

open Sys2Proof

/-! ## The two paths (R136, R137) -/

/-- z ÷ T in FP32 with one rounding. -/
def div32 (z t : W32) : W32 :=
  match fp32Val z, fp32Val t with
  | .fin a m e, .fin b n f => if n = 0 then canonNan else roundQuot (a != b) m n (e - f)
  | .fin a _ _, .inf b => withSign (a != b) 0
  | _, _ => canonNan

/-- x is ranked before y: a larger value, or the lower entry on a tie. -/
def ranksBefore (x y : Nat × W32) : Bool :=
  (cmpLt32 y.2 x.2).1 || (!(cmpLt32 x.2 y.2).1 && decide (x.1 < y.1))

def rankInsert (x : Nat × W32) : List (Nat × W32) → List (Nat × W32)
  | [] => [x]
  | y :: r => if ranksBefore x y then x :: y :: r else y :: rankInsert x r

def ranked (l : List (Nat × W32)) : List (Nat × W32) := l.foldl (fun r x => rankInsert x r) []

/-- FP32 value of D[31:8]·2^−24, which is exact. -/
def unitDraw (d : W32) : W32 := (roundFp32 (.fin false (d.toNat / 256) (-24))).1

/-- The cumulative sums in rank order. -/
def cumulative : W32 → List W32 → List W32
  | _, [] => []
  | acc, w :: r =>
    let s := (add32 acc w).1
    s :: cumulative s r

/-- R136: the candidates in rank order, with their values y. -/
def Sampler.ranking (p : Sampler) (scores : List (Nat × W32)) : List (Nat × W32) :=
  (ranked (scores.map (fun s => (s.1, div32 s.2 p.temperature)))).take (if p.topK = 0 then 1024 else p.topK)

/-- The weight of each candidate. -/
def candidateWeights : List (Nat × W32) → List W32
  | [] => []
  | top :: r => (top :: r).map (fun y => (exp32 (sub32 y.2 top.2).1).1)

/-- The cut-off n, counted from 0, from the cumulative sums. -/
def Sampler.cutOff (p : Sampler) (sums : List W32) : Nat :=
  if p.topP = 0x3F800000 then sums.length - 1
  else (sums.findIdx? (fun x => (cmpLe32 (mul32 p.topP (sums.getLastD 0)).1 x).1)).getD (sums.length - 1)

/-- With temperature 0 the token is the entry of largest score. -/
def Sampler.isCold (p : Sampler) : Bool :=
  fp32Val p.temperature == .fin false 0 (-149) || fp32Val p.temperature == .fin true 0 (-149)

/-- R136: the token of the main path from the finite scores. -/
def Sampler.mainToken (p : Sampler) (seq : W16) (pos : W32) (scores : List (Nat × W32)) : Option Nat :=
  if p.isCold then ((ranked scores).head?).map (·.1)
  else
    let ys := p.ranking scores
    let sums := cumulative 0 (candidateWeights ys)
    let n := p.cutOff sums
    let y0 := (blockDraws p.seed p.sid 0x05 (seq.setWidth 56) (w64 (pos.toNat * 2 ^ 20))).1
    let r := (mul32 (unitDraw y0) (sums.getD n 0)).1
    let j := ((sums.take (n + 1)).findIdx? (fun x => (cmpLt32 r x).1)).getD n
    (ys[j]?).map (·.1)

/-- R137: the token of the fallback path. -/
def Sampler.fallbackToken (p : Sampler) (seq : W16) (pos : W32) (scores : List (Nat × W32)) : Option Nat :=
  if p.isCold then ((ranked scores).head?).map (·.1)
  else
    ((ranked (scores.map (fun s =>
      let y0 := (blockDraws p.seed p.sid 0x06 (seq.setWidth 56) (w64 (pos.toNat * 2 ^ 20 + s.1))).1
      (s.1, (add32 (div32 s.2 p.temperature) (gumbel y0)).1)))).head?).map (·.1)

/-- R138: the path in use. -/
def Sampler.onFallback (p : Sampler) : Bool := p.fallback || !p.mainOk

/-- The word SMPDRAW writes (R139). -/
def tokenWord (token : Nat) (fallback nonFinite : Bool) : W64 :=
  w64 (token % 2 ^ 20 + (if fallback then 2 ^ 20 else 0) + (if nonFinite then 2 ^ 21 else 0))

/-- R137 to R139: the word of a closed sequence. A token in flight when the main path was lost completes on the fallback
(R138). -/
def Sampler.draw (p : Sampler) (d : Draw) : W64 :=
  let fb := p.onFallback || d.body.lost
  match (if fb then p.fallbackToken d.seq d.pos d.body.scores
         else p.mainToken d.seq d.pos d.body.scores) with
  | some t => tokenWord t fb d.body.nonFinite
  | none => allOnes64

/-! ## Instructions -/

/-- The cluster of a region's sampler, where it has one (R241). -/
def State.samplerCluster (s : State) (r : Nat) : Option Nat :=
  let g := s.regionOf r
  if g.sampler.getLsbD 15 then (s.clusterOrder r)[g.sampler.toNat % 2048]? else none

def State.modSampler (s : State) (k : Nat) (f : Sampler → Sampler) : State :=
  s.modCluster k (fun c => { c with sampler := f c.sampler })

/-- R79: the number of the first failing condition of SMPCFG. -/
def cfgFault (t : W32) (topK : Nat) (p : W32) : Option Nat :=
  let v := fp32Val t
  if v.isNan || v.lt false (.fin false 0 0) then some 1
  else if 1024 < topK then some 2
  else if !(fp32Val p).isNan && (FVal.fin false 0 0).lt false (fp32Val p) &&
      !(FVal.fin false 1 0).lt false (fp32Val p) then none
  else some 3

/-- SMPCFG: a sequence opens at its first SMPFEED after it, so the open ones end. DEDUCED, log entry 21. -/
def execSmpcfg (c : CoreId) (a : CoreArgs) (s : State) : Result :=
  .next (issue 0x38 0 { ra := true, rb := true, var := true, imm := true } (a.var.toNat < 2) c a s
    (fun s k x =>
      let t : W32 := (k.sreg a.ra).setWidth 32
      let topK := (k.sreg a.rb).toNat % 2048
      match cfgFault t topK a.imm with
      | some n => .raise xSAMPLER (w64 n)
      | none =>
        match s.samplerCluster k.region.val with
        | none => .done s
        | some q =>
          let was := (s.clusterOf q).sampler.onFallback
          let s := s.modSampler q (fun p => { p with
            seed := k.seed, sid := k.sid, temperature := t, topK := topK, topP := a.imm,
            fallback := a.var == 1, seqs := [], configured := true })
          .done (if was = (s.clusterOf q).sampler.onFallback then s
            else s.raise .notice 138 0 (srcCluster q) (some x.val) [])))

/-- The scores of a tile as fed from vocabulary entry `base`: its finite ones and whether any was
not. -/
def Entry.scores (e : Entry) (fresh base : Nat) : List (Nat × W32) :=
  (List.range 4096).map (fun n => (base + n, (e.lane fresh (n / 64) (n % 64)).1))

def SampleSeq.feed (q : SampleSeq) (base : W64) (l : List (Nat × W32)) : SampleSeq :=
  { q with
    fed := q.fed ++ [base]
    scores := q.scores ++ l.filter (fun x => isFinite32 x.2)
    nonFinite := q.nonFinite || l.any (fun x => !isFinite32 x.2) }

/-- DESIGN CHOICE, log entry 21: it works before any SMPCFG, with key and temperature 0; an EMPTY or foreign entry raises
ADDRESS; a POISONED entry is fed like any other. -/
def execSmpfeed (c : CoreId) (a : CoreArgs) (s : State) : Result :=
  .next (issue 0x39 0 { ra := true, rb := true, imm := true } true c a s (reads := fun _ => [a.imm.toNat % 256])
    (fun s k x =>
    let n := a.imm.toNat % 256
    let e := k.entryFor x n
    let base := k.sreg a.ra
    let seq : W16 := (k.sreg a.rb).setWidth 16
    if e.state = .empty then .raise xADDRESS (addressInfo n 0)
    else if e.state = .filling then .stall (BitVec.ofNat 16 n) s
    else if 3 ≤ e.fmt.toNat then .raise xOPERAND (operandInfo n 0 e.fmt.toNat)
    else if base.toNat % 4096 ≠ 0 then .raise xSAMPLER 4
    else if 1048575 < base.toNat + 4095 then .raise xSAMPLER 5
    else
      match s.samplerCluster k.region.val with
      | none => .done s
      | some q =>
        let p := (s.clusterOf q).sampler
        match p.seqs.find? (fun y => y.1 == seq) with
        | some y =>
          if y.2.fed.contains base then
            .done (s.modSampler q (fun p => { p with ignored := p.ignored + 1 }))
          else
            let l := e.scores s.fresh base.toNat
            .done ((if e.short then s.useFrees 8192 else s).modSampler q (fun p => { p with
              nonFinite := p.nonFinite + (l.filter (fun x => !isFinite32 x.2)).length,
              seqs := p.seqs.map (fun z => if z.1 = seq then (z.1, z.2.feed base l) else z) }))
        | none =>
          if 64 ≤ p.seqs.length then .stall (BitVec.ofNat 16 n) s
          else
            let l := e.scores s.fresh base.toNat
            .done ((if e.short then s.useFrees 8192 else s).modSampler q (fun p => { p with
              nonFinite := p.nonFinite + (l.filter (fun x => !isFinite32 x.2)).length,
              seqs := p.seqs ++ [(seq, { ({} : SampleSeq).feed base l with lost := !p.mainOk })] }))))

/-- SMPDRAW closes the sequence and waits. In host-assisted sampling it asks the host (R139). -/
def execSmpdraw (c : CoreId) (a : CoreArgs) (s : State) : Result :=
  .next (issue 0x3A 0 { rd := true, ra := true } true c a s (fun s k x =>
    match s.samplerCluster k.region.val with
    | none => .stall 0 s
    | some q =>
      let p := (s.clusterOf q).sampler
      match p.draws.find? (fun d => d.core == c) with
      | some d =>
        (match d.result with
        | some w =>
          .done ((s.putCore c.val (k.setS a.rd w)).modSampler q (fun p => { p with
            draws := p.draws.filter (fun d => d.core != c) }))
        | none => .stall 0 s)
      | none =>
        let seq : W16 := (k.sreg a.ra).setWidth 16
        let body := ((p.seqs.find? (fun y => y.1 == seq)).map (·.2)).getD {}
        let s := s.modSampler q (fun p => { p with
          seqs := p.seqs.filter (fun y => y.1 != seq),
          draws := p.draws ++ [{ seq := seq, core := c, pos := (k.sreg a.ra >>> 16).setWidth 32,
                                 body := body }] })
        let s :=
          if (s.ctxOf x.val).hostSampling then
            { s with requests := s.requests ++ [{ id := s.nextRequest, kind := .sampling k.region seq }],
                     nextRequest := s.nextRequest + 1 }
          else s
        .stall 0 s))

/-! ## Events -/

/-- The register that a stalled instruction writes (R62). -/
def Waiting.rd (w : Waiting) : BitVec 5 := w.word.extractLsb' 48 5
def Waiting.major (w : Waiting) : Nat := w.word.toNat / 2 ^ 58

/-- A wait for `major` of a core completes with a word for s[RD]. -/
def Core.completeWait (k : Core) (v : W64) : Core :=
  match k.waiting with
  | some w => { k.setS w.rd v with pc := k.pc + 1, waiting := none }
  | none => k

def Core.waitsIn (k : Core) (major : Nat) : Bool :=
  match k.waiting with
  | some w => w.major == major
  | none => false

/-- A token for a closed sequence of a sampler: it reaches the waiting SMPDRAW, or stays until one
asks for it. -/
def State.giveToken (s : State) (q : Nat) (seq : W16) (word : Sampler → Draw → W64) : State :=
  let p := (s.clusterOf q).sampler
  match p.draws.find? (fun d => d.seq == seq && d.result.isNone) with
  | none => s
  | some d =>
    let w := word p d
    if (s.coreOf d.core.val).waitsIn 0x3A then
      (s.modSampler q (fun p => { p with draws := p.draws.filter (fun e => e != d) })).modCore d.core.val
        (fun k => k.completeWait w)
    else
      s.modSampler q (fun p => { p with
        draws := p.draws.map (fun e => if e = d then { e with result := some w } else e) })

/-- R139: the token of a sequence is ready. -/
def execSamplerTokenReady (r : RegionId) (seq : W16) (s : State) : Result :=
  let g := s.regionOf r.val
  match s.samplerCluster r.val with
  | some q =>
    if s.mode.works && !(s.ctxOf g.ctx.val).hostSampling then
      .next (s.giveToken q seq Sampler.draw)
    else .next s
  | none => .next s

/-- R138: the main path is lost or returns. Tokens in flight at a loss, from their first SMPFEED on, complete on the
fallback (DEDUCED, log entry 21). -/
def Sampler.setMain (p : Sampler) (ok : Bool) : Sampler :=
  if ok then { p with mainOk := true }
  else { p with
    mainOk := false
    seqs := p.seqs.map (fun y => (y.1, { y.2 with lost := true }))
    draws := p.draws.map (fun d => { d with body := { d.body with lost := true } }) }

/-- R138: the main path of a sampler is lost or returns, with the NOTICE of a change of path. -/
def State.setMainPath (s : State) (k : Nat) (ok : Bool) : State :=
  let was := (s.clusterOf k).sampler.onFallback
  let s := s.modSampler k (fun p => p.setMain ok)
  if was = (s.clusterOf k).sampler.onFallback then s
  else s.raise .notice 138 0 (srcCluster k) none []

/-- R138: the samplers of a field after its field test. -/
def State.samplersTested (s : State) (f : Nat) (bad : List (Fin 16)) : State :=
  s.each (List.finRange 16) (fun s c => s.setMainPath (16 * f + c.val) (!bad.contains c))

def execSamplerMemoryError (k : ClusterId) (s : State) : Result :=
  if s.mode.works then .next (s.setMainPath k.val false) else .next s

end Sys2Proof.Machine
end

