-- ==== Sys2Proof/Machine/Darning.lean ====
section
/-! DEFINITION. Self-test slices, Darning in DRAIN and the score snapshot (R43, R56 to R59, R138, R150, R461, R472,
R474, R476 to R482, R484). -/

set_option linter.unusedVariables false

namespace Sys2Proof.Machine

open Sys2Proof

/-! ## When a slice may start (R461, R476, R480, R481) -/

def State.slicesRunning (s : State) : Nat := (s.fields.filter (fun e => e.2.slice.isSome)).length

/-- R461, the state of the field apart. -/
def State.sliceFits (s : State) (f : Nat) : Bool :=
  s.mode.works && decide (s.slicesRunning < 24) && (s.fieldOf f).slice.isNone && s.power.pwrStep == 0 &&
  decide (100 * s.power.averageW.toNat < 95 * sustainedCap s.power.convOk.toNat)

/-- Some context with a region on the cluster has a step or batch open. -/
def State.clusterInStep (s : State) (k : Nat) : Bool :=
  (List.range 8).any (fun x => (s.ctxOf x).isOpen && (s.regionAt x k).isSome)

/-- The window, if any, grants a slice of a kind on a cluster. -/
def State.windowGrants (s : State) (k bit : Nat) : Bool :=
  match s.darn.window with
  | some w => w.args.flags.getLsbD bit && (WindowArgs_clusters w.args).contains k && !w.touched.contains k && !w.ended
  | none => false

/-- A slice of a kind may start on a cluster. A FIELD slice tests a field in TEST (R395, R398, R475). -/
def State.sliceMayStart (s : State) (k : Nat) (kind : SliceKind) : Bool :=
  let v := s.fieldOf (k / 16)
  s.sliceFits (k / 16) &&
  match kind with
  | .spare => v.state == .online && s.spareTests k != []
  | .cluster => v.state == .online && s.windowGrants k 0 && !s.clusterInStep k
  | .field => v.state == .test
  | .scan => v.state == .online && !s.mgmt.gloved && s.windowGrants k 2 && !s.clusterInStep k

/-- R138: while its cluster's slice runs, a sampler is on the fallback. -/
def State.startSlice (s : State) (k : Nat) (kind : SliceKind) (inWindow : Bool) : State :=
  let s := s.modField (k / 16) (fun v => { v.noted k kind with
    slice := some { kind := kind, ci := Fin.ofNat 16 k, inWindow := inWindow } })
  match kind with
  | .cluster => s.setMainPath k false
  | .field => s.samplersTested (k / 16) (List.finRange 16)
  | _ => s

/-- DEDUCED, log entry 70. -/
def execSliceStart (k : ClusterId) (kind : SliceKind) (s : State) : Result :=
  if s.sliceMayStart k.val kind then
    .next (s.startSlice k.val kind (kind == .cluster || kind == .scan))
  else .next s

/-- R480: the clusters of a field with a SPARE core, the next one first. -/
def State.nextSpare (s : State) (f : Nat) : Option Nat :=
  ((List.range 16).map (fun i => ((s.fieldOf f).spareNext + i) % 16)).find? (fun ci => s.spareTests (16 * f + ci) != [])

/-- R480: clusters whose spares have gone 24 hours without a passing slice, and that no NOTICE has named since. -/
def State.spareNotices (s : State) (f : Nat) : State :=
  let v := s.fieldOf f
  let late := (List.range 16).filter (fun ci =>
    s.sparesOf (16 * f + ci) != [] && !v.spareNoted.getLsbD ci &&
    decide (ms 86400000 ≤ s.since (tget 0 v.sparePassed ci)))
  let s := s.modField f (fun v => { v with
    spareNoted := late.foldl (fun m ci => m ||| BitVec.twoPow 16 ci) v.spareNoted })
  s.each late (fun s ci => s.raise .notice 480 0 (srcCluster (16 * f + ci)) none [w64 (16 * f + ci)])

def execSpareSliceTimer (f : FieldId) (s : State) : Result :=
  if !s.mode.works || !fieldServes (s.fieldOf f.val) then .next s
  else
    let s := s.spareNotices f.val
    match s.nextSpare f.val with
    | none => .next s
    | some ci =>
      let k := 16 * f.val + ci
      if s.sliceMayStart k .spare then
        .next ((s.startSlice k .spare false).modField f.val (fun v => { v with spareNext := (ci + 1) % 16 }))
      else .next s

/-! ## What a slice finds (R59, R477 to R479, R482) -/

/-- R479: how a CLUSTER slice leaves the cluster. -/
def State.leaveCluster (s : State) (k : Nat) : State :=
  let s := s.each (s.servingCores k) (fun s c => ((s.resetCore c).modCore c Core.zeroPocket).beginServing c)
  s.modCluster k (fun c => { c with predict := [] })

/-- The cores that a CLUSTER slice tests. -/
def State.testedCores (s : State) (k : Nat) : List Nat :=
  ((List.range 36).map (fun i => 36 * k + i)).filter (fun p => s.darn.restoring.contains p ||
    ((!s.badCore p || s.restoredSpare p) && !s.rowRetired (p / 9) && (s.physOf p).health != .failed))

/-- A core that fails a CLUSTER slice: a spare is FAILED, a serving core is handled as declared dead. -/
def State.failTested (s : State) (p : Nat) : State :=
  let s := s.failSlice p
  if (s.serves p).isSome then s.suspectCore p else s.failPhys p

/-- A CLUSTER slice ends. A failed shared unit awaits Darning. -/
def State.endCluster (s : State) (k : Nat) (o : SliceOutcome) : State :=
  let bad := SliceOutcome_bad o k (s.testedCores k)
  let s := (s.leaveCluster k).setMainPath k o.samplerOk
  let s := if o.basketCorrected then s.scoreBasket k 1 else s
  let s := (s.each bad State.failTested).endRestoring k bad
  let s := if o.sharedOk then s
    else { s with darn := { s.darn with
      pendingParts := s.darn.pendingParts ++ (List.range 4).map (fun r => rowPart (4 * k + r)) } }
  let pass := bad == [] && o.sharedOk
  let s := s.sliceDone (k / 16) pass
  match s.darn.window with
  | some w => { s with darn := { s.darn with window := some { w with
      tested := satAdd16 w.tested 1, failedCores := satAdd16 w.failedCores bad.length, touched := w.touched ++ [k] } } }
  | none => s

/-- A core, or the shared units of a cluster, that fails within the field test is repaired as in DRAIN. -/
def State.repairTested (s : State) (t : FieldTest) : State :=
  let s := s.each t.failedCores (fun s n =>
    let p := 576 * t.field.val + n.val
    if s.badCore p then s else (s.failSlice p).repairCore p false)
  let s := s.each t.failedUnits (fun s c => s.repairShared (16 * t.field.val + c.val) false)
  let s := s.each t.failedRouters (fun s c =>
    (s.scoreRouter (16 * t.field.val + c.val) 1024).repairRouter (16 * t.field.val + c.val) false)
  s.each t.failedGroups (fun s g => (s.modField t.field.val (fun v => v.scoreGroup g.1.val 64)).repairGroup
    (groupPart t.field.val g.1.val g.2.val) false)

/-- A field that has passed its test: R398, R425, R138, R480. A sampler that failed stays on its fallback. -/
def State.fieldUp (s : State) (f : Nat) (badSamplers : List (Fin 16)) : State :=
  let s := s.modField f (fun v => { v with
    state := .online, fcOk := true, osc := .locked, arithGated := false, meshGated := false,
    sparePassed := (List.range 16).map (fun ci => (ci, s.time)) })
  s.samplersTested f badSamplers

/-- R395, R398, R400: the result of a field test. A second failure retires the field. -/
def State.fieldTested (s : State) (t : FieldTest) : State :=
  let f := t.field.val
  let s := s.repairTested t
  if t.pass && t.imageOk then s.fieldUp f t.failedSamplers
  else if 1 ≤ (s.fieldOf f).tests.toNat then
    (s.modField f (fun v => { v with tests := 2, fcOk := true })).retireField f
  else s.modField f (fun v => { v with state := .test, tests := 1, fcOk := true })

/-- R476: the findings of a FIELD slice as a field test's. -/
def SliceOutcome_fieldTest (o : SliceOutcome) (f : FieldId) : FieldTest :=
  { field := f, pass := o.sharedOk, failedCores := o.fieldCores, failedUnits := o.failedUnits,
    failedSamplers := o.failedSamplers, failedRouters := o.failedRouters, failedGroups := o.failedGroups }

/-- R395, R398: the field test of a field in TEST ends; a field that it retires raises the ALARM of R472. -/
def State.endField (s : State) (f : FieldId) (o : SliceOutcome) : State :=
  let t := (s.sliceDone f.val o.sharedOk).fieldTested (SliceOutcome_fieldTest o f)
  if (t.fieldOf f.val).state = .retired then t.noteRetired (srcField f.val) [w64 f.val] else t

def execSliceEnd (f : FieldId) (o : SliceOutcome) (s : State) : Result :=
  match (s.fieldOf f.val).slice with
  | none => .next s
  | some l =>
    let k := 16 * f.val + l.ci.val
    if !s.mode.works then .next s
    else
      match l.kind with
      | .spare => .next (s.endSpare k o)
      | .cluster => .next (s.endCluster k o).closeWindow
      | .field => .next (s.endField f o)
      | .scan => .next (s.sliceDone f.val true).closeWindow

/-! ## Darning (R472 to R474) -/

/-- SUSPECT cores, in increasing number. -/
def State.suspects (s : State) : List Nat := tkeys (fun p : Phys => p.health == .suspect) s.phys

/-- A core joins the plan. -/
def State.joinPlan (s : State) (p : Nat) : State :=
  { s with darn := { s.darn with pendingParts := s.darn.pendingParts ++ [corePart p] } }

/-- R56, R472 point 2: a cluster slice resolves each SUSPECT core. -/
def State.resolveSuspect (s : State) (passed : List PhysId) (p : Nat) : State :=
  if passed.any (fun q => q.val == p) then
    (s.modPhys p (fun k => { k with health := .good, clockStopped := false })).startBeats p
  else ((s.failSlice p).failPhys p).joinPlan p

/-- R488: another core of the cluster fails the slice: a serving core is a second failure, which joins the plan. -/
def State.failSecond (s : State) (p : Nat) : State :=
  if (s.serves p).isSome then (((s.failSlice p).suspectCore p).failPhys p).joinPlan p else (s.failSlice p).failPhys p

/-- R472 point 2: the CLUSTER slice of a cluster with SUSPECT cores. -/
def State.drainSlice (s : State) (d : DarningFindings) (k : Nat) : State :=
  let ps := s.suspects.filter (fun p => p / 36 == k)
  let others := (s.testedCores k).filter (fun p => !ps.contains p && d.failed.any (fun q => q.val == p))
  let pass := others == [] && ps.all (fun p => d.passed.any (fun q => q.val == p))
  let s := ((s.noteSlice k .cluster).leaveCluster k).setMainPath k (!d.failedSamplers.any (fun j => j.val == k))
  let s := s.each ps (fun s p => s.resolveSuspect d.passed p)
  ((s.each others State.failSecond).endRestoring k others).sliceDone (k / 16) pass

def State.resolveSuspects (s : State) (d : DarningFindings) : State :=
  s.each (s.suspects.map (· / 36)).eraseDups (fun s k => s.drainSlice d k)

/-- R472 point 2, R473: a stack still SUSPECT after a retrain is retired. -/
def State.resolveStacks (s : State) (recovered : List StackId) : State :=
  s.each (tkeys (fun h : Stack => h.suspect && !h.retired) s.hamperStacks) (fun s h =>
    if recovered.any (fun r => r.val == h) then s.modStack h (fun k => { k with suspect := false })
    else s.repairStack h)

/-- Points 3 to 5 of R472. The host planner is asked for its plan (R474). -/
def State.plan (s : State) (failed : List PhysId) : State :=
  if s.darn.hostPlan && s.darn.pendingParts != [] then
    ({ s with darn := { s.darn with planner := .waitHost } } : State).addRequest
      (.sparePlan (s.darn.pendingParts ++ s.planSpares s.darn.pendingParts))
  else (s.each s.darn.pendingParts (fun s p => (s.freshSpare failed p).repair p false)).endDarning

/-- R476, R488: a slice runs in the field of a SUSPECT core or of a core to be repaired; Darning waits for it. -/
def State.sliceInWay (s : State) : Bool :=
  (s.suspects.map (fun p => p / 576) ++
    (s.darn.pendingParts.filter (fun (p : Part) => p.kind == 1)).map (fun (p : Part) => p.t0.toNat)).any
    (fun f => (s.fieldOf f).slice.isSome)

/-- R471, R472 point 1: every stream has ended and every step and batch has closed. -/
def execDarning (p : DarningFindings) (s : State) : Result :=
  if s.mode != .drain || !s.streamsEnded || s.stepOpen || s.darn.planner != .idle || s.sliceInWay then .next s
  else .next ((((s.resolveSuspects p).resolveStacks p.stacksRecovered).poisonUnreadable p.unreadable).plan p.failed)

def execScoreSnapshot (s : State) : Result := if s.mode.works then .next s.snapshotScores else .next s

end Sys2Proof.Machine
end

