-- ==== Sys2Proof/Machine/CoreEvents.lean ====
section
/-! DEFINITION. Events of cores and the abort of a context (R29, R50 to R55, R84, R90, R91). -/

set_option linter.unusedVariables false

namespace Sys2Proof.Machine

open Sys2Proof

/-- R87: a SMPDRAW that times out has not closed its sequence, and withdraws its host request. -/
def State.reopenSequence (s : State) (c : CoreId) : State :=
  match s.samplerCluster (s.coreOf c.val).region.val with
  | none => s
  | some q =>
    match (s.clusterOf q).sampler.draws.find? (fun d => d.core == c && d.result.isNone) with
    | none => s
    | some d =>
      let s := s.modSampler q (fun p => { p with
        draws := p.draws.filter (fun e => e != d),
        seqs := if d.body = {} ∨ p.seqs.any (fun y => y.1 == d.seq) = true then p.seqs
          else p.seqs ++ [(d.seq, d.body)] })
      { s with requests := s.requests.filter (fun r =>
          r.kind != .sampling (s.coreOf c.val).region d.seq) }

def Waiting.ra (w : Waiting) : BitVec 5 := w.word.extractLsb' 43 5
def Waiting.group (w : Waiting) : Nat := w.word.toNat % 1024

/-- R90: what a timed stall waits for has come: a stream's end, a Peg group, a token, the end of a stage, a free queue
slot or sequence, an entry that is no longer FILLING. -/
def State.waitMet (s : State) (c : CoreId) (k : Core) (x : CtxId) (w : Waiting) : Bool :=
  let filled := (k.entry (w.info.toNat % 256)).state != .filling
  match w.major with
  | 0x28 => (s.freeQueueSlot c).isSome && filled
  | 0x29 =>
    match s.ticketSlot c (k.sreg w.ra) with
    | none => true
    | some (_, m) => m.ended.isSome
  | 0x31 => s.mayWait c x w.group && precedes (tget 0 k.observed w.group) (s.pegOf w.group).completed
  | 0x33 => k.settled && !s.openStreams c (fun _ => true)
  | 0x39 =>
    match s.samplerCluster k.region.val with
    | none => filled
    | some q => filled && decide ((s.clusterOf q).sampler.seqs.length < 64)
  | 0x3A =>
    match s.samplerCluster k.region.val with
    | none => false
    | some q => (s.clusterOf q).sampler.draws.any (fun d => d.core == c && d.result.isSome)
  | 0x3C => (s.regionOf k.region.val).allHanded
  | _ => filled

/-- R84, R86, R90: a timed stall has lasted WAITLIM and what it waits for has not come. -/
def State.waitTimesOut (s : State) (c : CoreId) : State :=
  let k := s.coreOf c.val
  match k.waiting, k.running with
  | some w, some x =>
    if s.coreClocked c.val && w.timed && !s.waitMet c k x w then
      ((s.leaveWaiters c.val x.val).reopenSequence c).takeException c xWAIT_TIMEOUT
        (w64 (w.major + w.info.toNat * 65536))
    else s
  | _, _ => s

def execWaitTimeout (c : CoreId) (s : State) : Result := .next (s.waitTimesOut c)

/-- R54: the physical core serves a column and its arithmetic clock runs. -/
def State.physServing (s : State) (p : Nat) : Bool :=
  match s.serves p with
  | some c => s.coreClocked c
  | none => false

/-- R31: the physical core's arithmetic clock runs: it serves, or a slice runs on it. -/
def State.physClocked (s : State) (p : Nat) : Bool :=
  s.physServing p ||
    (s.mode.works && s.inSlice p && (s.serves p).isNone && !(s.physOf p).clockStopped)

def residueBit : ResidueUnit → Nat
  | .scalar => 0
  | .vector => 1
  | .tensor => 2
  | .parity => 3

/-- R52, R55, R59, R90: a residue or parity error. A core that serves no column runs only slices, and
fails. -/
def execResidueError (p : PhysId) (unit : ResidueUnit) (s : State) : Result :=
  if !s.physClocked p.val then .next s
  else
    match s.serves p.val with
    | some _ => .next (s.declareDead p.val (residueBit unit))
    | none =>
      .next ((s.coreFault p.val (residueBit unit) 256).modPhys p.val (fun k =>
        { k with health := .failed, clockStopped := true }))

/-- R53: the heartbeat of a core. -/
def heartbeatMsg (p : PhysId) (seq : W16) (good : Bool) : ThreadMsg :=
  { dest := fcNode (physCluster p.val / 16), src := clusterNode (physCluster p.val), body := .heartbeat p seq good }

/-- R53, R60: a serving core sends a heartbeat with its position, its sequence number and the state of its residue checker;
one more interval has passed since the last that the field controller took. -/
def execHeartbeat (b : CoreBeat) (s : State) : Result :=
  let p := b.core
  let k := s.physOf p.val
  if s.physServing p.val then
    .next ((s.putPhys p.val { k with
      hbNext := k.hbNext + 1, hbMissed := if k.hbMissed = 3 then 3 else k.hbMissed + 1 }).threadWait
        (heartbeatMsg p k.hbNext b.good))
  else .next s

/-- R53, R54: the field controller takes a heartbeat that waits on the Thread; those of the core before it are lost. -/
def State.takeHeartbeat (s : State) (m : ThreadMsg) (p : PhysId) : State :=
  let n := (s.threadNode m.src).sent m
  let before := ((s.threadNode m.src).normal.takeWhile (fun v => v != m)).filter (fun v => v.beats p.val)
  s.putThreadNode m.src { n with normal := n.normal.filter (fun v => !before.contains v) }

/-- R54: the field controller takes a heartbeat. -/
def execHeartbeatReceived (p : PhysId) (seq : W16) (good : Bool) (s : State) : Result :=
  let k := s.physOf p.val
  let m := heartbeatMsg p seq good
  if !s.physServing p.val || !(s.threadNode m.src).normal.contains m then .next s
  else
  let s := s.takeHeartbeat m p
  if good && (!k.hbSeen || seq == k.hbSeq + 1) then
    .next (s.putPhys p.val { k with hbSeq := seq, hbSeen := true, hbMissed := 0 })
  else
    .next ((s.threadPass m.dest (mmpNode s.mgmt.standbyServes) (.heartbeatLost p.val)).declareDead p.val 4)

def execHeartbeatLost (p : PhysId) (s : State) : Result :=
  if s.physServing p.val then
    .next (((s.modPhys p.val (fun k => { k with hbMissed := 3 })).threadPass (fcNode (physCluster p.val / 16))
      (mmpNode s.mgmt.standbyServes) (.heartbeatLost p.val)).declareDead p.val 4)
  else .next s

/-- R29: the abort of a context. -/
def execContextAbort (x : CtxId) (detail : W64) (s : State) : Result :=
  if s.mode.works then .next (s.abortContext x (bytesLE 8 detail.toNat)) else .next s

end Sys2Proof.Machine
end

