-- ==== Sys2Proof/Machine/Heat.lean ====
section
/-! DEFINITION. Heat: sensors, the thermal step of a field, trips and regulators (R386 function 6, R395, R455 to
R460). -/

set_option linter.unusedVariables false

namespace Sys2Proof.Machine

open Sys2Proof

/-! ## The thermal step (R455 to R458) -/

/-- The step that a failed regulator or too few good sensors hold a field at. -/
def Field.floorStep (v : Field) : Nat := if v.regFault ∨ 3 < popcount v.badSensors then 8 else 0

/-- R457: the thermal or host step of a field that serves; it is THROTTLED where the step is above 0. -/
def Field.withStep (v : Field) (n : Nat) : Field :=
  let n := Nat.max n v.floorStep
  if fieldServes v then { v with thStep := BitVec.ofNat 4 n, state := if n = 0 then .online else .throttled } else v

/-- The fields that serve and satisfy p, by number. -/
def State.servingFields (s : State) (p : Field → Bool) : List Nat :=
  (List.range 100).filter (fun f => fieldServes (s.fieldOf f) && p (s.fieldOf f))

/-- The field with the greatest measure; the lower number wins a tie. -/
def State.greatest (s : State) (m : Field → Int) : List Nat → Option Nat
  | [] => none
  | f :: r => some (r.foldl (fun b g => if m (s.fieldOf b) < m (s.fieldOf g) then g else b) f)

/-- 1/16 °C. -/
def celsius (n : Int) : Int := 16 * n

/-- R456: the step of at most one field changes. -/
def State.thermalStep (s : State) : State :=
  match s.greatest (fun v => v.temp.toInt)
      (s.servingFields (fun v => decide (v.thStep.toNat < 15) && decide (celsius 100 ≤ v.temp.toInt))) with
  | some f => s.modField f (fun v => v.withStep (v.thStep.toNat + 1))
  | none =>
    match s.greatest (fun v => v.thStep.toNat)
        (s.servingFields (fun v => decide (v.floorStep < v.thStep.toNat) && decide (v.temp.toInt ≤ celsius 97))) with
    | some f => s.modField f (fun v => v.withStep (v.thStep.toNat - 1))
    | none => s

/-- In host-assisted mode the steps come from the host, which is asked for them (R388). -/
def execThermalStep (s : State) : Result :=
  if !s.mode.works then .next s
  else if s.mgmt.hostFunctions.getLsbD 6 then
    .next (if s.requests.any (fun r => r.kind == .thermal) then s else s.addRequest .thermal)
  else .next s.thermalStep

/-! ## Sensors (R455) -/

/-- A reading put at its place among rising ones. -/
def insertReading (x : Int) : List Int → List Int
  | [] => [x]
  | y :: ys => if x ≤ y then x :: y :: ys else y :: insertReading x ys

/-- The median of nine readings. -/
def median9 (r : Vector W16 9) : Int := ((r.toList.map BitVec.toInt).foldr insertReading []).getD 4 0

/-- Readings, 1 ms apart, for which a sensor has differed from the median by more than 20 °C.
DEDUCED, log entry 72. -/
def Field.apartFrom (v : Field) (r : Vector W16 9) (i : Fin 9) : Nat :=
  if celsius 20 < ((r[i].toInt - median9 r).natAbs : Int) then v.apart[i] + 1 else 0

def outOfRange (t : W16) : Bool := decide (t.toInt < celsius (-40)) || decide (celsius 150 < t.toInt)

/-- The sensors that a reading marks bad, until the next bring-up. -/
def Field.nowBad (v : Field) (r : Vector W16 9) : BitVec 9 :=
  (List.finRange 9).foldl (fun m i =>
    if outOfRange r[i] || decide (10 ≤ v.apartFrom r i) then m ||| BitVec.twoPow 9 i.val else m) v.badSensors

/-- The highest good reading and its sensor. -/
def hottestSensor (r : Vector W16 9) (bad : BitVec 9) : Option (Fin 9) :=
  match (List.finRange 9).filter (fun i => !bad.getLsbD i.val) with
  | [] => none
  | i :: l => some (l.foldl (fun b j => if r[b].toInt < r[j].toInt then j else b) i)

/-- R455: nine readings are taken. -/
def Field.read (v : Field) (r : Vector W16 9) : Field :=
  let bad := v.nowBad r
  let v := { v with readings := r, apart := Vector.ofFn (fun i => v.apartFrom r i), badSensors := bad }
  match hottestSensor r bad with
  | some i => { v with temp := r[i], hotSensor := BitVec.ofNat 4 i.val }
  | none => v

/-- A field controller reads its sensors, in DARK too. -/
def execSensorRead (f : FieldId) (readings : Vector W16 9) (s : State) : Result :=
  let v := s.fieldOf f.val
  if s.mode = .off ∨ s.mode = .hold ∨ v.state = .off ∨ v.state = .retired then .next s
  else
    let w := v.read readings
    let s := s.putField f.val (w.withStep w.thStep.toNat)
    let s := s.each ((List.range 9).filter (fun i => w.badSensors.getLsbD i && !v.badSensors.getLsbD i)) (fun s i =>
      s.raise .notice 455 0 (srcField f.val) none [w64 f.val, w64 i])
    if popcount w.badSensors = 9 ∧ popcount v.badSensors ≠ 9 then .next (s.controllerFails f.val {}) else .next s

/-! ## Trips and regulators (R458, R459) -/

def execThermalTrip (f : FieldId) (sensor : Fin 9) (s : State) : Result :=
  if s.mode.works && fieldServes (s.fieldOf f.val) then
    .next ((s.goDark f.val {}).raise .alarm 459 0 (srcField f.val) none [w64 f.val, w64 sensor.val])
  else .next s

/-- `rail`: the core rail left its set point for 10 µs. -/
def execRegulatorFault (f : FieldId) (rail : Bool) (s : State) : Result :=
  let v := s.fieldOf f.val
  if !s.mode.works || v.state == .off || v.state == .retired then .next s
  else if rail || v.regFault then .next (s.controllerFails f.val {})
  else
    let w := { v with regFault := true }
    .next ((s.putField f.val (w.withStep w.thStep.toNat)).raise .alarm 458 0 (srcField f.val) none [w64 f.val])

end Sys2Proof.Machine
end

