-- ==== Sys2Proof/Machine/HostWeights.lean ====
section
/-! DEFINITION. The commands on weights and images (R197 to R202, R214, R260 to R263, R271, R274 to R283, R330,
R382, R410). -/

set_option linter.unusedVariables false

namespace Sys2Proof.Machine

open Sys2Proof

/-! ## Bindings (R260, R261) -/

def BindRec_resident (b : BindRec) : Bool := b.mode == 1

/-- The binding that a record makes; PINNED and ENCRYPT are set (R199). -/
def bindingOfRec (b : BindRec) : Binding :=
  { resident := BindRec_resident b, source := b.source, fmt := b.fmt.setWidth 4, first := b.first, count := b.count,
    flags := b.flags ||| 0x28, tree := if b.tree.getLsbD 15 then some (b.tree.setWidth 6) else none,
    object := b.object, key := b.key.toNat }

/-- Some slot of the context is VALID. -/
def Ctx.anyValid (c : Ctx) : Bool := c.slotA.valid || c.slotB.valid
def Ctx.activeTag (c : Ctx) : W32 := if c.activeB then c.slotB.tag else c.slotA.tag

/-- Ranges of tile numbers that a context has declared or bound. -/
def State.declaredRanges (s : State) (x : Nat) : List (Nat × Nat) :=
  (s.regions.flatMap (fun e => if e.2.ctx.val = x then e.2.decls else [])).map (fun d =>
    (d.first.toNat, d.count.toNat)) ++
  (s.ctxOf x).bindings.filterMap (fun e => e.2.map (fun b => (b.first.toNat, b.count.toNat)))

/-- Fields of a record alone. -/
def badBindFields (b : BindRec) : Bool :=
  decide (16 ≤ b.binding.toNat) || decide (1 < b.mode.toNat) || decide (2 < b.source.toNat) ||
  decide (15 ≤ b.fmt.toNat) || decide (2 ^ 29 ≤ b.first.toNat) || b.count == 0 ||
  decide (2 ^ 29 < b.first.toNat + b.count.toNat) || badFlags b.flags || b.flags.getLsbD 0 ||
  b.tree &&& 0x7FC0 != 0 || (b.source == 1 && decide (32 ≤ b.object.toNat)) ||
  (!BindRec_resident b && b.version != 0) || decide (256 ≤ b.key.toNat)

/-- The BAD_ARG checks of record i. -/
def State.badBindRec (s : State) (x : Nat) (recs : List BindRec) (i : Nat) (b : BindRec) : Bool :=
  let c := s.ctxOf x
  let meets := fun (r : Nat × Nat) => rangesMeet b.first.toNat b.count.toNat r.1 r.2
  let earlier := recs.take i
  let tag := if c.anyValid then some c.activeTag
    else (earlier.find? BindRec_resident).map (·.version)
  badBindFields b || (s.declaredRanges x).any meets ||
  earlier.any (fun e => meets (e.first.toNat, e.count.toNat) || e.binding == b.binding ||
    BindRec_resident e != BindRec_resident b) ||
  (tget none c.bindings b.binding.toNat).isSome ||
  c.bindings.any (fun e => match e.2 with
    | some q => q.resident != BindRec_resident b
    | none => false) ||
  (BindRec_resident b && (match tag with
    | some t => b.version != t
    | none => false))

/-- R271: a key's counter cannot number n more streams. -/
def State.keySpent (s : State) (key n : Nat) : Bool := decide (2 ^ 32 < (s.keyOf key).counter + n)

/-- PRESS names a slot that is not COMPLETE, or KEY holds no key, or none that can number the command's fills (R271;
DESIGN CHOICE, log entry 45). -/
def State.bindNotReady (s : State) (recs : List BindRec) (b : BindRec) : Bool :=
  (b.source == 1 && (s.imageOf b.object.toNat).state != .complete) || !(s.keyOf b.key.toNat).filled ||
  (BindRec_resident b && s.keySpent b.key.toNat (recs.filter (fun r => BindRec_resident r && r.key == b.key)).length)

/-- The tiles of a binding come to be in a slot. -/
def State.declareBinding (s : State) (x : Nat) (b : Binding) (slotB : Bool) : State :=
  s.each (List.range b.count.toNat) (fun s n =>
    s.declareTile x (x * 2 ^ 29 + b.first.toNat + n + (if slotB then 2 ^ 32 else 0)) b.fmt b.flags none n
      (s.hamperHome b.flags n))

/-! ## Fills (R271, R279, R280) -/

/-- The fill of a binding starts; it takes the next value of its key's counter. A weight server is asked for its tiles; an
image gives them one by one (XFER_REPLY). -/
def State.startFillOf (s : State) (x n : Nat) (slotB : Bool) (version : W32) (b : Binding) : State :=
  let f : Fill :=
    { binding := n, number := BitVec.ofNat 32 (s.keyOf b.key).counter, slotB := slotB,
      version := if b.source = 1 then (s.imageOf (b.object.toNat % 65536)).version else version,
      object := s.bindingObject b,
      image := if b.source = 1 then some (Fin.ofNat 32 b.object.toNat) else none,
      asks := if b.source = 0 then { last := b.count.toNat } else {} }
  (s.modKey b.key (fun k => { k with counter := k.counter + 1 })).modCtx x (fun c => { c with fills := c.fills ++ [f] })

/-! ## WEIGHT_BIND -/

/-- The bindings of a command are made, and their tiles. -/
def State.bindAll (s : State) (x : Nat) (recs : List BindRec) : State :=
  let c := s.ctxOf x
  let slotB := c.activeB && c.anyValid
  s.each recs (fun s b =>
    (s.modCtx x (fun c => { c with bindings := tput none c.bindings b.binding.toNat (some (bindingOfRec b)) })).declareBinding
      x (bindingOfRec b) (if BindRec_resident b then slotB else c.activeB))

/-- The fills of RESIDENT bindings start: into the ACTIVE slot, or into slot A where no slot is VALID. -/
def State.fillBindings (s : State) (x : Nat) (recs : List BindRec) (h : Hdr) : State :=
  let c := s.ctxOf x
  let slotB := c.activeB && c.anyValid
  let tag := (recs.head?).map (·.version) |>.getD 0
  let s := s.modCtx x (fun c => { c with
    bindCmd := some h, slotA := if c.anyValid then c.slotA else { tag := tag, valid := false } })
  ((s.each recs (fun s b => s.startFillOf x b.binding.toNat slotB b.version (bindingOfRec b))).settleFills x).pump

def weightBindRow : CmdRow := { opcode := 0x20, admin := false, ctx := .names, states := groupW, rsvChecked := true }

/-- A WEIGHT_BIND of RESIDENT bindings waits for their fills; one that comes during another's fills or a swap is
BUSY (DEDUCED, log entry 45). -/
def execWeightBind (h : Hdr) (recs : List BindRec) (s : State) : Result :=
  s.hostCommand h weightBindRow (fun s =>
    let x := namedCtx h
    let c := s.ctxOf x.val
    let t := s.bindAll x.val recs
    let resident := recs.any BindRec_resident
    CmdEnd.checked s [
      check (recs.isEmpty || decide (16 < recs.length)) stBAD_ARG,
      (recs.zipIdx.find? (fun e => s.badBindRec x.val recs e.2 e.1)).map (fun e => (stBAD_ARG, BitVec.ofNat 32 e.2)),
      check (c.isOpen || (resident && (c.fills != [] || c.swap != .none))) stBUSY,
      checkRecords recs (s.bindNotReady recs) stNOT_READY,
      check (t.hamperOver x.val) stNO_QUOTA]
      (let t := t.measure x.val 0x20 (recs.flatMap bindRecBytes)
       if resident then .waits (t.fillBindings x.val recs h) else .ok t))

/-! ## WEIGHT_SWAP (R280, R382) -/

/-- The binding with the object that the swap gives it. -/
def swapped (a : SwapArgs) (n : Nat) (b : Binding) : Binding :=
  match a.pairs.find? (fun p => p.1.toNat == n) with
  | some p => { b with object := p.2 }
  | none => b

/-- The RESIDENT bindings of a context. -/
def Ctx.residents (c : Ctx) : List (Nat × Binding) :=
  c.bindings.filterMap (fun e => match e.2 with
    | some b => if b.resident then some (e.1, b) else none
    | none => none)

/-- The new copy's tiles, in the slot that is not ACTIVE. -/
def State.declareSwap (s : State) (x : Nat) : State :=
  let c := s.ctxOf x
  s.each c.residents (fun s e => s.declareBinding x e.2 (!c.activeB))

/-- An accepted swap: the other slot takes the tag, and its tiles are filled. -/
def State.startSwap (s : State) (x : Nat) (h : Hdr) (a : SwapArgs) : State :=
  let c := s.ctxOf x
  let tag : Slot := { tag := a.version, valid := false }
  let s := s.putCtx x { c with
    slotA := if c.activeB then tag else c.slotA, slotB := if c.activeB then c.slotB else tag,
    swap := .filling, swapObjects := a.pairs.map (fun p => (p.1.toNat, p.2)), swapCmd := some h, fills := [] }
  ((s.each c.residents (fun s e => s.startFillOf x e.1 (!c.activeB) a.version (swapped a e.1 e.2))).settleFills x).pump

def weightSwapRow : CmdRow := { opcode := 0x21, admin := false, ctx := .names, states := groupW }

/-- DEDUCED, Log entry 45 for a swap before a slot is VALID and for an image that is not COMPLETE. -/
def execWeightSwap (h : Hdr) (a : SwapArgs) (s : State) : Result :=
  s.hostCommand h weightSwapRow (fun s =>
    let x := namedCtx h
    let c := s.ctxOf x.val
    let known := fun (n : Byte) => c.residents.any (fun e => e.1 == n.toNat)
    let t := s.declareSwap x.val
    CmdEnd.checked s [
      check (!c.serving) stREFUSED,
      check (a.version == c.activeTag) stBAD_ARG 0,
      check (decide (16 < a.pairs.length)) stBAD_ARG 4,
      (a.pairs.findIdx? (fun p => !known p.1)).map (fun i => (stBAD_ARG, BitVec.ofNat 32 (8 + 16 * i))),
      check (c.swap != .none || !c.anyValid || c.fills != []) stBUSY,
      check (c.residents.any (fun e => e.2.source == 1 &&
        (decide (32 ≤ (swapped a e.1 e.2).object.toNat) ||
          (s.imageOf (swapped a e.1 e.2).object.toNat).state != .complete)) ||
        c.residents.any (fun e => s.keySpent e.2.key (c.residents.filter (fun r => r.2.key == e.2.key)).length)) stNOT_READY,
      check (t.hamperOver x.val) stNO_QUOTA]
      (.waits ((t.measure x.val 0x21 (swapBytes a)).startSwap x.val h a)))

/-! ## Images (R275 to R277) -/

/-- R275: a binding or an open stream names the slot. -/
def State.slotNamed (s : State) (n : Nat) : Bool :=
  s.ctxs.any (fun e => e.2.bindings.any (fun b => match b.2 with
    | some b => b.source == 1 && b.object.toNat == n
    | none => false) || e.2.fills.any (fun f => f.image.any (fun i => i.val == n))) ||
  s.clusters.any (fun c => c.2.streams.any (fun v => match v.2.stream with
    | some m => m.desc.op == 0x11 && m.ended.isNone && m.object.toNat % 65536 == n
    | none => false))

/-- The checks of R275 that PRESS_WRITE and PRESS_RESUME share, around the slot's own. -/
def State.installChecks (s : State) (x : CtxId) (slot ctx : Byte) (key : W16) (own : List (Option Bad)) (charge : Nat) :
    List (Option Bad) :=
  [check (decide (32 ≤ slot.toNat)) stBAD_ARG 0, check (decide (256 ≤ key.toNat)) stBAD_ARG,
   check (s.portsFor x.val == []) stBAD_ARG] ++ own ++ [
   check (s.press.reserveBelow 100) stREFUSED,
   check s.press.install.isSome stBUSY,
   check (!(s.keyOf key.toNat).filled || s.keySpent key.toNat 1) stNOT_READY,
   check (decide ((s.ctxOf x.val).pressQuota * 1000000000 < (s.ctxOf x.val).pressUsed + charge)) stNO_QUOTA]

/-- R275 to R277: an installation runs in a slot, charged to its context, and asks the weight servers for the tiles from
the first that no committed extent holds, as a stream of its own under its key. DEDUCED, log entry 36. -/
def State.beginInstall (s : State) (x : CtxId) (n : Nat) (i : ImageSlot) (key : W16) (h : Hdr) (op : W16)
    (charge : Nat) : State :=
  let number := BitVec.ofNat 32 (s.keyOf key.toNat).counter
  let first := i.nextTile.toNat
  let s := (s.modCtx x.val (fun c => { c with pressUsed := c.pressUsed + charge })).modKey key.toNat (fun k =>
    { k with counter := k.counter + 1 })
  let s := s.putImage n { i with charged := some x }
  let s := { s with press := { s.press with
      install := some { slot := Fin.ofNat 32 n, ctx := x, key := key.toNat, cmd := h, opcode := op, number := number,
                        first := first, asks := { next := first, last := i.tileCount.toNat } } } }
  s.pump

def pressWriteRow : CmdRow := { opcode := 0x40, admin := true, ctx := .names, states := groupM, rsvChecked := true }

/-- The slot as an installation finds it. -/
def newImage (a : PressArgs) (pair : Nat) : ImageSlot :=
  { state := .incomplete, xts := some pair, compress := a.flags.getLsbD 0, held := true, version := a.version, imageId := a.imageId,
    tileCount := a.tileCount, fmt := a.fmt.setWidth 4, keyWrapped := true }

/-- DEDUCED, Log entry 46 for an image of no tiles. A new image key makes the media key-encryption key at its first use
(R409, R420). DEDUCED, log entry 46. -/
def execPressWriteInstall (h : Hdr) (a : PressArgs) (s : State) : Result :=
  s.hostCommand h pressWriteRow (fun s =>
    let x := namedCtx h
    let i := newImage a s.mgmt.keyPairs
    CmdEnd.checked s ([
      check (a.ctx.toNat != x.val) stBAD_ARG 2,
      check (a.flags &&& 0xFE != 0) stBAD_ARG 3,
      check (a.tileCount == 0) stBAD_ARG 16,
      check (decide (15 ≤ a.fmt.toNat)) stBAD_ARG 20] ++
      s.installChecks x a.slot a.ctx a.key [check ((s.imageOf a.slot.toNat).state != .empty) stREFUSED] (imageCharge i))
      (.waits (({ s with mgmt := { s.mgmt with keyEncryptionKey := true, keyPairs := s.mgmt.keyPairs + 1 } }).beginInstall x a.slot.toNat i a.key h 0x40
        (imageCharge i))))

/-- R275: OP 1. The slot is ERASING until its erase has finished (R274); the command completes at once (log entry
46). -/
def execPressWriteErase (h : Hdr) (a : PressArgs) (s : State) : Result :=
  s.hostCommand h pressWriteRow (fun s =>
    let n := a.slot.toNat
    CmdEnd.checked s [
      check (decide (32 ≤ n)) stBAD_ARG 0,
      check (a.ctx.toNat != (namedCtx h).val) stBAD_ARG 2,
      check (a.flags &&& 0xFE != 0) stBAD_ARG 3,
      check (s.slotNamed n || s.press.reserveBelow 100) stREFUSED,
      check s.press.install.isSome stBUSY]
      (.ok (s.putImage n { s.imageOf n with state := .erasing, held := false })))

/-- The charge that another context left on a slot is released. -/
def State.dischargeOther (s : State) (x : CtxId) (n : Nat) : State :=
  if (s.imageOf n).charged = some x then s else s.dischargeImage n

def pressResumeRow : CmdRow := { opcode := 0x41, admin := true, ctx := .names, states := groupM, rsvChecked := true }

/-- R277: an INCOMPLETE installation that is still held goes on after its last committed extent. -/
def execPressResume (h : Hdr) (slot : Byte) (ctx : Byte) (key : W16) (s : State) : Result :=
  s.hostCommand h pressResumeRow (fun s =>
    let x := namedCtx h
    let i := s.imageOf slot.toNat
    let charge := if i.charged = some x then 0 else imageCharge i
    CmdEnd.checked s ([check (ctx.toNat != x.val) stBAD_ARG 1] ++
      s.installChecks x slot ctx key [check (i.state != .incomplete || !i.held) stBAD_ARG 0] charge)
      (.waits ((s.dischargeOther x slot.toNat).beginInstall x slot.toNat { s.imageOf slot.toNat with resumed := true } key h
        0x41 charge)))

end Sys2Proof.Machine
end

