-- ==== Sys2Proof/Machine/HostKeys.lean ====
section
/-! DEFINITION. Keys, attestation, firmware staging and zeroisation (R402 to R420). -/

set_option linter.unusedVariables false

namespace Sys2Proof.Machine

open Sys2Proof

/-! ## Session keys (R410) -/

/-- A stream that has not ended takes its records under a key. -/
def State.streamUses (s : State) (n : Nat) (m : Stream) : Bool :=
  m.ended.isNone && (match s.streamBinding m.ctx m.desc with
    | some b => b.2.key == n
    | none => false)

/-- A fill of the context takes its records under a key. -/
def Ctx.fillUses (c : Ctx) (n : Nat) : Bool :=
  c.fills.any (fun f => match tget none c.bindings f.binding with
    | some b => b.key == n
    | none => false)

/-- R393: the serving Thimble sends a changed key slot, wrapped, to the standby's. -/
def State.shareKey (s : State) (n : Nat) : State :=
  if s.mgmt.standbyOk then s.threadPass (mmpNode s.mgmt.standbyServes) (mmpNode (!s.mgmt.standbyServes)) (.key n (s.keyOf n))
  else s

/-- R410: a key slot that is overwritten or cleared ends what uses it with ABORTED. -/
def State.clearKey (s : State) (n : Nat) : State :=
  let s := s.cancelStreams (fun _ m => s.streamUses n m)
  let s := s.each (List.range 8) (fun s x => if (s.ctxOf x).fillUses n then s.failFill x stABORTED else s)
  let s := match s.press.install with
    | some i => if i.key = n then s.endInstall stABORTED else s
    | none => s
  s.putKey n {}

/-- R411: the bytes of a key blob. -/
def KeyBlob.bytes (b : KeyBlob) : List Byte :=
  bytesLE 2 b.format.toNat ++ bytesLE 2 b.slot.toNat ++ bytesLE 2 b.job.toNat ++ bytesLE 2 b.auth.toNat ++
    bytesLE 8 b.serial.toNat ++ b.body

/-- R410, R412 point 5: a key is installed, and its stream counter starts at 0. -/
def State.installKey (s : State) (n : Nat) (job : W16) (key : List Byte) : State :=
  ((s.clearKey n).putKey n { filled := true, key := key, job := job }).shareKey n

/-- R420: the media key-encryption key is made at the first KEY_PROVISION or PRESS_WRITE. -/
def State.makeMediaKey (s : State) : State := { s with mgmt := { s.mgmt with keyEncryptionKey := true } }

/-! ## KEY_PROVISION (R411, R412) -/

def keyProvisionRow : CmdRow := { opcode := 0x70, admin := true, ctx := .none, states := groupM }

/-- R412 point 1. -/
def badBlob (slot : W16) (b : KeyBlob) : Bool :=
  b.format != 1 || b.slot != slot || b.serial != Config.serial.setWidth 64 || decide (7 < b.auth.toNat) ||
  ((b.body.drop 97).take 3).any (· != 0)

/-- In host-assisted unwrapping the blob goes to the host, and the command waits for its reply.
DEDUCED, log entry 68. -/
def execKeyProvisionInstall (h : Hdr) (slot : W16) (b : KeyBlob) (s : State) : Result :=
  s.hostCommand h keyProvisionRow (fun s =>
    let assisted := s.mgmt.hostFunctions.getLsbD 7
    CmdEnd.checked s [
      check (decide (255 < slot.toNat)) stBAD_ARG 2,
      check (badBlob slot b) stBAD_ARG,
      check (decide (s.mgmt.authorities.length ≤ b.auth.toNat) || !b.sigOk) stAUTH_FAIL,
      check (assisted && !s.mgmt.channelKey) stNOT_READY,
      check (!assisted && !b.tagOk) stAUTH_FAIL]
      (if assisted then .waits (s.addRequest (.unwrap h b))
       else .ok ((s.installKey slot.toNat b.job (Config.sessionKey (KeyBlob.bytes b))).makeMediaKey)))

def execKeyProvisionClear (h : Hdr) (slot : W16) (s : State) : Result :=
  s.hostCommand h keyProvisionRow (fun s =>
    CmdEnd.checked s [check (decide (255 < slot.toNat)) stBAD_ARG 2] (.ok ((s.clearKey slot.toNat).shareKey slot.toNat).makeMediaKey))

def execKeyProvisionAuthority (h : Hdr) (key : BitVec 776) (s : State) : Result :=
  s.hostCommand h keyProvisionRow (fun s =>
    CmdEnd.checked s [
      check (key.setWidth 8 != (4 : Byte)) stBAD_ARG,
      check (decide (8 ≤ s.mgmt.authorities.length)) stNO_QUOTA]
      (let s := s.makeMediaKey
       .ok { s with mgmt := { s.mgmt with authorities := s.mgmt.authorities ++ [key] } }))

/-- PUBKEY's bytes: the agreement public key and its certificate. -/
def pubkeyBytes : List Byte := Config.agreementKey 0 ++ Config.certificate 0

/-- A buffer that is too small is BAD_ARG, with the length needed (DEDUCED, log entry 50). -/
def execKeyProvisionPubkey (h : Hdr) (addr : W64) (len : W32) (s : State) : Result :=
  s.hostCommand h keyProvisionRow (fun s =>
    let n := pubkeyBytes.length
    if len.toNat < n then .done s stBAD_ARG 4 [w64 n]
    else .ok ({ s with hostOut := s.hostOut ++ [.bytes addr pubkeyBytes] } : State).makeMediaKey [w64 n])

/-! ## ATTEST (R414, R415) -/

/-- A field of n bytes. -/
def padTo (n : Nat) (l : List Byte) : List Byte := (l ++ List.replicate n 0).take n

/-- R415: the index of the next signature, with the high-water and the LMS step that its use needs. -/
def Mgmt.signed (m : Mgmt) : Mgmt :=
  { m with
    hssNext := m.hssNext + 1,
    hssHigh := if m.hssHigh ≤ m.hssNext then m.hssNext + 1024 else m.hssHigh,
    lmsSteps := Fin.ofNat 65 (Nat.max m.lmsSteps.val (m.hssNext / 2 ^ 24 + 1)) }

def Mgmt.exhausted (m : Mgmt) : Bool := decide (2 ^ 30 ≤ m.hssNext)

/-- The Patch table as the system area holds it (R466). -/
def PatchEntry.bytes (e : PatchEntry) : List Byte :=
  [e.part.kind, BitVec.ofNat 8 ((if e.hard then 1 else 0) + (if e.host then 2 else 0)), e.part.t0, e.part.t1, e.part.t2,
   e.part.t3, e.part.t4, e.part.t5] ++ bytesLE 4 e.session.toNat ++ bytesLE 2 e.score.toNat ++ zeros 2

/-- Bytes 0 to 319 of a report. -/
def State.reportBytes (s : State) (h : Hdr) (a : AttestArgs) : List Byte :=
  let m := s.mgmt
  let run := if m.runningB then m.slotB else m.slotA
  let other := if m.runningB then m.slotA else m.slotB
  let channel := a.flags.getLsbD 0
  let c := s.ctxOf h.ctx.toNat
  let named := decide (h.ctx.toNat < 8)
  let bit := fun (b : Bool) (n : Nat) => if b then 2 ^ n else 0
  bytesLE 4 1 ++ bytesLE 4 4888 ++ bytesLE 8 Config.serial.toNat ++ [0xB1] ++
  bytesLE 1 (bit m.gloved 0 + bit m.recovery 1 + bit m.trialRunning 2 + bit m.standbyServes 3 + bit channel 4) ++
  bytesLE 1 m.rollback.val ++ bytesLE 1 m.tackSteps.val ++ bytesLE 4 run.version.toNat ++
  bytesLE 4 (if other.state = .empty then 0 else other.version.toNat) ++ bytesLE 4 m.hssNext ++ bytesLE 8 s.time.toNat ++
  bytesLE 32 a.nonce.toNat ++ bytesLE 48 run.digest.toNat ++
  bytesLE 48 (Config.sha384 (s.darn.patch.flatMap PatchEntry.bytes)).toNat ++
  (if named then bytesLE 48 c.measure.toNat ++ bytesLE 2 c.job.toNat else zeros 50) ++ [h.ctx, 0] ++
  (if channel then padTo 97 (Config.agreementKey (m.hssNext + 1)) else zeros 97) ++ zeros 3

/-- The report with its two signatures, and the two certificates. -/
def State.attestBytes (s : State) (h : Hdr) (a : AttestArgs) : List Byte :=
  let r := s.reportBytes h a
  r ++ padTo 96 (Config.signature (0 :: r)) ++ padTo 4472 (Config.signature (1 :: r)) ++ Config.certificate 1 ++
  Config.certificate 2

def attestRow : CmdRow :=
  { opcode := 0x71, admin := false, ctx := .either, states := [.ready, .run, .maint, .faulted], recovery := true }

def execAttest (h : Hdr) (a : AttestArgs) (s : State) : Result :=
  s.hostCommand h attestRow (fun s =>
    let out := s.attestBytes h a
    CmdEnd.checked s [
      check (a.flags &&& 0xFE != 0) stBAD_ARG 32,
      check (decide (h.ctx.toNat < 8) && !(s.ctxOf h.ctx.toNat).live) stBAD_ARG,
      check s.mgmt.exhausted stREFUSED]
      (if a.len.toNat < out.length then .done s stBAD_ARG 48 [w64 out.length]
       else .ok { s with
         mgmt := { s.mgmt.signed with channelKey := s.mgmt.channelKey || a.flags.getLsbD 0 },
         hostOut := s.hostOut ++ [.bytes a.addr out] } [w64 out.length]))

/-! ## Firmware staging (R403, R406, R407) -/

/-- The slot that is not running; slot B in recovery (DEDUCED, log entry 51). -/
def Mgmt.inactive (m : Mgmt) : FwSlot := if m.runningB then m.slotA else m.slotB
def Mgmt.putInactive (m : Mgmt) (f : FwSlot) : Mgmt := if m.runningB then { m with slotA := f } else { m with slotB := f }
def State.putFw (s : State) (f : FwSlot) : State := { s with mgmt := s.mgmt.putInactive f }

/-- R403. -/
def Mgmt.accepts (m : Mgmt) (f : FwSlot) (v : FwVerdict) : Bool :=
  f.headerOk && v.digestOk && v.ecOk && v.lmsOk && decide (m.rollback.val ≤ f.rollback)

def fwStageRow : CmdRow := { opcode := 0x72, admin := true, ctx := .none, states := [.maint], recovery := true }

/-- Bytes of a firmware slot. -/
def fwSlotBytes : Nat := 33554432 + 16548

def execFwStageWrite (h : Hdr) (a : FwWriteArgs) (s : State) : Result :=
  s.hostCommand h fwStageRow (fun s =>
    CmdEnd.checked s [check (decide (fwSlotBytes < a.offset.toNat + a.len.toNat)) stBAD_ARG 4]
      (.ok (s.putFw { state := .incomplete,
                      image := writeBytes s.mgmt.inactive.image a.offset.toNat (a.data.take a.len.toNat) })))

/-- VERIFY that fails leaves the slot INCOMPLETE. -/
def execFwStageVerify (h : Hdr) (v : FwVerdict) (s : State) : Result :=
  s.hostCommand h fwStageRow (fun s =>
    if s.mgmt.accepts s.mgmt.inactive v && s.mgmt.inactive.state != .empty then
      .ok (s.putFw { s.mgmt.inactive with state := .staged })
    else .done (s.putFw { s.mgmt.inactive with
      state := if s.mgmt.inactive.state = .empty then .empty else .incomplete }) stAUTH_FAIL noDetail [])

def execFwStageActivate (h : Hdr) (s : State) : Result :=
  s.hostCommand h fwStageRow (fun s =>
    CmdEnd.checked s [check (s.mgmt.inactive.state != .staged) stNOT_READY]
      (.ok { s with mgmt := { s.mgmt with trialPointer := some (!s.mgmt.runningB) } }))

def execFwStageConfirm (h : Hdr) (s : State) : Result :=
  s.hostCommand h fwStageRow (fun s =>
    let m := s.mgmt
    let run := if m.runningB then m.slotB else m.slotA
    CmdEnd.checked s [check (!m.trialRunning) stREFUSED]
      (.ok { s with mgmt := { m with
        bootB := m.runningB, trialRunning := false, 
        rollback := Fin.ofNat 65 (Nat.min 64 (Nat.max m.rollback.val run.rollback)) } }))

def execFwStageAbandon (h : Hdr) (s : State) : Result :=
  s.hostCommand h fwStageRow (fun s =>
    .ok { s.putFw {} with mgmt := { s.mgmt.putInactive {} with trialPointer := none, trialRunning := false } })

/-! ## Zeroisation (R420) -/

def State.zeroiseNow (s : State) : State :=
  let s := s.each ((List.finRange 8).filter (fun x => (s.ctxOf x.val).live)) (fun s x => s.destroyCtx x none)
  { s with
    keys := [],
    cores := tmap {} (fun _ k => k.zeroPocket) s.cores,
    mgmt := { s.mgmt with keyEncryptionKey := false, authorities := [], moduleKeys := 0, channelKey := false,
                          zeroise := false },
    press := { s.press with
      install := none,
      slots := (List.range 32).foldl (fun t n =>
        tput {} t n { tget ({} : ImageSlot) t n with state := .erasing, held := false, keyWrapped := false, xts := none })
        s.press.slots } }

end Sys2Proof.Machine
end

