-- ==== Sys2Proof/Machine/HostMode.lean ====
section
/-! DEFINITION. TELEM_READ, MODE_SET and the host-assisted requests (R84, R139, R313, R385 to R391, R412, R474). -/

set_option linter.unusedVariables false

namespace Sys2Proof.Machine

open Sys2Proof

/-! ## TELEM_READ (R385) -/

def telemReadRow : CmdRow :=
  { opcode := 0x80, admin := false, ctx := .none, states := .faulted :: groupA, recovery := true }

/-- The registers of a range, in increasing offset. -/
def State.readRange (s : State) (a : TelemArgs) : List W64 :=
  (List.range (a.len.toNat / 8)).map (fun i => s.readReg a.space.toNat a.field.toNat (a.offset.toNat + 8 * i))

/-- In recovery only the identity record is read (R405). -/
def execTelemRead (h : Hdr) (a : TelemArgs) (s : State) : Result :=
  s.hostCommand h telemReadRow (fun s =>
    CmdEnd.checked s [
      check (s.mgmt.recovery && a.space != 2) stNOT_READY,
      check (decide (2 < a.space.toNat)) stBAD_ARG 0,
      check (a.space == 1 && decide (99 < a.field.toNat)) stBAD_ARG 1,
      check (decide (a.offset.toNat % 8 ≠ 0)) stBAD_ARG 4,
      check (decide (a.len.toNat % 8 ≠ 0 ∨ a.len = 0 ∨ 65536 < a.len.toNat)) stBAD_ARG 8,
      check (decide (spaceSize a.space.toNat < a.offset.toNat + a.len.toNat)) stBAD_ARG 4]
      (.ok { s with hostOut := s.hostOut ++ [.words a.addr (s.readRange a)] } [s.time]))

/-! ## MODE_SET (R386) -/

/-- The table: scope, highest mode and states of a function. -/
def modeTable (function : Byte) : Option (Byte × Byte × List ModState) :=
  match function.toNat with
  | 0 => some (2, 1, groupM)
  | 1 => some (1, 2, groupW)
  | 2 | 3 | 5 | 6 => some (0, 1, [.ready, .maint])
  | 4 => some (1, 1, groupW)
  | 7 => some (0, 1, [.maint])
  | _ => none

/-- Function, state, mode, scope and context, in that order. -/
def State.badMode (s : State) (h : Hdr) (a : ModeArgs) : Option Bad :=
  match modeTable a.function with
  | none => some (stBAD_ARG, 0)
  | some (scope, top, states) =>
    let x := h.ctx.toNat
    firstBad [
      check (!states.contains s.mode) stNOT_READY,
      check (decide (top.toNat < a.mode.toNat)) stBAD_ARG 1,
      check (a.scope != scope) stBAD_ARG 2,
      check ((scope == 1) != decide (x < 8)) stBAD_ARG 2,
      check (scope == 1 && !(s.ctxOf x).live) stBAD_ARG,
      check (scope == 1 && (s.ctxOf x).isOpen) stBUSY]

/-- The mode of a function; that of link training takes effect at the next training. -/
def State.setMode (s : State) (h : Hdr) (a : ModeArgs) : State :=
  let on := a.mode != 0
  let n := a.function.toNat
  match n with
  | 0 => s.each ((List.range 128).filter (a.units.getLsbD ·)) (fun s u => s.modUnit u (fun k => { k with hostMode := on }))
  | 1 => s.modCtx h.ctx.toNat (fun c => { c with reductionMode := Fin.ofNat 3 a.mode.toNat })
  | 4 => s.modCtx h.ctx.toNat (fun c => { c with hostSampling := on })
  | _ =>
    let bits := s.mgmt.hostFunctions &&& ~~~(BitVec.twoPow 8 n)
    { s with
      mgmt := { s.mgmt with hostFunctions := if on then bits ||| BitVec.twoPow 8 n else bits },
      darn := if n = 2 then { s.darn with hostPlan := on } else s.darn }

def modeSetRow : CmdRow := { opcode := 0x81, admin := true, ctx := .either, states := groupM }

/-- DEDUCED, log entry 67. -/
def execModeSet (h : Hdr) (a : ModeArgs) (s : State) : Result :=
  s.hostCommand h modeSetRow (fun s => CmdEnd.checked s [s.badMode h a] (.ok (s.setMode h a)))

/-! ## Requests (R387 to R390) -/

def hostWaitRow : CmdRow := { opcode := 0x90, admin := true, ctx := .none, states := groupA }

def execHostWait (h : Hdr) (addr : W64) (len : W32) (s : State) : Result :=
  s.hostCommand h hostWaitRow (fun s =>
    .waits { s with waits := s.waits ++ [{ hdr := h, addr := addr, len := len }] })

def RequestKind.code : RequestKind → Nat
  | .training _ _ _ => 1
  | .sampling _ _ => 2
  | .sparePlan _ => 3
  | .thermal => 4
  | .unwrap _ _ => 5

/-- Bytes as 64-bit words. -/
def wordsLE : List Byte → List W64
  | b0 :: b1 :: b2 :: b3 :: b4 :: b5 :: b6 :: b7 :: r =>
    BitVec.ofNat 64 (ofBytesLE [b0, b1, b2, b3, b4, b5, b6, b7]) :: wordsLE r
  | [] => []
  | l => [BitVec.ofNat 64 (ofBytesLE l)]

/-- R474: a record of a plan request. -/
def planRecord (p : Part) : List Byte := [0, p.kind, p.t0, p.t1, p.t2, p.t3, p.t4, p.t5]

/-- The open draw of a sampling request. -/
def State.openDraw (s : State) (r : RegionId) (seq : W16) : Option (Nat × Sampler × Draw) :=
  match s.samplerCluster r.val with
  | none => none
  | some q =>
    let p := (s.clusterOf q).sampler
    (p.draws.find? (fun d => d.seq == seq && d.result.isNone)).map (fun d => (q, p, d))

/-- R390: the candidates, the cut-off and W. With temperature 0 there is no candidate set, and none is passed (DEDUCED, log
entry 52). -/
def Sampler.requestWords (p : Sampler) (r : RegionId) (seq : W16) (d : Draw) : List W64 :=
  let ys := if p.isCold then [] else p.ranking d.body.scores
  let ws := candidateWeights ys
  let sums := cumulative 0 ws
  let n := if ys = [] then 0 else p.cutOff sums + 1
  pack [(0, 8, r.val), (16, 16, seq.toNat), (32, 32, d.pos.toNat)] ::
  pack [(0, 16, ys.length), (16, 16, n), (32, 32, (sums.getLastD 0).toNat)] ::
  (ys.zip ws).map (fun e => pack [(0, 32, e.1.1), (32, 32, e.2.toNat)])

/-- The payload of a request. -/
def State.payload (s : State) : RequestKind → List W64
  | .training u atEq lanes =>
    pack [(0, 8, u.val), (8, 8, flag atEq)] :: (List.range 9).map (fun i => wordOf lanes i)
  | .sampling r seq =>
    match s.openDraw r seq with
    | some e => e.2.1.requestWords r seq e.2.2
    | none => []
  | .sparePlan ps => wordsLE (bytesLE 8 ps.length ++ ps.flatMap planRecord)
  | .thermal =>
    wordsLE ((List.range 100).flatMap (fun f => (s.fieldOf f).readings.toList.flatMap (fun t => bytesLE 2 t.toNat)))
  | .unwrap _ b =>
    wordsLE (KeyBlob.bytes b)

/-- R387: a request goes to the oldest outstanding HOST_WAIT whose buffer is large enough. -/
def State.giveRequest (s : State) (r : HostReq) : State :=
  let ws := s.payload r.kind
  match s.waits.find? (fun w => decide (8 * ws.length ≤ w.len.toNat)) with
  | none => s
  | some w =>
    let s : State := { s with
      waits := s.waits.erase w,
      requests := s.requests.map (fun (q : HostReq) => if q.id = r.id then { q with given := true } else q),
      hostOut := s.hostOut ++ [.request w.addr r ws] }
    s.complete w.hdr stOK noDetail false
      [pack [(0, 32, r.id.toNat), (32, 8, r.kind.code), (48, 16, 8 * ws.length)]]

def execHostRequest (reqId : W32) (s : State) : Result :=
  if s.mode = .off ∨ s.mode = .hold then .next s
  else
    match s.requests.find? (fun r => r.id == reqId && !r.given) with
    | some r => .next (s.giveRequest r)
    | none => .next s

/-! ## HOST_REPLY (R387 to R390) -/

/-- R389: nine lane settings of PRE, MAIN, POST and a reserved byte. -/
def trainingReplyOk : List Byte → Bool
  | [] => true
  | pre :: main :: post :: _ :: r =>
    decide (pre.toNat ≤ 15 ∧ 32 ≤ main.toNat ∧ main.toNat ≤ 63 ∧ post.toNat ≤ 31) && trainingReplyOk r
  | _ => false

/-- The records of DARN_REQUEST arguments. -/
def darnRecs : List Byte → List DarnRec
  | op :: k :: t0 :: t1 :: t2 :: t3 :: t4 :: t5 :: r =>
    (op, { kind := k, t0 := t0, t1 := t1, t2 := t2, t3 := t3, t4 := t4, t5 := t5 }) :: darnRecs r
  | _ => []

/-- A plan reply has the form of DARN_REQUEST's arguments. -/
def planReplyOk (d : List Byte) : Bool :=
  ((d.drop 1).take 7).all (· == 0) && d.length == 8 + 8 * (d.headD 0).toNat

/-- The ranges of each kind. -/
def State.badReply (s : State) (k : RequestKind) (d : List Byte) : Option Bad :=
  match k with
  | .training _ _ _ => check (d.length != 36 || !trainingReplyOk d) stBAD_ARG 8
  | .sampling _ _ => check (d.length != 4 || decide (1048576 ≤ ofBytesLE d)) stBAD_ARG 8
  | .sparePlan _ => firstBad [check (!planReplyOk d) stBAD_ARG 8, s.darnBad (darnRecs (d.drop 8))]
  | .thermal => check (d.length != 100 || d.any (fun b => decide (15 < b.toNat))) stBAD_ARG 8
  | .unwrap _ _ => check (d.length != 60) stBAD_ARG 8

/-- R313: the stage goes on with the settings of the host. -/
def LinkUnit.resume (k : LinkUnit) (d : List Byte) : LinkUnit :=
  if !k.hostStop then k
  else { k with hostStop := false, equaliser := d, stage := if k.stage = .lock then .eq else .align }

/-- R139: the word of a token that the host has drawn. -/
def hostToken (token : Nat) (d : Draw) : W64 :=
  if d.body.scores = [] then allOnes64 else tokenWord token false d.body.nonFinite

/-- R474, R472 point 5: a plan is applied, and Darning completes. -/
def State.applyPlan (s : State) (rs : List DarnRec) (hs : List (W32 × Bool)) (failed : List PhysId) : State :=
  (((s.applyDarn rs failed).1).poisonReplaced rs hs).endDarning

/-- A reply within its ranges is acted on. -/
def State.applyReply (s : State) (k : RequestKind) (a : ReplyArgs) : State :=
  match k with
  | .training u _ _ => s.modUnit u.val (fun v => v.resume a.data)
  | .sampling r seq =>
    match s.openDraw r seq with
    | some e => s.giveToken e.1 seq (fun _ d => hostToken (ofBytesLE a.data) d)
    | none => s
  | .sparePlan _ => s.applyPlan (darnRecs (a.data.drop 8)) a.unreadable a.failed
  | .thermal =>
    s.each a.data.zipIdx (fun s e => s.modField e.2 (fun v => v.withStep e.1.toNat))
  | .unwrap cmd b =>
    if a.tagOk then ((s.installKey b.slot.toNat b.job (Config.sessionKey a.data)).makeMediaKey).complete cmd stOK else s.complete cmd stAUTH_FAIL

def State.dropRequest (s : State) (id : W32) : State := { s with requests := s.requests.filter (fun r => r.id != id) }

def hostReplyRow : CmdRow := { opcode := 0x91, admin := true, ctx := .none, states := groupA }

/-- A reply for a request that is not pending is REFUSED; one outside its ranges leaves the request pending. -/
def execHostReply (h : Hdr) (a : ReplyArgs) (s : State) : Result :=
  s.hostCommand h hostReplyRow (fun s =>
    match s.requests.find? (fun r => r.id == a.reqId && r.given) with
    | none => .fails s (stREFUSED, noDetail)
    | some r =>
      CmdEnd.checked s [check (a.len.toNat != a.data.length) stBAD_ARG 4, s.badReply r.kind a.data]
        (.ok ((s.dropRequest a.reqId).applyReply r.kind a)))

/-! ## Limits (R388) -/

/-- What happens without a reply in time. -/
def State.replyMissed (s : State) (k : RequestKind) : State :=
  match k with
  | .training u _ _ => if (s.unitOf u.val).hostStop then s.stageFails u.val else s
  | .sampling r seq =>
    match s.openDraw r seq with
    | some e => s.waitTimesOut e.2.2.core
    | none => s
  | .sparePlan _ => s.raise .alarm 388 0 srcModule none []
  | .thermal => s.thermalStep
  | .unwrap cmd _ => s.complete cmd stTIMEOUT

def execHostRequestLimit (reqId : W32) (s : State) : Result :=
  if s.mode = .off ∨ s.mode = .hold then .next s
  else
    match s.requests.find? (fun r => r.id == reqId) with
    | some r => .next ((s.dropRequest reqId).replyMissed r.kind)
    | none => .next s

end Sys2Proof.Machine
end

