-- ==== Sys2Proof/Machine/Boot.lean ====
section
/-! DEFINITION. Bring-up, resets, the change to the standby, and field controllers that fail (R277, R391 to R405, R415,
R420, R421, R430, R437, R450, R451, R468, R473, R484, R503). -/

set_option linter.unusedVariables false

namespace Sys2Proof.Machine

open Sys2Proof

/-! ## FAULTED (R396) -/

/-- Every HOST_WAIT completes with ABORTED, and every host request is withdrawn. -/
def State.dropWaits (s : State) : State :=
  let s := s.each s.waits (fun s w => s.complete w.hdr stABORTED)
  { s with waits := [], requests := [] }

def State.enterFaulted (s : State) : State := { s.dropWaits with mode := .faulted }

def execStandbyWatchdogExpiry (s : State) : Result :=
  if s.mgmt.standbyServes && s.mode != .off && s.mode != .hold then .next s.enterFaulted else .next s

/-! ## Module reset (R437) -/

/-- A reset of the module: it enters BRINGUP, at its first step. -/
def State.moduleReset (s : State) : State := s.afterReset .bringup

/-- MOD_RESET_N, debounced, or the reset that STATE_SET RESET has announced. In HOLD it is acted on once the module
has reached OFF. -/
def execModReset (pinLow : Bool) (s : State) : Result :=
  let t := { s with resetLow := pinLow }
  if s.mode = .off ∨ s.mode = .hold then .next t
  else if pinLow || s.mgmt.resetPending then .next t.moduleReset
  else .next t

/-! ## BRINGUP (R399, R403, R405) -/

/-- R403: a slot may be booted. -/
def Mgmt.boots (m : Mgmt) (f : FwSlot) (v : FwVerdict) : Bool := m.accepts f v && f.state != .incomplete

/-- The slot that runs: the trial slot or that of the boot pointer, and otherwise the other one; none where neither
verifies. -/
def Mgmt.chooseSlot (m : Mgmt) (b : BootFindings) : Option Bool :=
  let first := m.trialPointer.getD m.bootB
  let ok := fun (slotB : Bool) => if slotB then m.boots m.slotB b.slotB else m.boots m.slotA b.slotA
  if ok first then some first else if ok (!first) then some (!first) else none

/-- R406: the chosen image runs, and the trial pointer is cleared. -/
def Mgmt.run (m : Mgmt) (slotB : Bool) : Mgmt :=
  let m := { m with
    runningB := slotB, trialRunning := m.trialPointer == some slotB && slotB != m.bootB, trialPointer := none }
  if slotB then { m with slotB := { m.slotB with state := .valid } }
  else { m with slotA := { m.slotA with state := .valid } }

/-- R415: the next signature index. DEDUCED, log entry 49. -/
def Mgmt.nextIndex (m : Mgmt) : Nat := Nat.max m.hssHigh (m.lmsSteps.val * 2 ^ 24)

/-- R430: the input that bring-up selects. -/
def Clocks.select (c : Clocks) : Option Bool :=
  if c.a = .good then some false else if c.b = .good then some true else none

/-- R450: the half with the newest HOLD_NO is read back; the directory switches to it where it verifies. -/
def HoldArea.verify (a : HoldArea) (ok : Bool) : HoldArea :=
  let newer1 := decide (a.half0.holdNo.toNat < a.half1.holdNo.toNat)
  let half := if newer1 then a.half1 else a.half0
  if !half.committed then { a with recordOk := false }
  else if !ok then { a with recordOk := false }
  else if newer1 then { a with newest1 := true, recordOk := true, half1 := { a.half1 with verified := true } }
  else { a with newest1 := false, recordOk := true, half0 := { a.half0 with verified := true } }

/-- The half that does not hold the newest verified record is erased before READY. -/
def HoldArea.eraseOther (a : HoldArea) : HoldArea :=
  if a.newest1 then { a with half0 := {}, freeErased := true } else { a with half1 := {}, freeErased := true }

/-- R277: a session begins: a slot that was INCOMPLETE at the last bring-up and was not resumed in its session is
given up to the background erasure. -/
def ImageSlot.session (i : ImageSlot) : ImageSlot :=
  if i.state ≠ .incomplete then { i with atBringup := false, resumed := false }
  else if i.atBringup && !i.resumed then { i with held := false }
  else { i with held := true, atBringup := true, resumed := false }

/-- R484: a score read back. -/
def State.restoreScores (s : State) : State :=
  let m := s.mgmt.scores
  let s := s.each m.cores (fun s e => s.modPhys e.1 (fun k => { k with score := e.2 }))
  let s := s.each m.baskets (fun s e => s.modCluster e.1 (fun k => { k with basketScore := e.2 }))
  let s := s.each m.routers (fun s e => s.modCluster e.1 (fun k => { k with routerScore := e.2 }))
  let s := s.each m.units (fun s e => s.modUnit e.1 (fun k => { k with score := e.2 }))
  let s := s.each m.txLanes (fun s e => s.modUnit (e.1 / 9) (fun k =>
    { k with txLaneScore := k.txLaneScore.set (e.1 % 9) e.2 (Nat.mod_lt _ (by decide)) }))
  let s := s.each m.rxLanes (fun s e => s.modUnit (e.1 / 9) (fun k =>
    { k with rxLaneScore := k.rxLaneScore.set (e.1 % 9) e.2 (Nat.mod_lt _ (by decide)) }))
  let s := s.each m.hampers (fun s e => s.modStack e.1 (fun k => { k with score := e.2 }))
  let s := { s with press := { s.press with score := m.press } }
  let s := s.each m.channels (fun s e => s.modChannel e.1 (fun k => { k with score := e.2 }))
  s.each m.boundaries (fun s e => s.modField (e.1 / 16) (fun v =>
    { v with boundaries := tput {} v.boundaries (e.1 % 16) { v.boundary (e.1 % 16) with score := e.2 } }))

/-- Steps 4 and 8 of R399: the Patch table and the system area are taken up; a Darning fuse whose check fails is ignored
(R408); recorded fields are RETIRED, and recorded groups are in the boundary maps. -/
def State.loadSystemArea (s : State) (b : BootFindings) : State :=
  let s := { s with
    darn := { s.darn with fuses := s.darn.fuses.filter (fun p => !b.badFuses.contains p),
                          unrecorded := [], removedRouters := [] },
    holdArea := s.holdArea.verify b.holdRecordOk,
    press := { s.press with slots := tmap {} (fun _ i => i.session) s.press.slots },
    mgmt := { s.mgmt with hssNext := s.mgmt.nextIndex, moduleKeys := s.mgmt.moduleKeys + 1 } }
  let s := s.restoreScores
  let s := s.each (List.range 100) (fun s f =>
    if s.badParts.contains (fieldPart f) then s.modField f (fun v => { v with state := .retired }) else s)
  s.each ((s.badParts.filter (fun p => p.kind == 5)).map (fun p => (p.t0.toNat, p.t1.toNat))).eraseDups (fun s e =>
    s.modField e.1 (fun v => { v with
      boundaries := tput {} v.boundaries e.2 { v.boundary e.2 with bad := s.recordedGroups e.1 e.2 } }))

/-- R403, R450: the ALARMs of a boot: from the other slot, and of a HOLD record that does not verify. -/
def State.bootAlarms (s : State) (other : Bool) : State :=
  let s := if other then s.raise .alarm 403 0 srcModule none [] else s
  let newer := if s.holdArea.half0.holdNo.toNat < s.holdArea.half1.holdNo.toNat then s.holdArea.half1 else s.holdArea.half0
  if newer.committed && !s.holdArea.recordOk then s.raise .alarm 450 0 srcModule none [newer.holdNo.setWidth 64] else s

/-- Steps 2 to 5 and 8 of R399, once a reference is GOOD; the rings follow. -/
def State.boot (s : State) (b : BootFindings) (ref : Bool) : State :=
  let s := { s with
    mode := .bringup, ring := 1, pfWarnLow := false,
    clocks := { s.clocks with selB := ref, noneSelected := false },
    power := { s.power with convOk := 8 },
    mgmt := { s.mgmt with
      bringups := s.mgmt.bringups + 1, standbyServes := !b.primaryOk, standbyOk := b.primaryOk && b.standbyOk,
      gloved := s.mgmt.gloved || !s.tack.en } }
  if !b.fusesOk || !(b.primaryOk || b.standbyOk) then s.enterFaulted
  else
    match s.mgmt.chooseSlot b with
    | none =>
      { s with mode := .maint, ring := 0, mgmt := { s.mgmt with recovery := true, trialPointer := none } }
    | some slot =>
      let first := s.mgmt.trialPointer.getD s.mgmt.bootB
      let s := { s with mgmt := s.mgmt.run slot }
      if !b.systemAreaOk then s.enterFaulted
      else
        let s := if s.mgmt.zeroise then s.zeroiseNow else s
        let s := (s.loadSystemArea b).bootAlarms (slot != first)
        if b.connected then s else s.enterFaulted

/-- Supply is in range and MOD_RESET_N high. Without a GOOD reference bring-up waits, with an ALARM (R430).
DEDUCED, log entry 73. -/
def execBringup (b : BootFindings) (s : State) : Result :=
  let waiting := (s.mode == .off || (s.mode == .bringup && s.ring == 0)) && !s.resetLow
  if !waiting then .next s
  else
    match s.clocks.select with
    | none => .next (({ s with mode := .bringup } : State).raise .alarm 430 1 srcModule none [])
    | some ref => .next (s.boot b ref)

/-! ## Rings (R400) -/

/-- The fields of a ring. -/
def ringFields (r : Nat) : List Nat := (List.range 100).filter (fun f => ringOfField f == r)

/-- A field that its ring's next batch may test. -/
def State.testable (s : State) (f : Nat) : Bool :=
  let v := s.fieldOf f
  ringOfField f + 1 == s.ring && (v.state == .off || (v.state == .test && v.tests == 1))

/-- Step 7 of R399: the units of interfaces whose fields are ONLINE train. -/
def State.trainUnits (s : State) : State :=
  s.each (List.range 128) (fun s u =>
    let k := s.unitOf u
    if fieldServes (s.fieldOf (brimField (brimOf u))) && k.enabled && k.state == .down && k.cause != .role
    then s.beginTraining u else s)

/-- The next ring follows once every field of this one is ONLINE or RETIRED. -/
def State.closeRing (s : State) : State :=
  let up := fun (f : Nat) => fieldServes (s.fieldOf f) || (s.fieldOf f).state == .retired
  if (ringFields (s.ring - 1)).all up then { s with ring := s.ring + 1 } else s

/-- R400: a batch takes fields in increasing number, and those that failed in the batch before it. -/
def State.batchOf (s : State) (fs : List Nat) : Bool :=
  let ring := (ringFields (s.ring - 1)).filter s.testable
  let off := fun (f : Nat) => (s.fieldOf f).state == .off
  let first := fs.filter off
  first == (ring.filter off).take first.length && fs.filter (fun f => !off f) == ring.filter (fun f => !off f)

/-- After a batch the detour tables are rebuilt (R179, R400). -/
def State.rebuildRoutes (s : State) : State := s.readmit.detourUpdate

/-- A batch of at most 24 fields of the ring in progress. DEDUCED, log entry 73. -/
def execRingBatch (results : List FieldTest) (s : State) : Result :=
  if s.mode != .bringup || s.ring == 0 || decide (24 < results.length) ||
      !results.all (fun t => s.testable t.field.val) || !s.batchOf (results.map (·.field.val)) then .next s
  else
    let s := (s.each results State.fieldTested).rebuildRoutes
    .next (if s.ring = 1 then s.trainUnits.closeRing else s.closeRing)

/-! ## READY (R401) -/

/-- R399 step 5: a Hamper channel has been trained. -/
def State.channelTrained (s : State) (t : HamperTrain) : State :=
  s.modChannel (32 * t.stack.val + t.channel.val) (fun c => { c with failed := c.failed || !t.ok })

/-- One NOTICE for each channel that did not train and each Cuff unit that is not ACTIVE, one ALARM for each field
retired during the bring-up. -/
def State.readyEvents (s : State) : State :=
  let s := s.each ((List.range 100).filter (fun f => (s.fieldOf f).state == .retired && (s.fieldOf f).tests == 2))
    (fun s f => s.raise .alarm 401 0 (srcField f) none [w64 f])
  let s := s.each (tkeys (fun c : Channel => c.failed) s.channels) (fun s p =>
    s.raise .notice 401 1 (srcStack (p / 32)) none [w64 (p / 32), w64 (p % 32)])
  s.each ((List.range 128).filter (fun u => (s.unitOf u).state != .active)) (fun s u =>
    s.raise .notice 401 2 (srcUnit u) none [w64 u])

/-- The Centre ring is done and the Hamper trained: the module enters READY. A channel that did not train awaits
Darning. -/
def execBringupComplete (hamper : List HamperTrain) (s : State) : Result :=
  if s.mode != .bringup || s.ring != 6 then .next s
  else
    let s := s.each hamper State.channelTrained
    let failed := hamper.filter (fun t => !t.ok && !s.badChannel t.stack.val t.channel.val)
    let s := { s with
      hamperUp := true, holdArea := s.holdArea.eraseOther,
      darn := { s.darn with pendingParts := s.darn.pendingParts ++ failed.map (fun (t : HamperTrain) =>
        channelPart t.stack.val t.channel.val) } }
    .next { s.detourUpdate.readyEvents with mode := .ready }

/-! ## The standby (R391, R394) -/

/-- R391: every held command completes with ABORTED. -/
def State.abortAllHeld (s : State) : State :=
  s.each (List.range 16) (fun s m => s.each (s.mboxOf m).held (fun s e => s.complete e.hdr stABORTED))

/-- R503, R505: the standby's rings start empty, with their export not enabled. -/
def freshRings (rs : Table Ring) : Table Ring :=
  tmap {} (fun _ g => { g with unread := [], tokens := 64, dropped := 0, raised := 0, enable := false }) rs

/-- R394: a takeover during BRINGUP restarts the ring in progress. -/
def State.restartRing (s : State) : State :=
  if s.mode ≠ .bringup then s
  else s.each (ringFields (s.ring - 1)) (fun s f => s.modField f (fun v =>
    if v.state = .retired then v else { ({} : Field) with boundaries := v.boundaries }))

/-- R374, R391: a WEIGHT_SWAP or a WEIGHT_BIND that completes with ABORTED has changed nothing: its fills end, and what it
has placed is freed. -/
def State.undoFills (s : State) : State :=
  s.each (List.range 8) (fun s x =>
    let c := s.ctxOf x
    if c.swapCmd.isSome then s.failSwap x stABORTED else if c.bindCmd.isSome then s.endBind x stABORTED else s)

/-- R394: the standby takes over. -/
def State.takeover (s : State) : State :=
  let s : State := { s with
    rings := freshRings s.rings, mgmt := { s.mgmt with standbyServes := true, standbyOk := false, failedTile := true } }
  let s := s.undoFills.abortAllHeld
  let s := { s with waits := [], requests := [], mmpOk := false }
  let s := s.each ((List.finRange 8).filter (fun x => (s.ctxOf x.val).isOpen)) (fun s x =>
    s.abortContext x (bytesLE 4 0xFFFFFFFF ++ bytesLE 4 0xFFFFFFFF))
  let s := s.each (List.finRange 8) (fun s x => s.modCtx x.val (fun c => { c with beginCmd := none, swapCmd := none, bindCmd := none }))
  let s := s.restartRing
  let s := { s with
    press := { s.press with install := none },
    darn := { s.darn with window := none, planner := .idle } }
  s.raise .alarm 394 0 srcModule none []

/-- The serving watchdog expires, or its Thread port is lost. -/
def execMmpTakeover (s : State) : Result :=
  if s.mode != .off && s.mode != .hold && s.mode != .faulted && !s.mgmt.standbyServes && s.mgmt.standbyOk then
    .next s.takeover
  else .next s

/-- R395: no heartbeat of a field controller for 10 ms. -/
def execFcHeartbeatLost (l : ControllerLoss) (s : State) : Result :=
  let v := s.fieldOf l.field.val
  if s.mode.works && (fieldServes v || v.state == .test || v.state == .dark) then
    .next (s.controllerFails l.field.val l.loss)
  else .next s

end Sys2Proof.Machine
end

