-- ==== Sys2Proof/Machine/Collective.lean ====
section
/-! DEFINITION. The sum-over-all: chunk slots, chunks up and down the two trees, destination tiles and their
deadline (R342, R351 to R353). -/

set_option linter.unusedVariables false

namespace Sys2Proof.Machine

open Sys2Proof

/-! ## Chunks -/

/-- What a chunk adds or writes: element 64·b + i of block 32c + b. -/
structure Chunk where
  bitmap : W32
  poison : Bool
  nan : Bool
  sums : Table W64
  deriving DecidableEq, Repr

def Coll.treeOf (k : Coll) (chunk : Bool) : Nat := (if chunk then k.decl.treeB else k.decl.treeA).toNat
def Coll.sumsFp32 (k : Coll) : Bool := k.decl.form == 2
def Coll.elemSize (k : Coll) : Nat := if k.sumsFp32 then 4 else 8
def Coll.tileFmt (k : Coll) : Fmt := if k.sumsFp32 then 0x0 else 0xE

/-- R352: chunk `chunk` of tile t uses slot t mod WINDOW. -/
def Coll.slotKey (k : Coll) (t : Nat) (chunk : Bool) : Nat :=
  2 * (t % Nat.max 1 k.decl.window.toNat) + (if chunk then 1 else 0)

def State.collOf (s : State) (x : CtxId) (n : Nat) : Option Coll := tget none (s.ctxOf x.val).colls n
def State.modColl (s : State) (x : CtxId) (n : Nat) (f : Coll → Coll) : State :=
  s.modCtx x.val (fun c => { c with colls := tput none c.colls n ((tget none c.colls n).map f) })

/-- R352: an element that carries a SAT mark or the NaN mark, or is NaN in FP32. -/
def nanElem (fp32Sum : Bool) (v : W64) : Bool := if fp32Sum then isNan32 (v.setWidth 32) else fwIsMark v

/-- A chunk from its set blocks and their elements in order. -/
def chunkOf (fp32Sum : Bool) (bitmap : W32) (poison nan : Bool) (vs : List W64) : Chunk :=
  let at_ := ((List.range 32).filter (fun b => bitmap.getLsbD b)).flatMap (fun b =>
    (List.range 64).map (fun i => 64 * b + i))
  { bitmap := bitmap, poison := poison, nan := nan || vs.any (nanElem fp32Sum),
    sums := (at_.zip vs).foldl (fun t e => tput 0 t e.1 e.2) [] }

/-- The elements of the set blocks in order, as a message carries them. -/
def Chunk.elems (c : Chunk) : List W64 :=
  ((List.range 32).filter (fun b => c.bitmap.getLsbD b)).flatMap (fun b =>
    (List.range 64).map (fun i => tget 0 c.sums (64 * b + i)))

/-- The CRC of R342. -/
def collCrc (fp32Sum : Bool) (bitmap : W32) (vs : List W64) : W32 :=
  crc32c (bytesLE 4 bitmap.toNat ++ vs.flatMap (fun v => bytesLE (if fp32Sum then 4 else 8) v.toNat))

/-- Chunk `chunk` of a tile as its home holds it. A POISONED tile that holds no byte gives free values (DESIGN CHOICE, log
entry 2). -/
def State.sourceChunk (s : State) (d : Coll) (t : Tile) (chunk : Bool) : Chunk :=
  let h := t.readHeader
  let c := if chunk then 1 else 0
  let map : W32 := BitVec.ofNat 32 (h.bitmap.toNat / 2 ^ (32 * c))
  let val := fun b i =>
    if t.homePoisoned = true ∧ t.bytes = [] then Config.freeWord (s.fresh + 64 * b + i)
    else w64 (ofBytesLE ((List.range d.elemSize).map (fun j =>
      tileByte t.bytes (blockStart d.tileFmt (h.fmt.getLsbD 4) h.bitmap (32 * c + b) + d.elemSize * i + j))))
  chunkOf d.sumsFp32 map (h.fmt.getLsbD 5) false
    (((List.range 32).filter (fun b => map.getLsbD b)).flatMap (fun b => (List.range 64).map (val b)))

/-- One addition (R109, R352). -/
def collAdd (fp32Sum : Bool) (a b : W64) : W64 :=
  if fp32Sum then ((add32 (a.setWidth 32) (b.setWidth 32)).1).setWidth 64 else (fwAdd a b).1

/-- A chunk is added into a slot: the bitmaps are united (R146). -/
def CollSlot.add (fp32Sum : Bool) (k : CollSlot) (c : Chunk) (count : Nat) (own : Bool) : CollSlot :=
  let sums := (List.range 2048).foldl (fun t e =>
    let b := e / 64
    if c.bitmap.getLsbD b then
      tput 0 t e (if k.bitmap.getLsbD b then collAdd fp32Sum (tget 0 k.sums e) (tget 0 c.sums e)
        else tget 0 c.sums e)
    else t) k.sums
  { k with
    count := k.count + count, own := k.own || own, bitmap := k.bitmap ||| c.bitmap,
    poison := k.poison || c.poison,
    nan := k.nan || c.nan || sums.any (fun e => nanElem fp32Sum e.2), sums := sums }

/-- R111: a chunk that has met two window exponents. -/
def CollSlot.mixed (k : CollSlot) : CollSlot :=
  { k with bitmap := 0xFFFFFFFF, nan := true, sums := (List.range 2048).map (fun i => (i, fwNan)) }

def CollSlot.chunk (k : CollSlot) : Chunk := { bitmap := k.bitmap, poison := k.poison, nan := k.nan, sums := k.sums }

/-! ## The destination -/

/-- A chunk is written into destination tile t; the tile completes under the step with its second chunk.
DEDUCED, log entry 34. -/
def State.writeChunk (s : State) (x : CtxId) (n : Nat) (k : Coll) (t : Nat) (chunk : Bool) (c : Chunk) : State :=
  let d := k
  let step := (s.ctxOf x.val).step
  let key := s.tileKey (d.decl.dst + BitVec.ofNat 32 t)
  let tile := s.tileOf key
  let h := tile.readHeader
  let half := if chunk then 1 else 0
  let other := k.written.contains (BitVec.ofNat 32 t, !chunk)
  let again := k.written.contains (BitVec.ofNat 32 t, chunk)
  let keep : W64 := if chunk then 0x00000000FFFFFFFF else 0xFFFFFFFF00000000
  let map := (h.bitmap &&& keep) ||| ((c.bitmap.setWidth 64) <<< (32 * half))
  let block := fun b =>
    if b / 32 = half then
      (List.range 64).flatMap (fun i => bytesLE d.elemSize (tget 0 c.sums (64 * (b % 32) + i)).toNat)
    else
      (List.range (64 * d.elemSize)).map (fun i =>
        tileByte tile.bytes (blockStart d.tileFmt (h.fmt.getLsbD 4) h.bitmap b + i))
  let bytes := writeBytes [] 0 (((List.range 64).filter (fun b => map.getLsbD b)).flatMap block)
  let s := s.storeTile key step (storedHeader d.tileFmt map 0xFFFF) bytes
    (c.poison || if other then k.spoiled.contains (BitVec.ofNat 32 t, !chunk) else tile.homePoisoned)
  let s := if other then s else s.modTile key (fun q => { q with lastStep := tile.lastStep })
  let s := s.modColl x n (fun k => { k with
    written := if again then k.written else k.written ++ [(BitVec.ofNat 32 t, chunk)],
    spoiled := k.spoiled.filter (· != (BitVec.ofNat 32 t, chunk)) ++
      (if c.poison then [(BitVec.ofNat 32 t, chunk)] else []) })
  if other && !again && d.decl.tilePeg.getLsbD 15 then s.postPeg (d.decl.tilePeg.toNat % 1024) x.val 0 true false else s

/-! ## The chain (R352) -/

/-- The chunk as a message to the fabric. -/
def State.collMsg (s : State) (x : CtxId) (n : Fin 16) (d : Coll) (t : Nat) (chunk : Bool) (c : Chunk)
    (count : W16) : CollMsg :=
  { job := (s.ctxOf x.val).job, node := s.nodeOf x.val, coll := n, poison := c.poison, nan := c.nan,
    fp32 := d.sumsFp32, wexp := d.decl.wexp, step := (s.ctxOf x.val).step, tile := BitVec.ofNat 32 t, chunk := chunk,
    bitmap := c.bitmap, count := count, body := c.elems, crc := collCrc d.sumsFp32 c.bitmap c.elems }

/-- COLL_OUT counts the chunks sent; an entry at a fence is skipped (R330, R355). -/
def State.countOut (s : State) (x : CtxId) (us : List Nat) : State :=
  let n := (us.filter (fun u => s.unitOpen u x.val)).length
  if n = 0 then s else s.treeBump x.val 0 n

def State.collDown (s : State) (x : CtxId) (r : TreeRec) (m : CollMsg) : State :=
  (s.countOut x (treeChildren r)).sendDown x.val r (.coll true m)

/-- A slot whose COUNT has reached SUBTREE sends UP; at the root the chunk is written, sent DOWN, and its slot
is freed. -/
def State.settleSlot (s : State) (x : CtxId) (n : Fin 16) (t : Nat) (chunk : Bool) : State :=
  match s.collOf x n.val with
  | none => s
  | some k =>
    match tget none k.slots (k.slotKey t chunk), s.treeRec x.val (k.treeOf chunk) with
    | some q, some r =>
      if treeRoot r then
        if q.count = r.size.toNat then
          let s := s.writeChunk x n.val k t chunk q.chunk
          let s := s.collDown x r (s.collMsg x n k t chunk q.chunk r.size)
          s.modColl x n.val (fun k => { k with slots := tput none k.slots (k.slotKey t chunk) none })
        else s
      else if q.count = r.subtree.toNat then
        (s.countOut x [r.parent.toNat]).sendUp x.val r (.coll false (s.collMsg x n k t chunk q.chunk r.subtree))
      else s
    | _, _ => s

/-- A chunk is added into its slot, which is free or holds its tile. -/
def State.addChunk (s : State) (x : CtxId) (n : Fin 16) (k : Coll) (e : CollHeld) : State :=
  let d := k
  let t := e.tile.toNat
  let key := d.slotKey t e.chunk
  let start : CollSlot := (tget none k.slots key).getD
    { tile := e.tile, count := 0, bitmap := 0, poison := false, nan := false, sums := [] }
  let s := match e.msg with
    | some m =>
      let c := chunkOf d.sumsFp32 m.bitmap m.poison m.nan m.body
      let clash := !d.sumsFp32 && m.wexp != d.decl.wexp
      let q := start.add d.sumsFp32 c m.count.toNat false
      let q := if clash then q.mixed else q
      let s := s.modColl x n.val (fun k => { k with slots := tput none k.slots key (some q) })
      if clash then
        s.raise .fault 111 0 (srcCtx x.val) (some x.val)
          [(d.decl.dst + e.tile).setWidth 64, w64 (if e.chunk then 1 else 0)]
      else s
    | none =>
      let tile := s.tileOf (s.tileKey (d.decl.src + e.tile))
      let q := start.add d.sumsFp32 (s.sourceChunk d tile e.chunk) 1 true
      (if tile.homePoisoned = true ∧ tile.bytes = [] then s.useFrees 2048 else s).modColl x n.val
        (fun k => { k with slots := tput none k.slots key (some q) })
  s.settleSlot x n t e.chunk

/-- The slot of a chunk is free, or holds its tile. -/
def Coll.slotFits (k : Coll) (e : CollHeld) : Bool :=
  match tget none k.slots (k.slotKey e.tile.toNat e.chunk) with
  | some q => q.tile == e.tile
  | none => true

/-- Held chunks enter the slots that are free for them, oldest first. -/
def State.releaseHeld (s : State) (x : CtxId) (n : Fin 16) : Nat → State
  | 0 => s
  | fuel + 1 =>
    match s.collOf x n.val with
    | none => s
    | some k =>
      match k.held.find? k.slotFits with
      | none => s
      | some e =>
        let k := { k with held := k.held.erase e }
        let s := s.modColl x n.val (fun _ => k)
        State.releaseHeld (s.addChunk x n k e) x n fuel

/-- A chunk meets its slot: it is added, or waits. DEDUCED, log entry 60. -/
def State.takeChunk (s : State) (x : CtxId) (n : Fin 16) (k : Coll) (e : CollHeld) : State :=
  if k.slotFits e then
    let s := s.addChunk x n k e
    s.releaseHeld x n k.held.length
  else
    (s.treeBump x.val 7 1).modColl x n.val (fun k => { k with held := k.held ++ [e] })

/-- The declared collective of a step that is open, where the tile is one of its tiles. -/
def State.openColl (s : State) (x : CtxId) (n : Nat) (t : Nat) : Option Coll :=
  match s.collOf x n with
  | some k => if (s.ctxOf x.val).isOpen && decide (t < k.decl.tiles.toNat) then some k else none
  | none => none

/-- This node's own chunk is in its slot, waits for it, or has gone on. -/
def Coll.hasOwn (k : Coll) (t : Nat) (chunk : Bool) : Bool :=
  k.written.contains (BitVec.ofNat 32 t, chunk) ||
  k.held.any (fun e => e.msg.isNone && e.tile.toNat == t && e.chunk == chunk) ||
  (match tget none k.slots (k.slotKey t chunk) with
    | some q => q.own && q.tile.toNat == t
    | none => false)

/-- R352: a source tile holds as WRITTEN of R246 does, and its chunk is added. -/
def execCollSourceWritten (x : CtxId) (n : Fin 16) (tile : Nat) (chunk : Bool) (s : State) : Result :=
  match s.openColl x n.val tile with
  | none => .next s
  | some k =>
    let t := s.tileOf (s.tileKey (k.decl.src + BitVec.ofNat 32 tile))
    let ready := t.lastStep == some (s.ctxOf x.val).step && t.lock.isNone && !t.moving
    if !s.mode.works || !ready || k.hasOwn tile chunk ||
        (s.treeRec x.val (k.treeOf chunk)).isNone then .next s
    else .next (s.takeChunk x n k ⟨BitVec.ofNat 32 tile, chunk, none⟩)

/-! ## Messages (R338, R342, R353) -/

/-- The checks that both directions share: `near` says that the unit is the neighbour the direction asks for. -/
def State.fromColl (s : State) (u : UnitId) (m : CollMsg) (near : TreeRec → Bool)
    (f : CtxId → TreeRec → Coll → State → State) : Result :=
  if !m.wf then .fault .illFormed
  else
    match s.admitted u mCOLL m.job with
    | none => .next s
    | some x =>
      let s := s.treeBump x.val 1 1
      if !(s.ctxOf x.val).isOpen || m.step != (s.ctxOf x.val).step then .next (s.treeBump x.val 2 1)
      else
        match s.openColl x m.coll.val m.tile.toNat with
        | none => .next (s.stray x)
        | some k =>
          match s.treeRec x.val (k.treeOf m.chunk) with
          | none => .next (s.stray x)
          | some r =>
            if !near r || m.fp32 != k.sumsFp32 then .next (s.stray x)
            else if collCrc m.fp32 m.bitmap m.body ≠ m.crc then
              .next ((s.treeBump x.val 3 1).setMark x .crc
                (bytesLE 12 0 ++ bytesLE 4 m.tile.toNat ++ [if m.chunk then 1 else 0, 0]))
            else .next (f x r k s)

def execCollUp (u : UnitId) (m : CollMsg) (s : State) : Result :=
  s.fromColl u m (fun r => treeHasChild r u.val) (fun x r k s => s.takeChunk x m.coll k ⟨m.tile, m.chunk, some m⟩)

/-- The slot of a chunk is freed, where it holds its tile. -/
def Coll.freeSlot (k : Coll) (tile : W32) (chunk : Bool) : Coll :=
  match tget none k.slots (k.slotKey tile.toNat chunk) with
  | some q => if q.tile = tile then { k with slots := tput none k.slots (k.slotKey tile.toNat chunk) none } else k
  | none => k

/-- The chunk is written here, sent on, and its slot is freed. -/
def execCollDown (u : UnitId) (m : CollMsg) (s : State) : Result :=
  s.fromColl u m (fun r => treeParentIs r u.val) (fun x r k s =>
    let s := s.writeChunk x m.coll.val k m.tile.toNat m.chunk (chunkOf m.fp32 m.bitmap m.poison m.nan m.body)
    let s := s.collDown x r { m with node := s.nodeOf x.val }
    let s := s.modColl x m.coll.val (fun k => k.freeSlot m.tile m.chunk)
    s.releaseHeld x m.coll k.held.length)

/-- R353: a destination tile is not complete at DEADLINE. -/
def execCollDeadline (x : CtxId) (n : Fin 16) (tile : Nat) (s : State) : Result :=
  match s.openColl x n.val tile with
  | none => .next s
  | some k =>
    let t : W32 := BitVec.ofNat 32 tile
    if !s.mode.works || (k.written.contains (t, false) && k.written.contains (t, true)) then .next s
    else
      let h := k.decl.dst + t
      .next ((s.poisonTile (s.tileKey h)).setMark x .short (bytesLE 4 h.toNat))

end Sys2Proof.Machine
end

