-- ==== Sys2Proof/Machine/Mesh.lean ====
section
/-! DEFINITION. Tubs, reduction destinations, mesh links and detours (R111, R112, R166 to R180, R289 to R291,
R459, R460, R483). -/

set_option linter.unusedVariables false

namespace Sys2Proof.Machine

open Sys2Proof

/-! ## Sums (R112, R174) -/

/-- A contribution's element in the sum form (R112). -/
def widenRed (fp32Sum : Bool) (form : WireForm) (e : Int) (v : W64) : W64 :=
  match form with
  | .bf16 =>
    let x := bf16.decode (v.toNat % 65536)
    if fp32Sum then (roundFp32 x).1.setWidth 64 else (fwOfVal x e).1
  | _ => v

/-- The packet's element for index i (0 to 127) of its fragment, in sum form. -/
def RedPacketData (p : RedPacket) : Nat → W64 := fun i =>
  let at_ := if p.bmap.getLsbD 0 then i else i - 64
  widenRed p.sumFp32 p.form p.wexp.toInt (p.data.getD at_ 0)

/-- Elements 0 to 127 present under a BMAP. -/
def present (m : BitVec 2) (i : Nat) : Bool := m.getLsbD (i / 64)

/-- The elements of a packet in sum form. -/
def packetSums (p : RedPacket) : Table W64 :=
  (List.range 128).foldl (fun t i => if present p.bmap i then tput 0 t i (RedPacketData p i) else t) []

/-- R112, R174, R289: sums with a packet's elements added; an element of a block that was absent is +0. -/
def addBlocks (fp32Sum : Bool) (sums : Table W64) (p : RedPacket) : Table W64 :=
  (List.range 128).foldl (fun t i =>
    if !present p.bmap i then t
    else
      let v := RedPacketData p i
      tput 0 t i
        (if fp32Sum then ((add32 ((tget 0 t i).setWidth 32) (v.setWidth 32)).1).setWidth 64
         else (fwAdd (tget 0 t i) v).1)) sums

/-- Every element a NaN mark (R111). -/
def allNan : Table W64 := (List.range 128).map (fun i => (i, fwNan))

/-! ## Tubs -/

def RedPacket_key (p : RedPacket) : TubKey :=
  { dest := p.dest, ctx := p.ctx, job := p.job, step := p.step, handle := p.handle, frag := p.frag,
    sumFp32 := p.sumFp32 }

/-- R174 step 1: the packet is added into a slot. -/
def TubSlot.add (t : TubSlot) (p : RedPacket) : TubSlot :=
  let mixed := !p.sumFp32 && (t.wexp != p.wexp || p.mixed || t.mixed)
  { t with
    count := satAdd16 t.count p.count.toNat, bmap := t.bmap ||| p.bmap, poison := t.poison || p.poison,
    mixed := mixed, sums := if mixed then allNan else addBlocks p.sumFp32 t.sums p }

/-- A packet stored in a slot. -/
def TubSlot.claim (p : RedPacket) : TubSlot :=
  { key := RedPacket_key p, count := p.count, total := p.total, wexp := p.wexp, bmap := p.bmap,
    poison := p.poison, mixed := p.mixed,
    sums := if p.mixed then allNan else packetSums p }

/-- R175: the packet that a slot emits, with the router of its Tub as its source (DESIGN CHOICE, log entry 56). -/
def TubSlot.packet (t : TubSlot) (k : Nat) : RedPacket :=
  { dest := t.key.dest, src := routerAddr k, ctx := t.key.ctx, job := t.key.job, step := t.key.step, handle := t.key.handle,
    frag := t.key.frag, form := if t.key.sumFp32 then .fp32 else .fw64, sumFp32 := t.key.sumFp32,
    bmap := t.bmap, poison := t.poison, count := t.count, total := t.total, wexp := t.wexp,
    mixed := t.mixed,
    data := ((List.range 128).filter (present t.bmap)).map (fun i => tget 0 t.sums i) }

def Cluster.tub (c : Cluster) (n : Nat) : Option TubSlot := tget none c.tubs n
/-- DEDUCED, log entry 56. -/
def State.putTub (s : State) (k n : Nat) (t : Option TubSlot) : State :=
  s.modCluster k (fun c => { c with tubs := tput none c.tubs n t })

/-! ## Routes (R166, R168, R179) -/

/-- R168: the next position from p to d: along x to the column of d, then along y. -/
def nextHop (p d : Nat × Nat) : Nat × Nat :=
  if p.1 < d.1 then (p.1 + 1, p.2)
  else if d.1 < p.1 then (p.1 - 1, p.2)
  else if p.2 < d.2 then (p.1, p.2 + 1)
  else if d.2 < p.2 then (p.1, p.2 - 1)
  else p

/-- R179: neither the link between two neighbours nor the router beyond it is removed. -/
def State.linkUp (s : State) (p q : Nat × Nat) : Bool :=
  (s.neighbours p.1 p.2).contains q && !s.routerDead (atPos q.1 q.2)

/-- R179: the dimension-order route from p to d, of at most n hops, is clear. -/
def State.routeClear (s : State) : Nat → Nat × Nat → Nat × Nat → Bool
  | 0, p, d => p == d
  | n + 1, p, d => p == d || (s.linkUp p (nextHop p d) && s.routeClear n (nextHop p d) d)

/-- R179: the packet leaves the router of k in its detour channel. It returns to its normal channel, DETOUR clear, where
its route is clear again (DESIGN CHOICE, log entry 56). -/
def State.detours (s : State) (p : RedPacket) (k : Nat) : Bool := !s.routeClear 78 (posOf k) (posAddr p.dest)

/-- The packet as it enters the next router. -/
def State.onward (s : State) (f : Flight) : RedPacket :=
  { f.packet with detour := match f.here with
    | some k => s.detours f.packet k
    | none => false }

/-- R168, R179: the packet enters the router of k next: its source router first, then the next one of its route; in a detour
that which the tables name, a live neighbour. -/
def State.hops (s : State) (f : Flight) (k : Nat) : Bool :=
  match f.here with
  | none => f.packet.src == routerAddr k
  | some h =>
    let p := posOf h
    let d := posAddr f.packet.dest
    p != d && (if s.detours f.packet h then s.linkUp p (posOf k) else nextHop p d == posOf k)

/-- The hops that a packet has before it on its route. -/
def Flight.left (f : Flight) : Nat :=
  let d := posAddr f.packet.dest
  match f.here with
  | none => 79
  | some k => let p := posOf k; (p.1 - d.1) + (d.1 - p.1) + (p.2 - d.2) + (d.2 - p.2)

/-- R168: no packet sent earlier between the same routers stands level with packet i of the mesh, or behind it; of packets
in a detour no order is promised. -/
def State.inOrder (s : State) (i : Nat) (f : Flight) : Bool :=
  f.packet.detour || (s.mesh.take i).all (fun e =>
    e.packet.src != f.packet.src || e.packet.dest != f.packet.dest || e.packet.detour || e.left < f.left)

/-- The packet in the mesh that satisfies `at_` and is the next of its source and destination to move. -/
def State.findFlight (s : State) (at_ : Flight → Bool) : Option (Nat × Flight) :=
  ((s.mesh.zipIdx).find? (fun e => at_ e.1 && s.inOrder e.2 e.1)).map (fun e => (e.2, e.1))

/-- Packet i leaves the mesh, or has entered the router of k as p. -/
def State.endFlight (s : State) (i : Nat) : State := { s with mesh := s.mesh.eraseIdx i }
def State.moveFlight (s : State) (i : Nat) (p : RedPacket) (k : ClusterId) : State :=
  { s with mesh := s.mesh.set i { packet := p, here := some k } }

/-- R177: the FAULT of a Tub addition whose residue fails names the router and the key. -/
def State.tubFault (s : State) (k : Nat) (p : RedPacket) : State :=
  s.raise .fault 177 0 (srcCluster k) (some p.ctx.val)
    [w64 k, p.dest.setWidth 64, w64 p.ctx.val, p.job.setWidth 64, p.step.setWidth 64, p.handle.setWidth 64, w64 p.frag.val,
     if p.sumFp32 then 1 else 0]

/-- R174, R177: packet i of the mesh, as p, meets the Tub of the router of k. -/
def State.meetTub (s : State) (k : ClusterId) (i : Nat) (p : RedPacket) (channelFree residueOk : Bool) : State :=
  let c := s.clusterOf k
  let slots := List.range 64
  let mine := fun n => match c.tub n with
    | some t => t.key == RedPacket_key p
    | none => false
  match slots.find? mine with
  | some n =>
    match c.tub n with
    | none => s
    | some t =>
      if t.total ≠ p.total then (s.moveFlight i { p with bypass := true } k).routerBump k 2 1
      else
        let t := t.add p
        let s := ((s.endFlight i).putTub k n (some { t with poison := t.poison || !residueOk })).routerBump k 1 1
        if residueOk then s else ((s.routerBump k 3 1).tubFault k p).scoreRouter k 256
  | none =>
    if (s.ctxOf p.ctx.val).tubHold = 0 ∧ channelFree = true then s.moveFlight i p k
    else
      match slots.find? (fun n => (c.tub n).isNone) with
      | some n => ((s.endFlight i).putTub k n (some (TubSlot.claim p))).routerBump k 0 1
      | none => (s.moveFlight i { p with bypass := true } k).routerBump k 2 1

/-- R168, R169, R174, R179, R180: a RED packet enters the router of cluster k, the next of its route; the router that it
leaves counts it where it switches to the detour channel. -/
def execTubArrival (k : ClusterId) (p : RedPacket) (channelFree residueOk : Bool) (s : State) : Result :=
  if !p.wf then .fault .illFormed
  else
    let q := { p with hcheckOk := true }
    match s.findFlight (fun f => s.onward f == q && s.hops f k) with
    | none => .next s
    | some (i, f) =>
      if !s.meshRuns k || s.routerDead k then .next s
      else
        let s := if q.detour && !f.packet.detour then s.routerBump f.router 5 1 else s
        if !p.hcheckOk || s.routerDead (clusterAt (posAddr p.dest).1 (posAddr p.dest).2) then
          .next ((s.endFlight i).routerBump k 6 1)
        else if p.bypass || p.notub then .next (s.moveFlight i q k)
        else .next (s.meetTub k i q channelFree residueOk)

/-- R175: a slot emits its sum. -/
def execTubEmit (k : ClusterId) (slot : Fin 64) (holdPassed channelFreed : Bool) (s : State) : Result :=
  match (s.clusterOf k).tub slot.val with
  | none => .next s
  | some t =>
    let hold := (s.ctxOf t.key.ctx.val).tubHold
    if s.meshRuns k && (t.count == t.total || (hold != 0 && holdPassed) || (hold == 0 && channelFreed)) then
      let s := s.putTub k slot.val none
      .next { s with mesh := s.mesh ++ [Flight.mk (t.packet k) (some k)] }
    else .next s

/-! ## The destination adder (R289 to R291) -/

def Tile.frag (t : Tile) (m : Nat) : Frag := tget {} t.frags m
def Tile.putFrag (t : Tile) (m : Nat) (f : Frag) : Tile := { t with frags := tput {} t.frags m f }

/-- R291: the marks of an FW64 fragment after an addition. -/
def Frag.noteMarks (f : Frag) : Frag :=
  if f.nan then f
  else
    match f.sums.find? (fun e => fwIsMark e.2) with
    | some e => { f with nan := true, firstNan := e.1 }
    | none => f

/-- R291: the marks of an FP32 fragment that completes. -/
def Frag.noteNan32 (f : Frag) : Frag :=
  match f.sums.find? (fun e => isNan32 (e.2.setWidth 32)) with
  | some e => { f with nan := true, firstNan := e.1 }
  | none => f

/-- R289 step 3: the fragment restarts under the packet's step; a chunk that has met two window exponents in
the step stays marked (R111). -/
def Tile.restart (t : Tile) (p : RedPacket) : Frag :=
  let m := p.frag.val
  let mixed := t.frags.any (fun e => e.1 / 16 == m / 16 && e.2.mixed && e.2.step == p.step)
  { written := true, step := p.step, total := p.total, wexp := p.wexp, mixed := mixed,
    bmap := if mixed then 3 else 0, sums := if mixed then allNan else [], nan := mixed }

/-- R111: fragments of the chunk that carry another window exponent in this step. -/
def Tile.windowClash (t : Tile) (p : RedPacket) : Bool :=
  !p.sumFp32 && (p.mixed || t.frags.any (fun e =>
    e.1 / 16 == p.frag.val / 16 && e.2.written && e.2.step == p.step && e.2.wexp != p.wexp))

/-- R111: every element of the chunk becomes the NaN mark. -/
def Tile.markChunk (t : Tile) (p : RedPacket) : Tile :=
  { t with frags := t.frags.map (fun e =>
      if e.1 / 16 = p.frag.val / 16 ∧ e.2.step = p.step then
        (e.1, { e.2 with mixed := true, bmap := 3, sums := allNan, nan := true,
                         firstNan := if e.2.nan then e.2.firstNan else 0 })
      else e) }

/-- R290: all 32 fragments are complete under one step. -/
def Tile.reduced (t : Tile) (step : W32) : Bool :=
  (List.range 32).all (fun m =>
    let f := t.frag m
    f.written && f.step == step && f.count == f.total.toNat)

/-- R290: the header and bytes of a complete destination. -/
def Tile.sumContent (t : Tile) (fp32Sum : Bool) : TileHeader × Table Byte :=
  let fmt : Fmt := if fp32Sum then 0x0 else 0xE
  let size := if fp32Sum then 4 else 8
  let map : W64 := BitVec.ofNat 64 ((List.range 32).foldl (fun n m => n + (t.frag m).bmap.toNat * 4 ^ m) 0)
  (storedHeader fmt map 0xFFFF,
    writeBytes [] 0 (((List.range 64).filter (fun b => map.getLsbD b)).flatMap (fun b =>
      (List.range 64).flatMap (fun i => bytesLE size (tget 0 (t.frag (b / 2)).sums (64 * (b % 2) + i)).toNat))))

/-- R291: a FAULT for each chunk with a NAN bit. -/
def State.nanEvents (s : State) (x : CtxId) (h : W32) (t : Tile) : State :=
  s.each [0, 1] (fun s c =>
    match (List.range 16).find? (fun i => (t.frag (16 * c + i)).nan) with
    | some i => s.raise .fault 291 0 (srcCtx x.val) (some x.val)
        [w64 x.val, h.setWidth 64, w64 c, w64 (128 * i + (t.frag (16 * c + i)).firstNan)]
    | none => s)

/-- R290: a destination that has become complete is written. -/
def State.completeReduction (s : State) (key : Nat) (p : RedPacket) : State :=
  let t := s.tileOf key
  if !t.reduced p.step then s
  else
    let t := if p.sumFp32 then
        { t with frags := t.frags.map (fun e => (e.1, e.2.noteNan32)) } else t
    let c := t.sumContent p.sumFp32
    let poison := (List.range 32).any (fun m => (t.frag m).poison)
    let s := (s.putTile key { t with redPegs := [] }).storeTile key p.step c.1 c.2 poison
    -- R231: the arrivals of the streams with PEG_TILE that reduced into the tile in this step
    let s := s.each (t.redPegs.filter (fun e => e.1 == p.step)) (fun s e =>
      s.postPeg e.2.2.val p.ctx.val e.2.1.val true false)
    s.nanEvents p.ctx p.handle t

def State.redFault (s : State) (p : RedPacket) (pos : Nat) : State :=
  (s.gradBump p.ctx.val 5 1).raise .fault 289 pos (srcCtx p.ctx.val) (some p.ctx.val)
    [w64 p.ctx.val, p.handle.setWidth 64, w64 p.frag.val]

/-- R289 steps 4 to 7: the packet meets its fragment. -/
def State.addRed (s : State) (key : Nat) (p : RedPacket) : State :=
  let m := p.frag.val
  let t := s.tileOf key
  let f := t.frag m
  if p.total ≠ f.total then
    (s.putTile key (t.putFrag m { f with poison := true })).redFault p 0
  else
    let clash := t.windowClash p
    let t := if clash then t.markChunk p else t
    let s := if clash then
        (s.gradBump p.ctx.val 5 1).raise .fault 111 0 (srcCtx p.ctx.val) (some p.ctx.val)
          [p.handle.setWidth 64, w64 (m / 16)]
      else s
    let f := t.frag m
    let f := { f with
      sums := if f.mixed then allNan else addBlocks p.sumFp32 f.sums p,
      count := f.count + p.count.toNat, bmap := f.bmap ||| p.bmap, poison := f.poison || p.poison }
    let f := if p.sumFp32 then f else f.noteMarks
    let tooMany := decide (f.total.toNat < f.count)
    let s := s.putTile key (t.putFrag m { f with poison := f.poison || tooMany })
    if tooMany then s.redFault p 1 else s.completeReduction key p

/-- R289: a RED packet arrives at its destination's home. -/
def execRedArrival (p : RedPacket) (s : State) : Result :=
  if !p.wf then .fault .illFormed
  else
    let q := { p with hcheckOk := true }
    let router := clusterAt (posAddr p.dest).1 (posAddr p.dest).2
    match s.findFlight (fun f => f.packet == q && f.here.any (fun k => k.val == router)) with
    | none => .next s
    | some (i, _) =>
      if !s.mode.works then .next s
      else
      let s := s.endFlight i
      let key := s.tileKey p.handle
      let t := s.tileOf key
      let c := s.ctxOf p.ctx.val
      if !p.hcheckOk then .next (s.routerBump router 6 1)
      else if handleCtx p.handle ≠ p.ctx.val ∨ !c.live ∨ c.job ≠ p.job ∨ !t.declared then
        .next (s.routerBump router 6 1)
      else
        let f := t.frag p.frag.val
        if f.written ∧ (precedes p.step f.step = true ∨ unordered p.step f.step = true) then
          .next (s.gradBump p.ctx.val 4 1)
        else
          let s := if f.written && f.step == p.step then s
            else s.putTile key (t.putFrag p.frag.val (t.restart p))
          .next (s.addRed key p)

/-! ## Links and detours -/

/-- The field, and the boundary direction n of R171, that a router's input port belongs to, where it crosses a
boundary. -/
def boundaryOf (k : Nat) (port : MeshPort) : Option (Nat × Nat) :=
  let f := k / 16
  let cx := k % 4
  let cy := k % 16 / 4
  match port with
  | .east => if cx = 3 ∧ f % 10 ≠ 9 then some (f, 2 * cy + 1) else none
  | .west => if cx = 0 ∧ f % 10 ≠ 0 then some (f - 1, 2 * cy) else none
  | .north => if cy = 3 ∧ f / 10 ≠ 9 then some (f, 8 + 2 * cx + 1) else none
  | .south => if cy = 0 ∧ f / 10 ≠ 0 then some (f - 10, 8 + 2 * cx) else none
  | .localPort | .outward => none

def State.modBoundary (s : State) (f b : Nat) (g : Boundary → Boundary) : State :=
  s.modField f (fun v => { v with boundaries := tput {} v.boundaries b (g (v.boundary b)) })

/-- R169, R483: a hop receiver refuses a flit. -/
def execFlitRefused (k : ClusterId) (port : MeshPort) (s : State) : Result :=
  if !s.meshRuns k then .next s
  else
    let s := s.routerBump k 4 1
    match boundaryOf k port with
    | none => .next s
    | some (f, b) =>
      let now := s.time
      .next (s.modBoundary f b (fun g =>
        if (now - g.windowStart).toNat ≤ ms 1 ∧ g.retries ≠ 0 then
          { g with score := satAdd16 g.score 1, retries := g.retries + 1 }
        else { g with score := satAdd16 g.score 1, retries := 1, windowStart := now }))

/-- R179: detours are computed after a change. -/
def execDetourUpdate (s : State) : Result :=
  if s.mode.works then .next s.detourUpdate else .next s

/-- R180: a field goes DARK. -/
def execFieldDark (f : FieldId) (lost : FieldLoss) (s : State) : Result :=
  if s.mode.works && fieldServes (s.fieldOf f.val) then .next (s.goDark f.val lost) else .next s

/-- R460: a DARK field whose good sensors read 95 °C or less rejoins, at thermal step 8, which makes it
THROTTLED (R457). -/
def execFieldReturn (f : FieldId) (selfCheckOk : Bool) (s : State) : Result :=
  let v := s.fieldOf f.val
  if !s.mode.works || v.state != .dark || decide (95 * 16 < v.temp.toInt) then .next s
  else if !selfCheckOk then .next (s.controllerFails f.val {})
  else
    .next (s.putField f.val { v with
      state := .throttled, thStep := 8, osc := .locked, arithGated := false, meshGated := false })

/-- R170, R171: the map of bad groups that fuses and the Patch table record is applied to a direction; a
change of width changes the routes. -/
def execBoundaryMapApply (f : FieldId) (b : Fin 16) (s : State) : Result :=
  let v := s.fieldOf f.val
  if !s.mode.works || !fieldServes v then .next s
  else
    let old := boundaryWidth (v.boundary b.val).bad
    let new := s.recordedGroups f.val b.val
    let s := s.modBoundary f.val b.val (fun g => { g with bad := new })
    if boundaryWidth new = old then .next s else .next s.detourUpdate

/-- R468, R483: the live group test of a direction whose hop retries reached 16 within 1 ms: each group found
bad is recorded and raises the score. A full Patch table takes no entry (R468). -/
def execHopRetryGroupTest (f : FieldId) (b : Fin 16) (found : BitVec 68) (s : State) : Result :=
  let v := s.fieldOf f.val
  let g := v.boundary b.val
  if !s.mode.works || !fieldServes v || decide (g.retries < 16) then .next s
  else
    let fresh := (List.range 68).filter (fun p => found.getLsbD p && !(s.recordedGroups f.val b.val).getLsbD p)
    let s := s.modBoundary f.val b.val (fun g => { g with
      retries := 0, score := satAdd16 g.score (64 * fresh.length) })
    let score := ((s.fieldOf f.val).boundary b.val).score
    .next (s.each fresh (fun s p =>
      s.record { kind := 5, t0 := BitVec.ofNat 8 f.val, t1 := BitVec.ofNat 8 b.val, t2 := BitVec.ofNat 8 p }
        false score))

end Sys2Proof.Machine
end

