-- ==== Sys2Proof/Machine/Gradient.lean ====
section
/-! DEFINITION. Gradient egress: the records of a point, their acknowledgements and deadlines, and the release of
the step-done post (R293 to R301). -/

set_option linter.unusedVariables false

namespace Sys2Proof.Machine

open Sys2Proof

/-! ## Records (R293, R294) -/

/-- R293: NARROW converts an element of a complete sum to BF16 with RNE. -/
def narrowElem (fp32Sum : Bool) (wexp : W16) (v : W64) : W64 :=
  let x := if fp32Sum then fp32Val (v.setWidth 32) else fwVal v wexp.toInt
  w64 (bf16.convert .rne x).1

/-- The CRC of R294. -/
def gradCrc (form : WireForm) (bitmap : W32) (vs : List W64) : W32 :=
  crc32c (bytesLE 4 bitmap.toNat ++ vs.flatMap (fun v => bytesLE (wireSize form) v.toNat))

/-- A record is handed to its port. -/
def State.postGrad (s : State) (x : CtxId) (g : GradRec) : State :=
  let job := (s.ctxOf x.val).job
  s.send x.val g.port.val (.grec job g (g.sealed job (s.keyOf g.key).key))

/-- The element codes of the set blocks of a chunk of stored bytes. -/
def chunkCodes (f : Fmt) (dense : Bool) (map : W64) (t : Table Byte) (chunk : Nat) : List W64 :=
  ((List.range 32).filter (fun b => map.getLsbD (32 * chunk + b))).flatMap (fun b =>
    (List.range 64).map (fun i =>
      let n := f.elemBits / 8
      w64 (ofBytesLE ((List.range n).map (fun j => tileByte t (blockStart f dense map (32 * chunk + b) + n * i + j))))))

/-- What a RACC point finds: it waits, ends POISONED with or without the FAULT of different TOTALs, or sends two
chunks. -/
inductive RaccSource
  | waits
  | poisoned (totals : Bool) (chunk : Nat)
  | ready (form : WireForm) (map : W64) (count : Fin 2 → W32) (wexp : Fin 2 → W16) (codes : Fin 2 → List W64)
      (nan : Fin 2 → Bool)

/-- The 16 fragments of a chunk carry one TOTAL. -/
def Tile.oneTotal (t : Tile) (chunk : Nat) : Bool :=
  (List.range 16).all (fun i => (t.frag (16 * chunk + i)).total == (t.frag (16 * chunk)).total)

def State.raccSource (s : State) (m : Stream) (idx : Nat) : RaccSource :=
  let d := m.desc
  let c := s.ctxOf m.ctx.val
  let p := d.point idx
  if d.op = 0x18 then
    let t := s.tileOf (s.streamKey m p.1)
    if !t.reduced c.step then .waits
    else if t.homePoisoned then
      .poisoned false (if (List.range 16).all (fun i => !(t.frag i).poison) then 1 else 0)
    else if !(t.oneTotal 0 && t.oneTotal 1) then .poisoned true (if t.oneTotal 0 then 1 else 0)
    else
      let h := t.readHeader
      let sums := fun (i : Fin 2) => chunkCodes t.fmt (h.fmt.getLsbD 4) h.bitmap t.bytes i.val
      let narrow := d.flags.getLsbD 7
      let wexp := fun (i : Fin 2) => (t.frag (16 * i.val)).wexp
      .ready (if narrow then .bf16 else if c.sumFp32 then .fp32 else .fw64) h.bitmap
        (fun i => (t.frag (16 * i.val)).total.setWidth 32)
        (fun i => if narrow || c.sumFp32 then 0 else wexp i)
        (fun i => if narrow then (sums i).map (narrowElem c.sumFp32 (wexp i)) else sums i)
        (fun i => (sums i).any (fun v => if c.sumFp32 then isNan32 (v.setWidth 32) else fwIsMark v))
  else
    let e := (s.coreOf m.core.val).entry p.1
    if e.state = .poisoned then .poisoned false 0
    else
      .ready .bf16 e.header.bitmap (fun _ => 1) (fun _ => 0)
        (fun i => chunkCodes e.fmt e.dense e.header.bitmap e.bytes i.val) (fun _ => false)

/-- The transfer of a gradient record (R225, R296). -/
def State.gradXfer (s : State) (x : CtxId) (m : Stream) (g : GradRec) : Xfer :=
  { slot := g.slot, epoch := (s.slotAt g.cluster g.slot).epoch, kind := .grad g.seq, tier := .port g.port, ctx := x,
    core := m.core, slotB := m.slotB, bound := m.bound, want := some (g.stream, g.object, g.version, g.tile) }

/-- A record takes a transfer slot, is handed to its port and enters the ledger. -/
def State.sendGrad (s : State) (x : CtxId) (m : Stream) (g : GradRec) : State :=
  let s := (s.takeXferSlot g.cluster (s.gradXfer x m g)).modCtx x.val (fun c => { c with
    grads := c.grads ++ [g], outstanding := c.outstanding + 1,
    marks := if g.nan then { c.marks with nan := true } else c.marks })
  let s := s.gradBump x.val 0 1
  let s := if g.nan then s.gradBump x.val 6 1 else s
  s.postGrad x g

/-- R301: the detail of a POISON report. -/
def poisonDetail (h : W32) (chunk : Nat) : List Byte := bytesLE 4 h.toNat ++ bytesLE 1 chunk

/-- R293: a point whose source is complete sends one record for each chunk. -/
def execRaccPointSend (k : ClusterId) (slot : Fin 512) (point : Nat) (s : State) : Result :=
  match (s.slotAt k slot.val).stream with
  | none => .next s
  | some m =>
    let d := m.desc
    let racc := d.op == 0x18 || d.op == 0x19
    match m.pointAt point, s.streamBinding m.ctx d, s.portsFor m.ctx.val with
    | some p, some (_, b), u :: us =>
      if !s.mode.works || !racc || m.ended.isSome || p.outstanding ≠ 0 then .next s
      else
        -- R226: a read of a locked tile is held at its home
        if d.op == 0x18 && (s.tileOf (s.streamKey m p.src)).lock.isSome then .next s
        else
        match s.raccSource m point with
        | .waits => .next s
        | .poisoned totals chunk =>
          let h := m.handle p.src
          let s := s.pointEnds k slot.val point true true
          let s := if totals then s.raise .fault 293 0 (srcCtx m.ctx.val) (some m.ctx.val)
              [w64 m.ctx.val, h.setWidth 64] else s
          .next (s.setMark m.ctx .poison (poisonDetail h chunk))
        | .ready form map count wexp codes nan =>
          let c := s.ctxOf m.ctx.val
          let rec_ := fun (i : Fin 2) =>
            let bits : W32 := BitVec.ofNat 32 (map.toNat / 2 ^ (32 * i.val))
            let n := 2 * point + i.val
            ({ cluster := k, slot := slot.val, stream := m.number, node := s.nodeOf m.ctx.val,
               seq := BitVec.ofNat 46 n, object := b.object, tile := BitVec.ofNat 32 p.dst, chunk := i.val == 1,
               form := form, nan := nan i, step := c.step,
               version := if c.activeB then c.slotB.tag else c.slotA.tag, count := count i, wexp := wexp i,
               bitmap := bits, data := codes i, crc := gradCrc form bits (codes i),
               port := (u :: us).getD (n % (us.length + 1)) u, key := b.key } : GradRec)
          let room := if (rec_ 0).port = (rec_ 1).port then 2 else 1
          if s.freeXfers k < 2 ∨ 1024 < s.portLoad (rec_ 0).port + room ∨ 1024 < s.portLoad (rec_ 1).port + room then
            .next s
          else
            let s := s.modPoint k slot.val point (fun p => { p with outstanding := 2 })
            .next ((s.sendGrad m.ctx m (rec_ 0)).sendGrad m.ctx m (rec_ 1))
    | _, _, _ => .next s

/-! ## Acknowledgements and deadlines (R295 to R297) -/

/-- The transfer slot of a cluster that holds a record. -/
def Cluster.modGradSlot (c : Cluster) (x : CtxId) (stream : W32) (seq : BitVec 46) (f : XferSlot → Xfer → XferSlot) :
    Cluster :=
  { c with xfers := tmap {} (fun _ v => match v.busy.or v.expired with
    | some b => if b.ctx = x ∧ b.kind = .grad seq ∧ b.want.map (·.1) = some stream then f v b else v
    | none => v) c.xfers }

def State.modGradSlot (s : State) (x : CtxId) (g : GradRec) (f : XferSlot → Xfer → XferSlot) : State :=
  s.modCluster g.cluster.val (fun c => c.modGradSlot x g.stream g.seq f)

/-- A record leaves the records outstanding; `done` where the ledger counts it off. Its transfer slot is free, or stays
occupied after its deadline (R232). -/
def State.dropGrad (s : State) (x : CtxId) (g : GradRec) (done late : Bool) : State :=
  let s := s.modGradSlot x g (fun v b =>
    { v with busy := none, expired := if late then some b else none })
  s.modCtx x.val (fun c => { c with
    grads := c.grads.erase g, outstanding := if done then c.outstanding - 1 else c.outstanding })

/-- The stream of a record still runs. -/
def State.gradStream (s : State) (x : CtxId) (g : GradRec) : Option Stream :=
  match (s.slotAt g.cluster g.slot).stream with
  | some m => if m.number = g.stream ∧ m.ctx = x ∧ m.ended.isNone ∧ (m.desc.op = 0x18 ∨ m.desc.op = 0x19) then
      some m else none
  | none => none

/-- A record is done; the second one of a point ends it. -/
def State.gradDone (s : State) (x : CtxId) (g : GradRec) : State :=
  let s := s.dropGrad x g true false
  let idx := g.seq.toNat / 2
  match (s.gradStream x g).bind (fun m => m.pointAt idx) with
  | none => s
  | some p =>
    if p.outstanding ≤ 1 then s.pointEnds g.cluster g.slot idx false true
    else s.modPoint g.cluster g.slot idx (fun p => { p with outstanding := p.outstanding - 1 })

/-- The point of a record ends TIMEOUT, and EGRESS is reported with the status or 0xFF for a deadline. -/
def State.gradFails (s : State) (x : CtxId) (g : GradRec) (status : Byte) : State :=
  let s := s.dropGrad x g false (status == 0xFF)
  let idx := g.seq.toNat / 2
  let s := match (s.gradStream x g).bind (fun m => m.pointAt idx) with
    | some _ => (s.markTimeout g.cluster g.slot).pointEnds g.cluster g.slot idx false true
    | none => s
  s.setMark x .egress (bytesLE 4 g.stream.toNat ++ bytesLE 6 g.seq.toNat ++ [status])

/-- R297, R330: a record is sent again once, on a port enabled at that moment. -/
def State.resendGrad (s : State) (x : CtxId) (g : GradRec) : State :=
  let ports := s.portsFor x.val
  let h := { g with second := true, port := ports.getD (g.seq.toNat % Nat.max 1 ports.length) g.port }
  let s := s.modGradSlot x g (fun v b =>
    { v with busy := v.busy.map (fun b => { b with tier := .port h.port }) })
  let s := s.modCtx x.val (fun c => { c with grads := c.grads.map (fun e => if e = g then h else e) })
  let s := (s.gradBump x.val 2 1).gradBump x.val 0 1
  s.postGrad x h

/-- AUTH_FAIL, or no answer: the record is sent again, or it fails. -/
def State.retryGrad (s : State) (x : CtxId) (g : GradRec) (status : Byte) : State :=
  if g.second then s.gradFails x g status else s.resendGrad x g

/-- R295, R296: an acknowledgement. One of a cancelled stream is stale (R232). DEDUCED, log entry 62. -/
def execGack (u : UnitId) (a : GradAck) (s : State) : Result :=
  match s.admitted u 0x13 a.job with
  | none => .next s
  | some x =>
    let bad := s.gradBump x.val 3 1
    match (s.ctxOf x.val).grads.find? (fun g =>
        g.stream == a.stream && g.node == a.node && g.seq == a.seq.setWidth 46) with
    | none =>
      -- R232: the late answer of a record whose deadline ended it frees its slot
      .next { bad with clusters := tmap {} (fun _ c => c.modGradSlot x a.stream (a.seq.setWidth 46)
        (fun v _ => { v with expired := none })) bad.clusters }
    | some g =>
      let second := a.seq.getLsbD 46
      if !a.tagOk || !a.seq.getLsbD 47 || (second && !g.second) then .next bad
      else if (s.gradStream x g).isNone then .next ((s.engineBump g.cluster 5 1).dropGrad x g false false)
      else
        .next (match a.status.toNat with
          | 0 | 1 => (s.gradBump x.val 1 1).gradDone x g
          | 2 | 5 => s.gradFails x g a.status
          | 3 => (s.gradDone x g).setMark x .crc (bytesLE 8 g.object.toNat ++ bytesLE 4 g.version.toNat ++
              bytesLE 4 g.tile.toNat ++ [if g.chunk then 1 else 0, 1])
          | 4 => if second == g.second then s.retryGrad x g a.status else s
          | _ => s)

/-- R297: a record has no acknowledgement by its deadline. -/
def execGradientRecordDeadline (x : CtxId) (stream : W32) (seq : BitVec 46) (s : State) : Result :=
  match (s.ctxOf x.val).grads.find? (fun g => g.stream == stream && g.seq == seq) with
  | none => .next s
  | some g =>
    if !s.mode.works then .next s
    else if (s.gradStream x g).isNone then .next (s.dropGrad x g false true)
    else .next (s.retryGrad x g 0xFF)

/-- R293, R301: a RACC_TILE point whose source tile is not complete by its deadline. The report names the first
incomplete fragment with its COUNT and TOTAL. -/
def execRaccCompletionDeadline (k : ClusterId) (slot : Fin 512) (point : Nat) (s : State) : Result :=
  match (s.slotAt k slot.val).stream with
  | none => .next s
  | some m =>
    match m.pointAt point with
    | none => .next s
    | some p =>
      let t := s.tileOf (s.streamKey m p.src)
      let step := (s.ctxOf m.ctx.val).step
      if !s.mode.works || m.desc.op ≠ 0x18 || m.ended.isSome || p.outstanding ≠ 0 || t.reduced step then .next s
      else
        let first := ((List.range 32).find? (fun i =>
          let f := t.frag i
          !(f.written && f.step == step && f.count == f.total.toNat))).getD 0
        let f := t.frag first
        let count := if f.written && f.step == step then f.count else 0
        let total := if f.written && f.step == step then f.total.toNat else 0
        .next (((s.markTimeout k slot.val).pointEnds k slot.val point false true).setMark m.ctx .short
          (bytesLE 4 (m.handle p.src).toNat ++ [BitVec.ofNat 8 first] ++ bytesLE 4 count ++ bytesLE 2 total))

/-! ## The end of a step, and gradients that arrive (R299, R301) -/

def execStepDoneRelease (x : CtxId) (s : State) : Result := .next (s.releaseDone x)

/-- R299: a gradient record that arrives is dropped. -/
def execGrecDrop (u : UnitId) (s : State) : Result :=
  let k := s.unitOf u.val
  if !s.mode.works || k.state != .active then .next s
  else
    let l := s.gangLead u.val
    .next ((s.modUnit l (fun k => match k.delivered.find? (fun d => d.mtype == 0x12) with
      | some d => k.release d
      | none => k)).brimBump (brimOf u.val) 2 1)

end Sys2Proof.Machine
end

