-- ==== Sys2Proof/Machine/HostLinks.lean ====
section
/-! DEFINITION. LINK_SET and FENCE_ARM (R312, R314, R324, R325, R327, R331, R384). -/

set_option linter.unusedVariables false

namespace Sys2Proof.Machine

open Sys2Proof

/-! ## LINK_SET (R324, R384) -/

def LinkRec_enable (r : LinkRec) : Bool := r.flags.getLsbD 0
def LinkRec_timeParent (r : LinkRec) : Bool := r.flags.getLsbD 1
def LinkRec_locked (r : LinkRec) : Bool := r.flags.getLsbD 2
def LinkRec_retrain (r : LinkRec) : Bool := r.flags.getLsbD 3

/-- R9: the Cuff of a unit: six fabric links and two server ports each. -/
def cuffOf (u : Nat) : Nat := if u < 96 then u / 6 else (u - 96) / 2

/-- The units that a command joins to the gang of a lowest member, in increasing number. -/
def gangOf (recs : List LinkRec) (low : Byte) : List Nat :=
  (List.range 128).filter (fun u => recs.any (fun r => r.unit.toNat == u && r.gang == low))

/-- R324: the gang that a record names is one that LINK_SET may form. -/
def State.badGang (s : State) (recs : List LinkRec) (r : LinkRec) : Bool :=
  let us := gangOf recs r.gang
  let lead := s.unitOf r.gang.toNat
  r.gang != 0xFF &&
  (us.head? != some r.gang.toNat || decide (us.length < 2) || decide (4 < us.length) ||
    !LinkRec_enable r ||
    us.any (fun u => cuffOf u != cuffOf r.gang.toNat || isServerPort u != isServerPort r.gang.toNat ||
      (s.unitOf u).width != .full || (s.unitOf u).peer != lead.peer || (s.unitOf u).serial != lead.serial))

/-- R384: a record by itself. -/
def State.badLinkRec (s : State) (recs : List LinkRec) (r : LinkRec) : Bool :=
  decide (128 ≤ r.unit.toNat) || r.flags &&& 0xF0 != 0 || (LinkRec_timeParent r && isServerPort r.unit.toNat) ||
  s.badGang recs r

/-- The settings of a unit; ENABLE clear holds it DOWN, and a DOWN unit that is named trains again (R312, R314).
A given TIME_PARENT takes the place of an earlier one (DEDUCED, log entry 43). -/
def State.setUnit (s : State) (r : LinkRec) : State :=
  let u := r.unit.toNat
  let s := if LinkRec_timeParent r then
      { s with units := tmap {} (fun _ k => { k with timeParent := false }) s.units }
    else s
  let s := s.modUnit u (fun k => { k with
    enabled := LinkRec_enable r, timeParent := LinkRec_timeParent r, locked := LinkRec_locked r })
  if !LinkRec_enable r then (if (s.unitOf u).state = .down then s else s.unitDown u .none)
  else if (s.unitOf u).state = .down then s.beginTraining u
  else s

/-- R324: the units that a record puts together, itself included. -/
def recMembers (recs : List LinkRec) (r : LinkRec) : List Nat :=
  if r.gang = 0xFF then [r.unit.toNat] else gangOf recs r.gang

/-- A unit whose members change leaves its gang, which forms again without it. -/
def State.regroup (s : State) (recs : List LinkRec) (r : LinkRec) : State :=
  if s.gangMembers r.unit.toNat = recMembers recs r then s else s.leaveGang r.unit.toNat

/-- Fast retrains of an ACTIVE unit. -/
def State.retrainUnit (s : State) (u : Nat) : State :=
  if (s.unitOf u).state = .active then s.beginRetrain u else s

/-- Gangs form, and RETRAIN takes effect, by fast retrain of the units named. -/
def State.joinUnit (s : State) (recs : List LinkRec) (r : LinkRec) : State :=
  let us := recMembers recs r
  let s := if s.gangMembers r.unit.toNat = us then s else (s.formGang us).each us State.retrainUnit
  if LinkRec_retrain r then s.retrainUnit r.unit.toNat else s

def State.linkSet (s : State) (recs : List LinkRec) : State :=
  let s := s.each recs State.setUnit
  let s := s.each recs (fun s r => s.regroup recs r)
  s.each recs (fun s r => s.joinUnit recs r)

def linkSetRow : CmdRow := { opcode := 0x50, admin := true, ctx := .none, states := groupM }

/-- DEDUCED, log entry 66. -/
def execLinkSet (h : Hdr) (recs : List LinkRec) (s : State) : Result :=
  s.hostCommand h linkSetRow (fun s =>
    CmdEnd.checked s [
      check (recs.isEmpty || decide (128 < recs.length)) stBAD_ARG 0,
      (recs.zipIdx.find? (fun e => s.badLinkRec recs e.1)).map (fun e => (stBAD_ARG, BitVec.ofNat 32 e.2)),
      check (decide (1 < (recs.filter LinkRec_timeParent).length)) stBAD_ARG]
      (.ok (s.linkSet recs)))

/-! ## FENCE_ARM (R331) -/

def fenceArmRow : CmdRow := { opcode := 0x51, admin := true, ctx := .names, states := groupW, rsvChecked := true }

/-- The fence of a context at every unit of a mask. -/
def State.setFence (s : State) (x : CtxId) (mask : BitVec 128) (isOpen : Bool) : State :=
  s.each ((List.range 128).filter (mask.getLsbD ·)) (fun s u =>
    s.modUnit u (fun k => { k with
      openCtx := if isOpen then k.openCtx ||| BitVec.twoPow 8 x.val else k.openCtx &&& ~~~(BitVec.twoPow 8 x.val) }))

def execFenceArmFence (h : Hdr) (mask : BitVec 128) (s : State) : Result :=
  s.hostCommand h fenceArmRow (fun s => .ok (s.setFence (namedCtx h) mask false))

/-- OPEN needs a job bound to the context. -/
def execFenceArmOpen (h : Hdr) (mask : BitVec 128) (s : State) : Result :=
  s.hostCommand h fenceArmRow (fun s =>
    CmdEnd.checked s [check ((s.ctxOf (namedCtx h).val).job == 0) stNOT_READY]
      (.ok (s.setFence (namedCtx h) mask true)))

end Sys2Proof.Machine
end

