-- ==== Sys2Proof/Machine/HostRegion.lean ====
section
/-! DEFINITION. The commands on regions, trees, steps and streams (R242, R251, R336 to R339, R344, R347, R350,
R379 to R381, R383). -/

set_option linter.unusedVariables false

namespace Sys2Proof.Machine

open Sys2Proof

/-! ## REGION_MAP, PROGRAM_LOAD and their broadcasts (R242, R350, R379) -/

/-- R350: a command applied at the manager goes down the tree in segments, and waits for the RESULTs. -/
def State.broadcast (s : State) (x : CtxId) (h : Hdr) (bytes : Nat) (cmd : BcastCmd) : State :=
  let n := Nat.max 1 ((bytes + 65503) / 65504)
  let s := match s.ctrlTree x.val with
    | some r => s.each (List.range n) (fun s i =>
        s.sendDown x.val r (.segment (s.stepMsg x.val) { cmd := if i + 1 = n then some cmd else none }))
    | none => s
  (s.modCtx x.val (fun c => { c with bcast := some ⟨some h, some stOK, []⟩ })).settleBcast x

/-- A command with BROADCAST: REFUSED at a worker, BUSY while another is in progress (DEDUCED, log entry 30). -/
def State.broadcastable (s : State) (x : CtxId) (h : Hdr) : Option Bad :=
  if h.opt.getLsbD 0 then
    firstBad [check (!s.isManager x.val) stREFUSED, check (s.ctxOf x.val).bcast.isSome stBUSY]
  else none

/-- What both commands do once applied here. -/
def endLoad (x : CtxId) (h : Hdr) (bytes : Nat) (cmd : BcastCmd) (t : State) : CmdEnd :=
  if h.opt.getLsbD 0 then .waits (t.broadcast x h bytes cmd) else .ok t

def regionMapRow : CmdRow := { opcode := 0x10, admin := false, ctx := .names, states := groupW, rsvChecked := true }

def execRegionMap (h : Hdr) (recs : List RegionRec) (s : State) : Result :=
  s.hostCommand h regionMapRow (fun s =>
    let x := namedCtx h
    CmdEnd.checked s [
      s.broadcastable x h,
      check (recs.isEmpty || decide (256 < recs.length)) stBAD_ARG]
      (.of (s.mapRegions x recs) (endLoad x h (16 * recs.length) (.regionMap recs))))

def programLoadRow : CmdRow := { opcode := 0x11, admin := false, ctx := .names, states := groupW, rsvChecked := true }

def execProgramLoad (h : Hdr) (a : ProgramArgs) (s : State) : Result :=
  s.hostCommand h programLoadRow (fun s =>
    let x := namedCtx h
    CmdEnd.checked s [s.broadcastable x h]
      (.of (s.loadProgram x a) (endLoad x h a.len.toNat (.programLoad a))))

/-! ## TREE_SET (R336, R337, R339) -/

def badTreeRec (t : TreeRec) : Bool :=
  decide (64 ≤ t.tree.toNat) || (decide (96 ≤ t.parent.toNat) && t.parent != 0x7F) || treeHasChild t t.parent.toNat ||
  t.subtree == 0 || decide (t.size.toNat < t.subtree.toNat) || (treeRoot t && t.subtree != t.size)

/-- CTRL_TREE is named once, rooted here exactly where the manager is, and covers the job. -/
def badCtrlTree (a : TreeSetArgs) : Bool :=
  match a.trees.filter (fun t => t.tree == a.ctrlTree) with
  | [t] => (treeRoot t != (a.node == a.manager)) || t.size != a.nodes
  | _ => true

/-- R337: BAD_ARG, with the offset of the field (DEDUCED, log entry 44 for CTX). -/
def treeSetBad (x : CtxId) (a : TreeSetArgs) : List (Option Bad) := [
  check (a.ctx.toNat != x.val) stBAD_ARG 0,
  check (a.flags &&& 0xFE != 0) stBAD_ARG 1,
  check (a.nodes == 0) stBAD_ARG 4,
  check (decide (a.nodes.toNat ≤ a.node.toNat)) stBAD_ARG 2,
  check (decide (a.nodes.toNat ≤ a.manager.toNat)) stBAD_ARG 6,
  check (decide (64 ≤ a.ctrlTree.toNat)) stBAD_ARG 8,
  check (a.trees.isEmpty || decide (64 < a.trees.length)) stBAD_ARG 9,
  check (a.stepLimit == 0 || decide (3600000 < a.stepLimit.toNat)) stBAD_ARG 12,
  (a.trees.findIdx? badTreeRec).map (fun i => (stBAD_ARG, BitVec.ofNat 32 (16 + 32 * i))),
  check (badCtrlTree a) stBAD_ARG 8]

def treeSetRow : CmdRow := { opcode := 0x12, admin := false, ctx := .names, states := groupW, rsvChecked := true }

def execTreeSet (h : Hdr) (a : TreeSetArgs) (s : State) : Result :=
  s.hostCommand h treeSetRow (fun s =>
    let x := namedCtx h
    let c := s.ctxOf x.val
    CmdEnd.checked s (treeSetBad x a ++ [
      check (c.job == 0) stNOT_READY,
      check (c.isOpen && !a.flags.getLsbD 0) stBUSY])
      (let s := if c.isOpen then s.closeStep x 3 else s
       let j : JobRec := { node := a.node, nodes := a.nodes, manager := a.manager, ctrlTree := a.ctrlTree.setWidth 6,
                           stepLimit := a.stepLimit, trees := a.trees }
       .ok ((s.modCtx x.val (fun c => { c with jobRec := some j })).measure x.val 0x12 (treeSetBytes a))))

/-! ## Steps (R344, R347, R380, R381) -/

def stepBeginRow : CmdRow := { opcode := 0x30, admin := false, ctx := .names, states := groupW }

/-- STEP_BEGIN waits for the outcome of its step or the close of its batch; it is held while the slots change (R280). -/
def execStepBegin (h : Hdr) (b : BeginArgs) (s : State) : Result :=
  s.hostCommand h stepBeginRow (fun s =>
    let x := namedCtx h
    CmdEnd.checked s [check (!s.isManager x.val && decide (1 < s.nodesOf x.val)) stREFUSED]
      (if s.changesSlot x then .later else .of (s.beginStep x b (some h)) (fun t =>
        .waits (match t.ctrlTree x.val with
          | some r => t.sendDown x.val r (.begin { t.stepMsg x.val with version := b.version } b)
          | none => t))))

/-- R347: a step held for NAN, at its manager. -/
def State.heldStep (s : State) (x : CtxId) (step : W32) : Bool :=
  let c := s.ctxOf x.val
  s.isManager x.val && c.isOpen && c.heldNan && c.step == step

def stepCommitRow : CmdRow := { opcode := 0x31, admin := false, ctx := .names, states := groupW }

def execStepCommit (h : Hdr) (step : W32) (s : State) : Result :=
  s.hostCommand h stepCommitRow (fun s =>
    let x := namedCtx h
    CmdEnd.checked s [check (!h.opt.getLsbD 0 || !s.heldStep x step) stREFUSED] (.ok (s.decideAs x 2 0 0xFFFF)))

def stepAbandonRow : CmdRow := { opcode := 0x32, admin := false, ctx := .names, states := groupW }

def execStepAbandon (h : Hdr) (step : W32) (s : State) : Result :=
  s.hostCommand h stepAbandonRow (fun s =>
    let x := namedCtx h
    CmdEnd.checked s [check (!s.heldStep x step) stREFUSED] (.ok (s.decideAs x 3 0 0xFFFF)))

/-! ## STREAM_CANCEL (R233, R383) -/

/-- The streams a STREAM_CANCEL names, by cluster, queue slot and stream. -/
def State.cancelNamed (s : State) (x : CtxId) (a : CancelArgs) : State :=
  let core := a.lcore.toNat
  if a.scope = 2 then
    (if h : core / 32 < 1600 then s.cancelStream ⟨core / 32, h⟩ (slotOf core (a.ticket.toNat % 16)) else s)
  else s.cancelStreams (fun _ m => m.ctx == x && (a.scope == 0 || m.region == a.region))

/-- R75: the ticket is that of a stream of the context. -/
def State.ticketCurrent (s : State) (x : CtxId) (core : Nat) (t : W16) : Bool :=
  let v := s.slotAt (core / 32) (slotOf core (t.toNat % 16))
  v.gen.toNat == t.toNat / 16 && (match v.stream with
    | some m => m.ctx == x
    | none => false)

def streamCancelRow : CmdRow := { opcode := 0x33, admin := false, ctx := .names, states := groupW }

def execStreamCancel (h : Hdr) (a : CancelArgs) (s : State) : Result :=
  s.hostCommand h streamCancelRow (fun s =>
    let x := namedCtx h
    CmdEnd.checked s [
      check (decide (2 < a.scope.toNat)) stBAD_ARG 0,
      check (a.scope == 2 && decide (51200 ≤ a.lcore.toNat)) stBAD_ARG 4,
      check (a.scope == 2 && !s.ticketCurrent x a.lcore.toNat a.ticket) stBAD_ARG 8]
      (.ok (s.cancelNamed x a)))

end Sys2Proof.Machine
end

