-- ==== Sys2Proof/Machine/Sequencer.lean ====
section
/-! DEFINITION. Peg completions, leases and the handing out of tiles (R185, R246 to R250, R253). -/

set_option linter.unusedVariables false

namespace Sys2Proof.Machine

open Sys2Proof

/-- R185: the root of a group has the arrivals of a generation. -/
def execPegGroupComplete (g : GroupId) (s : State) : Result :=
  if s.mode.works then .next (s.completeGroup g) else .next s

/-- The region of a context whose sequencer hands tiles out at a cluster. -/
def State.handingRegion (s : State) (k : ClusterId) (x : CtxId) : Option Nat :=
  match s.regionAt x.val k.val with
  | some r =>
    let g := s.regionOf r
    if s.mode.works && (g.seq == .armed || g.seq == .running) then some r else none
  | none => none

def State.seqInst (s : State) (k : ClusterId) (x : CtxId) : SeqInst := tget {} (s.clusterOf k.val).seqs x.val
def State.putSeqInst (s : State) (k : ClusterId) (x : CtxId) (i : SeqInst) : State :=
  s.modCluster k.val (fun c => { c with seqs := tput {} c.seqs x.val i })

def Region.staticDist (g : Region) : Bool := g.stage.dist.getLsbD 0
def Region.lease (g : Region) : Nat := g.stage.dist.toNat / 16

/-- R247: the reserve has fallen to half the last lease or below. -/
def execLeaseRequest (k : ClusterId) (x : CtxId) (s : State) : Result :=
  match s.handingRegion k x with
  | none => .next s
  | some r =>
    let i := s.seqInst k x
    if (s.regionOf r).staticDist || i.requested || decide (i.lastLease < 2 * i.reserve.length) then .next s
    else .next ((s.modRegion r (fun g => { g with leases := g.leases ++ [(k, (s.servingCores k.val).length)] })).putSeqInst k x
      { i with requested := true })

/-- R247, R248: the tiles of the next lease for a request of a cluster with w serving cores; none while it reaches beyond
the bundles that a CUT stream has written. -/
def Region.leaseOf (g : Region) (w : Nat) : Option Nat :=
  match g.tileTotal with
  | some total => some (Nat.min (g.lease * w) (total.toNat - g.nextTile.toNat))
  | none => if g.nextTile.toNat + g.lease * w ≤ g.cut.length then some (g.lease * w) else none

/-- R247: the lead grants the next tiles to the cluster whose request came first. -/
def execLeaseGrant (k : ClusterId) (x : CtxId) (s : State) : Result :=
  match s.handingRegion k x with
  | none => .next s
  | some r =>
    let g := s.regionOf r
    let i := s.seqInst k x
    match g.leases with
    | [] => .next s
    | (lead, w) :: rest =>
      match g.leaseOf w with
      | none => .next s
      | some n =>
        if lead ≠ k then .next s
        else
          let s := s.putRegion r { g with nextTile := g.nextTile + BitVec.ofNat 32 n, leases := rest }
          .next (s.putSeqInst k x { i with
            requested := false, lastLease := n,
            reserve := i.reserve ++ (List.range n).map (fun j => g.nextTile + BitVec.ofNat 32 j) })

/-- The next tile of a cluster (R247). -/
def State.nextOf (s : State) (k : ClusterId) (x : CtxId) (r : Nat) : Option W32 :=
  let g := s.regionOf r
  let i := s.seqInst k x
  if g.staticDist then
    let order := s.clusterOrder r
    let j := i.staticNext.toNat
    let t := (j / g.lease * order.length + order.idxOf k.val) * g.lease + j % g.lease
    if t < (g.tileTotal.map (·.toNat)).getD g.cut.length then some (BitVec.ofNat 32 t) else none
  else i.reserve.head?

/-- R246: operand j of the stage holds for tile t. -/
def State.operandReady (s : State) (x : CtxId) (g : Region) (t : W32) (j : Nat) (o : OperRec) : Bool :=
  let n := t.toNat / o.div.toNat
  let num := ((handleNum o.base : Int) + (n : Int) * o.stride.toInt).toNat
  let h : W32 := BitVec.ofNat 32 (x.val * 2 ^ 29 + num)
  let c := s.ctxOf x.val
  let tile := s.tileOf (s.tileKey h)
  match o.kind.toNat with
  | 1 => tile.lastStep == some c.step && tile.lock.isNone && !tile.moving
  | 2 => tile.placed && !tile.moving && tile.version == (if c.activeB then c.slotB.tag else c.slotA.tag) &&
      (s.bindingOf h).isSome
  | 3 =>
    let gained := (s.pegOf (o.base.toNat % 1024)).completed - g.pegBases.getD j 0
    decide (n + 1 ≤ gained.toNat)
  | _ => true

def State.tileReady (s : State) (x : CtxId) (r : Nat) (t : W32) : Bool :=
  let g := s.regionOf r
  (List.range (Nat.min g.stage.noper.toNat 4)).all (fun j =>
    match g.stage.opers[j]? with
    | some o => s.operandReady x g t j o
    | none => true) &&
  (g.stage.tileCount != 0 || decide (t.toNat < g.cut.length))

/-- R221, R228: the bundle of a CUT stage reaches the Pocket entry of the core that takes its tile, within the entry's
stored length. An entry that is EMPTY or that another context holds takes nothing (DESIGN CHOICE, log entry 22). -/
def State.deliverBundle (s : State) (x : CtxId) (g : Region) (c : CoreId) (t : W32) : State :=
  if g.stage.tileCount ≠ 0 then s
  else
    match g.cut[t.toNat]? with
    | some b => s.modEntry c.val g.cutEntry (fun e =>
        if e.state = .empty ∨ e.holder ≠ x then e
        else { e with bytes := writeBytes e.bytes 0 (b.1.take e.header.storedLen.toNat),
                      state := if b.2 then .poisoned else e.state })
    | none => s

/-- R247, R250: the cluster's next tile is ready and goes to the core that has waited longest. -/
def execTileHand (k : ClusterId) (x : CtxId) (s : State) : Result :=
  match s.handingRegion k x with
  | none => .next s
  | some r =>
    let g := s.regionOf r
    let i := s.seqInst k x
    match s.nextOf k x r, i.waiters.find? (fun c => (s.coreOf c.val).waitsIn 0x3C && (s.coreOf c.val).running == some x) with
    | some t, some c =>
      if !s.tileReady x r t || !s.coreClocked c.val then .next s
      else
        let s := s.putSeqInst k x { i with
          reserve := if g.staticDist then i.reserve else i.reserve.drop 1,
          staticNext := i.staticNext + 1, waiters := i.waiters.filter (· != c) }
        let last := match g.tileTotal with
          | some n => decide (n.toNat ≤ g.handed.toNat + 1)
          | none => false
        let s := s.putRegion r { g with
          handed := g.handed + 1, seq := if last then .draining else .running,
          outstanding := g.outstanding ++ [(t, c)] }
        let s := s.deliverBundle x g c t
        .next (s.modCore c.val (fun q => q.completeWait (t.setWidth 64)))
    | _, _ => .next s

end Sys2Proof.Machine
end

