-- ==== Sys2Proof/Machine/Special.lean ====
section
/-! DEFINITION. Special registers (R81): MAJOR 0x09. -/

set_option linter.unusedVariables false

namespace Sys2Proof.Machine

open Sys2Proof

/-- R81: PCORE. -/
def pcoreWord (p : Nat) : W64 :=
  w64 (p / 576 + p % 576 / 36 * 2 ^ 7 + p % 36 / 9 * 2 ^ 11 + p % 9 * 2 ^ 13)

/-- R81: the value of a special register; none for an unlisted number. CYCLE is a free value: the
model has no ARITH_CLK count (DESIGN CHOICE, log entry 5). -/
def State.readSpr (s : State) (c : CoreId) (k : Core) (x : CtxId) (n : Nat) : Option W64 :=
  match n with
  | 0x000 => some s.freeValue
  | 0x001 => some s.time
  | 0x002 => some (w64 c.val)
  | 0x003 => some (match s.servedBy c.val with
      | some p => pcoreWord p
      | none => 0)
  | 0x004 => some (w64 x.val)
  | 0x005 => some ((s.ctxOf x.val).job.setWidth 64)
  | 0x006 => some ((s.ctxOf x.val).step.setWidth 64)
  | 0x007 => some (w64 k.region.val)
  | 0x008 => some k.waitlim
  | 0x009 => some k.fpstatus
  | 0x00A => some k.accstat
  | 0x00B => some (k.fwexp.setWidth 64)
  | 0x010 => some k.xvec
  | 0x011 => some k.xpc
  | 0x012 => some k.xcause
  | 0x013 => some k.xinfo
  | 0x014 => some k.lastserr
  | _ => none

/-- R81: a write under the register's access code; none for an RO register or an unlisted number. -/
def Core.writeSpr (k : Core) (n : Nat) (v : W64) : Option Core :=
  match n with
  | 0x008 => some { k with waitlim := if v.toNat % 2 ^ 32 < 65536 then 65536 else w64 (v.toNat % 2 ^ 32) }
  | 0x009 => some (k.clearFlags v)
  | 0x00A => some (k.clearAccstat v)
  | 0x00B => some { k with fwexp := v.setWidth 16 }
  | 0x010 => some { k with xvec := v }
  | _ => none

def sprNumber (a : CoreArgs) : Nat := a.imm.toNat % 4096

def execSprr (c : CoreId) (a : CoreArgs) (s : State) : Result :=
  .next (issue 0x09 0 { rd := true, imm := true } true c a s (fun s k x =>
    match s.readSpr c k x (sprNumber a) with
    | some v =>
      let s := if sprNumber a = 0 then s.useFree else s
      .core s c (k.setS a.rd v)
    | none => .raise xILLEGAL (assemble 0x09 0 a)))

def execSprw (c : CoreId) (a : CoreArgs) (s : State) : Result :=
  .next (issue 0x09 1 { ra := true, imm := true } true c a s (fun s k x =>
    match k.writeSpr (sprNumber a) (k.sreg a.ra) with
    | some k' => .core s c k'
    | none => .raise xILLEGAL (assemble 0x09 1 a)))

end Sys2Proof.Machine
end

