-- ==== Sys2Proof/Machine/Tack.lean ====
section
/-! DEFINITION. The Tack monitor (R417 to R421, R509 to R511). -/

set_option linter.unusedVariables false

namespace Sys2Proof.Machine

open Sys2Proof

/-! ## Answers (R509, R510) -/

/-- Data words, then OK or ERR with a status. -/
def State.tackAnswer (s : State) (data : List W64) (err : Option Byte := none) : State :=
  { s with tack := { s.tack with uart := s.tack.uart ++ [(data, err)] } }

def State.tackErr (s : State) (st : Byte) : State := s.tackAnswer [] (some st)

/-- R509: a line in HOLD is answered NOT_READY; an unpowered module answers nothing; a command that is not allowed in
the present condition is REFUSED. -/
def State.tackLine (s : State) (allowed : Bool) (body : State) : Result :=
  if s.mode = .off then .next s
  else if s.mode = .hold then .next (s.tackErr stNOT_READY)
  else if !allowed then .next (s.tackErr stREFUSED)
  else .next body

/-- MAINT with no context (R397, R418). -/
def State.quiet (s : State) : Bool := s.mode == .maint && !s.ctxs.any (fun e => e.2.live)

/-! ## ID, CHALLENGE and RESPONSE (R417 to R419) -/

/-- DEDUCED, log entry 74. -/
def execTackId (s : State) : Result :=
  s.tackLine true (s.tackAnswer [Config.serial.setWidth 64, 0xB1, w64 (flag s.mgmt.gloved), w64 s.mgmt.tackSteps.val,
    w64 s.mode.code])

/-- The nonce is valid for 10 minutes, or until a reset. -/
def State.challenge (s : State) : State :=
  let n := Config.tackNonce s.tack.nonces
  ({ s with tack := { s.tack with nonce := some (n, s.time), nonces := s.tack.nonces + 1 } } : State).tackAnswer
    ([Config.serial.setWidth 64, w64 s.mgmt.tackSteps.val] ++ (List.range 4).map (wordOf n))

def execTackChallenge (s : State) : Result :=
  s.tackLine s.mgmt.gloved (if s.tack.en && s.quiet then s.challenge else s.tackErr stNOT_READY)

/-- R419: the 56 bytes that a response signs: TACKOPEN, SERIAL, TACK_OPENS, and the nonce. -/
def State.tackMessage (s : State) (nonce : BitVec 256) : List Byte :=
  [0x54, 0x41, 0x43, 0x4B, 0x4F, 0x50, 0x45, 0x4E] ++ bytesLE 8 Config.serial.toNat ++ bytesLE 1 s.mgmt.tackSteps.val ++
    zeros 7 ++ bytesLE 32 nonce.toNat

/-- R418, R419: both signatures verify over a current nonce, with TACK_EN high. -/
def State.responseOk (s : State) (v : TackVerdict) : Bool :=
  (match s.tack.nonce with
    | some n => v.message == s.tackMessage n.1 && decide (s.since n.2 ≤ ms 600000)
    | none => false) && s.tack.en && v.keyHashOk && v.ecOk && v.lmsOk

/-- A failed response leaves the module gloved. -/
def State.responseFails (s : State) : State := s.raise .alarm 418 0 srcModule none []

/-- Points 5 and 6 of R418: a fuse step, zeroisation, and the monitor opens. -/
def State.openTack (s : State) : State :=
  let s := { s with mgmt := { s.mgmt with tackSteps := Fin.ofNat 65 (s.mgmt.tackSteps.val + 1), zeroise := true } }
  let s := s.zeroiseNow
  { s with mgmt := { s.mgmt with gloved := false }, tack := { s.tack with isOpen := true, nonce := none } }

/-- With all 64 Tack steps programmed RESPONSE is refused. -/
def execTackResponse (v : TackVerdict) (s : State) : Result :=
  s.tackLine (s.mgmt.gloved && s.quiet && decide (s.mgmt.tackSteps.val < 64))
    (if s.responseOk v then s.openTack.tackAnswer [] else s.responseFails.tackErr stAUTH_FAIL)

/-! ## The open monitor (R510) -/

/-- 115,200, 460,800, 921,600, 1,500,000 and 3,000,000 baud. -/
def baudOk (r : W32) : Bool := [0x1C200, 0x70800, 0xE1000, 0x16E360, 0x2DC6C0].contains r.toNat

def execTackBaud (rate : W32) (s : State) : Result :=
  s.tackLine s.tack.isOpen
    (if baudOk rate then { s.tackAnswer [] with tack := { (s.tackAnswer []).tack with baud := rate } }
     else s.tackErr stBAD_ARG)

/-- A place that READ and WRITE may name. -/
def tackPlaceOk (top : Nat) (space field : Byte) (offset : W32) (words : Nat) : Bool :=
  decide (space.toNat ≤ top) && (space != 1 || decide (field.toNat ≤ 99)) && decide (offset.toNat % 8 = 0) &&
  decide (offset.toNat + 8 * words ≤ spaceSize space.toNat)

/-- READ reads as TELEM_READ does. -/
def execTackRead (space field : Byte) (offset : W32) (count : Nat) (s : State) : Result :=
  s.tackLine s.tack.isOpen
    (if 1 ≤ count ∧ count ≤ 512 ∧ tackPlaceOk 2 space field offset count = true then
      s.tackAnswer ((List.range count).map (fun i => s.readReg space.toNat field.toNat (offset.toNat + 8 * i)))
     else s.tackErr stBAD_ARG)

/-- A counter of the space's processor (R156). -/
def isCounter (space off : Nat) : Bool :=
  if space = 0 then isMmpCounter off
  else decide ((0x20000 ≤ off ∧ off < 0x20400) ∨ (0x21000 ≤ off ∧ off < 0x21400) ∨ (0x31000 ≤ off ∧ off < 0x31400))

/-- A write with the access of the processor's own firmware: OVF of a counter and the faults of CORE_FAULT are
W1C, CDC_CTRL is RW; every other register is RO (R61, R156, R442). -/
def State.writeReg (s : State) (space field off : Nat) (v : W64) : Option State :=
  let key := counterKey (if space = 0 then 0 else field + 1) off
  if isCounter space off then
    some (if v.msb then s.putCounter key { s.counterOf key with ovf := false } else s)
  else if space = 0 then
    (if off = 0x90808 then some { s with clocks := { s.clocks with compat := v.getLsbD 0 } } else none)
  else if 0x10000 ≤ off ∧ off < 0x10000 + 16 * 576 ∧ off % 16 = 8 then
    some (s.modPhys (576 * field + (off - 0x10000) / 16) (fun k => { k with fault := k.fault &&& ~~~(v &&& 0x3FF) }))
  else if off = 0x40008 then some (s.modField field (fun f => { f with compat := v.getLsbD 0 }))
  else none

def execTackWrite (space field : Byte) (offset : W32) (value : W64) (s : State) : Result :=
  s.tackLine (s.tack.isOpen && s.mode == .maint)
    (if tackPlaceOk 1 space field offset 1 then
      (match s.writeReg space.toNat field.toNat offset.toNat value with
        | some t => t.tackAnswer []
        | none => s.tackErr stREFUSED)
     else s.tackErr stBAD_ARG)

/-- The 16 words of 4 bytes of a record. -/
def EventRec.halves (cls : Nat) (e : EventRec) : List W64 :=
  (List.range 16).map (fun i => (e.word cls (i / 2) >>> (32 * (i % 2))) &&& 0xFFFFFFFF)

/-- The unread records of a ring, or its bring-up copy, of the ALARM and FAULT classes. -/
def execTackEvdump (cls : Fin 4) (prev : Bool) (s : State) : Result :=
  let rs := if prev then (s.ringOf cls.val).previous else (s.ringOf cls.val).unread
  s.tackLine s.tack.isOpen
    (if prev && decide (1 < cls.val) then s.tackErr stBAD_ARG
     else s.tackAnswer (rs.flatMap (EventRec.halves cls.val)))

def execTackState (s : State) : Result :=
  s.tackLine s.tack.isOpen
    (s.tackAnswer ((List.range 24).map s.mirrorWord ++ (List.range 32).map s.telemSample.word))

/-- A SCAN slice of a field, which runs to its end; the signatures are the scan hardware's. -/
def execTackScan (f : FieldId) (s : State) : Result :=
  s.tackLine (s.tack.isOpen && s.mode == .maint && s.sliceFits f.val && (s.fieldOf f.val).state == .online)
    (((s.startSlice (16 * f.val) .scan false).sliceDone f.val true).useFree.tackAnswer [Config.scanSignature s.fresh])

/-- One CLUSTER slice, with what it found. -/
def execTackBist (f : FieldId) (ci : Fin 16) (o : SliceOutcome) (s : State) : Result :=
  let k := 16 * f.val + ci.val
  let failed := ((s.testedCores k).filter (fun p => o.failedCores.any (fun i => 36 * k + i.val == p))).length
  s.tackLine (s.tack.isOpen && s.mode == .maint && s.sliceFits f.val && (s.fieldOf f.val).state == .online)
    (((s.startSlice k .cluster false).endCluster k o).tackAnswer [1, w64 failed])

def execTackReset (s : State) : Result :=
  s.tackLine s.tack.isOpen
    ({ s.tackAnswer [] with mgmt := { s.mgmt with resetPending := true } })

/-! ## Lines and the strap (R418, R421, R509, R511) -/

def execTackLineTimeout (s : State) : Result := s.tackLine true (s.tackErr stBAD_ARG)

def execTackEnRise (s : State) : Result := .next { s with tack := { s.tack with en := true } }

/-- The monitor closes and the module stays ungloved; a RESPONSE still being received is discarded. -/
def execTackEnFall (responding : Bool) (s : State) : Result :=
  let t := { s with tack := { s.tack with en := false, isOpen := false, baud := 0x1C200 } }
  if responding && s.mode != .off then .next t.responseFails else .next t

end Sys2Proof.Machine
end

