-- ==== Sys2Proof/Machine/Tensor.lean ====
section
/-! DEFINITION. Tensor instructions and the end of a tile product (R44 to R49, R72, R73, R97, R103 to
R106). -/

set_option linter.unusedVariables false

namespace Sys2Proof.Machine

open Sys2Proof

/-- The options of TMM (R72). -/
def tmmClr (a : CoreArgs) : Bool := a.opt.getLsbD 0
def tmmSkipA (a : CoreArgs) : Bool := a.opt.getLsbD 1
def tmmTA (a : CoreArgs) : Bool := a.opt.getLsbD 2
def tmmTB (a : CoreArgs) : Bool := a.opt.getLsbD 3
def tmmRegs (a : CoreArgs) : Bool := a.opt.getLsbD 4

/-- The source entries of TMM. -/
def Core.tmmA (k : Core) (a : CoreArgs) : Nat :=
  if tmmRegs a then (k.sreg a.ra).toNat % 256 else a.imm.toNat % 256
def Core.tmmB (k : Core) (a : CoreArgs) : Nat :=
  if tmmRegs a then (k.sreg a.rb).toNat % 256 else a.imm.toNat / 256 % 256

/-- A source tile as the array reads it: code and scale of a stored element, its bitmap, whether it is
used transposed. -/
structure Source64 where
  fmt : Fmt
  bitmap : W64
  transposed : Bool
  code : Nat → Nat → Nat
  scale : Nat → Nat → Byte

/-- R72: element (r, c) of the operand. -/
def Source64.at_ (t : Source64) (r c : Nat) : Nat := if t.transposed then t.code c r else t.code r c

/-- R72: block (i, k) of the operand is marked. -/
def Source64.marked (t : Source64) (i k : Nat) : Bool :=
  t.bitmap.getLsbD (if t.transposed then 8 * k + i else 8 * i + k)

/-- DESIGN CHOICE, log entry 54. -/
def Entry.source (e : Entry) (transposed : Bool) (fresh : Nat) : Source64 :=
  { fmt := e.fmt, bitmap := e.header.bitmap, transposed := transposed,
    code := fun r c => e.readCode fresh r c, scale := fun r c => e.readScale (fresh + 4096) r c }

/-- R45, R46: the block product k takes part for output element (r, c). -/
def participates (skipA : Bool) (a b : Source64) (r c k : Nat) : Bool :=
  if skipA then a.marked (r / 8) k else b.marked k (c / 8)

/-- The pairs of codes of the eight products of one block product. -/
def cellTerms (a b : Source64) (r c k : Nat) : List (Nat × Nat) :=
  (List.range 8).map (fun t => (a.at_ r (8 * k + t), b.at_ (8 * k + t) c))

/-- R103, R104: the exact sum S of a cell of a floating format. -/
def floatSum (a b : Source64) (r c k : Nat) : FVal :=
  let s := exactSum ((cellTerms a b r c k).map (fun t => (a.fmt.elemVal t.1).mul (b.fmt.elemVal t.2)))
  if a.fmt.isMx then
    (s.mul (scaleVal (a.scale r (8 * k)))).mul (scaleVal (b.scale c (8 * k)))
  else s

/-- The exact integer sum of a cell of an integer format. -/
def intSum (a b : Source64) (r c k : Nat) : Int :=
  (cellTerms a b r c k).foldl (fun n t =>
    n + (BitVec.ofNat a.fmt.elemBits t.1).toInt * (BitVec.ofNat b.fmt.elemBits t.2).toInt) 0

/-- One addition into an accumulator element: the element, SAT, NAN (R103 to R106). -/
def cellAdd (a b : Source64) (r c k : Nat) (acc : W32) : W32 × Bool × Bool :=
  if a.fmt.isInt then
    if a.fmt.isMx then
      let ea := a.scale r (8 * k)
      let eb := b.scale c (8 * k)
      if ea = 0xFF ∨ eb = 0xFF then (acc, false, true)
      else
        let o := accInt32 acc (shiftRne (intSum a b r c k) ((ea.toNat : Int) - 127 + ((eb.toNat : Int) - 127)))
        (o.1, o.2, false)
    else
      let o := accInt32 acc (intSum a b r c k)
      (o.1, o.2, false)
  else
    let o := accFp32 acc (floatSum a b r c k)
    (o.1, false, o.2)

/-- R45: the products of the participating k, in increasing order of k. -/
def tileElem (skipA : Bool) (a b : Source64) (r c : Nat) (acc : W32) : W32 × Bool × Bool :=
  (List.range 8).foldl (fun (p : W32 × Bool × Bool) k =>
    if participates skipA a b r c k then
      let o := cellAdd a b r c k p.1
      (o.1, p.2.1 || o.2.1, p.2.2 || o.2.2)
    else p) (acc, false, false)

/-- The product of two tiles added to an accumulator. -/
def Acc.addProduct (acc : Acc) (skipA : Bool) (a b : Source64) : Acc :=
  let out := (List.range 4096).map (fun n => (n, tileElem skipA a b (n / 64) (n % 64) (tget 0 acc.elems n)))
  { acc with
    elems := (out.filter (fun o => o.2.1 != 0)).map (fun o => (o.1, o.2.1))
    sat := acc.sat || out.any (fun o => o.2.2.1)
    nan := acc.nan || out.any (fun o => o.2.2.2) }

/-- ACLR, and CLR of TMM: elements +0, poison clear, no type. SAT and NAN stay until they are
written (R73). -/
def Acc.cleared (acc : Acc) : Acc := { acc with elems := [], type := none, poison := false }

/-- R44: the accumulator type of a source format. -/
def accType (f : Fmt) : AccType := if f.isInt then .int32 else .fp32

/-- R73, R97: the operand conditions of TMM. -/
def tmmOperandsOk (a : CoreArgs) (ea eb : Entry) (acc : Acc) : Bool :=
  ea.fmt.tensorSource && eb.fmt.tensorSource && ea.fmt == eb.fmt &&
  (tmmClr a || acc.type == none || acc.type == some (accType ea.fmt)) &&
  (!ea.fmt.isMx || (!tmmTA a && tmmTB a))

/-- DESIGN CHOICE, log entry 78. -/
def execTmm (c : CoreId) (a : CoreArgs) (s : State) : Result :=
  .next (issue 0x20 a.opt { rd := true, ra := tmmRegs a, rb := tmmRegs a, imm := !tmmRegs a }
    (a.rd.toNat < 2) c a s (reads := fun k => [k.tmmA a, k.tmmB a])
    (acc := if tmmClr a then none else some (a.rd.getLsbD 0)) (fun s k x =>
      let na := k.tmmA a
      let nb := k.tmmB a
      let ea := k.entryFor x na
      let eb := k.entryFor x nb
      let side := a.rd.getLsbD 0
      let acc := k.acc side
      if ea.state = .empty then .raise xADDRESS (addressInfo na 0)
      else if eb.state = .empty then .raise xADDRESS (addressInfo nb 0)
      else if ea.state = .filling then .stall (BitVec.ofNat 16 na) s
      else if eb.state = .filling then .stall (BitVec.ofNat 16 nb) s
      else if !tmmOperandsOk a ea eb acc then .raise xOPERAND (operandInfo na nb ea.fmt.toNat)
      else
        let acc := if tmmClr a then acc.cleared else acc
        let acc := { acc with type := some (accType ea.fmt) }
        let acc := acc.addProduct (tmmSkipA a) (ea.source (tmmTA a) s.fresh)
          (eb.source (tmmTB a) (s.fresh + 8192))
        let poisoned := ea.state == .poisoned || eb.state == .poisoned
        let acc := { acc with poison := acc.poison || poisoned, inFlight := acc.inFlight + 1 }
        .core (if ea.short || eb.short then s.useFrees 16384 else s) c
          { k.setAcc side acc with tmmSources := k.tmmSources ++ [(na, nb, side)] }))

def execAclr (c : CoreId) (a : CoreArgs) (s : State) : Result :=
  .next (issue 0x21 0 { rd := true } true c a s (fun s k x =>
    let side := a.rd.getLsbD 0
    .core s c (k.setAcc side (k.acc side).cleared)))

/-- R49: the oldest tile product of an accumulator drains; its sources are released. -/
def execAccumulatorReadable (c : CoreId) (acc : Bool) (s : State) : Result :=
  let k := s.coreOf c.val
  if s.coreClocked c.val && decide ((k.acc acc).inFlight ≠ 0) then
    .next (s.putCore c.val
      { k.setAcc acc { k.acc acc with inFlight := (k.acc acc).inFlight - 1 } with
        tmmSources := k.tmmSources.eraseP (fun t => t.2.2 == acc) })
  else .next s

end Sys2Proof.Machine
end

