-- ==== Sys2Proof/Machine/Dispatch.lean ====
section
/-! DEFINITION. The meaning of each command: one arm per constructor. -/

namespace Sys2Proof.Machine
open Sys2Proof

def exec (i : Instr) (s : State) : Host.Outcome State Fault Refusal :=
  match i with
  | .add c a => Sys2Proof.Machine.execAdd c a s
  | .sub c a => Sys2Proof.Machine.execSub c a s
  | .and c a => Sys2Proof.Machine.execAnd c a s
  | .or c a => Sys2Proof.Machine.execOr c a s
  | .xor c a => Sys2Proof.Machine.execXor c a s
  | .sll c a => Sys2Proof.Machine.execSll c a s
  | .srl c a => Sys2Proof.Machine.execSrl c a s
  | .sra c a => Sys2Proof.Machine.execSra c a s
  | .slt c a => Sys2Proof.Machine.execSlt c a s
  | .sltu c a => Sys2Proof.Machine.execSltu c a s
  | .min c a => Sys2Proof.Machine.execMin c a s
  | .max c a => Sys2Proof.Machine.execMax c a s
  | .minu c a => Sys2Proof.Machine.execMinu c a s
  | .maxu c a => Sys2Proof.Machine.execMaxu c a s
  | .li c a => Sys2Proof.Machine.execLi c a s
  | .lui c a => Sys2Proof.Machine.execLui c a s
  | .mul c a => Sys2Proof.Machine.execMul c a s
  | .mulh c a => Sys2Proof.Machine.execMulh c a s
  | .mulhu c a => Sys2Proof.Machine.execMulhu c a s
  | .div c a => Sys2Proof.Machine.execDiv c a s
  | .divu c a => Sys2Proof.Machine.execDivu c a s
  | .rem c a => Sys2Proof.Machine.execRem c a s
  | .remu c a => Sys2Proof.Machine.execRemu c a s
  | .ld c a => Sys2Proof.Machine.execLd c a s
  | .st c a => Sys2Proof.Machine.execSt c a s
  | .beq c a => Sys2Proof.Machine.execBeq c a s
  | .bne c a => Sys2Proof.Machine.execBne c a s
  | .blt c a => Sys2Proof.Machine.execBlt c a s
  | .bge c a => Sys2Proof.Machine.execBge c a s
  | .bltu c a => Sys2Proof.Machine.execBltu c a s
  | .bgeu c a => Sys2Proof.Machine.execBgeu c a s
  | .dbnz c a => Sys2Proof.Machine.execDbnz c a s
  | .j c a => Sys2Proof.Machine.execJ c a s
  | .jal c a => Sys2Proof.Machine.execJal c a s
  | .jr c a => Sys2Proof.Machine.execJr c a s
  | .sprr c a => Sys2Proof.Machine.execSprr c a s
  | .sprw c a => Sys2Proof.Machine.execSprw c a s
  | .vadd c a => Sys2Proof.Machine.execVadd c a s
  | .vsub c a => Sys2Proof.Machine.execVsub c a s
  | .vmul c a => Sys2Proof.Machine.execVmul c a s
  | .vfma c a => Sys2Proof.Machine.execVfma c a s
  | .vfms c a => Sys2Proof.Machine.execVfms c a s
  | .vmin c a => Sys2Proof.Machine.execVmin c a s
  | .vmax c a => Sys2Proof.Machine.execVmax c a s
  | .vabs c a => Sys2Proof.Machine.execVabs c a s
  | .vneg c a => Sys2Proof.Machine.execVneg c a s
  | .viadd c a => Sys2Proof.Machine.execViadd c a s
  | .visub c a => Sys2Proof.Machine.execVisub c a s
  | .vimul c a => Sys2Proof.Machine.execVimul c a s
  | .vand c a => Sys2Proof.Machine.execVand c a s
  | .vor c a => Sys2Proof.Machine.execVor c a s
  | .vxor c a => Sys2Proof.Machine.execVxor c a s
  | .vsll c a => Sys2Proof.Machine.execVsll c a s
  | .vsrl c a => Sys2Proof.Machine.execVsrl c a s
  | .vsra c a => Sys2Proof.Machine.execVsra c a s
  | .vceq c a => Sys2Proof.Machine.execVceq c a s
  | .vclt c a => Sys2Proof.Machine.execVclt c a s
  | .vcle c a => Sys2Proof.Machine.execVcle c a s
  | .vcun c a => Sys2Proof.Machine.execVcun c a s
  | .viceq c a => Sys2Proof.Machine.execViceq c a s
  | .viclt c a => Sys2Proof.Machine.execViclt c a s
  | .vcvt c a => Sys2Proof.Machine.execVcvt c a s
  | .vcvti c a => Sys2Proof.Machine.execVcvti c a s
  | .vrcp c a => Sys2Proof.Machine.execVrcp c a s
  | .vrsq c a => Sys2Proof.Machine.execVrsq c a s
  | .vexp c a => Sys2Proof.Machine.execVexp c a s
  | .vlog c a => Sys2Proof.Machine.execVlog c a s
  | .vrsum c a => Sys2Proof.Machine.execVrsum c a s
  | .vrmax c a => Sys2Proof.Machine.execVrmax c a s
  | .vrmin c a => Sys2Proof.Machine.execVrmin c a s
  | .vmov c a => Sys2Proof.Machine.execVmov c a s
  | .vbcast c a => Sys2Proof.Machine.execVbcast c a s
  | .vext c a => Sys2Proof.Machine.execVext c a s
  | .vsel c a => Sys2Proof.Machine.execVsel c a s
  | .mand c a => Sys2Proof.Machine.execMand c a s
  | .mor c a => Sys2Proof.Machine.execMor c a s
  | .mxor c a => Sys2Proof.Machine.execMxor c a s
  | .mnot c a => Sys2Proof.Machine.execMnot c a s
  | .mset c a => Sys2Proof.Machine.execMset c a s
  | .vaccr c a => Sys2Proof.Machine.execVaccr c a s
  | .vaccw c a => Sys2Proof.Machine.execVaccw c a s
  | .vldr c a => Sys2Proof.Machine.execVldr c a s
  | .vstr c a => Sys2Proof.Machine.execVstr c a s
  | .vld c a => Sys2Proof.Machine.execVld c a s
  | .vst c a => Sys2Proof.Machine.execVst c a s
  | .vfwcv c a => Sys2Proof.Machine.execVfwcv c a s
  | .vfwadd c a => Sys2Proof.Machine.execVfwadd c a s
  | .vfwcf c a => Sys2Proof.Machine.execVfwcf c a s
  | .tmm c a => Sys2Proof.Machine.execTmm c a s
  | .aclr c a => Sys2Proof.Machine.execAclr c a s
  | .accumulatorReadable c acc => Sys2Proof.Machine.execAccumulatorReadable c acc s
  | .sissue c a => Sys2Proof.Machine.execSissue c a s
  | .swait c a => Sys2Proof.Machine.execSwait c a s
  | .stest c a => Sys2Proof.Machine.execStest c a s
  | .talloc c a => Sys2Proof.Machine.execTalloc c a s
  | .tfree c a => Sys2Proof.Machine.execTfree c a s
  | .tstate c a => Sys2Proof.Machine.execTstate c a s
  | .thdr c a => Sys2Proof.Machine.execThdr c a s
  | .bswap c a => Sys2Proof.Machine.execBswap c a s
  | .scancel c a => Sys2Proof.Machine.execScancel c a s
  | .pegpost c a => Sys2Proof.Machine.execPegpost c a s
  | .pegwait c a => Sys2Proof.Machine.execPegwait c a s
  | .pegtest c a => Sys2Proof.Machine.execPegtest c a s
  | .fence c a => Sys2Proof.Machine.execFence c a s
  | .ridx c a => Sys2Proof.Machine.execRidx c a s
  | .rlane c a => Sys2Proof.Machine.execRlane c a s
  | .rsetSeed c a => Sys2Proof.Machine.execRsetSeed c a s
  | .rsetStreamId c a => Sys2Proof.Machine.execRsetStreamId c a s
  | .rsetIndexBase c a => Sys2Proof.Machine.execRsetIndexBase c a s
  | .rsave c a => Sys2Proof.Machine.execRsave c a s
  | .rload c a => Sys2Proof.Machine.execRload c a s
  | .rnorm c a => Sys2Proof.Machine.execRnorm c a s
  | .smpcfg c a => Sys2Proof.Machine.execSmpcfg c a s
  | .smpfeed c a => Sys2Proof.Machine.execSmpfeed c a s
  | .smpdraw c a => Sys2Proof.Machine.execSmpdraw c a s
  | .samplerTokenReady r seq => Sys2Proof.Machine.execSamplerTokenReady r seq s
  | .samplerMemoryError k => Sys2Proof.Machine.execSamplerMemoryError k s
  | .tilenext c a => Sys2Proof.Machine.execTilenext c a s
  | .tiledone c a => Sys2Proof.Machine.execTiledone c a s
  | .nop c a => Sys2Proof.Machine.execNop c a s
  | .waitc c a => Sys2Proof.Machine.execWaitc c a s
  | .xretRetrying c a => Sys2Proof.Machine.execXretRetrying c a s
  | .xretSkipping c a => Sys2Proof.Machine.execXretSkipping c a s
  | .brk c a => Sys2Proof.Machine.execBrk c a s
  | .endProgram c a => Sys2Proof.Machine.execEndProgram c a s
  | .waitTimeout c => Sys2Proof.Machine.execWaitTimeout c s
  | .residueError p unit => Sys2Proof.Machine.execResidueError p unit s
  | .heartbeat b => Sys2Proof.Machine.execHeartbeat b s
  | .heartbeatReceived p seq good => Sys2Proof.Machine.execHeartbeatReceived p seq good s
  | .heartbeatLost p => Sys2Proof.Machine.execHeartbeatLost p s
  | .contextAbort x detail => Sys2Proof.Machine.execContextAbort x detail s
  | .xferIssue k => Sys2Proof.Machine.execXferIssue k s
  | .xferReply k slot epoch reply => Sys2Proof.Machine.execXferReply k slot epoch reply s
  | .requestDeadline k slot fill => Sys2Proof.Machine.execRequestDeadline k slot fill s
  | .writeLockGrant h => Sys2Proof.Machine.execWriteLockGrant h s
  | .oldHomeRelease h => Sys2Proof.Machine.execOldHomeRelease h s
  | .cancelForced k slot => Sys2Proof.Machine.execCancelForced k slot s
  | .reclaimHoldEnd k slot => Sys2Proof.Machine.execReclaimHoldEnd k slot s
  | .tubArrival k p channelFree residueOk => Sys2Proof.Machine.execTubArrival k p channelFree residueOk s
  | .tubEmit k slot holdPassed channelFreed => Sys2Proof.Machine.execTubEmit k slot holdPassed channelFreed s
  | .flitRefused k port => Sys2Proof.Machine.execFlitRefused k port s
  | .redArrival p => Sys2Proof.Machine.execRedArrival p s
  | .detourUpdate => Sys2Proof.Machine.execDetourUpdate s
  | .fieldDark f lost => Sys2Proof.Machine.execFieldDark f lost s
  | .fieldReturn f selfCheckOk => Sys2Proof.Machine.execFieldReturn f selfCheckOk s
  | .boundaryMapApply f b => Sys2Proof.Machine.execBoundaryMapApply f b s
  | .hopRetryGroupTest f b found => Sys2Proof.Machine.execHopRetryGroupTest f b found s
  | .pegGroupComplete g => Sys2Proof.Machine.execPegGroupComplete g s
  | .leaseRequest k x => Sys2Proof.Machine.execLeaseRequest k x s
  | .leaseGrant k x => Sys2Proof.Machine.execLeaseGrant k x s
  | .tileHand k x => Sys2Proof.Machine.execTileHand k x s
  | .scrub place found => Sys2Proof.Machine.execScrub place found s
  | .hamperSuspect h => Sys2Proof.Machine.execHamperSuspect h s
  | .hamperChannelFailed h ch => Sys2Proof.Machine.execHamperChannelFailed h ch s
  | .pressRefresh block readable copy => Sys2Proof.Machine.execPressRefresh block readable copy s
  | .pressWearMove m => Sys2Proof.Machine.execPressWearMove m s
  | .weightRecord u w => Sys2Proof.Machine.execWeightRecord u w s
  | .pressExtentCommit firstTile lastTile written verifyOk lastExtent => Sys2Proof.Machine.execPressExtentCommit firstTile lastTile written verifyOk lastExtent s
  | .incompleteSlotErase slot => Sys2Proof.Machine.execIncompleteSlotErase slot s
  | .slotSwitch x => Sys2Proof.Machine.execSlotSwitch x s
  | .oldCopyFree x => Sys2Proof.Machine.execOldCopyFree x s
  | .raccPointSend k slot point => Sys2Proof.Machine.execRaccPointSend k slot point s
  | .gack u a => Sys2Proof.Machine.execGack u a s
  | .gradientRecordDeadline x stream seq => Sys2Proof.Machine.execGradientRecordDeadline x stream seq s
  | .stepDoneRelease x => Sys2Proof.Machine.execStepDoneRelease x s
  | .grecDrop u => Sys2Proof.Machine.execGrecDrop u s
  | .pegArrive u m => Sys2Proof.Machine.execPegArrive u m s
  | .pegComplete u m => Sys2Proof.Machine.execPegComplete u m s
  | .beginMsg u m b => Sys2Proof.Machine.execBeginMsg u m b s
  | .commitMsg u m => Sys2Proof.Machine.execCommitMsg u m s
  | .skipMsg u m => Sys2Proof.Machine.execSkipMsg u m s
  | .abandonMsg u m => Sys2Proof.Machine.execAbandonMsg u m s
  | .invalidMsg u m => Sys2Proof.Machine.execInvalidMsg u m s
  | .reportMsg u m detail => Sys2Proof.Machine.execReportMsg u m detail s
  | .segmentMsg u m body => Sys2Proof.Machine.execSegmentMsg u m body s
  | .resultMsg u m => Sys2Proof.Machine.execResultMsg u m s
  | .telemMsg u m body => Sys2Proof.Machine.execTelemMsg u m body s
  | .telemSend x => Sys2Proof.Machine.execTelemSend x s
  | .stepLimitExpiry x => Sys2Proof.Machine.execStepLimitExpiry x s
  | .collSourceWritten x n tile chunk => Sys2Proof.Machine.execCollSourceWritten x n tile chunk s
  | .collUp u m => Sys2Proof.Machine.execCollUp u m s
  | .collDown u m => Sys2Proof.Machine.execCollDown u m s
  | .collDeadline x n tile => Sys2Proof.Machine.execCollDeadline x n tile s
  | .flitReceive u a => Sys2Proof.Machine.execFlitReceive u a s
  | .replayTimeout u => Sys2Proof.Machine.execReplayTimeout u s
  | .messageAdmission u mtype job => Sys2Proof.Machine.execMessageAdmission u mtype job s
  | .linkMsg u m => Sys2Proof.Machine.execLinkMsg u m s
  | .timeMsg u m => Sys2Proof.Machine.execTimeMsg u m s
  | .timeExchange => Sys2Proof.Machine.execTimeExchange s
  | .holdover => Sys2Proof.Machine.execHoldover s
  | .trainingStage u o => Sys2Proof.Machine.execTrainingStage u o s
  | .trainingStageFail u => Sys2Proof.Machine.execTrainingStageFail u s
  | .trainingRestart u => Sys2Proof.Machine.execTrainingRestart u s
  | .fastRetrain u => Sys2Proof.Machine.execFastRetrain u s
  | .laneSpareSwitch u rx lane => Sys2Proof.Machine.execLaneSpareSwitch u rx lane s
  | .laneLoss u rx lane => Sys2Proof.Machine.execLaneLoss u rx lane s
  | .sqDb m value bytes => Sys2Proof.Machine.execSqDb m value bytes s
  | .cqDb m value bytes => Sys2Proof.Machine.execCqDb m value bytes s
  | .mboxCtrl m value => Sys2Proof.Machine.execMboxCtrl m value s
  | .registerWrite offset value bytes => Sys2Proof.Machine.execRegisterWrite offset value bytes s
  | .descriptorFetch m d => Sys2Proof.Machine.execDescriptorFetch m d s
  | .hostAccessDeadline a => Sys2Proof.Machine.execHostAccessDeadline a s
  | .mirrorUpdate => Sys2Proof.Machine.execMirrorUpdate s
  | .civlinkPortDown portB => Sys2Proof.Machine.execCivlinkPortDown portB s
  | .expCtrl cls value => Sys2Proof.Machine.execExpCtrl cls value s
  | .expCons cls value => Sys2Proof.Machine.execExpCons cls value s
  | .eventExport cls writeOk => Sys2Proof.Machine.execEventExport cls writeOk s
  | .telemSample => Sys2Proof.Machine.execTelemSample s
  | .ctxCreate h a => Sys2Proof.Machine.execCtxCreate h a s
  | .ctxDestroy h => Sys2Proof.Machine.execCtxDestroy h s
  | .ctxSave h a => Sys2Proof.Machine.execCtxSave h a s
  | .ctxRestore h a rec => Sys2Proof.Machine.execCtxRestore h a rec s
  | .regionMap h recs => Sys2Proof.Machine.execRegionMap h recs s
  | .programLoad h a => Sys2Proof.Machine.execProgramLoad h a s
  | .treeSet h a => Sys2Proof.Machine.execTreeSet h a s
  | .weightBind h recs => Sys2Proof.Machine.execWeightBind h recs s
  | .weightSwap h a => Sys2Proof.Machine.execWeightSwap h a s
  | .stepBegin h b => Sys2Proof.Machine.execStepBegin h b s
  | .stepCommit h step => Sys2Proof.Machine.execStepCommit h step s
  | .stepAbandon h step => Sys2Proof.Machine.execStepAbandon h step s
  | .streamCancel h a => Sys2Proof.Machine.execStreamCancel h a s
  | .pressWriteInstall h a => Sys2Proof.Machine.execPressWriteInstall h a s
  | .pressWriteErase h a => Sys2Proof.Machine.execPressWriteErase h a s
  | .pressResume h slot ctx key => Sys2Proof.Machine.execPressResume h slot ctx key s
  | .linkSet h recs => Sys2Proof.Machine.execLinkSet h recs s
  | .fenceArmFence h mask => Sys2Proof.Machine.execFenceArmFence h mask s
  | .fenceArmOpen h mask => Sys2Proof.Machine.execFenceArmOpen h mask s
  | .markBad h b => Sys2Proof.Machine.execMarkBad h b s
  | .restore h parts => Sys2Proof.Machine.execRestore h parts s
  | .harden h parts => Sys2Proof.Machine.execHarden h parts s
  | .bistWindow h a => Sys2Proof.Machine.execBistWindow h a s
  | .stateSetReady h => Sys2Proof.Machine.execStateSetReady h s
  | .stateSetDrain h => Sys2Proof.Machine.execStateSetDrain h s
  | .stateSetMaint h => Sys2Proof.Machine.execStateSetMaint h s
  | .stateSetReset h => Sys2Proof.Machine.execStateSetReset h s
  | .keyProvisionInstall h slot b => Sys2Proof.Machine.execKeyProvisionInstall h slot b s
  | .keyProvisionClear h slot => Sys2Proof.Machine.execKeyProvisionClear h slot s
  | .keyProvisionAuthority h key => Sys2Proof.Machine.execKeyProvisionAuthority h key s
  | .keyProvisionPubkey h addr len => Sys2Proof.Machine.execKeyProvisionPubkey h addr len s
  | .attest h a => Sys2Proof.Machine.execAttest h a s
  | .fwStageWrite h a => Sys2Proof.Machine.execFwStageWrite h a s
  | .fwStageVerify h v => Sys2Proof.Machine.execFwStageVerify h v s
  | .fwStageActivate h => Sys2Proof.Machine.execFwStageActivate h s
  | .fwStageConfirm h => Sys2Proof.Machine.execFwStageConfirm h s
  | .fwStageAbandon h => Sys2Proof.Machine.execFwStageAbandon h s
  | .telemRead h a => Sys2Proof.Machine.execTelemRead h a s
  | .modeSet h a => Sys2Proof.Machine.execModeSet h a s
  | .hostWait h addr len => Sys2Proof.Machine.execHostWait h addr len s
  | .hostReply h a => Sys2Proof.Machine.execHostReply h a s
  | .hostRequest reqId => Sys2Proof.Machine.execHostRequest reqId s
  | .hostRequestLimit reqId => Sys2Proof.Machine.execHostRequestLimit reqId s
  | .mmpTakeover => Sys2Proof.Machine.execMmpTakeover s
  | .standbyWatchdogExpiry => Sys2Proof.Machine.execStandbyWatchdogExpiry s
  | .fcHeartbeatLost l => Sys2Proof.Machine.execFcHeartbeatLost l s
  | .bringup b => Sys2Proof.Machine.execBringup b s
  | .ringBatch results => Sys2Proof.Machine.execRingBatch results s
  | .bringupComplete hamper => Sys2Proof.Machine.execBringupComplete hamper s
  | .refclkLoss inputB outOfRange => Sys2Proof.Machine.execRefclkLoss inputB outOfRange s
  | .refclkGood inputB => Sys2Proof.Machine.execRefclkGood inputB s
  | .oscCalibration aPpm bPpm => Sys2Proof.Machine.execOscCalibration aPpm bPpm s
  | .cdcTimeout x => Sys2Proof.Machine.execCdcTimeout x s
  | .pfWarn => Sys2Proof.Machine.execPfWarn s
  | .holdCommit => Sys2Proof.Machine.execHoldCommit s
  | .supplyOutOfRange kind => Sys2Proof.Machine.execSupplyOutOfRange kind s
  | .modReset pinLow => Sys2Proof.Machine.execModReset pinLow s
  | .converterFailure => Sys2Proof.Machine.execConverterFailure s
  | .powerSample r => Sys2Proof.Machine.execPowerSample r s
  | .thermalStep => Sys2Proof.Machine.execThermalStep s
  | .sensorRead f readings => Sys2Proof.Machine.execSensorRead f readings s
  | .thermalTrip f sensor => Sys2Proof.Machine.execThermalTrip f sensor s
  | .regulatorFault f rail => Sys2Proof.Machine.execRegulatorFault f rail s
  | .readingCheck r => Sys2Proof.Machine.execReadingCheck r s
  | .sliceStart k kind => Sys2Proof.Machine.execSliceStart k kind s
  | .sliceEnd f o => Sys2Proof.Machine.execSliceEnd f o s
  | .spareSliceTimer f => Sys2Proof.Machine.execSpareSliceTimer f s
  | .darning p => Sys2Proof.Machine.execDarning p s
  | .scoreSnapshot => Sys2Proof.Machine.execScoreSnapshot s
  | .tackId => Sys2Proof.Machine.execTackId s
  | .tackChallenge => Sys2Proof.Machine.execTackChallenge s
  | .tackResponse v => Sys2Proof.Machine.execTackResponse v s
  | .tackBaud rate => Sys2Proof.Machine.execTackBaud rate s
  | .tackRead space field offset count => Sys2Proof.Machine.execTackRead space field offset count s
  | .tackWrite space field offset value => Sys2Proof.Machine.execTackWrite space field offset value s
  | .tackEvdump cls prev => Sys2Proof.Machine.execTackEvdump cls prev s
  | .tackState => Sys2Proof.Machine.execTackState s
  | .tackScan f => Sys2Proof.Machine.execTackScan f s
  | .tackBist f ci o => Sys2Proof.Machine.execTackBist f ci o s
  | .tackReset => Sys2Proof.Machine.execTackReset s
  | .tackLineTimeout => Sys2Proof.Machine.execTackLineTimeout s
  | .tackEnRise => Sys2Proof.Machine.execTackEnRise s
  | .tackEnFall responding => Sys2Proof.Machine.execTackEnFall responding s
  | .wrecvPointDeadline k slot point => Sys2Proof.Machine.execWrecvPointDeadline k slot point s
  | .raccCompletionDeadline k slot point => Sys2Proof.Machine.execRaccCompletionDeadline k slot point s
  | .imageSlotErased e => Sys2Proof.Machine.execImageSlotErased e s
  | .bistWindowEnd => Sys2Proof.Machine.execBistWindowEnd s
  | .broadcastTimeout x => Sys2Proof.Machine.execBroadcastTimeout x s
  | .civlinkPortActive portB => Sys2Proof.Machine.execCivlinkPortActive portB s
  | .mmpOkClear => Sys2Proof.Machine.execMmpOkClear s
  | .refclkQualifying inputB => Sys2Proof.Machine.execRefclkQualifying inputB s
  | .converterReturn => Sys2Proof.Machine.execConverterReturn s
  | .hamperChannelRecalibration h ch => Sys2Proof.Machine.execHamperChannelRecalibration h ch s
  | .equaliserCheck u => Sys2Proof.Machine.execEqualiserCheck u s

end Sys2Proof.Machine
end

