-- ==== Sys2Proof/Machine/Step.lean ====
section
/-! DEFINITION. One step of the module: the command at the front of the queue, or a tick of the time
base when none waits. -/

set_option linter.unusedVariables false

namespace Sys2Proof.Machine

open Sys2Proof

/-- One edge of the selected REFCLK (R326: the time base advances by 64), while the module is powered; events that the
limiter of R183 held go on (DESIGN CHOICE, log entry 7). -/
def State.tick (s : State) : State :=
  if s.mode = .off then s else s.advance.sendAllEvents

/-- The command at the front of the queue is carried out with the queue's rest; an empty queue lets
time pass. -/
def step (s : State) : Result :=
  match s.pending with
  | [] => .next s.tick
  | c :: rest => exec c { s with pending := rest }

/-- s with the command that a word spells put at the front of its queue; s itself where it spells
none. -/
def State.withFetchWord (s : State) (nbits w : Nat) : State :=
  match decodeTableWord nbits w with
  | some c => { s with pending := c :: s.pending }
  | none => s

end Sys2Proof.Machine
end

