-- ==== Sys2Proof/Safety.lean ====
section
/-! DEFINITION. The terms in which claims are stated: the canonical form of the state's tables, when a core
issues an instruction and how it completes, and what part of the state a command leaves alone. -/

set_option linter.unusedVariables false

namespace Sys2Proof.Machine

open Sys2Proof

/-- Every numbered collection of the state is in canonical form: its numbers rise, and none of its entries
equals what an unlisted number reads as. -/
def State.wf (s : State) : Bool :=
  tableWf {} s.cores && tableWf {} s.phys && tableWf {} s.clusters && tableWf {} s.tiles &&
  tableWf {} s.fields && tableWf {} s.regions && tableWf {} s.pegs && tableWf {} s.ctxs &&
  tableWf {} s.keys && tableWf {} s.units && tableWf {} s.channels && tableWf {} s.hamperStacks &&
  tableWf {} s.mboxes && tableWf {} s.counters && tableWf {} s.rings &&
  tableWf {} s.thread.nodes && tableWf {} s.thread.queues

/-- The core issues the next instruction of x's program: its clock runs, it stalls on nothing, its PC
lies within the program's window, and the word there has a MAJOR and MINOR that are defined (R62, R83, R244). -/
def State.issues (s : State) (c : CoreId) (x : CtxId) : Bool :=
  s.coreClocked c.val && (s.coreOf c.val).running == some x && (s.coreOf c.val).waiting.isNone &&
  (s.coreOf c.val).ibufLost.isNone && wordDefined (s.fetched (s.coreOf c.val)) &&
  decide ((s.coreOf c.val).pc < s.windowLen (s.coreOf c.val))

/-- The instruction completes with the core as `k`, and the next one follows. -/
def State.completes (s : State) (c : CoreId) (k : Core) : Result :=
  .next (s.putCore c.val { k with pc := k.pc + 1 })

/-- The core goes on at `pc`. -/
def State.jumps (s : State) (c : CoreId) (k : Core) (pc : Nat) : Result :=
  .next (s.putCore c.val { k with pc := pc })

/-- A handler takes exceptions of the core (R88). -/
def Core.handles (k : Core) : Bool := k.xvec != 0 && !k.inHandler

/-- R88: the core in its handler, having raised `cause` at its PC. -/
def Core.handling (k : Core) (cause info : W64) : Core :=
  { k with xpc := w64 k.pc, xcause := cause, xinfo := info, pc := k.xvec.toNat % 4096, inHandler := true,
           waiting := none }

/-- The instruction raises an exception that the handler takes (R87, R88): nothing else changes. -/
def State.handles (s : State) (c : CoreId) (cause info : W64) : Result :=
  .next (s.putCore c.val ((s.coreOf c.val).handling cause info))

/-- The instruction does not issue yet, and the core waits in it (R83); `timed` where WAITLIM limits the wait
(R84). -/
def State.stalls (s : State) (c : CoreId) (word : W64) (info : W16) (timed : Bool) : Result :=
  .next (s.putCore c.val { s.coreOf c.val with waiting := some ⟨word, info, timed⟩ })

/-- A vector instruction completes (R36, R69 to R71): v[RD] takes the results of the lanes that the mask admits and
keeps the others; its poison bit is that of the sources, or the old one as well under a mask; FPSTATUS takes the
flags; every other register is unchanged. -/
def State.writesLanes (s : State) (i : Instr) (c : CoreId) (a : CoreArgs) (out : Fin 64 → W32) (flags : FpFlags)
    (poison : Bool) : Prop :=
  let k := s.coreOf c.val
  ∃ k' : Core, exec i s = s.completes c k' ∧
    (∀ l : Fin 64, (k'.vreg a.rd)[l] = if (k.laneMask a).getLsbD l.val then out l else (k.vreg a.rd)[l]) ∧
    k'.vpois a.rd = (poison || (a.men && k.vpois a.rd)) ∧
    k'.fpstatus = k.fpstatus ||| flags.setWidth 64 ∧
    (∀ r, r ≠ a.rd → k'.vreg r = k.vreg r ∧ k'.vpois r = k.vpois r) ∧
    k' = { k with v := k'.v, vpoison := k'.vpoison, fpstatus := k'.fpstatus }

/-- A vector instruction of one result and its flags for each lane. -/
def State.lanewise (s : State) (i : Instr) (c : CoreId) (a : CoreArgs) (f : Fin 64 → W32 × FpFlags)
    (poison : Bool) : Prop :=
  s.writesLanes i c a (fun l => (f l).1)
    (laneFlags ((s.coreOf c.val).laneMask a) (Vector.ofFn (fun l => (f l).2))) poison

/-- A mask register takes the bits that the mask admits (R36), FPSTATUS takes the flags, and every other register is
unchanged. -/
def State.writesMask (s : State) (i : Instr) (c : CoreId) (a : CoreArgs) (v : Fin 64 → Bool) (flags : FpFlags) :
    Prop :=
  let k := s.coreOf c.val
  ∃ k' : Core, exec i s = s.completes c k' ∧
    (∀ l : Fin 64, (k'.mreg a.rd.toNat).getLsbD l.val =
      if (k.laneMask a).getLsbD l.val then v l else (k.mreg a.rd.toNat).getLsbD l.val) ∧
    (∀ r, r % 8 ≠ a.rd.toNat % 8 → k'.mreg r = k.mreg r) ∧
    k'.fpstatus = k.fpstatus ||| flags.setWidth 64 ∧
    k' = { k with m := k'.m, fpstatus := k'.fpstatus }

/-! ## Host commands (R369, R370) -/

/-- The MMP takes the host command, and every check of R369 up to the command's own passes. -/
def State.accepts (s : State) (h : Hdr) (r : CmdRow) : Bool :=
  s.takes h r.opcode && (s.rowChecks h r).isNone && !(h.rsv && r.rsvChecked)

/-- The command completes with a status, a DETAIL and a RESULT, the rest of the module being `t`, and its mailbox is the one
served last. -/
def State.finishes (t : State) (h : Hdr) (st : Byte := stOK) (detail : W32 := noDetail) (result : List W64 := []) :
    Result :=
  .next ((t.serve h).complete h st detail false result)

/-- A command that has waited completes, the rest of the module being `t`. -/
def State.ends (t : State) (h : Hdr) (st : Byte := stOK) (detail : W32 := noDetail) (result : List W64 := []) : Result :=
  .next (t.complete h st detail false result)

/-- The command is carried out as far as `t`, and waits for its end. -/
def State.awaits (t : State) (h : Hdr) : Result := .next ((t.serve h).markWaiting h)

/-- The command has been taken, and is held back by its own rule. -/
def State.holdsBack (s : State) (h : Hdr) : Result := .next ((s.serve h).markTaken h)

end Sys2Proof.Machine
end

