-- ==== Sys2Proof/Certificates/Slice0/Obligations.lean ====
section
/-! DEFINITION. The statements for the provers. -/

set_option linter.unusedVariables false

open Sys2Proof Sys2Proof.Machine

/-! ## The queue and the tick -/

/-- The step takes the command at the front of the queue and carries it out with the queue's rest. -/
def Obligations.StepRunsFrontCommand : Prop :=
  ∀ (s : State) (c : Instr) (rest : List Instr),
    step { s with pending := c :: rest } = exec c { s with pending := rest }

/-- R326, with log entry 7: with nothing waiting, one edge of REFCLK advances the time base by 64 when no slew
is owed, and changes nothing else where no event waits in a field controller; in OFF nothing happens. -/
def Obligations.EmptyQueueIsOneReferenceEdge : Prop :=
  ∀ s : State, s.pending = [] →
    (s.mode = .off → step s = .next s) ∧
    (s.mode ≠ .off → s.timeStatus.slew = 0 → (∀ q ∈ s.thread.queues, q.2.queue = []) →
      step s = .next { s with time := s.time + 64 }) ∧
    (∃ t, step s = .next t ∧
      t = { s with time := t.time, timeStatus := t.timeStatus, rings := t.rings, thread := t.thread })

/-- No command touches the queue: what waits behind it is what waited before. -/
def Obligations.CommandsLeaveTheQueue : Prop :=
  ∀ (i : Instr) (s t : State), exec i s = .next t → t.pending = s.pending

/-- The collections of the state stay in canonical form: every step keeps it. -/
def Obligations.StepKeepsCanonicalTables : Prop :=
  ∀ s t : State, s.wf = true → step s = .next t → t.wf = true

/-- R437: after reset the module is in BRINGUP at its first step, with no command waiting: no context, region, tile or
key, no core running, every field OFF, every unit DOWN, no mailbox enabled, the time base at 0; and the collections of
the state are in canonical form. -/
def Obligations.ResetState : Prop :=
  let s := State.reset
  s.wf = true ∧ s.pending = [] ∧ s.mode = .bringup ∧ s.ring = 0 ∧ s.time = 0 ∧ s.mesh = [] ∧ s.hostOut = [] ∧
  s.requests = [] ∧ s.waits = [] ∧ s.thread = {} ∧ s.portA = false ∧ s.portB = false ∧
  ∀ n, (s.ctxOf n).live = false ∧ (s.regionOf n).state = .unmapped ∧ (s.pegOf n).configured = false ∧
    (s.tileOf n).declared = false ∧ (s.keyOf n).filled = false ∧ (s.coreOf n).running = none ∧
    (s.fieldOf n).state = .off ∧ (s.unitOf n).state = .down ∧ (s.mboxOf n).enable = false ∧
    (s.counterOf n).count = 0 ∧ (s.ringOf n).unread = []

/-! ## Scalar instructions -/

/-- R33: s0 reads as 0 and ignores writes; every other scalar register holds what was last written to it.
R67: s[RD] takes s[RA] op s[RB], or s[RA] op sext(IMM); wrapping, shifts by the low 6 bits, comparisons 0 or
1. Nothing else changes but the PC.
R67, R68: the immediate loads, the products, and the divisions with their corner cases. -/
def Obligations.ScalarArithmetic : Prop :=
  (∀ (k : Core) (n m : BitVec 5) (v : W64),
     (k.setS n v).sreg 0 = 0 ∧ k.setS 0 v = k ∧ (n ≠ 0 → (k.setS n v).sreg n = v) ∧
     (m ≠ n → (k.setS n v).sreg m = k.sreg m)) ∧
  (∀ (s : State) (c : CoreId) (x : CtxId) (rd ra rb : BitVec 5) (imm : W32), s.issues c x = true →
     let k := s.coreOf c.val
     let m := k.sreg ra
     let write : W64 → Result := fun v => s.completes c (k.setS rd v)
     ∀ (a : CoreArgs) (n : W64),
       (a = { rd := rd, ra := ra, rb := rb } ∧ n = k.sreg rb ∨
         a = { immForm := true, rd := rd, ra := ra, imm := imm } ∧ n = imm.signExtend 64) →
       exec (.add c a) s = write (m + n) ∧
       exec (.sub c a) s = write (m - n) ∧
       exec (.and c a) s = write (m &&& n) ∧
       exec (.or c a) s = write (m ||| n) ∧
       exec (.xor c a) s = write (m ^^^ n) ∧
       exec (.sll c a) s = write (m <<< (n.toNat % 64)) ∧
       exec (.srl c a) s = write (m >>> (n.toNat % 64)) ∧
       exec (.sra c a) s = write (m.sshiftRight (n.toNat % 64)) ∧
       exec (.slt c a) s = write (if m.toInt < n.toInt then 1 else 0) ∧
       exec (.sltu c a) s = write (if m.toNat < n.toNat then 1 else 0) ∧
       exec (.min c a) s = write (if m.toInt < n.toInt then m else n) ∧
       exec (.max c a) s = write (if m.toInt < n.toInt then n else m) ∧
       exec (.minu c a) s = write (if m.toNat < n.toNat then m else n) ∧
       exec (.maxu c a) s = write (if m.toNat < n.toNat then n else m)) ∧
  (∀ (s : State) (c : CoreId) (x : CtxId) (rd ra rb : BitVec 5) (imm : W32), s.issues c x = true →
     let k := s.coreOf c.val
     let m := k.sreg ra
     let n := k.sreg rb
     let write : W64 → Result := fun v => s.completes c (k.setS rd v)
     let a : CoreArgs := { rd := rd, ra := ra, rb := rb }
     exec (.li c { rd := rd, imm := imm }) s = write (imm.signExtend 64) ∧
     exec (.lui c { rd := rd, imm := imm }) s = write (imm ++ (k.sreg rd).setWidth 32) ∧
     exec (.mul c a) s = write (m * n) ∧
     exec (.mulh c a) s = write (BitVec.ofInt 64 (m.toInt * n.toInt / 2 ^ 64)) ∧
     exec (.mulhu c a) s = write (BitVec.ofNat 64 (m.toNat * n.toNat / 2 ^ 64)) ∧
     exec (.div c a) s = write (if n = 0 then BitVec.allOnes 64 else BitVec.ofInt 64 (m.toInt.tdiv n.toInt)) ∧
     exec (.divu c a) s = write (if n = 0 then BitVec.allOnes 64 else BitVec.ofNat 64 (m.toNat / n.toNat)) ∧
     exec (.rem c a) s = write (if n = 0 then m else BitVec.ofInt 64 (m.toInt.tmod n.toInt)) ∧
     exec (.remu c a) s = write (if n = 0 then m else BitVec.ofNat 64 (m.toNat % n.toNat)))

/-- A write of stored bytes changes those bytes and no other.
R67, R68, R70: LD of a readable entry gives its bytes at an aligned offset, extended as MINOR[0] says, with
the entry and the memory unchanged; a misaligned access, one beyond the stored length, or an EMPTY entry raises
ADDRESS, and a POISONED one DATA_ERROR.
R67, R68, R74: ST into a WRITABLE entry that no earlier stream or tile product reads replaces just the bytes
stored, sets the bitmap bits of the blocks it touches, and changes nothing else; into an entry that is not WRITABLE,
misaligned or beyond the stored length, it raises ADDRESS. -/
def Obligations.TileLoadsAndStores : Prop :=
  (∀ (t : Table Byte) (off : Nat) (bs : List Byte) (n : Nat),
     tileByte (writeBytes t off bs) n =
       if off ≤ n ∧ n < off + bs.length then bs.getD (n - off) 0 else tileByte t n) ∧
  (∀ (s : State) (c : CoreId) (x : CtxId) (rd ra rb : BitVec 5) (signed byReg : Bool) (size : BitVec 2)
     (imm : W32), s.issues c x = true →
     let k := s.coreOf c.val
     let a : CoreArgs :=
       { opt := BitVec.ofBool byReg ++ BitVec.ofBool signed |>.setWidth 5, rd := rd, ra := ra,
         rb := if byReg then rb else 0, var := size, imm := imm }
     let n := if byReg then (k.sreg rb).toNat % 256 else imm.toNat % 256
     let off := (k.sreg ra + BitVec.ofNat 64 (imm.toNat / 256)).toNat
     let len := 2 ^ size.toNat
     let e := k.entryFor x n
     let bad := off % len ≠ 0 ∨ e.header.storedLen.toNat < off + len
     let v := BitVec.ofNat (8 * len) (ofBytesLE ((List.range len).map (fun i => tileByte e.bytes (off + i))))
     (e.state = .resident ∧ ¬ bad → exec (.ld c a) s =
       s.completes c (k.setS rd (if signed then v.signExtend 64 else v.setWidth 64))) ∧
     ((e.state = .empty ∨ e.state ≠ .filling ∧ bad) → k.handles = true →
       exec (.ld c a) s = s.handles c 2 (addressInfo n off)) ∧
     (e.state = .poisoned → ¬ bad → k.handles = true → exec (.ld c a) s = s.handles c 4 (addressInfo n off))) ∧
  (∀ (s : State) (c : CoreId) (x : CtxId) (rd ra rb : BitVec 5) (byReg : Bool) (size : BitVec 2) (imm : W32),
     s.issues c x = true →
     let k := s.coreOf c.val
     let a : CoreArgs :=
       { opt := if byReg then 2 else 0, rd := rd, ra := ra, rb := if byReg then rb else 0, var := size, imm := imm }
     let n := if byReg then (k.sreg rb).toNat % 256 else imm.toNat % 256
     let off := (k.sreg ra + BitVec.ofNat 64 (imm.toNat / 256)).toNat
     let len := 2 ^ size.toNat
     let e := k.entryFor x n
     let bad := e.writable = false ∨ off % len ≠ 0 ∨ e.header.storedLen.toNat < off + len
     ((e.state = .resident ∨ e.state = .poisoned) → s.writeBusy c n = false → ¬ bad →
       exec (.st c a) s = s.completes c (k.putEntry n
         { e with bytes := writeBytes e.bytes off (bytesLE len (k.sreg rd).toNat),
                  header := { e.header with bitmap := e.header.bitmap ||| blocksWritten e.fmt off len } })) ∧
     ((e.state = .empty ∨ e.state ≠ .filling ∧ s.writeBusy c n = false ∧ bad) → k.handles = true →
       exec (.st c a) s = s.handles c 2 (addressInfo n off)))

/-- R80: NOP and WAITC change nothing but the PC; a wait of WAITC is time, which the model has not.
R64, R67: a conditional branch goes to PC + sext(IMM) when its comparison holds, and to the next instruction
otherwise; DBNZ counts s[RA] down and branches while it is not 0. A target outside the program's window raises
ADDRESS, and the branch has no effect.
R64, R67: J and JAL go to PC + sext(IMM), JAL leaving PC + 1 in s[RD]; JR goes to s[RA][11:0]. -/
def Obligations.ControlTransfers : Prop :=
  (∀ (s : State) (c : CoreId) (x : CtxId) (imm : W32), s.issues c x = true →
     exec (.nop c {}) s = s.completes c (s.coreOf c.val) ∧
     exec (.waitc c { imm := imm }) s = s.completes c (s.coreOf c.val)) ∧
  (∀ (s : State) (c : CoreId) (x : CtxId) (ra rb : BitVec 5) (imm : W32), s.issues c x = true →
     let k := s.coreOf c.val
     let m := k.sreg ra
     let n := k.sreg rb
     let target : Int := (k.pc : Int) + imm.toInt
     let inside := 0 ≤ target ∧ target < s.windowLen k
     let a : CoreArgs := { ra := ra, rb := rb, imm := imm }
     let goes : (CoreId → CoreArgs → Instr) → Bool → Prop := fun op taken =>
       (taken = false → exec (op c a) s = s.completes c k) ∧
       (taken = true → inside → exec (op c a) s = s.jumps c k target.toNat) ∧
       (taken = true → ¬ inside → k.handles = true →
         exec (op c a) s = s.handles c 2 (addressInfo 0 (BitVec.ofInt 32 target).toNat))
     goes .beq (m == n) ∧ goes .bne (m != n) ∧ goes .blt (decide (m.toInt < n.toInt)) ∧
     goes .bge (decide (n.toInt ≤ m.toInt)) ∧ goes .bltu (decide (m.toNat < n.toNat)) ∧
     goes .bgeu (decide (n.toNat ≤ m.toNat)) ∧
     (let d : CoreArgs := { ra := ra, imm := imm }
      (m - 1 = 0 → exec (.dbnz c d) s = s.completes c (k.setS ra (m - 1))) ∧
      (m - 1 ≠ 0 → inside → exec (.dbnz c d) s = s.jumps c (k.setS ra (m - 1)) target.toNat) ∧
      (m - 1 ≠ 0 → ¬ inside → k.handles = true →
         exec (.dbnz c d) s = s.handles c 2 (addressInfo 0 (BitVec.ofInt 32 target).toNat)))) ∧
  (∀ (s : State) (c : CoreId) (x : CtxId) (rd ra : BitVec 5) (imm : W32), s.issues c x = true →
     let k := s.coreOf c.val
     let target : Int := (k.pc : Int) + imm.toInt
     let inside := 0 ≤ target ∧ target < s.windowLen k
     let info := addressInfo 0 (BitVec.ofInt 32 target).toNat
     let reg := (k.sreg ra).toNat % 4096
     (inside → exec (.j c { imm := imm }) s = s.jumps c k target.toNat ∧
       exec (.jal c { rd := rd, imm := imm }) s =
         s.jumps c (k.setS rd (BitVec.ofNat 64 (k.pc + 1))) target.toNat) ∧
     (¬ inside → k.handles = true → exec (.j c { imm := imm }) s = s.handles c 2 info ∧
       exec (.jal c { rd := rd, imm := imm }) s = s.handles c 2 info) ∧
     (reg < s.windowLen k → exec (.jr c { ra := ra }) s = s.jumps c k reg) ∧
     (¬ reg < s.windowLen k → k.handles = true →
       exec (.jr c { ra := ra }) s = s.handles c 2 (addressInfo 0 (BitVec.ofInt 32 reg).toNat)))

/-- R81: what SPRR and SPRW read and write by number: WAITLIM with its floor, the W1C flags of FPSTATUS, FWEXP and
XVEC; a write of an RO register, or an access to an unlisted number, raises ILLEGAL. -/
def Obligations.SpecialRegisterAccess : Prop :=
  ∀ (s : State) (c : CoreId) (x : CtxId) (rd ra : BitVec 5) (imm : W32), s.issues c x = true →
    let k := s.coreOf c.val
    let v := k.sreg ra
    let n := imm.toNat % 4096
    let reads : Nat → W64 → Prop := fun m w =>
      n = m → exec (.sprr c { rd := rd, imm := imm }) s = s.completes c (k.setS rd w)
    let writes : Nat → Core → Prop := fun m k' =>
      n = m → exec (.sprw c { ra := ra, imm := imm }) s = s.completes c k'
    reads 1 s.time ∧ reads 2 (BitVec.ofNat 64 c.val) ∧ reads 4 (BitVec.ofNat 64 x.val) ∧
    reads 5 ((s.ctxOf x.val).job.setWidth 64) ∧ reads 6 ((s.ctxOf x.val).step.setWidth 64) ∧
    reads 7 (BitVec.ofNat 64 k.region.val) ∧ reads 8 k.waitlim ∧ reads 9 k.fpstatus ∧
    reads 0x0B (k.fwexp.setWidth 64) ∧ reads 0x10 k.xvec ∧ reads 0x11 k.xpc ∧ reads 0x12 k.xcause ∧
    reads 0x13 k.xinfo ∧ reads 0x14 k.lastserr ∧
    writes 8 { k with waitlim := BitVec.ofNat 64 (max 65536 (v.toNat % 2 ^ 32)) } ∧
    writes 9 { k with fpstatus := k.fpstatus &&& ~~~v } ∧
    writes 0x0B { k with fwexp := v.setWidth 16 } ∧ writes 0x10 { k with xvec := v } ∧
    (n ∉ [8, 9, 0x0A, 0x0B, 0x10] → k.handles = true → exec (.sprw c { ra := ra, imm := imm }) s =
      s.handles c 1 (assemble 0x09 1 { ra := ra, imm := imm })) ∧
    (n ∉ [0, 1, 2, 3, 4, 5, 6, 7, 8, 9, 0x0A, 0x0B, 0x10, 0x11, 0x12, 0x13, 0x14] → k.handles = true →
      exec (.sprr c { rd := rd, imm := imm }) s = s.handles c 1 (assemble 0x09 0 { rd := rd, imm := imm }))

/-! ## Exceptions -/

/-- R62, R86: a non-zero field that the instruction does not use raises ILLEGAL with the word in XINFO, and nothing
else happens. Scalar instructions have no mask: MEN set makes any of these words illegal.
R62, R63, R528: a word at the PC whose MAJOR or MINOR is not defined, the all-zero word among them, raises ILLEGAL
whatever the row. -/
def Obligations.UnusedFieldRaisesIllegal : Prop :=
  (wordDefined 0 = false ∧
   ∀ (s : State) (c : CoreId) (a : CoreArgs) (w : W64),
     let k := s.coreOf c.val
     s.coreClocked c.val = true → k.running.isSome = true → k.waiting = none → k.ibufLost = none →
     k.pc < s.windowLen k → (s.regionOf k.region.val).code[k.pc]? = some w → wordDefined w = false →
     k.handles = true → a.finding = {} →
     exec (.nop c a) s = s.handles c 1 w ∧ exec (.add c a) s = s.handles c 1 w ∧
     exec (.vadd c a) s = s.handles c 1 w ∧ exec (.tmm c a) s = s.handles c 1 w ∧
     exec (.sissue c a) s = s.handles c 1 w ∧ exec (.endProgram c a) s = s.handles c 1 w) ∧
  ∀ (s : State) (c : CoreId) (x : CtxId) (a : CoreArgs), s.issues c x = true → a.men = true → a.finding = {} →
    (s.coreOf c.val).handles = true →
    let raises : BitVec 6 → BitVec 5 → (CoreId → CoreArgs → Instr) → Prop := fun major minor op =>
      exec (op c a) s = s.handles c 1 (assemble major minor a)
    let alu : BitVec 6 := if a.immForm then 0x02 else 0x01
    raises alu 0 .add ∧ raises alu 1 .sub ∧ raises alu 2 .and ∧ raises alu 3 .or ∧ raises alu 4 .xor ∧
    raises alu 5 .sll ∧ raises alu 6 .srl ∧ raises alu 7 .sra ∧ raises alu 8 .slt ∧ raises alu 9 .sltu ∧
    raises alu 10 .min ∧ raises alu 11 .max ∧ raises alu 12 .minu ∧ raises alu 13 .maxu ∧
    raises 0x03 0 .li ∧ raises 0x03 1 .lui ∧ raises 0x04 0 .mul ∧ raises 0x04 1 .mulh ∧ raises 0x04 2 .mulhu ∧
    raises 0x04 3 .div ∧ raises 0x04 4 .divu ∧ raises 0x04 5 .rem ∧ raises 0x04 6 .remu ∧
    raises 0x07 0 .beq ∧ raises 0x07 1 .bne ∧ raises 0x07 2 .blt ∧ raises 0x07 3 .bge ∧ raises 0x07 4 .bltu ∧
    raises 0x07 5 .bgeu ∧ raises 0x07 6 .dbnz ∧ raises 0x08 0 .j ∧ raises 0x08 1 .jal ∧ raises 0x08 2 .jr ∧
    raises 0x09 0 .sprr ∧ raises 0x09 1 .sprw ∧ raises 0x20 a.opt .tmm ∧ raises 0x21 0 .aclr ∧
    raises 0x33 0 .fence ∧ raises 0x3C 0 .tilenext ∧ raises 0x3C 1 .tiledone ∧ raises 0x3D 0 .nop ∧
    raises 0x3D 1 .waitc ∧ raises 0x3E 2 .brk ∧ raises 0x3F 0 .endProgram

/-- R88, R89: BRK enters the handler with BREAK, saving PC, cause and IMM and no register; XRET then resumes at XPC
or after it; XRET with no handler entered is illegal; without a handler the program's context is aborted. -/
def Obligations.HandlerEntryAndReturn : Prop :=
  ∀ (s : State) (c : CoreId) (x : CtxId) (imm : W32), s.issues c x = true →
    let k := s.coreOf c.val
    (k.handles = true → exec (.brk c { imm := imm }) s = s.handles c 9 (imm.setWidth 64)) ∧
    (k.inHandler = true →
      exec (.xretRetrying c {}) s = s.jumps c { k with inHandler := false } k.xpc.toNat ∧
      exec (.xretSkipping c {}) s = s.jumps c { k with inHandler := false } (k.xpc.toNat + 1)) ∧
    (k.handles = true →
      exec (.xretRetrying c {}) s = s.handles c 1 (assemble 0x3E 0 {}) ∧
      exec (.xretSkipping c {}) s = s.handles c 1 (assemble 0x3E 1 {})) ∧
    (k.handles = false → ∃ p : Nat, s.servedBy c.val = some p ∧ exec (.brk c { imm := imm }) s = .next
      ((s.raise .fault 89 0 (srcCore p) (some x.val)
        [w64 c.val, w64 x.val, w64 k.pc, 9, imm.setWidth 64]).abortContext x (bytesLE 8 k.pc ++ bytesLE 8 9)))

/-! ## Vector instructions -/

/-- R36, R69 to R71: FP32 arithmetic, lane by lane under the mask.
R69: INT32 arithmetic, lane by lane under the mask, wrapping modulo 2^32; shifts by the low 5 bits. -/
def Obligations.VectorArithmetic : Prop :=
  (∀ (s : State) (c : CoreId) (x : CtxId) (rd ra rb : BitVec 5) (men : Bool) (msel : BitVec 3),
     s.issues c x = true → (men = true ∨ msel = 0) →
     let k := s.coreOf c.val
     let a := k.vreg ra
     let b := k.vreg rb
     let d := k.vreg rd
     let two : CoreArgs := { rd := rd, ra := ra, rb := rb, men := men, msel := msel }
     let one : CoreArgs := { rd := rd, ra := ra, men := men, msel := msel }
     let p := k.vpois ra || k.vpois rb
     s.lanewise (.vadd c two) c two (fun l => add32 a[l] b[l]) p ∧
     s.lanewise (.vsub c two) c two (fun l => sub32 a[l] b[l]) p ∧
     s.lanewise (.vmul c two) c two (fun l => mul32 a[l] b[l]) p ∧
     s.lanewise (.vfma c two) c two (fun l => fma32 a[l] b[l] d[l]) (p || k.vpois rd) ∧
     s.lanewise (.vfms c two) c two (fun l => fms32 a[l] b[l] d[l]) (p || k.vpois rd) ∧
     s.lanewise (.vmin c two) c two (fun l => min32 a[l] b[l]) p ∧
     s.lanewise (.vmax c two) c two (fun l => max32 a[l] b[l]) p ∧
     s.lanewise (.vabs c one) c one (fun l => abs32 a[l]) (k.vpois ra) ∧
     s.lanewise (.vneg c one) c one (fun l => neg32 a[l]) (k.vpois ra)) ∧
  (∀ (s : State) (c : CoreId) (x : CtxId) (rd ra rb : BitVec 5) (men : Bool) (msel : BitVec 3),
     s.issues c x = true → (men = true ∨ msel = 0) →
     let k := s.coreOf c.val
     let a := k.vreg ra
     let b := k.vreg rb
     let i : CoreArgs := { rd := rd, ra := ra, rb := rb, men := men, msel := msel }
     let does : (CoreId → CoreArgs → Instr) → (W32 → W32 → W32) → Prop := fun op f =>
       s.lanewise (op c i) c i (fun l => (f a[l] b[l], 0)) (k.vpois ra || k.vpois rb)
     does .viadd (fun m n => m + n) ∧ does .visub (fun m n => m - n) ∧ does .vimul (fun m n => m * n) ∧
     does .vand (fun m n => m &&& n) ∧ does .vor (fun m n => m ||| n) ∧ does .vxor (fun m n => m ^^^ n) ∧
     does .vsll (fun m n => m <<< (n.toNat % 32)) ∧ does .vsrl (fun m n => m >>> (n.toNat % 32)) ∧
     does .vsra (fun m n => m.sshiftRight (n.toNat % 32)))

/-- R69: comparisons and mask operations write one bit for each lane into a mask register. -/
def Obligations.ComparesAndMaskOperations : Prop :=
  ∀ (s : State) (c : CoreId) (x : CtxId) (rd ra rb : BitVec 5) (imm : W32) (men : Bool) (msel : BitVec 3),
    s.issues c x = true → (men = true ∨ msel = 0) → rd.toNat < 8 →
    let k := s.coreOf c.val
    let a := k.vreg ra
    let b := k.vreg rb
    let i : CoreArgs := { rd := rd, ra := ra, rb := rb, men := men, msel := msel }
    let one : CoreArgs := { rd := rd, ra := ra, men := men, msel := msel }
    let set : CoreArgs := { rd := rd, imm := imm, men := men, msel := msel }
    let compares : (CoreId → CoreArgs → Instr) → (W32 → W32 → Bool × FpFlags) → Prop := fun op f =>
      s.writesMask (op c i) c i (fun l => (f a[l] b[l]).1)
        (laneFlags (k.laneMask i) (Vector.ofFn (fun l => (f a[l] b[l]).2)))
    let bits : (CoreId → CoreArgs → Instr) → CoreArgs → W64 → Prop := fun op i v =>
      s.writesMask (op c i) c i (fun l => v.getLsbD l.val) 0
    compares .vceq cmpEq32 ∧ compares .vclt cmpLt32 ∧ compares .vcle cmpLe32 ∧ compares .vcun cmpUn32 ∧
    compares .viceq (fun m n => (m == n, 0)) ∧ compares .viclt (fun m n => (decide (m.toInt < n.toInt), 0)) ∧
    (ra.toNat < 8 → rb.toNat < 8 →
      bits .mand i (k.mreg ra.toNat &&& k.mreg rb.toNat) ∧ bits .mor i (k.mreg ra.toNat ||| k.mreg rb.toNat) ∧
      bits .mxor i (k.mreg ra.toNat ^^^ k.mreg rb.toNat) ∧ bits .mnot one (~~~(k.mreg ra.toNat))) ∧
    bits .mset set (imm ++ imm)

/-- R38, R66, R69: VCVT to a format that is not MX rounds each lane with VAR and widens it back; VCVTI converts to
and from INT32; the special functions act lane by lane. VCVT to INT32, FW64 or the reserved code raises OPERAND. -/
def Obligations.ConversionsAndSpecialFunctions : Prop :=
  ∀ (s : State) (c : CoreId) (x : CtxId) (rd ra : BitVec 5) (men : Bool) (msel : BitVec 3) (f : Fmt),
    s.issues c x = true → (men = true ∨ msel = 0) →
    let k := s.coreOf c.val
    let a := k.vreg ra
    let i : CoreArgs := { rd := rd, ra := ra, men := men, msel := msel }
    let p := k.vpois ra
    let cvt : CoreArgs := { i with imm := f.setWidth 32 }
    let toward : CoreArgs := { cvt with var := 1 }
    let back : Nat → W32 := fun code => if f.toNat = 0 then BitVec.ofNat 32 code else (roundFp32 (f.elemVal code)).1
    let rounded : CoreArgs → RMode → Prop := fun j mode =>
      s.lanewise (.vcvt c j) c j (fun l => (back (f.narrow mode a[l]).1, (f.narrow mode a[l]).2)) p
    (f.toNat ≤ 6 → rounded cvt .rne ∧ rounded toward .rtz) ∧
    (0xD ≤ f.toNat → k.handles = true → exec (.vcvt c cvt) s = s.handles c 3 (operandInfo 0 0 f.toNat)) ∧
    s.lanewise (.vcvti c { i with opt := 2 }) c { i with opt := 2 } (fun l => toInt32 a[l]) p ∧
    s.lanewise (.vcvti c { i with opt := 3 }) c { i with opt := 3 } (fun l => ofInt32 a[l]) p ∧
    s.lanewise (.vrcp c i) c i (fun l => rcp32 a[l]) p ∧ s.lanewise (.vrsq c i) c i (fun l => rsq32 a[l]) p ∧
    s.lanewise (.vexp c i) c i (fun l => exp32 a[l]) p ∧ s.lanewise (.vlog c i) c i (fun l => log32 a[l]) p

/-- R37: the pairwise tree: one level combines lane 2i with lane 2i + 1, and a reduction is six levels over the 64
lanes, masked-off lanes entering as the identity.
R37, R69: reductions write one result, of the fixed pairwise tree, to every lane; moves, broadcasts, selections
and extractions. -/
def Obligations.ReductionsAndLaneMoves : Prop :=
  (∀ (f : W32 → W32 → W32 × FpFlags) (l : List W32) (i : Nat), 2 * i + 1 < l.length → l.length % 2 = 0 →
     (treeLevel f l).1.getD i 0 = (f (l.getD (2 * i) 0) (l.getD (2 * i + 1) 0)).1 ∧
     (treeLevel f l).1.length = l.length / 2) ∧
  (∀ (s : State) (c : CoreId) (x : CtxId) (rd ra rb : BitVec 5) (imm : W32) (men : Bool) (msel : BitVec 3),
     s.issues c x = true →
     let k := s.coreOf c.val
     let a := k.vreg ra
     let b := k.vreg rb
     let p := k.vpois ra
     let i : CoreArgs := { rd := rd, ra := ra, men := men, msel := if men then msel else 0 }
     let reduces : (CoreId → CoreArgs → Instr) → (W32 → W32 → W32 × FpFlags) → W32 → Prop := fun op f id =>
       let r := reduceLanes f id (k.laneMask i) a
       exec (op c i) s = s.completes c ((k.setV rd (Vector.replicate 64 r.1) p).addFlags r.2)
     reduces .vrsum add32 0 ∧ reduces .vrmax max32 0xFF800000 ∧ reduces .vrmin min32 0x7F800000 ∧
     s.writesLanes (.vmov c i) c i (fun l => a[l]) 0 p ∧
     s.writesLanes (.vbcast c i) c i (fun _ => (k.sreg ra).setWidth 32) 0 false ∧
     (let v : CoreArgs := { rd := rd, ra := ra, rb := rb, men := men, msel := msel }
      s.writesLanes (.vsel c v) c v (fun l => if (k.mreg msel.toNat).getLsbD l.val then a[l] else b[l]) 0
        (p || k.vpois rb)) ∧
     (let e : CoreArgs := { i with imm := imm }
      exec (.vext c e) s =
        s.completes c (k.setS rd ((a[(⟨imm.toNat % 64, by omega⟩ : Fin 64)]).setWidth 64))))

/-! ## The tensor array -/

/-- R45 to R47, R72, R73: TMM of two readable tiles of one array format adds the participating block products, in
increasing order of k, to each element of the accumulator, which takes the sources' type and poison; an element
none of whose products takes part keeps its value; the other accumulator is untouched. ACLR clears one accumulator,
and the end of a product makes it readable.
R69, R70, R83: VACCR reads a row of a readable accumulator and VACCW writes one, lane by lane under the mask, with
the poison bit either way. -/
def Obligations.TensorArray : Prop :=
  (∀ (s : State) (c : CoreId) (x : CtxId) (opt : BitVec 5) (side : Bool) (na nb : Byte), s.issues c x = true →
     opt.getLsbD 4 = false →
     let k := s.coreOf c.val
     let a : CoreArgs := { opt := opt, rd := (BitVec.ofBool side).setWidth 5, imm := (nb ++ na).setWidth 32 }
     let ea := k.entryFor x na.toNat
     let eb := k.entryFor x nb.toNat
     let readable : Entry → Prop := fun e => (e.state = .resident ∨ e.state = .poisoned) ∧ e.short = false
     let sa := ea.source (tmmTA a) s.fresh
     let sb := eb.source (tmmTB a) (s.fresh + 8192)
     (readable ea → readable eb → tmmOperandsOk a ea eb (k.acc side) = true →
       ∃ acc : Acc, exec (.tmm c a) s = s.completes c
           { k.setAcc side acc with tmmSources := k.tmmSources ++ [(na.toNat, nb.toNat, side)] } ∧
         acc.type = some (if ea.fmt.isInt then .int32 else .fp32) ∧
         acc.inFlight = (k.acc side).inFlight + 1 ∧
         acc.poison = ((!tmmClr a && (k.acc side).poison) || ea.state == .poisoned || eb.state == .poisoned) ∧
         ∀ r q : Fin 64, let start := if tmmClr a then 0 else tget 0 (k.acc side).elems (64 * r.val + q.val)
           tget 0 acc.elems (64 * r.val + q.val) = (tileElem (tmmSkipA a) sa sb r.val q.val start).1 ∧
           ((∀ j < 8, participates (tmmSkipA a) sa sb r.val q.val j = false) →
             tget 0 acc.elems (64 * r.val + q.val) = start)) ∧
     (readable ea → readable eb → tmmOperandsOk a ea eb (k.acc side) = false → k.handles = true →
       exec (.tmm c a) s = s.handles c 3 (operandInfo na.toNat nb.toNat ea.fmt.toNat)) ∧
     (ea.state = .empty → k.handles = true → exec (.tmm c a) s = s.handles c 2 (addressInfo na.toNat 0)) ∧
     (let old := k.acc side
      exec (.aclr c { rd := (BitVec.ofBool side).setWidth 5 }) s =
        s.completes c (k.setAcc side { old with elems := [], type := none, poison := false })) ∧
     ((k.acc side).inFlight ≠ 0 → ∃ srcs, exec (.accumulatorReadable c side) s =
       .next (s.putCore c.val { k.setAcc side { k.acc side with inFlight := (k.acc side).inFlight - 1 } with
         tmmSources := srcs }))) ∧
  (∀ (s : State) (c : CoreId) (x : CtxId) (r : BitVec 5) (side : Bool) (row : Fin 64) (men : Bool)
     (msel : BitVec 3), s.issues c x = true → (men = true ∨ msel = 0) →
     let k := s.coreOf c.val
     let imm : W32 := BitVec.ofNat 32 (row.val + if side then 64 else 0)
     let rd : CoreArgs := { rd := r, men := men, msel := msel, imm := imm }
     let wr : CoreArgs := { ra := r, men := men, msel := msel, imm := imm }
     ((k.acc side).inFlight = 0 → s.writesLanes (.vaccr c rd) c rd
       (fun l => tget 0 (k.acc side).elems (64 * row.val + l.val)) 0 (k.acc side).poison) ∧
     ∃ acc : Acc, exec (.vaccw c wr) s = s.completes c (k.setAcc side acc) ∧
       acc = { k.acc side with elems := acc.elems, poison := (k.acc side).poison || k.vpois r } ∧
       ∀ n, tget 0 acc.elems n =
         if n / 64 = row.val ∧ (k.laneMask wr).getLsbD (n % 64) = true then (k.vreg r).getD (n % 64) 0
         else tget 0 (k.acc side).elems n)

/-! ## Tile rows and raw tiles -/

/-- R69, R70, R86: VLDR widens a row of a RESIDENT entry of the named format, a clear block reading as zero, and VLD
takes 256 raw bytes; a different format raises OPERAND, an EMPTY entry or an access outside the stored bytes
ADDRESS.
R69, R74, R101, R144: VSTR of an INT32 register into a WRITABLE INT8, INT4 or INT32 entry saturates each lane to
the format and marks the blocks that receive a non-zero code; VST stores 256 raw bytes and marks every block it
touches. Only that entry and FPSTATUS change, a poisoned register poisons the entry, and an entry that is not
WRITABLE raises ADDRESS. -/
def Obligations.VectorTileAccess : Prop :=
  (∀ (s : State) (c : CoreId) (x : CtxId) (rd ra : BitVec 5) (n : Byte) (row : Fin 64) (f : Fmt) (hi : BitVec 24)
     (men : Bool) (msel : BitVec 3), s.issues c x = true → (men = true ∨ msel = 0) →
     let k := s.coreOf c.val
     let e := k.entryFor x n.toNat
     let imm : W32 := BitVec.ofNat 32 (n.toNat + 256 * row.val + 2 ^ 14 * f.toNat)
     let a : CoreArgs := { rd := rd, ra := ra, men := men, msel := msel, imm := imm }
     let r := (row.val + (k.sreg ra).toNat) % 64
     let lane : Fin 64 → W32 × FpFlags := fun l =>
       if e.header.bitmap.getLsbD (blockOf r l.val) then f.widen (e.code r l.val) (e.scale r l.val) else (0, 0)
     let raw : CoreArgs := { rd := rd, ra := ra, men := men, msel := msel, imm := hi ++ n }
     let off := (k.sreg ra + hi.setWidth 64).toNat
     let inside := off % 32 = 0 ∧ off + 256 ≤ e.header.storedLen.toNat
     (e.state = .resident → e.fmt = f → f.toNat < 0xE → e.short = false → s.lanewise (.vldr c a) c a lane false) ∧
     (e.state = .resident → e.fmt ≠ f → k.handles = true →
       exec (.vldr c a) s = s.handles c 3 (operandInfo n.toNat 0 f.toNat)) ∧
     (e.state = .empty → k.handles = true → exec (.vldr c a) s = s.handles c 2 (addressInfo n.toNat 0) ∧
       exec (.vld c raw) s = s.handles c 2 (addressInfo n.toNat off)) ∧
     (e.state = .resident ∨ e.state = .poisoned → inside → s.writesLanes (.vld c raw) c raw
       (fun l => BitVec.ofNat 32 (ofBytesLE ((List.range 4).map (fun i => tileByte e.bytes (off + 4 * l.val + i)))))
       0 (e.state == .poisoned)) ∧
     (e.state = .resident ∨ e.state = .poisoned → ¬ inside → k.handles = true →
       exec (.vld c raw) s = s.handles c 2 (addressInfo n.toNat off))) ∧
  (∀ (s : State) (c : CoreId) (x : CtxId) (rd ra : BitVec 5) (n : Byte) (row : Fin 64) (f : Fmt) (hi : BitVec 24)
     (men : Bool) (msel : BitVec 3), s.issues c x = true → (men = true ∨ msel = 0) →
     s.writeBusy c n.toNat = false →
     let k := s.coreOf c.val
     let e := k.entryFor x n.toNat
     let held := e.state = .resident ∨ e.state = .poisoned
     let imm : W32 := BitVec.ofNat 32 (n.toNat + 256 * row.val + 2 ^ 14 * f.toNat)
     let a : CoreArgs := { rd := rd, ra := ra, men := men, msel := msel, imm := imm }
     let r := (row.val + (k.sreg ra).toNat) % 64
     let code : Fin 64 → Nat × FpFlags := fun l => f.saturate (k.vreg rd)[l]
     let state := if k.vpois rd then EntryState.poisoned else e.state
     let raw : CoreArgs := { rd := rd, ra := ra, men := men, msel := msel, imm := hi ++ n }
     let off := (k.sreg ra + hi.setWidth 64).toNat
     let inside := off % 32 = 0 ∧ off + 256 ≤ e.header.storedLen.toNat
     (held → e.writable = true → e.fmt = f → f ∈ [5, 6, 13] → ∃ e' : Entry,
       exec (.vstr c a) s = s.completes c
         ((k.putEntry n.toNat e').addFlags (laneFlags (k.laneMask a) (Vector.ofFn (fun l => (code l).2)))) ∧
       e' = { e with state := state, bytes := e'.bytes, header := { e.header with bitmap := e'.header.bitmap } } ∧
       (∀ b : Fin 64, e'.header.bitmap.getLsbD b.val = (e.header.bitmap.getLsbD b.val ||
         (List.finRange 64).any (fun l => (k.laneMask a).getLsbD l.val && blockOf r l.val == b.val &&
           (code l).1 != 0))) ∧
       (∀ q l : Fin 64, readBits e'.bytes (f.blockSize * blockOf q.val l.val) (elemBit f q.val l.val) f.elemBits =
         if q.val = r ∧ (k.laneMask a).getLsbD l.val = true then (code l).1
         else readBits e.bytes (f.blockSize * blockOf q.val l.val) (elemBit f q.val l.val) f.elemBits)) ∧
     (held → e.writable = true → inside → ∃ e' : Entry,
       exec (.vst c raw) s = s.completes c (k.putEntry n.toNat e') ∧
       e' = { e with state := state, bytes := e'.bytes, header := { e.header with bitmap := e'.header.bitmap } } ∧
       (∀ b : Fin 64, e'.header.bitmap.getLsbD b.val = (e.header.bitmap.getLsbD b.val ||
         (List.finRange 64).any (fun l => (k.laneMask raw).getLsbD l.val &&
           (blocksWritten e.fmt (off + 4 * l.val) 4).getLsbD b.val))) ∧
       ∀ m, tileByte e'.bytes m =
         if off ≤ m ∧ m < off + 256 ∧ (k.laneMask raw).getLsbD ((m - off) / 4) = true then
           ((k.vreg rd).getD ((m - off) / 4) 0).extractLsb' (8 * ((m - off) % 4)) 8
         else tileByte e.bytes m) ∧
     ((e.state = .empty ∨ held ∧ e.writable = false) → k.handles = true →
       exec (.vstr c a) s = s.handles c 2 (addressInfo n.toNat 0) ∧
       exec (.vst c raw) s = s.handles c 2 (addressInfo n.toNat off)))

/-! ## FW64 -/

/-- R109: the FW64 addition of two codes: a NaN mark, or opposite SATs, give the NaN mark and FWNAN; a SAT absorbs a
finite code and its like; two finite codes give their exact sum, or beyond the range the SAT of its sign and FWSAT; and
the order of the two operands does not matter.
R69, R107 to R110: VFWCV, VFWADD and VFWCF act on register pairs, the even register holding the low halves, under
the window of FWEXP; an odd register number raises ILLEGAL. -/
def Obligations.FixedWindowNumbers : Prop :=
  ((∀ a, fwAdd fwNan a = (fwNan, flagFWNAN)) ∧ fwAdd fwSatPos fwSatNeg = (fwNan, flagFWNAN) ∧
   (∀ a, a ≠ fwNan → a ≠ fwSatNeg → fwAdd fwSatPos a = (fwSatPos, 0)) ∧
   (∀ a, a ≠ fwNan → a ≠ fwSatPos → fwAdd fwSatNeg a = (fwSatNeg, 0)) ∧
   (∀ a b, fwAdd a b = fwAdd b a) ∧
   ∀ a b, fwIsMark a = false → fwIsMark b = false →
     ((a.toInt + b.toInt).natAbs ≤ 2 ^ 63 - 2 → fwAdd a b = (BitVec.ofInt 64 (a.toInt + b.toInt), 0)) ∧
     (2 ^ 63 - 2 < a.toInt + b.toInt → fwAdd a b = (fwSatPos, flagFWSAT)) ∧
     (a.toInt + b.toInt < -(2 ^ 63 - 2) → fwAdd a b = (fwSatNeg, flagFWSAT))) ∧
  (∀ (s : State) (c : CoreId) (x : CtxId) (d a b : BitVec 4), s.issues c x = true →
     let k := s.coreOf c.val
     let even : BitVec 4 → BitVec 5 := fun r => r ++ (0 : BitVec 1)
     let odd : BitVec 4 → BitVec 5 := fun r => r ++ (1 : BitVec 1)
     let pair : Core → BitVec 4 → Fin 64 → W64 := fun k r l => (k.vreg (odd r))[l] ++ (k.vreg (even r))[l]
     let i : CoreArgs := { rd := even d, ra := even a, rb := even b }
     let one : CoreArgs := { rd := even d, ra := even a }
     let e := k.fwexp.toInt
     let gives : Instr → (Fin 64 → W64 × FpFlags) → Bool → Prop := fun op f p => ∃ k' : Core,
       exec op s = s.completes c k' ∧ (∀ l, pair k' d l = (f l).1) ∧
       k'.fpstatus = k.fpstatus ||| (laneFlags (BitVec.allOnes 64) (Vector.ofFn (fun l => (f l).2))).setWidth 64 ∧
       k'.vpois (even d) = p ∧ k'.vpois (odd d) = p ∧
       (∀ r, r ≠ even d → r ≠ odd d → k'.vreg r = k.vreg r) ∧
       k' = { k with v := k'.v, vpoison := k'.vpoison, fpstatus := k'.fpstatus }
     gives (.vfwcv c one) (fun l => let v := (k.vreg (even a))[l]
       ((fwOfVal (fp32Val v) e).1, (fwOfVal (fp32Val v) e).2 ||| snanFlags [v])) (k.vpois (even a)) ∧
     gives (.vfwadd c i) (fun l => fwAdd (pair k a l) (pair k b l))
       (k.vpois (even a) || k.vpois (odd a) || k.vpois (even b) || k.vpois (odd b)) ∧
     s.lanewise (.vfwcf c one) c one (fun l => fwToFp32 (pair k a l) e) (k.vpois (even a) || k.vpois (odd a)) ∧
     (k.handles = true → exec (.vfwcv c { one with rd := odd d }) s =
       s.handles c 1 (assemble 0x19 0 { one with rd := odd d })))

/-- R113: an FW64 sum of codes whose finite members have magnitudes of at most 2^63 - 2 together depends on the
codes alone: it is the same in every order and in every grouping, and over finite codes it is the exact integer
sum. -/
def Obligations.FixedWindowSumOrderFree : Prop :=
  let total : List W64 → W64 := fun l => l.foldl (fun a b => (fwAdd a b).1) 0
  let bounded : List W64 → Prop := fun l =>
    (l.map (fun v => if fwIsMark v then 0 else v.toInt.natAbs)).sum ≤ 2 ^ 63 - 2
  (∀ l m : List W64, l.Perm m → bounded l → total l = total m) ∧
  (∀ l m : List W64, bounded (l ++ m) → total (l ++ m) = (fwAdd (total l) (total m)).1) ∧
  (∀ l : List W64, bounded l → (∀ v ∈ l, fwIsMark v = false) →
    total l = BitVec.ofInt 64 (l.map BitVec.toInt).sum)

/-- R100: rounding a magnitude m·2^e to a multiple of 2^q takes one of the two neighbours, keeps an exact value in
every mode, takes the lower one towards zero, and the nearer one, the even one at a tie, in RNE; a stochastic mode
takes the upper one just when u < t. -/
def Obligations.RoundingTakesANeighbour : Prop :=
  ∀ (mode : RMode) (m : Nat) (e q : Int), e < q →
    let d := (q - e).toNat
    let lo := m / 2 ^ d
    let rest := m % 2 ^ d
    let r := roundMag mode m e q
    (rest = 0 → r = (lo, false)) ∧
    (rest ≠ 0 → r.2 = true ∧ (r.1 = lo ∨ r.1 = lo + 1) ∧
      (mode = .rtz → r.1 = lo) ∧
      (mode = .rne → (2 * rest < 2 ^ d → r.1 = lo) ∧ (2 ^ d < 2 * rest → r.1 = lo + 1) ∧
        (2 * rest = 2 ^ d → r.1 % 2 = 0)) ∧
      ∀ bits u, mode = .stochastic bits u →
        (r.1 = lo + 1 ↔ u % 2 ^ bits < (rest * 2 ^ (bits + 1) + 2 ^ d) / 2 ^ (d + 1)))

/-! ## Random numbers -/

/-- R119: the eight elements that share a draw take disjoint slices of it, so together they use its 32 bits once.
R78, R119, R120, R125, R128: RIDX and indexed RNORM give lane L the value of element s[RA] + L, and leave the
lane streams alone; RLANE and lane-stream RNORM step only the lanes that the mask admits.
R78, R121, R124, R132: RSET loads the seed, the index base, or the stream identifier with freshly seeded lanes;
RLOAD of a record that RSAVE wrote gives back the generators' state. -/
def Obligations.RandomNumbers : Prop :=
  (∀ (seed sid : W64) (d : Nat) (j : Fin 8), 8 * d + 7 < 2 ^ 64 →
     (sharedDraw seed sid (BitVec.ofNat 64 (8 * d + j.val))).setWidth 4 =
       (sharedDraw seed sid (BitVec.ofNat 64 (8 * d))).extractLsb' (4 * j.val) 4) ∧
  (∀ (s : State) (c : CoreId) (x : CtxId) (rd ra : BitVec 5) (table men : Bool) (msel : BitVec 3),
     s.issues c x = true → (men = true ∨ msel = 0) →
     let k := s.coreOf c.val
     let i : CoreArgs := { rd := rd, ra := ra, men := men, msel := msel }
     let n : CoreArgs := { i with var := (BitVec.ofBool table).setWidth 2 }
     let elem : Fin 64 → W64 := fun l => k.sreg ra + BitVec.ofNat 64 l.val
     let lane : Fin 64 → (LaneState → LaneState) → LaneState := fun l f =>
       if (k.laneMask i).getLsbD l.val then f k.lanes[l] else k.lanes[l]
     let streams : Instr → CoreArgs → (LaneState → LaneState × W32) → Prop := fun op a f => ∃ k' : Core,
       exec op s = s.completes c k' ∧
       (∀ l : Fin 64, k'.lanes[l] = lane l (fun y => (f y).1) ∧
         (k'.vreg rd)[l] = if (k.laneMask i).getLsbD l.val then (f k.lanes[l]).2 else (k.vreg rd)[l]) ∧
       k' = { k with v := k'.v, vpoison := k'.vpoison, lanes := k'.lanes }
     s.writesLanes (.ridx c i) c i (fun l => sharedDraw k.seed k.sid (elem l)) 0 false ∧
     s.writesLanes (.ridx c { i with opt := 1 }) c { i with opt := 1 }
       (fun l => fullDraw k.seed k.sid (elem l)) 0 false ∧
     s.writesLanes (.rnorm c n) c n (fun l => indexedNormal k.seed k.sid table (elem l)) 0 false ∧
     streams (.rlane c { i with ra := 0 }) { i with ra := 0 } laneStep ∧
     streams (.rnorm c { n with ra := 0, opt := 1 }) { n with ra := 0, opt := 1 } (laneNormal table)) ∧
  (∀ (s : State) (c : CoreId) (x : CtxId) (ra : BitVec 5) (n : Byte), s.issues c x = true →
     let k := s.coreOf c.val
     let v := k.sreg ra
     let e := k.entryFor x n.toNat
     let a : CoreArgs := { ra := ra }
     let t : CoreArgs := { imm := n.setWidth 32 }
     exec (.rsetSeed c a) s = s.completes c { k with seed := v } ∧
     exec (.rsetIndexBase c a) s = s.completes c { k with indexBase := v } ∧
     (k.restored = none → exec (.rsetStreamId c a) s = s.completes c
       { k with sid := v, lanes := seedLanes k.seed v (s.corePos k.region.val c.val) }) ∧
     (e.state = .resident → e.writable = true → 2112 ≤ e.header.storedLen.toNat →
       s.writeBusy c n.toNat = false → ∃ k' : Core, exec (.rsave c t) s = s.completes c k' ∧
         k' = { k with tiles := k'.tiles } ∧
         ∀ m < 2112, tileByte (k'.entryFor x n.toNat).bytes m = (recordBytes (s.laneRecord c.val k)).getD m 0) ∧
     (e.state = .resident → 2112 ≤ e.header.storedLen.toNat → ∀ r : LaneRec,
       (∀ m < 2112, tileByte e.bytes m = (recordBytes r).getD m 0) → exec (.rload c t) s = s.completes c
         { k with seed := r.seed, sid := r.sid, indexBase := r.indexBase, lanes := r.lanes }) ∧
     (e.state = .empty → k.handles = true → exec (.rsave c t) s = s.handles c 2 (addressInfo n.toNat 0) ∧
       exec (.rload c t) s = s.handles c 2 (addressInfo n.toNat 0)))

/-! ## Tile entries, streams, Peg groups and the sampler -/

/-- R43, R74, R76, R145: TALLOC gives an EMPTY entry a DENSE tile with a clear bitmap, RESIDENT and WRITABLE, whose
bytes are 0 where another context used the space last; TFREE
empties an entry, and a tile at home in it reads as never written; TSTATE and THDR read an entry. An entry that is not
EMPTY raises OPERAND in TALLOC, one that another context holds ADDRESS in TFREE, an EMPTY one ADDRESS in THDR. -/
def Obligations.TileTableInstructions : Prop :=
  ∀ (s : State) (c : CoreId) (x : CtxId) (rd : BitVec 5) (n : Byte) (f : Fmt) (high : Bool), s.issues c x = true →
    let k := s.coreOf c.val
    let e := k.entry n.toNat
    let a : CoreArgs := { imm := n.setWidth 32 }
    let alloc : CoreArgs := { imm := (f ++ n).setWidth 32 }
    let word : CoreArgs := { rd := rd, imm := (BitVec.ofBool high ++ n).setWidth 32 }
    let len := round32 f.denseLen
    let only : State → Prop := fun t => ∀ d, d ≠ c.val → t.coreOf d = s.coreOf d
    (e.state = .empty → f ≠ 0xF → ∀ base, k.findPocket len = some base → k.pocketUsed x + len ≤ s.pocketQuota x →
      ∃ (t : State) (e' : Entry), exec (.talloc c alloc) s = .next t ∧ only t ∧
        t = { s with cores := t.cores, fresh := t.fresh } ∧
        t.coreOf c.val = { (k.claim base len x).putEntry n.toNat e' with pc := k.pc + 1 } ∧
        (∀ i < f.denseLen, ∀ u, k.lastUser (base + i) = some u → u ≠ some x → tileByte e'.bytes i = 0) ∧
        e' = { state := .resident, writable := true, holder := x, base := base, reserved := len,
               header := writableHeader f 0, bytes := e'.bytes }) ∧
    (e.state ≠ .empty → k.handles = true →
      exec (.talloc c alloc) s = s.handles c 3 (operandInfo n.toNat 0 f.toNat)) ∧
    (k.heldByOther x n.toNat = false → e.state ≠ .filling → s.writeBusy c n.toNat = false →
      tableWf {} s.tiles = true → ∃ t : State, exec (.tfree c a) s = .next t ∧ only t ∧
        t = { s with cores := t.cores, tiles := t.tiles } ∧
        t.coreOf c.val = { k.putEntry n.toNat {} with pc := k.pc + 1 } ∧
        ∀ h, t.tileOf h =
          if (s.tileOf h).home = .pocket c n.toNat then (s.tileOf h).discard else s.tileOf h) ∧
    (k.heldByOther x n.toNat = true → k.handles = true →
      exec (.tfree c a) s = s.handles c 2 (addressInfo n.toNat 0)) ∧
    (let code := (match e.state with | .empty => 0 | .filling => 1 | .resident => 2 | .poisoned => 3) +
       (if (e.state = .resident ∨ e.state = .poisoned) ∧ e.writable = true then 4 else 0) +
       (if e.state ≠ .empty ∧ e.holder ≠ x then 8 else 0)
     exec (.tstate c { a with rd := rd }) s = s.completes c (k.setS rd (BitVec.ofNat 64 code))) ∧
    (let e := k.entryFor x n.toNat
     (e.state = .resident ∨ e.state = .poisoned → ∃ (t : State) (hcheck : W16),
       exec (.thdr c word) s = .next t ∧ only t ∧ t = { s with cores := t.cores, fresh := t.fresh } ∧
       (e.writable = false → hcheck = headerCheck e.header) ∧
       t.coreOf c.val = { k.setS rd (if high then
           hcheck ++ e.header.elemNz ++ e.header.storedLen ++ (0 : Byte) ++
             (if e.state = .poisoned then e.header.fmt ||| 0x20 else e.header.fmt)
         else e.header.bitmap) with pc := k.pc + 1 }) ∧
     (e.state = .empty → k.handles = true →
       exec (.thdr c word) s = s.handles c 2 (addressInfo n.toNat 0)))

/-- R233, R234: a cancelled stream ends with ABORTED, its slot's epoch advances, and CANCELLED counts it: what was
outstanding under the old epoch is stale from then on.
R75, R76, R222, R232: SISSUE of a descriptor that passes every check hands it to the engine of the core's cluster
in the lowest free queue slot, and writes the ticket of queue slot and generation; with no free slot it waits; a
descriptor that cannot be read, or fails a check, raises STREAM and changes nothing.
R75, R233: SWAIT and STEST of a ticket that names no stream of the core give BAD_ARG; of an ended stream its
status, and its queue slot is free again under the next generation; STEST of a running one gives PENDING, and SWAIT
waits. SCANCEL cancels a stream that runs, and does nothing for any other ticket. -/
def Obligations.StreamInstructions : Prop :=
  (∀ (s : State) (k : ClusterId) (n : Nat) (m : Stream), (s.slotAt k.val n).stream = some m → m.ended = none →
     let v := s.slotAt k.val n
     let w := (s.cancelStream k n).slotAt k.val n
     w.epoch = v.epoch + 1 ∧
     (m.nowait = false → w.gen = v.gen ∧ ∃ m', w.stream = some m' ∧ m'.ended = some stABORTED) ∧
     (m.nowait = true → w.gen = v.gen + 1 ∧ w.stream = none)) ∧
  (∀ (s : State) (c : CoreId) (x : CtxId) (rd ra : BitVec 5) (n : Byte) (nowait : Bool), s.issues c x = true →
     let k := s.coreOf c.val
     let a : CoreArgs := { opt := (BitVec.ofBool nowait).setWidth 5, rd := rd, ra := ra, imm := n.setWidth 32 }
     let e := k.entryFor x n.toNat
     (∀ q b, s.freeQueueSlot c = some q → e.state ≠ .filling → e.descriptor (k.sreg ra).toNat = some b →
       b.ok = true → s.descAllowed c k x b.desc = true → s.streamBinding x b.desc = none →
       s.failingEntry k x b.desc = none →
       (∀ m ∈ b.desc.srcEntries ++ b.desc.dstEntries, (k.entry m).state ≠ .filling) →
       (∀ m ∈ b.desc.dstEntries, s.writeBusy c m = false) →
       let ticket := BitVec.ofNat 64 (16 * (s.slotAt (c.val / 32) (slotOf c.val q)).gen.toNat + q)
       exec (.sissue c a) s = .next
         (((s.putCore c.val (k.setS rd ticket)).acceptStream c x q b.desc nowait).retire c x (k.pc + 1))) ∧
     (s.freeQueueSlot c = none →
       exec (.sissue c a) s = s.stalls c (assemble 0x28 a.opt a) (n.setWidth 16) true) ∧
     (s.freeQueueSlot c ≠ none → e.state ≠ .filling → k.handles = true →
       (e.descriptor (k.sreg ra).toNat = none ∨ ∃ b, e.descriptor (k.sreg ra).toNat = some b ∧
         (b.ok = false ∨ s.descAllowed c k x b.desc = false)) →
       exec (.sissue c a) s = s.handles c 7 (n.setWidth 64))) ∧
  (∀ (s : State) (c : CoreId) (x : CtxId) (rd ra : BitVec 5), s.issues c x = true →
     let k := s.coreOf c.val
     let a : CoreArgs := { rd := rd, ra := ra }
     let ticket := k.sreg ra
     let slot := slotOf c.val (ticket.toNat % 16)
     let v := s.slotAt (c.val / 32) slot
     let stray := v.gen.toNat ≠ ticket.toNat / 16 % 4096 ∨ v.stream = none
     (stray → exec (.swait c a) s = s.completes c (k.setS rd 3) ∧ exec (.stest c a) s = s.completes c (k.setS rd 3) ∧
       exec (.scancel c { ra := ra }) s = s.completes c k) ∧
     (∀ m : Stream, ¬ stray → v.stream = some m →
       (∀ st : Byte, m.ended = some st →
         let t := s.putSlot (c.val / 32) slot { v with gen := v.gen + 1, stream := none }
         exec (.swait c a) s = t.completes c (k.setS rd (st.setWidth 64)) ∧
         exec (.stest c a) s = t.completes c (k.setS rd (st.setWidth 64)) ∧
         exec (.scancel c { ra := ra }) s = s.completes c k) ∧
       (m.ended = none →
         exec (.swait c a) s = s.stalls c (assemble 0x29 0 a) (ticket.setWidth 16) true ∧
         exec (.stest c a) s = s.completes c (k.setS rd 1) ∧
         exec (.scancel c { ra := ra }) s =
           .next ((s.cancelStream (clusterOfCore c) slot).retire c x (k.pc + 1)))))

/-- R185: a group whose total has reached COUNT completes one generation and keeps what is beyond it; a group below its
COUNT completes none.
R77, R84, R184 to R187: PEGPOST waits for the core's earlier work and then adds one arrival to a group of the
context whose scope holds the cluster; any other group takes none, and PEG_STRAY counts. PEGWAIT completes, and
advances OBSERVED by one, once COMPLETED is ahead of it, and waits otherwise. PEGTEST answers without waiting. FENCE
waits for earlier streams.
R230: BSWAP of a buffer of the region, once the core's earlier work is done, flips the buffer's ROLE in the
region and writes the new one; a handle that names no buffer raises ADDRESS. -/
def Obligations.PegGroupsAndBuffers : Prop :=
  (∀ (s : State) (g : GroupId), s.mode.works = true →
     let p := s.pegOf g.val
     (p.configured = true → p.count.toNat ≤ p.total → p.echo = 0 → p.link = none →
       ¬ (g = (s.ctxOf p.ctx.val).doneGroup ∧ (s.ctxOf p.ctx.val).isOpen = true) →
       exec (.pegGroupComplete g) s = .next (s.putPeg g.val
         { p with total := p.total - p.count.toNat, nan := false, completed := p.completed + 1 })) ∧
     (p.total < p.count.toNat → exec (.pegGroupComplete g) s = .next s)) ∧
  (∀ (s : State) (c : CoreId) (x : CtxId) (rd ra : BitVec 5) (g : GroupId), s.issues c x = true →
     let k := s.coreOf c.val
     let a : CoreArgs := { imm := BitVec.ofNat 32 g.val }
     let w : CoreArgs := { a with rd := rd }
     let p := s.pegOf g.val
     let ours := p.configured = true ∧ p.ctx = x ∧ s.pegScope g.val (c.val / 32) = true
     let seen := tget 0 k.observed g.val
     let streams := fun f => s.openStreams c f
     (k.settled = true → streams StreamDesc.writes = false →
       (ours → exec (.pegpost c a) s =
         (s.putPeg g.val { p with total := p.total + 1 }).completes c k) ∧
       (¬ ours → exec (.pegpost c a) s =
         ((s.routerBump (c.val / 32) 7 1).raise .fault 187 0 (srcCluster (c.val / 32)) (some x.val)
           [w64 x.val, w64 g.val]).completes c k)) ∧
     (k.settled = false ∨ streams StreamDesc.writes = true →
       exec (.pegpost c a) s = s.stalls c (assemble 0x30 0 a) 0 false) ∧
     (ours ∧ precedes seen p.completed = true → exec (.pegwait c w) s =
       s.completes c ({ k with observed := tput 0 k.observed g.val (seen + 1) }.setS rd ((seen + 1).setWidth 64))) ∧
     (¬ (ours ∧ precedes seen p.completed = true) →
       exec (.pegwait c w) s = s.stalls c (assemble 0x31 0 w) (BitVec.ofNat 16 g.val) true) ∧
     (let late := ours ∧ precedes ((k.sreg ra).setWidth 32) p.completed = true
      (late → exec (.pegtest c { w with ra := ra }) s = s.completes c (k.setS rd 1)) ∧
      (¬ late → exec (.pegtest c { w with ra := ra }) s = s.completes c (k.setS rd 0))) ∧
     (k.settled = true → streams (fun _ => true) = false → exec (.fence c {}) s = s.completes c k) ∧
     (streams (fun _ => true) = true → exec (.fence c {}) s = s.stalls c (assemble 0x33 0 {}) 0 true)) ∧
  (∀ (s : State) (c : CoreId) (x : CtxId) (rd ra : BitVec 5) (h : W32), s.issues c x = true →
     let k := s.coreOf c.val
     let a : CoreArgs := { rd := rd, ra := ra }
     let g := s.regionOf k.region.val
     let role := !s.roleOf k.region.val h
     k.settled = true → s.openStreams c (fun _ => true) = false → k.sreg ra = h.setWidth 64 →
     (s.bufferOf x k.region.val h ≠ none → exec (.bswap c a) s =
       (s.putRegion k.region.val { g with roles := tput false g.roles (handleNum h) role }).completes c
         (k.setS rd (if role then 1 else 0))) ∧
     (s.bufferOf x k.region.val h = none → k.handles = true →
       exec (.bswap c a) s = s.handles c 2 (addressInfo 0 h.toNat)))

/-- R79, R134, R135, R138, R139: SMPCFG sets the region's sampler and discards its open sequences, or raises SAMPLER
with the number of the condition that fails; SMPFEED adds a tile of scores to a sequence, which its first one opens;
SMPDRAW closes the sequence and waits; the token, once ready, completes the wait; a memory error of the main path
leaves the fallback path.
R138, R139: the token of a closed sequence completes the SMPDRAW that waits for it, with the word of the path in
use; an uncorrectable error in a sampler's memory takes the main path away until the next self-test, and tokens in flight
complete on the fallback. -/
def Obligations.TokenSampler : Prop :=
  (∀ (s : State) (c : CoreId) (x : CtxId) (rd ra rb : BitVec 5) (n : Byte) (q : Nat) (topP : W32),
     s.issues c x = true →
     let k := s.coreOf c.val
     s.samplerCluster k.region.val = some q →
     let p := (s.clusterOf q).sampler
     let seq : W16 := (k.sreg rb).setWidth 16
     let e := k.entryFor x n.toNat
     let base := k.sreg ra
     let feed : CoreArgs := { ra := ra, rb := rb, imm := n.setWidth 32 }
     let scores := e.scores s.fresh base.toNat
     let bad := (scores.filter (fun y => !isFinite32 y.2)).length
     let with_ : State → Core → Sampler → Prop := fun t k' p' =>
       t.coreOf c.val = { k' with pc := k.pc + 1 } ∧ (t.clusterOf q).sampler = p' ∧
       t = { s with cores := t.cores, clusters := t.clusters, rings := t.rings, thread := t.thread }
     (∀ fall : Bool,
       let cfg : CoreArgs := { ra := ra, rb := rb, var := (BitVec.ofBool fall).setWidth 2, imm := topP }
       (cfgFault (base.setWidth 32) ((k.sreg rb).toNat % 2048) topP = none → ∃ t, exec (.smpcfg c cfg) s = .next t ∧
         with_ t k { p with seed := k.seed, sid := k.sid, temperature := base.setWidth 32,
                            topK := (k.sreg rb).toNat % 2048, topP := topP, fallback := fall, seqs := [],
                            configured := true }) ∧
       (∀ m, cfgFault (base.setWidth 32) ((k.sreg rb).toNat % 2048) topP = some m → k.handles = true →
         exec (.smpcfg c cfg) s = s.handles c 8 (BitVec.ofNat 64 m))) ∧
     (e.state = .resident ∨ e.state = .poisoned → e.short = false → e.fmt.toNat < 3 → base.toNat % 4096 = 0 →
       base.toNat + 4095 ≤ 1048575 →
       (∀ b : SampleSeq, p.seqs.find? (fun y => y.1 == seq) = some (seq, b) → b.fed.contains base = false →
         ∃ t, exec (.smpfeed c feed) s = .next t ∧ with_ t k { p with
           nonFinite := p.nonFinite + bad,
           seqs := p.seqs.map (fun z => if z.1 = seq then (z.1, z.2.feed base scores) else z) }) ∧
       (∀ b : SampleSeq, p.seqs.find? (fun y => y.1 == seq) = some (seq, b) → b.fed.contains base = true →
         ∃ t, exec (.smpfeed c feed) s = .next t ∧ with_ t k { p with ignored := p.ignored + 1 }) ∧
       (p.seqs.find? (fun y => y.1 == seq) = none → p.seqs.length < 64 →
         ∃ t, exec (.smpfeed c feed) s = .next t ∧ with_ t k { p with
           nonFinite := p.nonFinite + bad, seqs := p.seqs ++ [(seq, { ({} : SampleSeq).feed base scores with lost := !p.mainOk })] })) ∧
     (let draw : CoreArgs := { rd := rd, ra := rb }
      (∀ (d : Draw) (w : W64), p.draws.find? (fun d => d.core == c) = some d → d.result = some w →
        ∃ t, exec (.smpdraw c draw) s = .next t ∧
          with_ t (k.setS rd w) { p with draws := p.draws.filter (fun d => d.core != c) }) ∧
      (p.draws.find? (fun d => d.core == c) = none → (s.ctxOf x.val).hostSampling = false →
        ∃ t, exec (.smpdraw c draw) s = .next t ∧
          (t.coreOf c.val).waiting = some ⟨assemble 0x3A 0 draw, 0, true⟩ ∧
          (t.clusterOf q).sampler.seqs = p.seqs.filter (fun y => y.1 != seq) ∧
          ∃ d : Draw, (t.clusterOf q).sampler.draws = p.draws ++ [d] ∧ d.seq = seq ∧ d.core = c ∧ d.result = none ∧
            d.pos = (k.sreg rb).extractLsb' 16 32 ∧
            d.body = ((p.seqs.find? (fun y => y.1 == seq)).map (·.2)).getD {}))) ∧
  (∀ (s : State) (r : RegionId) (seq : W16) (q : Nat) (k : ClusterId), s.mode.works = true →
     let p := (s.clusterOf q).sampler
     (∀ (d : Draw) (v : Nat), d.body.lost = true → p.fallbackToken d.seq d.pos d.body.scores = some v →
       p.draw d = tokenWord v true d.body.nonFinite) ∧
     (s.samplerCluster r.val = some q → (s.ctxOf (s.regionOf r.val).ctx.val).hostSampling = false → ∀ d : Draw,
       p.draws.find? (fun d => d.seq == seq && d.result.isNone) = some d →
       let j := s.coreOf d.core.val
       (∀ w : Waiting, j.waiting = some w → w.major = 0x3A → exec (.samplerTokenReady r seq) s = .next
         ((s.modSampler q (fun p => { p with draws := p.draws.filter (fun e => e != d) })).putCore d.core.val
           { j.setS w.rd (p.draw d) with pc := j.pc + 1, waiting := none })) ∧
       (j.waiting = none → exec (.samplerTokenReady r seq) s = .next (s.modSampler q (fun p => { p with
         draws := p.draws.map (fun e => if e = d then { e with result := some (p.draw d) } else e) })))) ∧
     ∃ t, exec (.samplerMemoryError k) s = .next t ∧ t = { s with clusters := t.clusters, rings := t.rings, thread := t.thread } ∧
       (let o := (s.clusterOf k.val).sampler
        (t.clusterOf k.val) = { s.clusterOf k.val with
          sampler := { o with
            mainOk := false
            seqs := o.seqs.map (fun y => (y.1, { y.2 with lost := true }))
            draws := o.draws.map (fun d => { d with body := { d.body with lost := true } }) } }) ∧
       (t.clusterOf k.val).sampler.onFallback = true)

/-! ## Sequencers, Peg groups and the events of cores -/

/-- R247, R249, R250: TILENEXT gives the end value once every tile of the stage is handed, and otherwise waits in its
cluster's line; a cluster asks for a lease when its reserve is down to half the last one, and the lead grants the next
tiles to the cluster that asked first; a tile whose operands hold goes to the core that has waited longest.
R80, R243, R249, R252: TILEDONE of an outstanding tile counts it, and the last one of the step makes the stage
DONE; END stops the program. Both wait for the core's earlier work. -/
def Obligations.SequencersAndTiles : Prop :=
  (∀ (s : State) (c : CoreId) (x : CtxId) (rd : BitVec 5),
     let k := s.coreOf c.val
     let cl := clusterOfCore c
     let r := k.region.val
     let g := s.regionOf r
     let i := s.seqInst cl x
     let next : CoreArgs := { rd := rd }
     (s.issues c x = true → g.allHanded = true → exec (.tilenext c next) s = s.completes c (k.setS rd allOnes64)) ∧
     (s.issues c x = true → g.allHanded = false → ∃ t, exec (.tilenext c next) s = .next t ∧
       t = { s with cores := t.cores, clusters := t.clusters } ∧
       t.coreOf c.val = { k with waiting := some ⟨assemble 0x3C 0 next, 0, true⟩ } ∧
       c ∈ (t.seqInst cl x).waiters ∧ (t.seqInst cl x) = { i with waiters := (t.seqInst cl x).waiters }) ∧
     (s.handingRegion cl x = some r → g.staticDist = false → i.requested = false →
       2 * i.reserve.length ≤ i.lastLease →
       exec (.leaseRequest cl x) s = .next ((s.putRegion r { g with
         leases := g.leases ++ [(cl, (s.servingCores cl.val).length)] }).putSeqInst cl x { i with requested := true })) ∧
     (∀ (total : W32) (q : ClusterId) (w : Nat) (rest : List (ClusterId × Nat)), s.handingRegion cl x = some r →
       g.tileTotal = some total → g.leases = (q, w) :: rest →
       let n := Nat.min (g.lease * w) (total.toNat - g.nextTile.toNat)
       (q ≠ cl → exec (.leaseGrant cl x) s = .next s) ∧
       (q = cl → exec (.leaseGrant cl x) s = .next
         ((s.putRegion r { g with nextTile := g.nextTile + BitVec.ofNat 32 n, leases := rest }).putSeqInst cl x { i with
           requested := false, lastLease := n,
           reserve := i.reserve ++ (List.range n).map (fun j => g.nextTile + BitVec.ofNat 32 j) }))) ∧
     (∀ (t total : W32) (w : Waiting), s.handingRegion cl x = some r → s.nextOf cl x r = some t →
       i.waiters.find? (fun d => (s.coreOf d.val).waitsIn 0x3C && (s.coreOf d.val).running == some x) = some c →
       s.tileReady x r t = true → s.coreClocked c.val = true → g.stage.tileCount ≠ 0 →
       k.waiting = some w → g.tileTotal = some total → ∃ t', exec (.tileHand cl x) s = .next t' ∧
         t' = { s with cores := t'.cores, clusters := t'.clusters, regions := t'.regions } ∧
         t'.coreOf c.val = { k.setS w.rd (t.setWidth 64) with pc := k.pc + 1, waiting := none } ∧
         t'.regionOf r = { g with
           handed := g.handed + 1, outstanding := g.outstanding ++ [(t, c)],
           seq := if total.toNat ≤ g.handed.toNat + 1 then .draining else .running } ∧
         c ∉ (t'.seqInst cl x).waiters)) ∧
  (∀ (s : State) (c : CoreId) (x : CtxId) (ra : BitVec 5) (t : W32), s.issues c x = true →
     let k := s.coreOf c.val
     let r := k.region.val
     let g := s.regionOf r
     let done : CoreArgs := { ra := ra }
     let g' := { g with outstanding := g.outstanding.erase (t, c), finished := g.finished ++ [t],
                        doneTiles := g.doneTiles + 1 }
     (k.settled = true → s.openStreams c StreamDesc.writes = false → k.sreg ra = t.setWidth 64 →
       (g.seq = .running ∨ g.seq = .draining) → (t, c) ∈ g.outstanding →
       (g'.allDone = false → exec (.tiledone c done) s = ((s.regionBump r 0 1).putRegion r g').completes c k) ∧
       (g'.allDone = true → g.seq = .draining → g.stage.donePeg = 0 → (s.ctxOf x.val).serving = false →
         exec (.tiledone c done) s =
           ((s.regionBump r 0 1).putRegion r { g' with seq := .done }).completes c k)) ∧
     (k.settled = false → exec (.tiledone c done) s = s.stalls c (assemble 0x3C 1 done) 0 false ∧
       exec (.endProgram c {}) s = s.stalls c (assemble 0x3F 0 {}) 0 false) ∧
     (k.settled = true → g.outstanding.find? (fun e => e.2 == c) = none → k.queue = [] →
       exec (.endProgram c {}) s =
         .next (s.putCore c.val { k with running := none, waiting := none, inHandler := false })))

/-- R50 to R55, R60, R61, R84, R90, R182, R183: a timed wait that reaches WAITLIM raises WAIT_TIMEOUT, unless what it waits for
has come; a serving core sends a heartbeat over the Thread, and its field controller takes it from there; a residue error,
a heartbeat out of order and three lost ones declare the core dead: SUSPECT, its clock stopped, its fault bit set, its
score raised by 256, its contexts aborted and the module draining; a core that serves no column, in a slice, fails.
R39, R42, R55, R61: a corrected word of the instruction buffer or of the Pocket only sets its bit and scores 1; an
uncorrectable one scores 64: of the instruction buffer, it aborts the contexts on the core, which issues nothing until
the program is loaded again; of the Pocket, it makes the entry POISONED, so that LD raises DATA_ERROR and VLDR poisons its
register; of an accumulator, it poisons the accumulator. -/
def Obligations.CoreHealthEvents : Prop :=
  ∀ (s : State) (c : CoreId) (x : CtxId) (p : PhysId) (unit : ResidueUnit) (seq : W16) (w : Waiting),
    let k := s.coreOf c.val
    let h := s.physOf p.val
    let bit := residueBit unit
    let struck : Nat → Phys := fun b =>
      { h with fault := h.fault ||| BitVec.twoPow 64 b, lastFault := BitVec.ofNat 8 b, score := satAdd16 h.score 256,
               clockStopped := true }
    let dead : State → Nat → CoreId → Result := fun v b d =>
      let t := v.putPhys p.val { struck b with health := .suspect }
      .next ((t.abortOver (fun q => q == d.val / 32) d.val).autoDrain)
    (k.running = some x → k.waiting = some w → s.waitMet c k x w = true → exec (.waitTimeout c) s = .next s) ∧
    (s.coreClocked c.val = true → k.running = some x → k.waiting = some w → w.timed = true → s.waitMet c k x w = false →
      k.handles = true → ∃ t, exec (.waitTimeout c) s = .next t ∧ t.coreOf c.val = k.handling 5
          (BitVec.ofNat 64 (w.word.toNat / 2 ^ 58 + w.info.toNat * 65536)) ∧
        t = { s with cores := t.cores, clusters := t.clusters, requests := t.requests }) ∧
    (s.physClocked p.val = true →
      (s.serves p.val = none → exec (.residueError p unit) s =
        .next (s.putPhys p.val { struck bit with health := .failed })) ∧
      ∀ d : CoreId, s.serves p.val = some d.val →
        exec (.residueError p unit) s = dead s bit d ∧
        (let fc := fcNode (d.val / 512)
         let node := clusterNode (d.val / 32)
         let lost : State → State := fun v => v.threadPass fc (mmpNode s.mgmt.standbyServes) (.heartbeatLost p.val)
         ∀ good : Bool,
         let m : ThreadMsg := ⟨fc, node, .heartbeat p seq good⟩
         let waits := m ∈ (s.threadNode node).normal
         (h.hbMissed < 3 → ∃ t, exec (.heartbeat ⟨p, good⟩) s = .next t ∧
           t.physOf p.val = { h with hbNext := h.hbNext + 1, hbMissed := h.hbMissed + 1 } ∧
           (t.threadNode node).normal = (s.threadNode node).normal ++ [⟨fc, node, .heartbeat p h.hbNext good⟩] ∧
           (t.threadNode node).urgent = (s.threadNode node).urgent ∧ t = { s with phys := t.phys, thread := t.thread }) ∧
         (¬ waits → exec (.heartbeatReceived p seq good) s = .next s) ∧
         (waits → good = true → (h.hbSeen = false ∨ seq = h.hbSeq + 1) → exec (.heartbeatReceived p seq good) s =
           .next ((s.takeHeartbeat m p).putPhys p.val { h with hbSeq := seq, hbSeen := true, hbMissed := 0 })) ∧
         (waits → (good = false ∨ h.hbSeen = true ∧ seq ≠ h.hbSeq + 1) →
           exec (.heartbeatReceived p seq good) s = dead (lost (s.takeHeartbeat m p)) 4 d) ∧
         (h.hbMissed = 3 → exec (.heartbeatLost p) s = dead (lost s) 4 d))) ∧
    (∀ v a, k.ibufLost = some v → exec (.nop c a) s = .next s) ∧
    (s.servedBy c.val = some p.val → s.issues c x = true →
      ∀ (rd ra : BitVec 5) (n : Byte) (f : Fmt) (off : BitVec 18),
      let met : Nat → Nat → State := fun b w => s.putPhys p.val { h with
        fault := h.fault ||| BitVec.twoPow 64 b, lastFault := BitVec.ofNat 8 b, score := satAdd16 h.score w }
      let banked : Nat → Nat → State := fun b w =>
        let old := if h.fault.getLsbD 5 || h.fault.getLsbD 8 then h.fault
          else (h.fault &&& 0xFFFFFFFF0000FFFF) ||| (w64 (off.toNat / 8 % 32) <<< 16)
        s.putPhys p.val { h with
          fault := old ||| BitVec.twoPow 64 b, lastFault := BitVec.ofNat 8 b, score := satAdd16 h.score w }
      exec (.nop c { finding := { fetch := .corrected } }) s = (met 9 1).completes c k ∧
      exec (.nop c { finding := { fetch := .uncorrectable } }) s = .next
        (((met 6 64).abortOver (fun q => q == c.val / 32) c.val).modCore c.val (fun k => { k with ibufLost := some x })) ∧
      (k.entryAt off.toNat = some n.toNat → (k.entryFor x n.toNat) = k.entry n.toNat →
        (k.entry n.toNat).state = .resident →
        (let ld : CoreArgs := { rd := rd, ra := ra, imm := n.setWidth 32, finding := { pocket := .uncorrectable, offset := off } }
         let at_ := k.memOffset ld
         at_ < (k.entry n.toNat).header.storedLen.toNat → k.handles = true →
         exec (.ld c ld) s = (let t := banked 5 64
           .next (t.putCore c.val ((k.modEntry n.toNat (fun e => { e with state := .poisoned })).handling 4
             (addressInfo n.toNat at_))))) ∧
        (let ld : CoreArgs := { rd := rd, ra := ra, imm := n.setWidth 32, finding := { pocket := .corrected, offset := off } }
         k.memOffset ld < (k.entry n.toNat).header.storedLen.toNat →
         exec (.ld c ld) s = (banked 8 1).completes c (k.setS rd (BitVec.setWidth 64
           (tileByte (k.entry n.toNat).bytes (k.memOffset ld))))) ∧
        (let row : CoreArgs := { rd := rd, ra := ra, imm := (f ++ (0 : BitVec 6) ++ n).setWidth 32,
                                 finding := { pocket := .uncorrectable, offset := off } }
         f = (k.entry n.toNat).fmt → f.toNat < 0xE → ∃ t, exec (.vldr c row) s = .next t ∧
           (t.coreOf c.val).vpois rd = true ∧ ((t.coreOf c.val).entry n.toNat).state = .poisoned ∧
           (t.physOf p.val).fault.getLsbD 5 = true)) ∧
      (∀ (side : Bool) (r : BitVec 6), (k.acc side).inFlight = 0 →
        let rdAcc : CoreArgs := { rd := rd, imm := (BitVec.ofBool side ++ r).setWidth 32, finding := { acc := true } }
        ∃ t, exec (.vaccr c rdAcc) s = .next t ∧ (t.coreOf c.val).vpois rd = true ∧
          ((t.coreOf c.val).acc side).poison = true ∧ (t.physOf p.val).fault.getLsbD 7 = true))

/-- R29, R91: an abort of a live context marks its ledger ABORTED and leaves no core running its program; the programs
of other contexts run on, and their Peg groups are untouched. -/
def Obligations.ContextAbortEndsItsPrograms : Prop :=
  ∀ (s : State) (x : CtxId) (detail : W64), s.mode.works = true → (s.ctxOf x.val).live = true →
    ∃ t, exec (.contextAbort x detail) s = .next t ∧ (t.ctxOf x.val).marks.aborted = true ∧
      (∀ c, (t.coreOf c).running ≠ some x) ∧
      (∀ c y, y ≠ x → (s.coreOf c).running = some y → (t.coreOf c).running = some y) ∧
      ∀ g, (s.pegOf g).ctx ≠ x → t.pegOf g = s.pegOf g

/-! ## Stream engines and tiers -/

/-- R224, R225, R232: the engine gives its next transfer the lowest free transfer slot under its stream's epoch, and
counts it, with the tiles it reads and the home that serves each (R194); a REDUCE fragment takes no slot. A request to a
weight server asks for consecutive tiles, each a transfer (R272). Locks of R226 are queued for first.
R208, R209, R225, R226, R228, R232, R529: a reply under the epoch of its transfer slot frees the slot and reaches the stream that waits for
it, unless another writer's lock holds one of its tiles; one for a stream that is gone frees the slot and counts as
stale; one after its deadline frees the slot and counts as stale and late; one under another epoch, or for a free slot,
only counts. A weight server answers with records alone. -/
def Obligations.EngineTransfersAndReplies : Prop :=
  (∀ (s0 : State) (k : ClusterId), s0.meshRuns k.val = true →
     let s := s0.queueWriters k
     let turn : Nat → State := fun n => s.modCluster k.val (fun c => { c with turn := n })
     (∀ (n : Nat) (m : Stream) (kind : XferKind) (t : Tier) (i : Nat),
       s.nextWork k = some (n, m, .inl (kind, t)) → s.freeXfer k = some i → (∀ j, kind ≠ .tile j) →
       let b : Xfer := { slot := n, epoch := (s.slotAt k.val n).epoch, kind := kind, tier := t, ctx := m.ctx,
                         core := m.core, slotB := m.slotB, bound := m.bound, want := s.wantOf m kind t,
                         reads := (s.readKeys m kind).map (fun key => (key, (s.tileOf key).moves)) }
       exec (.xferIssue k) s0 = .next ((((turn n).engineBump k.val 0 1).modCluster k.val (fun c => { c with
         xfers := tput {} c.xfers i { xferSlot c i with busy := some b } })).beginXfer k n m kind t)) ∧
     (∀ (n : Nat) (m : Stream) (i : Nat) (u : UnitId), s.nextWork k = some (n, m, .inl (.tile i, .port u)) →
       s.freeXfer k ≠ none → ∃ c : Nat, c ≤ 256 ∧ i + c ≤ Nat.max i m.desc.points ∧
         (∀ j, j < c → (m.desc.point (i + j)).1 = (m.desc.point i).1 + j) ∧
         exec (.xferIssue k) s0 = .next (((turn n).each (List.range c) (fun s j =>
           s.issueXfer k n m (.tile (i + j)) (.port u))).send m.ctx.val u (.wreq
             { job := (s.ctxOf m.ctx.val).job, node := s.nodeOf m.ctx.val, stream := m.number, object := m.object,
               version := m.version, first := BitVec.ofNat 32 (m.desc.point i).1, count := BitVec.ofNat 16 c,
               seq0 := BitVec.ofNat 48 i }))) ∧
     (∀ (n : Nat) (m : Stream) (idx : Nat) (f : Fin 32), s.nextWork k = some (n, m, .inr (idx, f)) →
       exec (.xferIssue k) s0 = .next ((turn n).sendFragment k n m idx f)) ∧
     (s.nextWork k = none → exec (.xferIssue k) s0 = .next s)) ∧
  (∀ (s : State) (k : ClusterId) (slot : Fin 512) (ep : BitVec 7) (reply : Reply), s.meshRuns k.val = true →
     let x := xferSlot (s.clusterOf k.val) slot.val
     let stale := s.engineBump k.val 5 1
     (x.busy = none → x.expired = none → exec (.xferReply k slot ep ⟨reply, none⟩) s = .next stale) ∧
     (∀ b : Xfer, x.busy = none → x.expired = some b → b.tier.isPort = false → exec (.xferReply k slot ep ⟨reply, none⟩) s = .next
       (if b.epoch = ep then (stale.freeXferSlot k slot.val none).countLate b.tier false else stale)) ∧
     (∀ b : Xfer, x.busy = some b → b.tier.isPort = true → exec (.xferReply k slot ep ⟨reply, none⟩) s = .next s) ∧
     (∀ (y : CtxId) (b : Fin 16) (t : W32), exec (.xferReply k slot ep ⟨reply, some (y, b, t)⟩) s =
       .next (s.pressFillReply y b.val t reply)) ∧
     ∀ b : Xfer, x.busy = some b → b.tier.isPort = false →
       let v := s.slotAt k.val b.slot
       (b.epoch ≠ ep → exec (.xferReply k slot ep ⟨reply, none⟩) s = .next stale) ∧
       (b.epoch = ep → v.epoch ≠ ep → exec (.xferReply k slot ep ⟨reply, none⟩) s = .next
         (((stale.freeXferSlot k slot.val none).endReads b).releaseLast k b.slot b.epoch b.core b.ctx b.slotB
           b.bound)) ∧
       (∀ m : Stream, b.epoch = ep → v.epoch = ep → v.stream = some m → s.readHeld k b m = true →
         exec (.xferReply k slot ep ⟨reply, none⟩) s = .next s) ∧
       (∀ (m : Stream) (h : Home), b.epoch = ep → v.epoch = ep → v.stream = some m → s.readHeld k b m = false →
         b.tier = .home h → (∀ g q, h = .hamper g q → (s.stackOf g.val).suspect = false ∧ s.stackReached g.val = true) →
         exec (.xferReply k slot ep ⟨.data, none⟩) s = .next
           (((s.freeXferSlot k slot.val none).endReads b).takeXfer k b m .none)))

/-- R208, R226, R232, R235, R236: the deadline of a request ends it, its transfer slot occupied until a late reply or a
reclaim, and marks its stream as timed out where
that still waits; that of a fill's tile, or of an installation's (log entry 36), ends it TIMEOUT; a free lock passes to the
writer that has waited longest; a cancelled stream's transfer is reclaimed
with a FAULT, and its slot held out until the hold ends. -/
def Obligations.DeadlinesLocksAndReclaim : Prop :=
  ∀ (s : State) (k : ClusterId) (slot : Fin 512) (h : W32),
    let x := xferSlot (s.clusterOf k.val) slot.val
    (∀ b : Xfer, x.busy = some b → s.meshRuns k.val = true →
      let v := s.slotAt k.val b.slot
      let freed := (s.freeXferSlot k slot.val (some b)).countLate b.tier true
      let record := ∃ q, b.kind = .grad q
      (record → exec (.requestDeadline k slot none) s = .next s) ∧
      (¬ record → v.epoch ≠ b.epoch → exec (.requestDeadline k slot none) s = .next
        ((freed.endReads b).releaseLast k b.slot b.epoch b.core b.ctx b.slotB b.bound).pump) ∧
      (∀ m : Stream, ¬ record → v.epoch = b.epoch → v.stream = some m → exec (.requestDeadline k slot none) s = .next
          (((freed.endReads b).markTimeout k b.slot).takeXfer k b m .bytes).pump) ∧
      xferSlot (freed.clusterOf k.val) slot.val = { x with busy := none, expired := some b } ∧
      (v.epoch ≠ b.epoch → ∃ t, exec (.cancelForced k slot) s = .next t ∧
        xferSlot (t.clusterOf k.val) slot.val = { busy := none, expired := none, heldOut := true } ∧
        ∀ d, d ≠ k.val → t.clusterOf d = s.clusterOf d)) ∧
    (x.busy = none → exec (.requestDeadline k slot none) s = .next s ∧
      (x.expired = none → exec (.cancelForced k slot) s = .next s)) ∧
    (∀ (y : CtxId) (b : Fin 16) (i : W32) (w : Install) (f : Fill), s.mode.works = true →
      ((s.ctxOf y.val).fills.find? (fun f => f.binding == b.val) = some f → s.fillWants y.val b.val i = true →
        (f.image = none → f.asks.pending i = true → exec (.requestDeadline k slot (some (y, some b, i))) s =
          .next (s.failFill y.val stTIMEOUT)) ∧
        (f.image ≠ none → exec (.requestDeadline k slot (some (y, some b, i))) s =
          .next ((s.countLate .press true).failFill y.val stTIMEOUT))) ∧
      (s.press.install = some w → w.ctx = y → s.installWants w i = true → w.asks.pending i = true →
        exec (.requestDeadline k slot (some (y, none, i))) s = .next (s.endInstall stTIMEOUT)) ∧
      (s.press.install = none → exec (.requestDeadline k slot (some (y, none, i))) s = .next s)) ∧
    (∃ t, exec (.reclaimHoldEnd k slot) s = .next t ∧ t = { s with clusters := t.clusters } ∧
      xferSlot (t.clusterOf k.val) slot.val = { x with heldOut := false }) ∧
    (tableWf {} s.tiles = true →
      (∃ t, exec (.writeLockGrant h) s = .next t ∧ t = { s with tiles := t.tiles } ∧
        ∀ key, let o := s.tileOf key
          t.tileOf key = if key % 2 ^ 32 = h.toNat ∧ o.lock = none ∧ o.lockQueue ≠ [] then
            { o with lock := o.lockQueue.head?, lockQueue := o.lockQueue.tail } else o) ∧
      ∃ t, exec (.oldHomeRelease h) s = .next t ∧ t = { s with tiles := t.tiles } ∧
        ∀ key, let o := s.tileOf key
          t.tileOf key = if key % 2 ^ 32 = h.toNat then
            { o with oldHomes := o.oldHomes.filter (fun e => e.reads != 0) } else o)

/-! ## The mesh -/

/-- R168, R169, R174, R175, R177, R179, R180: a RED packet enters the router next on its route, its source router first; one
that meets its slot there is added into it; one that meets none claims the lowest free slot, or goes on, with BYPASS where
none is free; a failed HCHECK, or a removed destination, discards it; a slot whose count reaches its total emits its sum.
Where the route is not clear, the router that the packet leaves counts the detour. A packet that is no packet is refused. -/
def Obligations.TubsAddAndEmit : Prop :=
  ∀ (s : State) (k : ClusterId) (p : RedPacket) (n : Fin 64) (hold free : Bool) (i : Nat) (f : Flight),
    (p.wf = false → exec (.tubArrival k p hold free) s = .fault .illFormed) ∧
    (p.wf = true → s.meshRuns k.val = true → s.routerDead k.val = false →
      s.findFlight (fun f => s.onward f == { p with hcheckOk := true } && s.hops f k.val) = some (i, f) →
      let u := if p.detour = true ∧ f.packet.detour = false then s.routerBump f.router 5 1 else s
      let there := s.routerDead (clusterAt (p.dest.toNat % 64) (p.dest.toNat / 64)) = false
      (p.hcheckOk = false ∨ ¬ there → exec (.tubArrival k p hold free) s = .next ((u.endFlight i).routerBump k.val 6 1)) ∧
      (p.hcheckOk = true → there → (p.bypass = true ∨ p.notub = true → exec (.tubArrival k p hold free) s =
          .next (u.moveFlight i p k)) ∧
        (p.bypass = false → p.notub = false → p.detour = false →
          let c := s.clusterOf k
          let mine : Nat → Bool := fun n => match c.tub n with | some t => t.key == RedPacket_key p | none => false
          (∀ j t, (List.range 64).find? mine = some j → c.tub j = some t → t.total = p.total →
            exec (.tubArrival k p hold true) s =
              .next (((s.endFlight i).putTub k.val j (some (t.add p))).routerBump k.val 1 1)) ∧
          (∀ j t, (List.range 64).find? mine = some j → c.tub j = some t → t.total ≠ p.total →
            exec (.tubArrival k p hold free) s =
              .next ((s.moveFlight i { p with bypass := true } k).routerBump k.val 2 1)) ∧
          ((List.range 64).find? mine = none →
            (hold = true → (s.ctxOf p.ctx.val).tubHold = 0 → exec (.tubArrival k p hold free) s = .next (s.moveFlight i p k)) ∧
            (hold = false →
              (∀ j, (List.range 64).find? (fun j => (c.tub j).isNone) = some j → exec (.tubArrival k p hold free) s =
                .next (((s.endFlight i).putTub k.val j (some (TubSlot.claim p))).routerBump k.val 0 1)) ∧
              ((List.range 64).find? (fun j => (c.tub j).isNone) = none → exec (.tubArrival k p hold free) s =
                .next ((s.moveFlight i { p with bypass := true } k).routerBump k.val 2 1))))))) ∧
    (∀ t : TubSlot, (s.clusterOf k.val).tub n.val = some t → s.meshRuns k.val = true → t.count = t.total →
      let s' := s.putTub k.val n.val none
      exec (.tubEmit k n hold free) s = .next { s' with mesh := s'.mesh ++ [Flight.mk (t.packet k.val) (some k)] })

/-- R168: along a clear route a packet enters first its source router, then the next one along x until it is in the column of
its destination, and then along y; two packets between the same routers keep their order. -/
def Obligations.DimensionOrder : Prop :=
  (∀ (s : State) (p : RedPacket) (k : ClusterId), s.hops ⟨p, none⟩ k.val = true ↔ p.src = routerAddr k.val) ∧
  (∀ (s : State) (p : RedPacket) (h k : ClusterId) (x y u v : Nat), s.detours p h.val = false →
    posOf h.val = (x, y) → posOf k.val = (u, v) →
    let dx := p.dest.toNat % 64
    let dy := p.dest.toNat / 64
    (s.hops ⟨p, some h⟩ k.val = true ↔
      (x < dx ∧ u = x + 1 ∧ v = y) ∨ (dx < x ∧ u + 1 = x ∧ v = y) ∨
      (x = dx ∧ y < dy ∧ u = x ∧ v = y + 1) ∨ (x = dx ∧ dy < y ∧ u = x ∧ v + 1 = y))) ∧
  ∀ (s : State) (i j : Nat) (e f : Flight) (at_ : Flight → Bool), s.mesh[i]? = some e → s.mesh[j]? = some f → i < j →
    e.packet.src = f.packet.src → e.packet.dest = f.packet.dest → e.packet.detour = false → f.packet.detour = false →
    s.findFlight at_ = some (j, f) → e.left < f.left

/-- R109, R174: adding two RED packets of one fragment into a Tub slot gives the same sum, count and presence in either
order, where all three share the window and no element leaves the range. -/
def Obligations.TubSumOrderFree : Prop :=
  ∀ (t : TubSlot) (p q : RedPacket), p.sumFp32 = false → q.sumFp32 = false → p.wexp = t.wexp → q.wexp = t.wexp →
    let a := (t.add p).add q
    let b := (t.add q).add p
    a.count = b.count ∧ a.bmap = b.bmap ∧ a.poison = b.poison ∧ a.mixed = b.mixed ∧
    (present t.bmap 0 = true ∧ present t.bmap 64 = true → ∀ i < 128,
      (∀ v ∈ [tget 0 t.sums i, RedPacketData p i, RedPacketData q i], fwIsMark v = false ∧
        v.toInt.natAbs < 2 ^ 61) → tget 0 a.sums i = tget 0 b.sums i)

/-- R289 to R291: a RED packet of a live context's job reaches its declared destination: one of an older step only
counts; a first one of a step restarts its fragment; the packet is then added, and a destination whose 32 fragments are
complete is written. A packet for no destination counts as dropped. -/
def Obligations.ReductionDestination : Prop :=
  ∀ (s : State) (p : RedPacket) (i : Nat) (e : Flight), p.wf = true → p.hcheckOk = true → s.mode.works = true →
    let router := clusterAt (p.dest.toNat % 64) (p.dest.toNat / 64)
    s.findFlight (fun f => f.packet == p && f.here.any (fun k => k.val == router)) = some (i, e) →
    let c := s.ctxOf p.ctx.val
    let key := s.tileKey p.handle
    let t := s.tileOf key
    let f := t.frag p.frag.val
    let ours := handleCtx p.handle = p.ctx.val ∧ c.live = true ∧ c.job = p.job ∧ t.declared = true
    let older := f.written = true ∧ (precedes p.step f.step = true ∨ unordered p.step f.step = true)
    let gone := s.endFlight i
    (¬ ours → exec (.redArrival p) s = .next (gone.routerBump router 6 1)) ∧
    (ours → older → exec (.redArrival p) s = .next (gone.gradBump p.ctx.val 4 1)) ∧
    (ours → ¬ older → f.written = true → f.step = p.step → exec (.redArrival p) s = .next (gone.addRed key p)) ∧
    (ours → ¬ older → ¬ (f.written = true ∧ f.step = p.step) → exec (.redArrival p) s =
      .next ((gone.putTile key (t.putFrag p.frag.val (t.restart p))).addRed key p))

/-- R169 to R171, R179, R180, R459, R460, R483: a refused flit is counted, and scored where its link crosses a
boundary; a field goes DARK and returns THROTTLED below 95 °C; the recorded groups of a boundary direction are applied;
the group test of a direction that has retried 16 times in 1 ms records what it finds; detours follow a change. -/
def Obligations.MeshFailures : Prop :=
  ∀ (s : State) (k : ClusterId) (port : MeshPort) (f : FieldId) (b : Fin 16) (lost : FieldLoss) (bad : BitVec 68),
    s.mode.works = true →
    let v := s.fieldOf f.val
    let g := v.boundary b.val
    (s.meshRuns k.val = true → boundaryOf k.val port = none →
      exec (.flitRefused k port) s = .next (s.routerBump k.val 4 1)) ∧
    (∀ e d, s.meshRuns k.val = true → boundaryOf k.val port = some (e, d) →
      ∃ t, exec (.flitRefused k port) s = .next t ∧
        ((t.fieldOf e).boundary d).score = satAdd16 ((s.fieldOf e).boundary d).score 1 ∧
        t = { s.routerBump k.val 4 1 with fields := t.fields }) ∧
    exec .detourUpdate s = .next s.detourUpdate ∧
    (fieldServes v = true → exec (.fieldDark f lost) s = .next (s.goDark f.val lost) ∧
      ∀ e ∈ (s.goDark f.val lost).mesh, e ∈ s.mesh ∧ e.router / 16 ≠ f.val) ∧
    (v.state = .dark → v.temp.toInt ≤ 95 * 16 → exec (.fieldReturn f true) s = .next (s.putField f.val { v with
      state := .throttled, thStep := 8, osc := .locked, arithGated := false, meshGated := false })) ∧
    (v.state = .dark → 95 * 16 < v.temp.toInt → exec (.fieldReturn f true) s = .next s) ∧
    (fieldServes v = true →
      let new := s.recordedGroups f.val b.val
      boundaryWidth new = boundaryWidth g.bad → exec (.boundaryMapApply f b) s =
        .next (s.modBoundary f.val b.val (fun g => { g with bad := new }))) ∧
    (fieldServes v = true → 16 ≤ g.retries → bad &&& ~~~(s.recordedGroups f.val b.val) = 0 →
      exec (.hopRetryGroupTest f b bad) s = .next (s.modBoundary f.val b.val (fun g => { g with retries := 0 }))) ∧
    (∀ p : Fin 68, fieldServes v = true → 16 ≤ g.retries → (s.recordedGroups f.val b.val).getLsbD p.val = false →
      let score := satAdd16 g.score 64
      exec (.hopRetryGroupTest f b (BitVec.twoPow 68 p.val)) s =
        .next ((s.modBoundary f.val b.val (fun g => { g with retries := 0, score := score })).record
          { kind := 5, t0 := BitVec.ofNat 8 f.val, t1 := BitVec.ofNat 8 b.val, t2 := BitVec.ofNat 8 p.val } false score))

/-! ## Memory tiers, images, weights and gradients -/

/-- R206, R207, R209, R214, R470, R486, R530: scrub corrects a line, or poisons the tile at home there with a FAULT; a
SUSPECT stack raises an ALARM and its score; a FAILED channel awaits Darning, and the module leaves service; a
recalibration changes nothing. R215, R214: a block is refreshed after a soft decode, 200,000 reads or 60 days, and the
least-worn data move where another block in use has been erased over 500 times more; a copy that is interrupted leaves
the data where they were. -/
def Obligations.MemoryTierEvents : Prop :=
  ∀ (s : State) (k : ClusterId) (h : StackId) (q : Fin 15) (ch : Fin 32) (tile : Option W32) (marks : BitVec 2)
    (block : Nat) (bank : Fin 32), s.mode.works = true →
    (s.scrubRuns = true → s.meshRuns k.val = true →
      exec (.scrub (.basket k tile bank) .clean) s = .next s ∧
      exec (.scrub (.basket k tile bank) (.corrected marks)) s = .next (s.scoreBasket k.val 1) ∧
      exec (.scrub (.basket k none bank) (.uncorrectable marks)) s = .next
        ((s.scoreBasket k.val 64).raise .fault 207 0 (srcCluster k.val) none [1, w64 k.val, w64 bank.val, 0])) ∧
    (s.scrubRuns = true → s.meshRuns k.val = true → ∀ w : W32,
      ∃ t, exec (.scrub (.basket k (some w) bank) (.uncorrectable marks)) s = .next t ∧
        ∀ key, key % 2 ^ 32 = w.toNat → (s.tileOf key).home = .basket k →
          (t.tileOf key).homePoisoned = true) ∧
    (s.scrubRuns = true → (s.stackOf h.val).retired = false →
      exec (.scrub (.hamper h q tile) (.corrected marks)) s = .next
        (((s.hamperBump h.val 3 1).each (s.implicated h.val q.val marks) (fun s p => s.scoreChannel p 1)).hamperBump
          h.val 7 1)) ∧
    ((s.stackOf h.val).suspect = false → (s.stackOf h.val).retired = false →
      exec (.hamperSuspect h) s = .next ((s.putStack h.val { s.stackOf h.val with
        suspect := true, score := satAdd16 (s.stackOf h.val).score 1024 }).raise .alarm 209 0 (srcStack h.val) none
          [w64 h.val])) ∧
    (let p := 32 * h.val + ch.val
     (s.channelOf p).failed = false → s.badChannel h.val ch.val = false →
      let t := s.putChannel p { s.channelOf p with failed := true }
      exec (.hamperChannelFailed h ch) s = .next (({ t with darn := { t.darn with
        pendingParts := t.darn.pendingParts ++ [channelPart h.val ch.val] } } : State).autoDrain)) ∧
    exec (.hamperChannelRecalibration h ch) s = .next s ∧
    (∀ copy : BlockCopy,
      let b := s.press.block block
      let due := b.inUse = true ∧ b.retired = false ∧ (b.softDecode = true ∨ 200000 ≤ b.reads ∨
        ms (60 * 86400000) ≤ s.since b.programmed)
      (due → exec (.pressRefresh block true copy) s = .next ((s.copyBlock block true copy).pressBump 4 1) ∧
        exec (.pressRefresh block false copy) s = .next (((s.copyBlock block false copy).pressBump 4 1).pressBump 2 1)) ∧
      (¬ due → exec (.pressRefresh block true copy) s = .next s) ∧
      (s.press.leastWorn block = true → exec (.pressWearMove ⟨block, copy⟩) s = .next (s.copyBlock block true copy)) ∧
      (s.press.leastWorn block = false → exec (.pressWearMove ⟨block, copy⟩) s = .next s)) ∧
    (s.press.leastWorn block = true →
      (∃ t, exec (.pressWearMove ⟨block, .done⟩) s = .next t ∧ t = { s with press := t.press } ∧
        t.press.block block = { erases := (s.press.block block).erases + 1 }) ∧
      ∃ t, exec (.pressWearMove ⟨block, .copyInterrupted⟩) s = .next t ∧ t = { s with press := t.press } ∧
        t.press.map = s.press.map ∧ t.press.block block = s.press.block block)

/-- R274 to R277, R280: the next extent of an installation, its tiles all arrived and the next one not fitting, is written
to fresh blocks and committed once it reads back; the last one makes the slot COMPLETE and its charge the stored length
(R202); a first failure is written again and a second leaves the slot ERASING. A slot left INCOMPLETE is erased, and an erased one is EMPTY. A
filled weight slot becomes ACTIVE at a batch boundary, and the old copy is freed once nothing refers to it. -/
def Obligations.ImagesAndWeightSlots : Prop :=
  ∀ (s : State) (w : Install) (last : W32) (n : Fin 32) (x : CtxId) (failed : List Nat), s.mode.works = true →
    (s.press.install = some w →
      let i := s.imageOf w.slot.val
      let whole := decide (last.toNat + 1 = i.tileCount.toNat)
      ∀ (l : List (Nat × ImageTile)) (bad : Nat), extentTiles i w.arrived i.nextTile.toNat last.toNat = some l →
      let bytes := extentStored i l
      i.state = .incomplete → i.nextTile.toNat ≤ last.toNat → last.toNat < i.tileCount.toNat → bytes ≤ 2 ^ 30 →
      extentCloses i w.arrived last.toNat bytes = true →
      let blocks := extentBlocks w.slot.val i.extents.toNat bytes
      let t := blocks.foldl State.programBlock ((List.range bad).foldl (fun s _ => s.failProgram) s)
      let next := { i with extents := satAdd16 i.extents 1, nextTile := last + 1, stored := i.stored + bytes,
                            tiles := l.foldl (fun t e => tput none t e.1 (some e.2)) i.tiles }
      (whole = false → exec (.pressExtentCommit i.nextTile last ⟨bytes, bad⟩ true false) s = .next
        (({ t with press := { t.press with install := some { w with
            retried := false, arrived := w.arrived.filter (fun e => last.toNat < e.1) } } } : State).putImage
          w.slot.val next)) ∧
      (whole = true → ∃ u, exec (.pressExtentCommit i.nextTile last ⟨bytes, bad⟩ true true) s = .next u ∧
        u.press.install = none ∧ u.press.map = t.press.map ∧
        u.imageOf w.slot.val = { next with state := .complete, held := false, extentsTotal := next.extents } ∧
        (u.ctxOf w.ctx.val).pressUsed = (s.ctxOf w.ctx.val).pressUsed - imageCharge i +
          imageCharge { next with extentsTotal := next.extents }) ∧
      (w.retried = false → exec (.pressExtentCommit i.nextTile last ⟨bytes, bad⟩ false whole) s = .next
        (let v := t.eraseLogical blocks.contains []
         { v with press := { v.press with install := some { w with retried := true } } })) ∧
      (w.retried = true → ∃ u, exec (.pressExtentCommit i.nextTile last ⟨bytes, bad⟩ false whole) s = .next u ∧
        u.press.install = none ∧ u.imageOf w.slot.val = { i with state := .erasing })) ∧
    ((s.imageOf n.val).state = .incomplete → (s.imageOf n.val).held = false → s.press.install = none →
      exec (.incompleteSlotErase n) s = .next (s.putImage n.val { s.imageOf n.val with state := .erasing })) ∧
    ((s.imageOf n.val).state = .erasing → (s.imageOf n.val).charged = none →
      exec (.imageSlotErased ⟨n, failed⟩) s =
        .next ((s.eraseLogical (fun l => l / 2 ^ 48 == n.val) failed).putImage n.val {})) ∧
    (let c := s.ctxOf x.val
     c.swap = .waiting → c.isOpen = false → ∃ t, exec (.slotSwitch x) s = .next t ∧
       t = { s with ctxs := t.ctxs, mboxes := t.mboxes, hostOut := t.hostOut } ∧
       (t.ctxOf x.val).activeB = !c.activeB ∧ (t.ctxOf x.val).swap = .freeing ∧
       (t.ctxOf x.val).refs = s.slotReferences x c.activeB ∧ ∀ y, y ≠ x → t.ctxOf y.val = s.ctxOf y.val) ∧
    (let c := s.ctxOf x.val
     c.swap = .freeing → c.refs = 0 → ∃ t, exec (.oldCopyFree x) s = .next t ∧ (t.ctxOf x.val).swap = .none ∧
       (t.ctxOf x.val).activeB = c.activeB ∧
       (c.activeB = true → (t.ctxOf x.val).slotA.valid = false ∧ (t.ctxOf x.val).slotB = c.slotB) ∧
       (c.activeB = false → (t.ctxOf x.val).slotB.valid = false ∧ (t.ctxOf x.val).slotA = c.slotA) ∧
       ∀ key ∈ s.slotKeys x.val (!c.activeB), t.tileOf key = {})

/-- R226, R232, R267 to R270: an admitted weight record that nothing expects only counts, or frees the slot of the transfer
that it answers too late; one that a WRECV point expects waits for the writer that holds its tile, places the tile when
every check passes, and otherwise fails the point, with a count for the check that failed; the good tile of
an installation is kept for its extent. Requests that a full port held go on behind it (R225). A WRECV point that is not
placed in time ends TIMEOUT. -/
def Obligations.WeightRecordsPlaced : Prop :=
  ∀ (s : State) (u : UnitId) (w : WeightRecord) (x : CtxId), s.admitted u 0x11 w.job = some x →
    let brim := brimOf u.val
    let t := (s.answerAsks x w).brimBump brim 0 1
    t.recordTree x w.object = none →
    (t.expects x w = none →
      (t.staleXfer x w = none → exec (.weightRecord u w) s = .next (t.brimBump brim 2 1).pump) ∧
      (∀ (k : ClusterId) (n : Nat) (b : Xfer), t.staleXfer x w = some (k, n, b) →
        exec (.weightRecord u w) s = .next (t.dropStale k n b).pump)) ∧
    (∀ (k : ClusterId) (n i : Nat) (m : Stream), t.expects x w = some (.point k n i) → t.recordWaits k n i = true →
      exec (.weightRecord u w) s = .next s) ∧
    (∀ (k : ClusterId) (n i : Nat) (m : Stream), t.expects x w = some (.point k n i) → t.recordWaits k n i = false →
      (t.slotAt k.val n).stream = some m → m.desc.op = 0x12 →
      let direct := if isServerPort u.val then m.desc.dstCluster else none
      (w.tagOk = true → ∀ (h : TileHeader) (b : Table Byte), WeightRecord.finding w = .good h b →
        exec (.weightRecord u w) s = .next
          ((((t.placeTile (t.streamKey m (m.desc.point i).2) h b w.version direct).modTile
              (t.streamKey m (m.desc.point i).2) (fun q => { q with mangledIn := w.header.fmt.getLsbD 6 })).closePoint
            k n i).pointEnds k n i (h.fmt.getLsbD 5) true).pump) ∧
      (w.tagOk = true → ∀ f, WeightRecord.finding w = f → (∀ h b, f ≠ .good h b) →
        exec (.weightRecord u w) s = .next ((t.failPoint k n i).countFinding x brim k.val w f).pump) ∧
      (w.tagOk = false → t.pointPort k.val n i = none →
        exec (.weightRecord u w) s = .next ((t.brimBump brim 4 1).failPoint k n i).pump)) ∧
    (∀ (i : Install) (h : TileHeader) (b : Table Byte), t.expects x w = some (.install i) → w.tagOk = true →
      WeightRecord.finding w = .good h b → h.fmt.getLsbD 5 = false →
      exec (.weightRecord u w) s = .next (State.pump { t with press := { t.press with install := some { i with
        arrived := tput none i.arrived w.tile.toNat (some { header := h, bytes := b }) } } })) ∧
    (∀ (k : ClusterId) (n : Fin 512) (i : Nat) (m : Stream), s.mode.works = true →
      (s.slotAt k.val n.val).stream = some m → m.desc.op = 0x12 → m.ended = none → m.pointAt i ≠ none →
      exec (.wrecvPointDeadline k n i) s = .next ((s.markTimeout k n.val).failPoint k n.val i))

/-- R293 to R297, R299 to R301: a gradient point whose source is complete sends one record for each chunk; an
acknowledgement with status OK ends the record; one for no record only counts; a record without an acknowledgement is
sent once more and then fails; an incomplete source ends its point at the deadline; the step-done post leaves once no
record is outstanding. -/
def Obligations.GradientRecords : Prop :=
  ∀ (s : State) (k : ClusterId) (n : Fin 512) (i : Nat) (x : CtxId) (u : UnitId) (a : GradAck) (g : GradRec),
    s.mode.works = true →
    let c := s.ctxOf x.val
    (∀ (m : Stream) (p : Point) (b : Nat × Binding) (port : UnitId) (form : WireForm) (map : W64) (count : Fin 2 → W32)
      (wexp : Fin 2 → W16) (codes : Fin 2 → List W64) (nan : Fin 2 → Bool), (s.slotAt k.val n.val).stream = some m →
      m.ctx = x → (m.desc.op = 0x18 ∨ m.desc.op = 0x19) → m.ended = none → m.pointAt i = some p → p.outstanding = 0 →
      s.streamBinding x m.desc = some b → s.portsFor x.val = [port] → s.portLoad port < 1023 → 2 ≤ s.freeXfers k →
      (m.desc.op = 0x18 → (s.tileOf (s.streamKey m p.src)).lock = none) → s.raccSource m i = .ready form map count wexp codes nan → ∃ r0 r1 : GradRec,
        exec (.raccPointSend k n i) s = .next
          (((s.modPoint k n.val i (fun p => { p with outstanding := 2 })).sendGrad x m r0).sendGrad x m r1) ∧
        (∀ r ∈ [r0, r1], r.stream = m.number ∧ r.object = b.2.object ∧ r.tile = BitVec.ofNat 32 p.dst ∧
          r.form = form ∧ r.step = c.step ∧ r.port = port ∧ r.second = false) ∧
        r0.chunk = false ∧ r1.chunk = true ∧ r0.seq = BitVec.ofNat 46 (2 * i) ∧ r1.seq = BitVec.ofNat 46 (2 * i + 1) ∧
        r0.bitmap = map.setWidth 32 ∧ r1.bitmap = map.extractLsb' 32 32 ∧ r0.data = codes 0 ∧ r1.data = codes 1 ∧
        r0.count = count 0 ∧ r1.count = count 1 ∧ r0.nan = nan 0 ∧ r1.nan = nan 1) ∧
    (s.admitted u 0x13 a.job = some x →
      (c.grads.find? (fun g => g.stream == a.stream && g.node == a.node && g.seq == a.seq.setWidth 46) = none →
        ∃ t, exec (.gack u a) s = .next { s.gradBump x.val 3 1 with clusters := t }) ∧
      (c.grads.find? (fun g => g.stream == a.stream && g.node == a.node && g.seq == a.seq.setWidth 46) = some g →
        a.tagOk = true → a.seq.getLsbD 47 = true → a.seq.getLsbD 46 = false → a.status = 0 →
        s.gradStream x g ≠ none → exec (.gack u a) s = .next ((s.gradBump x.val 1 1).gradDone x g))) ∧
    (c.grads.find? (fun e => e.stream == g.stream && e.seq == g.seq) = some g → s.gradStream x g ≠ none →
      (g.second = false → exec (.gradientRecordDeadline x g.stream g.seq) s = .next (s.resendGrad x g)) ∧
      (g.second = true → exec (.gradientRecordDeadline x g.stream g.seq) s = .next (s.gradFails x g 0xFF))) ∧
    (∀ (m : Stream) (p : Point), (s.slotAt k.val n.val).stream = some m → m.pointAt i = some p → m.desc.op = 0x18 →
      m.ended = none → p.outstanding = 0 →
      (s.tileOf (s.streamKey m p.src)).reduced (s.ctxOf m.ctx.val).step = false → ∃ detail : List Byte,
        exec (.raccCompletionDeadline k n i) s = .next
          (((s.markTimeout k n.val).pointEnds k n.val i false true).setMark m.ctx .short detail) ∧
        detail.take 4 = bytesLE 4 (m.handle p.src).toNat) ∧
    (c.heldDone = none → exec (.stepDoneRelease x) s = .next s) ∧
    (∀ nan, c.heldDone = some nan → c.isOpen = true → c.outstanding = 0 → c.jobRec = none →
      exec (.stepDoneRelease x) s = .next ((s.putCtx x.val { c with heldDone := none, doneSent := true }).decideStep x
        (.done (nan || c.marks.nan)))) ∧
    ((s.unitOf u.val).state = .active → ∃ t, exec (.grecDrop u) s = .next t ∧
      t = { s with units := t.units, counters := t.counters, rings := t.rings } ∧
      t.counterOf (counterKey 0 (0x70000 + 64 * brimOf u.val + 16)) =
        (s.counterOf (counterKey 0 (0x70000 + 64 * brimOf u.val + 16))).add 1)

/-! ## Messages of the trees, collectives and links -/

/-- R338, R340, R343: ARRIVE counts from a child of the group's tree under the current step, COMPLETE from the parent;
a PEG message from any other unit counts as stray and does nothing else.
R302, R344 to R350: BEGIN and the outcomes come from the parent of CTRL_TREE, go on to the children, and are
applied here: an outcome closes the step it names with its code, and one of another step only counts. REPORT and RESULT
come from a child; a REPORT at the manager decides the step. A STEP message from any other unit is stray.
R345, R350, R508: at STEP_LIMIT the manager abandons an undecided step of a training context, and a broadcast whose
results have not all come completes TIMEOUT; a worker sends its telemetry up. -/
def Obligations.TreeMessages : Prop :=
  (∀ (s : State) (u : UnitId) (m : PegMsg) (x : CtxId), s.admitted u 0x20 m.job = some x →
     (∀ r : TreeRec, s.treeRec x.val m.tree.toNat = some r →
       (treeHasChild r u.val = true → m.step = (s.ctxOf x.val).step →
         exec (.pegArrive u m) s = .next (s.linkArrive x m.tree.toNat m.group m.gen m.count.toNat m.nan)) ∧
       (treeHasChild r u.val = false → exec (.pegArrive u m) s = .next (s.treeBump x.val 4 1)) ∧
       (r.parent.toNat = u.val → exec (.pegComplete u m) s = .next (s.linkComplete x r m.group m)) ∧
       (r.parent.toNat ≠ u.val → exec (.pegComplete u m) s = .next (s.treeBump x.val 4 1))) ∧
     (s.treeRec x.val m.tree.toNat = none → exec (.pegArrive u m) s = .next (s.treeBump x.val 4 1) ∧
       exec (.pegComplete u m) s = .next (s.treeBump x.val 4 1))) ∧
  (∀ (s : State) (u : UnitId) (m : StepMsg) (b : BeginArgs) (x : CtxId) (r : TreeRec) (detail body : BitVec 256)
     (seg : Segment), s.admitted u 0x21 m.job = some x → s.ctrlTree x.val = some r →
     let c := s.ctxOf x.val
     let stray := Host.Outcome.next (φ := Fault) (ρ := Refusal) (s.treeBump x.val 4 1)
     let outcomes : List ((UnitId → StepMsg → Instr) × Byte × Fin 6) :=
       [(.commitMsg, 2, 1), (.skipMsg, 3, 2), (.abandonMsg, 4, 3), (.invalidMsg, 5, 4)]
     (r.parent.toNat = u.val → ∀ o ∈ outcomes,
       let t := s.sendDown x.val r (.step o.2.1 m [])
       (m.step = (t.ctxOf x.val).step → exec (o.1 u m) s = .next (t.closeStep x o.2.2)) ∧
       (m.step ≠ (t.ctxOf x.val).step → exec (o.1 u m) s = .next (t.gradBump x.val 7 1))) ∧
     (r.parent.toNat ≠ u.val → (∀ o ∈ outcomes, exec (o.1 u m) s = stray) ∧ exec (.beginMsg u m b) s = stray ∧
       exec (.segmentMsg u m seg) s = stray) ∧
     (r.parent.toNat = u.val → c.isOpen = false → s.mode = .ready ∨ s.mode = .run →
       let t := s.sendDown x.val r (.begin m b)
       t.changesSlot x = false → (t.beginStep x b none).2 = none →
         exec (.beginMsg u m b) s = .next (t.beginStep x b none).1) ∧
     (r.parent.toNat = u.val → seg.cmd = none →
       exec (.segmentMsg u m seg) s = .next (s.sendDown x.val r (.segment m seg))) ∧
     (treeHasChild r u.val = true →
       (s.isManager x.val = true → m.step = c.step → exec (.reportMsg u m detail) s =
         .next (s.decideStep x (.report m.cause m.node))) ∧
       (s.isManager x.val = false → exec (.reportMsg u m detail) s = .next
         ((s.treeBump x.val 5 1).sendUp x.val r (.step 0x08 m (bytesLE 32 detail.toNat)))) ∧
       (s.isManager x.val = false → exec (.telemMsg u m body) s = .next
         (s.sendUp x.val r (.step 0x12 m (bytesLE 32 body.toNat)))) ∧
       (s.isManager x.val = true → exec (.telemMsg u m body) s = .next (s.modCtx x.val (fun c => { c with
         telem := tput {} c.telem m.node.toNat { body := body, at_ := s.time } }))) ∧
       (∀ q, c.bcast = some q → exec (.resultMsg u m) s = .next ((s.modCtx x.val (fun c => { c with
         bcast := some { q with answers := q.answers.filter (fun e => e.unit != u) ++
           [{ unit := u, okCount := m.okCount, status := m.status, failNode := m.failNode }] } })).settleBcast x))) ∧
     (treeHasChild r u.val = false → exec (.reportMsg u m detail) s = stray ∧ exec (.telemMsg u m body) s = stray ∧
       exec (.resultMsg u m) s = stray)) ∧
  (∀ (s : State) (x : CtxId) (r : TreeRec), s.mode.works = true →
     let c := s.ctxOf x.val
     (s.isManager x.val = true → c.isOpen = true → c.decided = false → c.heldNan = false → c.serving = false →
       s.mode ≠ .hold → exec (.stepLimitExpiry x) s = .next (s.decideAs x 3 7 0xFFFF)) ∧
     (∀ (q : Bcast) (h : Hdr), c.bcast = some q → q.hdr = some h → exec (.broadcastTimeout x) s =
       .next ((s.putCtx x.val { c with bcast := none }).complete h stTIMEOUT)) ∧
     (s.ctrlTree x.val = some r → c.live = true → s.isManager x.val = false → 1 < s.nodesOf x.val →
       exec (.telemSend x) s = .next (s.sendUp x.val r
         (.step 0x12 (s.stepMsg x.val) (bytesLE 32 (s.telemBody x.val).toNat)))))

/-- R342, R352, R353: a chunk of a declared collective of the open step meets its slot once its source is written; UP
comes from a child and DOWN from the parent of the chunk's tree, of the declared form and with a good CRC; a chunk with a
bad CRC marks the ledger; a tile not complete at its deadline is POISONED and the ledger marked SHORT. -/
def Obligations.CollectiveChunks : Prop :=
  ∀ (s : State) (u : UnitId) (m : CollMsg) (x : CtxId) (tile : Nat) (k : Coll) (r : TreeRec),
    s.mode.works = true →
    let c := s.ctxOf x.val
    (∀ n : Fin 16, s.openColl x n.val tile = some k →
      let t := s.tileOf (s.tileKey (k.decl.src + BitVec.ofNat 32 tile))
      (∀ chunk, t.lastStep = some c.step → t.lock = none → t.moving = false → k.hasOwn tile chunk = false →
        s.treeRec x.val (k.treeOf chunk) = some r →
        exec (.collSourceWritten x n tile chunk) s = .next (s.takeChunk x n k ⟨BitVec.ofNat 32 tile, chunk, none⟩)) ∧
      (k.written.contains (BitVec.ofNat 32 tile, false) = false → exec (.collDeadline x n tile) s = .next
        ((s.poisonTile (s.tileKey (k.decl.dst + BitVec.ofNat 32 tile))).setMark x .short
          (bytesLE 4 (k.decl.dst + BitVec.ofNat 32 tile).toNat)))) ∧
    (m.wf = false → exec (.collUp u m) s = .fault .illFormed ∧ exec (.collDown u m) s = .fault .illFormed) ∧
    (let t := s.treeBump x.val 1 1
     m.wf = true → s.admitted u 0x22 m.job = some x → (t.ctxOf x.val).isOpen = true →
     m.step = (t.ctxOf x.val).step → t.openColl x m.coll.val m.tile.toNat = some k →
     t.treeRec x.val (k.treeOf m.chunk) = some r → m.fp32 = k.sumsFp32 →
     (treeHasChild r u.val = true → collCrc m.fp32 m.bitmap m.body = m.crc →
       exec (.collUp u m) s = .next (t.takeChunk x m.coll k ⟨m.tile, m.chunk, some m⟩)) ∧
     (treeHasChild r u.val = true → collCrc m.fp32 m.bitmap m.body ≠ m.crc →
       exec (.collUp u m) s = .next ((t.treeBump x.val 3 1).setMark x .crc
         (bytesLE 12 0 ++ bytesLE 4 m.tile.toNat ++ [if m.chunk then 1 else 0, 0]))) ∧
     (treeHasChild r u.val = false → exec (.collUp u m) s = .next (t.treeBump x.val 4 1)) ∧
     (r.parent.toNat ≠ u.val → exec (.collDown u m) s = .next (t.treeBump x.val 4 1)) ∧
     (r.parent.toNat = u.val → k.held = [] → treeChildren r = [] → collCrc m.fp32 m.bitmap m.body = m.crc →
       exec (.collDown u m) s = .next ((t.writeChunk x m.coll.val k m.tile.toNat m.chunk
         (chunkOf m.fp32 m.bitmap m.poison m.nan m.body)).modColl x m.coll.val (fun k => k.freeSlot m.tile m.chunk))))

/-- R307, R315 to R321, R324, R329: a codeword with up to 15 wrong symbols counts as corrected, one with more as
uncorrectable; a flit with a bad CRC or a reserved bit set is discarded, counted and answered with NAK; a good one's ACK
takes the flits it covers out of the replay buffer; a DATA flit in sequence is taken and the next SEQ expected; one out of
sequence is answered with one NAK. A transmitter whose ACK does not advance sends what it keeps again, in order. A
delivered message frees its buffers as it leaves them, and is admitted for an open context; one of no context, or at a
fence, counts as dropped, and a STEP message of no known SUBTYPE as stray (R341). In a gang all this is the state of its lowest member. -/
def Obligations.FlitsInSequence : Prop :=
  ∀ (s : State) (u : UnitId) (f : Flit) (wrong : List (Fin 544)) (mtype : Byte) (job : W16), s.mode.works = true →
    (s.unitOf u.val).state = .active →
    let l := s.gangLead u.val
    let k := s.unitOf l
    let s1 := if wrong = [] then s else s.linkBump u.val (if wrong.eraseDups.length ≤ 15 then 0 else 1) 1
    let bad := f.reservedSet = true ∨ f.crc ≠ flitCrc f
    let acked := k.takeAck f
    ((s.unitOf u.val).gangLow = none → l = u.val) ∧
    (f.wf = false → exec (.flitReceive u ⟨f, wrong⟩) s = .fault .illFormed) ∧
    (f.wf = true → bad → exec (.flitReceive u ⟨f, wrong⟩) s =
      .next (((s1.putUnit l k.nak).linkBump u.val 2 1).scoreUnit u.val 1)) ∧
    (k.nak.nakSent = true ∧ ∃ g : Flit, k.nak.wire = k.wire ++ [g] ∧ g.nak = true ∧ g.ack = k.nextSeq - 1 ∧
      g.crc = flitCrc g) ∧
    (f.wf = true → ¬ bad → f.nak = false → f.kind ≠ .data →
      exec (.flitReceive u ⟨f, wrong⟩) s = .next (s1.putUnit l acked)) ∧
    (acked.ackSeq = f.ack ∧ acked.goBacks = (if f.ack = k.ackSeq then k.goBacks else 0) ∧
      ∀ (older later : List Flit) (g : Flit), k.replay = older ++ g :: later → g.seq = f.ack →
        (∀ o ∈ older, o.seq ≠ f.ack) → k.txWait = [] → acked.replay = later) ∧
    (f.wf = true → ¬ bad → f.nak = false → f.kind = .data → f.resync = false →
      (f.seq = k.nextSeq → exec (.flitReceive u ⟨f, wrong⟩) s = .next (s1.putUnit l (acked.takeData f)) ∧
        (acked.takeData f).nextSeq = k.nextSeq + 1) ∧
      (f.seq ≠ k.nextSeq → exec (.flitReceive u ⟨f, wrong⟩) s =
        .next (s1.putUnit l (if k.nakSent = true then acked else acked.nak)))) ∧
    (k.replay ≠ [] → exec (.replayTimeout u) s =
      .next (((s.putUnit l { k with goBacks := k.goBacks + 1 }.replayAll).linkBump u.val 3 1).scoreUnit u.val 2)) ∧
    (∃ again : List Flit, k.replayAll.wire = k.wire ++ again ∧ again.map Flit.seq = k.replay.map Flit.seq) ∧
    (∀ d : Delivered, k.delivered.find? (fun d => d.mtype == mtype && d.job == job) = some d → job ≠ 0 → mtype ≠ 1 →
      mtype ≠ 2 →
      let t := s.putUnit l (k.release d)
      (k.release d).freed = tput 0 k.freed d.vc (tget 0 k.freed d.vc + d.flits) ∧
      (t.ctxOfJob job = none → exec (.messageAdmission u mtype job) s = .next (t.linkBump u.val 6 1)) ∧
      (∀ x, t.ctxOfJob job = some x → t.unitOpen u.val x = false →
        exec (.messageAdmission u mtype job) s = .next (t.linkBump u.val 7 1)) ∧
      (∀ x, t.ctxOfJob job = some x → t.unitOpen u.val x = true → mtypeAdmitted u.val mtype = true →
        exec (.messageAdmission u mtype job) s =
          .next (if mtype = 0x21 ∧ stepSubtype d.subtype = false then t.stray (Fin.ofNat 8 x) else t)))

/-- R308, R311 to R314, R321 to R323, R486: the training stages in their order, the third failure taking the unit DOWN
and a DOWN unit training again; eight go-backs in a row, or the loss of a lane, start a fast retrain; a degrading lane is
switched to the spare one and recorded.
R326 to R328: a TIME request is answered with the stamps of the time base; the parent's answer disciplines it; a
module with a parent asks it; without an answer for 10 ms a LOCKED time base goes on in HOLDOVER. -/
def Obligations.LinksAndTimeBase : Prop :=
  (∀ (s : State) (u : UnitId) (lanes : BitVec 576) (signal badTx badRx : BitVec 9) (kind : PeerKind)
     (serial : BitVec 48) (unit : BitVec 7) (ns : W16) (rx : Bool) (lane : Fin 9), s.mode.works = true →
     let k := s.unitOf u.val
     let goes : Instr → LinkUnit → Prop := fun i k' => exec i s = .next (s.putUnit u.val k')
     (k.hostStop = false →
       (k.state = .wait → 4 ≤ popcount signal → goes (.trainingStage u (.wait signal))
         { k with state := .training, stage := .lock, badRx := ~~~signal }) ∧
       (k.trains = true → k.hostTrained = false →
         (k.stage = .lock → k.fastRetrain = false →
           goes (.trainingStage u (.lock lanes)) { k with stage := .eq }) ∧
         (k.stage = .lock → k.fastRetrain = true →
           goes (.trainingStage u (.lock lanes)) { k with stage := .align }) ∧
         (k.stage = .eq → goes (.trainingStage u (.eq lanes)) { k with stage := .align }) ∧
         (k.stage = .align → k.fastRetrain = true → exec (.trainingStage u (.align badTx badRx)) s =
           .next (s.alignUnit u.val badTx badRx)) ∧
         (k.stage = .ident → (kind = .server ↔ isServerPort u.val = true) →
           goes (.trainingStage u (.ident kind serial unit true))
             { k with peer := some kind, serial := serial, peerUnit := unit, stage := .rtt }) ∧
         (k.stage = .rtt → k.timeParent = false → exec (.trainingStage u (.rtt ns)) s =
           .next ((s.putUnit u.val { k with state := .active, stage := .lock, fastRetrain := false, failures := 0 }).modUnit
             (s.gangLead u.val) LinkUnit.drain)))) ∧
     (k.trains = true →
       (k.fastRetrain = false → k.failures < 2 → goes (.trainingStageFail u)
         { k with stage := .lock, failures := k.failures + 1, hostStop := false }) ∧
       (k.fastRetrain = false → 2 ≤ k.failures → exec (.trainingStageFail u) s = .next
         ((s.unitDown u.val .train).raise .fault 312 0 (srcUnit u.val) none [w64 u.val, w64 k.stage.code])) ∧
       (k.fastRetrain = true → goes (.trainingStageFail u)
         { k with state := .training, stage := .lock, fastRetrain := false, hostStop := false,
                  hostTrained := k.hostMode })) ∧
     (k.state = .down → k.enabled = true → k.cause ≠ .role → goes (.trainingRestart u)
       { k with state := .wait, stage := .lock, fastRetrain := false, failures := 0, cause := .none, width := .none,
                hostTrained := k.hostMode, hostStop := false }) ∧
     (k.state = .active → 8 ≤ k.goBacks → exec (.fastRetrain u) s = .next (s.beginRetrain u.val)) ∧
     (k.state = .active → exec (.laneLoss u rx lane) s = .next
       ((s.putUnit u.val (((k.markBad rx lane.val).laneScored rx lane 64).laneScored rx lane 16)).beginRetrain u.val)) ∧
     exec (.laneSpareSwitch u rx lane) s = .next (s.switchLane u.val rx lane false) ∧
     (k.state = .active → k.bad rx = 0 → lane.val < 8 →
       ∃ t, exec (.laneSpareSwitch u rx lane) s = .next t ∧
         (t.unitOf u.val).bad rx = BitVec.twoPow 9 lane.val ∧
         (if rx then (t.unitOf u.val).rxSpare else (t.unitOf u.val).txSpare) = BitVec.ofNat 4 lane.val ∧
         (t.unitOf u.val).txq = k.txq ++ [.link (.laneCopy lane)]) ∧
     (k.state = .active →
       exec (.linkMsg u (.laneCopy lane)) s = .next (s.transmit u.val 0 (.link (.laneCopy lane))) ∧
       exec (.equaliserCheck u) s = .next (s.transmit u.val 0 (.link .equaliserCheck)) ∧
       ∀ m : OutMsg, ((s.transmit u.val 0 m).unitOf u.val).txq = k.txq ++ [m]) ∧
     exec (.linkMsg u .equaliserCheck) s = .next s) ∧
  (∀ (s : State) (u : UnitId) (t1 t2 t3 t4 : W64) (depth : Byte), s.mode.works = true →
     let k := s.unitOf u.val
     (k.state = .active →
       exec (.timeMsg u (.request t1)) s = .next (s.transmit u.val 0
         (.time (.answer t1 s.time s.time 0 s.timeStatus.depth))) ∧
       (s.parentUnit = some u.val → ∃ t, exec (.timeMsg u (.answer t1 t2 t3 t4 depth)) s = .next t ∧
         t = { s with time := t.time, timeStatus := t.timeStatus } ∧ t.timeStatus.depth = depth + 1 ∧
         ((∃ e ∈ s.ctxs, e.2.live = true) → t.time = s.time)) ∧
       (s.parentUnit = some u.val → s.timeStatus.state ≠ .free → exec .timeExchange s = .next (s.transmit u.val 0
         (.time (.request s.time))))) ∧
     (s.parentUnit = none → exec .timeExchange s = .next s) ∧
     (s.timeStatus.state = .locked → exec .holdover s = .next
       { s with timeStatus := { s.timeStatus with state := .holdover, slew := 0 } }))

/-! ## The command loop and the window -/

/-- R357, R371, R372: the completion of a held command is written behind the others of its mailbox, with the PHASE of its
slot, on port B where the mailbox prefers it and it is ACTIVE, or A is not; MBOX_TAIL goes on by one, the command is no longer held, and nothing else changes.
R369, R370, R375: a host command that is not held, or not yet to be taken, does nothing. One that is taken
completes with REFUSED where its mailbox may not send it, with BAD_ARG where its CTX or JOB is wrong, and with
NOT_READY outside its states, in that order, and nothing else changes. -/
def Obligations.HostCommandLoop : Prop :=
  (∀ (s : State) (h : Hdr) (e : HeldCmd) (st : Byte) (d : W32) (nan : Bool) (r : List W64),
     let m := s.mboxOf h.mbox.val
     m.held.find? (fun e => e.hdr.seq == h.seq) = some e →
     let t := s.complete h st d nan r
     t = { s with mboxes := t.mboxes, hostOut := t.hostOut } ∧
     t.mboxOf h.mbox.val = { m with tail := m.tail + 1, held := m.held.filter (fun e => e.hdr.seq != h.seq) } ∧
     (∀ n, n ≠ h.mbox.val → t.mboxOf n = s.mboxOf n) ∧
     t.hostOut = s.hostOut ++ (.completion
       { seq := h.seq, opcode := e.opcode, status := st, nan := nan, ctx := e.hdr.ctx, mbox := h.mbox, job := e.hdr.job,
         detail := d, time := s.time, result := r, phase := decide (m.tail.toNat / 64 % 2 = 0),
         onB := (m.preferB && s.portB) || !s.portA } ::
       (if e.irq && m.irqEn then [.vector m.vector] else []))) ∧
  (∀ (s : State) (h : Hdr) (cc : CtxCreateArgs) (ba : BufArgs) (rec : Option CtxRecord) (rs : List RegionRec)
     (pa : ProgramArgs) (ts : TreeSetArgs) (wb : List BindRec) (sw : SwapArgs) (bg : BeginArgs) (step : W32)
     (ca : CancelArgs) (pw : PressArgs) (slot ctx : Byte) (key : W16) (ls : List LinkRec) (mask : BitVec 128)
     (ps : List Part) (us : List (W32 × Bool)) (fs : List PhysId) (wa : WindowArgs) (kb : KeyBlob) (ak : BitVec 776) (addr : W64) (len : W32) (at_ : AttestArgs)
     (fw : FwWriteArgs) (fv : FwVerdict) (ta : TelemArgs) (mo : ModeArgs) (re : ReplyArgs),
     let W : List ModState := [.ready, .run]
     let M : List ModState := [.ready, .run, .maint]
     let A : List ModState := [.bringup, .ready, .run, .drain, .maint]
     let m := s.mboxOf h.mbox.val
     let named := h.ctx.toNat < 8
     ∀ e ∈ ([
       (.ctxCreate h cc, ⟨0x01, true, .creates, W, false, false⟩),
       (.ctxDestroy h, ⟨0x02, true, .names, [.ready, .run, .drain, .maint, .faulted], false, false⟩),
       (.ctxSave h ba, ⟨0x03, false, .names, [.ready, .run, .drain], false, false⟩),
       (.ctxRestore h ba rec, ⟨0x04, false, .names, W, false, false⟩), (.regionMap h rs, ⟨0x10, false, .names, W, false, true⟩),
       (.programLoad h pa, ⟨0x11, false, .names, W, false, true⟩), (.treeSet h ts, ⟨0x12, false, .names, W, false, true⟩),
       (.weightBind h wb, ⟨0x20, false, .names, W, false, true⟩), (.weightSwap h sw, ⟨0x21, false, .names, W, false, false⟩),
       (.stepBegin h bg, ⟨0x30, false, .names, W, false, false⟩), (.stepCommit h step, ⟨0x31, false, .names, W, false, false⟩),
       (.stepAbandon h step, ⟨0x32, false, .names, W, false, false⟩), (.streamCancel h ca, ⟨0x33, false, .names, W, false, false⟩),
       (.pressWriteInstall h pw, ⟨0x40, true, .names, M, false, true⟩), (.pressWriteErase h pw, ⟨0x40, true, .names, M, false, true⟩),
       (.pressResume h slot ctx key, ⟨0x41, true, .names, M, false, true⟩), (.linkSet h ls, ⟨0x50, true, .none, M, false, false⟩),
       (.fenceArmFence h mask, ⟨0x51, true, .names, W, false, true⟩), (.fenceArmOpen h mask, ⟨0x51, true, .names, W, false, true⟩),
       (.markBad h ⟨ps, us, fs⟩, ⟨0x60, true, .none, [.drain, .maint], false, true⟩),
       (.restore h ps, ⟨0x60, true, .none, [.drain, .maint], false, true⟩),
       (.harden h ps, ⟨0x60, true, .none, [.drain, .maint], false, true⟩), (.bistWindow h wa, ⟨0x61, true, .none, M, false, true⟩),
       (.stateSetReady h, ⟨0x62, true, .none, [.ready, .run, .drain, .maint], false, false⟩),
       (.stateSetDrain h, ⟨0x62, true, .none, [.ready, .run, .drain, .maint], false, false⟩),
       (.stateSetMaint h, ⟨0x62, true, .none, [.ready, .run, .drain, .maint], false, false⟩),
       (.stateSetReset h, ⟨0x62, true, .none, [.ready, .run, .drain, .maint, .faulted], true, false⟩),
       (.keyProvisionInstall h key kb, ⟨0x70, true, .none, M, false, false⟩),
       (.keyProvisionClear h key, ⟨0x70, true, .none, M, false, false⟩),
       (.keyProvisionAuthority h ak, ⟨0x70, true, .none, M, false, false⟩),
       (.keyProvisionPubkey h addr len, ⟨0x70, true, .none, M, false, false⟩),
       (.attest h at_, ⟨0x71, false, .either, [.ready, .run, .maint, .faulted], true, false⟩),
       (.fwStageWrite h fw, ⟨0x72, true, .none, [.maint], true, false⟩), (.fwStageVerify h fv, ⟨0x72, true, .none, [.maint], true, false⟩),
       (.fwStageActivate h, ⟨0x72, true, .none, [.maint], true, false⟩), (.fwStageConfirm h, ⟨0x72, true, .none, [.maint], true, false⟩),
       (.fwStageAbandon h, ⟨0x72, true, .none, [.maint], true, false⟩),
       (.telemRead h ta, ⟨0x80, false, .none, .faulted :: A, true, false⟩), (.modeSet h mo, ⟨0x81, true, .either, M, false, false⟩),
       (.hostWait h addr len, ⟨0x90, true, .none, A, false, false⟩), (.hostReply h re, ⟨0x91, true, .none, A, false, false⟩)] :
         List (Instr × CmdRow)),
       let refused := (e.2.admin = true ∧ m.admin = false ∧ h.mbox.val ≠ 0) ∨
         (named ∧ m.ctxMask.getLsbD h.ctx.toNat = false)
       let badCtx := (e.2.ctx = .names ∨ e.2.ctx = .creates) ∧ ¬ named ∨ e.2.ctx = .none ∧ named
       let badJob := named ∧ e.2.ctx ≠ .creates ∧ h.job ≠ (s.ctxOf h.ctx.toNat).job ∨ ¬ named ∧ h.job ≠ 0
       let outside := s.mode ∉ e.2.states ∨ (s.mgmt.recovery = true ∧ e.2.recovery = false)
       (s.takes h e.2.opcode = false → exec e.1 s = .next s) ∧
       (s.takes h e.2.opcode = true →
         (refused → exec e.1 s = s.finishes h stREFUSED) ∧
         (¬ refused → badCtx ∨ badJob → exec e.1 s = s.finishes h stBAD_ARG) ∧
         (¬ refused → ¬ (badCtx ∨ badJob) → outside → exec e.1 s = s.finishes h stNOT_READY) ∧
         (¬ refused → ¬ (badCtx ∨ badJob) → ¬ outside → (e.2.ctx = .names → (s.ctxOf h.ctx.toNat).live = true) →
           h.rsv = true → e.2.rsvChecked = true → ∃ d, exec e.1 s = (s.useFree).finishes h stBAD_ARG d)))

/-- R358, R364 to R369: a doorbell moves PRODUCER or CONSUMER within 64 of the ring, and counts in WIN_ERR otherwise;
MBOX_CTRL enables a mailbox with aligned rings and its SEQ0, or disables it and clears ERR; a descriptor that passes
the first check of R369 is held, one that does not completes with BAD_ARG, and a failed fetch sets ERR with its
cause.
R357, R359 to R363, R391, R504 to R507: a window write of 8 aligned bytes takes effect where the location can be
written, and counts in WIN_ERR otherwise; the ports, the status mirror with its sequence and MMP_OK, the export of
the unread records of a ring below 1,024 beyond EXP_CONS, and the telemetry sample. -/
def Obligations.MailboxesAndWindow : Prop :=
  (∀ (s : State) (m : MboxId) (v : W64) (bytes : Nat) (d : Descriptor), s.windowUp = true →
     let b := s.mboxOf m.val
     let p : W16 := v.extractLsb' 0 16
     let put : Mbox → Result := fun b' => .next (s.putMbox m.val b')
     (bytes = 8 ∨ bytes = 4 →
       ((p - b.head).toNat ≤ 64 → exec (.sqDb m v bytes) s = put { b with producer := p }) ∧
       (64 < (p - b.head).toNat → exec (.sqDb m v bytes) s = .next s.winErr) ∧
       ((b.tail - p).toNat ≤ 64 → exec (.cqDb m v bytes) s = put { b with consumer := p }) ∧
       (64 < (b.tail - p).toNat → exec (.cqDb m v bytes) s = .next s.winErr)) ∧
     (bytes ≠ 8 → bytes ≠ 4 → exec (.sqDb m v bytes) s = .next s.winErr ∧ exec (.cqDb m v bytes) s = .next s.winErr) ∧
     (let set : Mbox := { b with
        admin := m.val == 0 || v.getLsbD 1, preferB := v.getLsbD 2, irqEn := v.getLsbD 3, vector := v.extractLsb' 4 5,
        ctxMask := v.extractLsb' 16 8, seq0 := v.extractLsb' 32 32 }
      let aligned := b.sqBase.toNat % 16384 = 0 ∧ b.cqBase.toNat % 4096 = 0
      (v.getLsbD 0 = true → b.enable = false → b.held = [] →
        (aligned → exec (.mboxCtrl m v) s = put { set with enable := true, expectSeq := v.extractLsb' 32 32 }) ∧
        (¬ aligned → exec (.mboxCtrl m v) s = put { set with err := true, errCause := 3 })) ∧
      (v.getLsbD 0 = true → b.enable = true → exec (.mboxCtrl m v) s = put { b with irqEn := v.getLsbD 3 }) ∧
      (v.getLsbD 0 = false → b.enable = true ∨ b.held ≠ [] → exec (.mboxCtrl m v) s =
        put { b with irqEn := v.getLsbD 3, enable := false, err := false, errCause := 0 })) ∧
     (b.enable = true → b.err = false → b.producer ≠ b.head → (b.head - b.consumer).toNat < 64 → s.mode ≠ .hold →
       s.mgmt.recovery = false →
       let taken : Mbox := { b with head := b.head + 1, expectSeq := b.expectSeq + 1 }
       (d.fetch = .failed → exec (.descriptorFetch m d) s = put { b with err := true, errCause := 2 }) ∧
       (d.fetch = .late → exec (.descriptorFetch m d) s = put { b with err := true, errCause := 1 }) ∧
       (d.fetch = .ok → descriptorOk d b.expectSeq = true → exec (.descriptorFetch m d) s = put { taken with
         held := b.held ++ [{ opcode := d.opcode, order := d.flags.getLsbD 0, irq := d.flags.getLsbD 2,
                              hdr := { mbox := m, seq := d.seq, ctx := d.ctx, job := d.job, opt := d.opt } }] }) ∧
       (d.fetch = .ok → d.seq ≠ b.expectSeq ∨ d.hcheck ≠ crc16 (descriptorBytes d) ∨ d.flags &&& 0xF8 ≠ 0 ∨ d.rsv9 ≠ 0 ∨
           (8 ≤ d.ctx.toNat ∧ d.ctx ≠ 0xFF) ∨ optBits d.opcode = none →
         ∃ t, exec (.descriptorFetch m d) s = .next t ∧ t = { s with mboxes := t.mboxes, hostOut := t.hostOut } ∧
           t.mboxOf m.val = { taken with tail := b.tail + 1 } ∧
           ∃ c rest, t.hostOut = s.hostOut ++ .completion c :: rest ∧ c.seq = d.seq ∧ c.opcode = d.opcode ∧
             c.status = stBAD_ARG ∧ c.mbox = m)) ∧
     (b.enable = true → b.err = false →
       exec (.hostAccessDeadline (.descriptor m true)) s = put { b with err := true, errCause := 1 } ∧
       exec (.hostAccessDeadline (.descriptor m false)) s = put { b with err := true, errCause := 2 }) ∧
     (∀ c late, .completion c ∈ s.hostOut → c.mbox = m →
       ∃ t, exec (.hostAccessDeadline (.completion m c.seq late)) s = .next t ∧
         t = { s with mboxes := t.mboxes, hostOut := t.hostOut } ∧ .completion c ∉ t.hostOut ∧
         (t.mboxOf m.val).err = true ∧ (t.mboxOf m.val).errCause = if late then 1 else 2) ∧
     (∀ cls : Fin 4, (s.ringOf cls.val).enable = true → exec (.hostAccessDeadline (.exportRing cls)) s = .next
       ((s.putRing cls.val { s.ringOf cls.val with enable := false }).raise .fault 505 0 srcModule none [w64 cls.val]))) ∧
  (∀ (s : State) (off : W16) (v : W64) (portB : Bool) (cls : Fin 4), s.windowUp = true →
     let n := off.toNat
     let g := s.ringOf cls.val
     let write := exec (.registerWrite off v 8) s
     (n = 0x1100 → write = .next { s with traceMask := v }) ∧
     (n < 0x100 → write = .next s.winErr) ∧
     (n % 8 ≠ 0 → write = .next s.winErr) ∧
     (∀ m : MboxId, n = 0x200 + 64 * m.val → let b := s.mboxOf m.val
       (b.enable = false → b.held = [] → write = .next (s.putMbox m.val { b with sqBase := v })) ∧
       (b.enable = true → write = .next s)) ∧
     (∀ m : MboxId, n = 0x208 + 64 * m.val → let b := s.mboxOf m.val
       b.enable = false → b.held = [] → write = .next (s.putMbox m.val { b with cqBase := v })) ∧
     (n = 0x1000 + 64 * cls.val → g.enable = false → write = .next (s.putRing cls.val { g with base := v })) ∧
     exec (.expCtrl cls v) s = .next (s.putRing cls.val { g with
       enable := v.getLsbD 0, irqEn := v.getLsbD 1, vector := v.extractLsb' 2 5 }) ∧
     (let c : W32 := v.extractLsb' 0 32
      let beyond := precedes g.prod c = true ∨ unordered g.prod c = true
      (¬ beyond → exec (.expCons cls v) s = .next (s.putRing cls.val { g with cons := c })) ∧
      (beyond → exec (.expCons cls v) s = .next s.winErr)) ∧
     (let out := g.unread.take (1024 - (g.prod - g.cons).toNat)
      s.mode ≠ .hold → g.enable = true → ∀ last, out.getLast? = some last →
       exec (.eventExport cls true) s = .next { (s.putRing cls.val { g with
         unread := g.unread.drop out.length, prod := last.seq + 1 }) with
           hostOut := s.hostOut ++
             out.map (fun e => HostOut.event (g.base + BitVec.ofNat 64 (64 * (e.seq.toNat % 1024))) cls e) ++
             (if g.irqEn then [.vector g.vector] else []) } ∧
       exec (.eventExport cls false) s = .next
         ((s.putRing cls.val { g with enable := false }).raise .fault 505 0 srcModule none [w64 cls.val])) ∧
     (∃ t, exec .mirrorUpdate s = .next t ∧ t = { s with mirror := t.mirror, mirrorSeq := s.mirrorSeq + 1, mmpOk := true } ∧
       t.mirror.time = s.time ∧ t.mirror.status = s.modStatus ∧ ∀ m : MboxId,
         t.mirror.heads[m] = (s.mboxOf m.val).head ∧ t.mirror.tails[m] = (s.mboxOf m.val).tail) ∧
     exec .mmpOkClear s = .next { s with mmpOk := false } ∧
     exec (.civlinkPortDown false) s = .next { s with portA := false } ∧
     exec (.civlinkPortDown true) s = .next { s with portB := false } ∧
     exec (.civlinkPortActive false) s = .next { s with portA := true } ∧
     exec (.civlinkPortActive true) s = .next { s with portB := true } ∧
     (s.mode ≠ .hold → ∃ t, exec .telemSample s = .next t ∧ t = { s with telemSample := t.telemSample } ∧
       t.telemSample.time = s.time ∧ t.telemSample.sampleNo = s.telemSample.sampleNo + 1 ∧
       t.telemSample.power = s.powerStatus ∧ ∀ x : CtxId, t.telemSample.ctxs[x] = (s.ctxOf x.val).sampleWord))

/-! ## Commands on contexts, regions and steps -/

/-- R131 to R133, R376 to R378, R396, R413, R453: CTX_CREATE binds the job, the quotas and the measurement, fences every
unit for the context and leads READY to RUN, or names the check that fails; CTX_DESTROY leaves nothing of the context;
CTX_SAVE writes the context record, and CTX_RESTORE takes up the slots, step and versions of one whose job and regions
fit. -/
def Obligations.ContextCommands : Prop :=
  ∀ (s : State) (h : Hdr) (a : CtxCreateArgs) (b : BufArgs) (r : CtxRecord),
    let x := namedCtx h
    let c := s.ctxOf x.val
    (s.accepts h ctxCreateRow = true → a.sumf.toNat ≤ 1 → a.tubHold.toNat ≤ 4095 →
      (32 < a.pocket.toNat → exec (.ctxCreate h a) s = s.finishes h stBAD_ARG 4) ∧
      (a.pocket.toNat ≤ 32 → a.basket.toNat ≤ 184 → a.hamper.toNat ≤ 1424 → a.press.toNat ≤ 8000 →
        (c.live = true → exec (.ctxCreate h a) s = s.finishes h stREFUSED) ∧
        (c.live = false → (s.ctxOfJob h.job).isSome = true → exec (.ctxCreate h a) s = s.finishes h stBAD_ARG) ∧
        (c.live = false → s.ctxOfJob h.job = none → s.quotaOver a = true →
          exec (.ctxCreate h a) s = s.finishes h stNO_QUOTA) ∧
        (c.live = false → s.ctxOfJob h.job = none → s.quotaOver a = false → ∃ t : State,
          exec (.ctxCreate h a) s = t.finishes h ∧ t.mode = .run ∧ (∀ u : UnitId, t.unitOpen u.val x.val = false) ∧
          (∀ y, y ≠ x.val → t.ctxOf y = s.ctxOf y) ∧
          t = { s with ctxs := t.ctxs, units := t.units, clusters := t.clusters, counters := t.counters, mode := t.mode,
                       mgmt := { s.mgmt with keyPairs := s.mgmt.keyPairs + 1 } } ∧
          t.ctxOf x.val = { live := true, xts := some s.mgmt.keyPairs, job := h.job, sumFp32 := a.sumf == 1, tubHold := a.tubHold.toNat,
                            pocketQuota := a.pocket.toNat, basketQuota := a.basket.toNat, hamperQuota := a.hamper.toNat,
                            pressQuota := a.press.toNat,
                            measure := Config.sha384 (bytesLE 48 0 ++ bytesLE 2 1 ++ ctxCreateBytes a) }))) ∧
    (s.accepts h ctxDestroyRow = true → ∃ t : State, exec (.ctxDestroy h) s = t.finishes h ∧ t.ctxOf x.val = {} ∧
      (∀ n, (t.coreOf n).running ≠ some x) ∧ (∀ n, (t.regionOf n).owned = true → (t.regionOf n).ctx ≠ x) ∧
      (∀ n, (t.pegOf n).configured = true → (t.pegOf n).ctx ≠ x)) ∧
    (s.accepts h ctxSaveRow = true → b.source = 0 →
      let rec_ := s.ctxRecord x false
      (ctxRecordLen rec_ ≤ b.len.toNat →
        exec (.ctxSave h b) s = State.finishes { s with hostOut := s.hostOut ++ [.record b.addr rec_] } h) ∧
      (b.len.toNat < ctxRecordLen rec_ →
        exec (.ctxSave h b) s = s.finishes h stBAD_ARG 16 [w64 (ctxRecordLen rec_)])) ∧
    (s.accepts h ctxRestoreRow = true → b.source = 0 → h.opt &&& 3 ≠ 3 → ctxRecordLen r ≤ b.len.toNat →
      (r.crcOk = false ∨ r.job ≠ h.job → exec (.ctxRestore h b (some r)) s = s.finishes h stBAD_ARG) ∧
      (r.crcOk = true → r.job = h.job → r.regions.length ≠ (s.regionsOf x.val).length →
        exec (.ctxRestore h b (some r)) s = s.finishes h stNOT_READY) ∧
      (r.crcOk = true → r.job = h.job → r.regions = [] → s.regionsOf x.val = [] → r.serving = false →
        exec (.ctxRestore h b (some r)) s = State.finishes (s.putCtx x.val { c with
          activeB := r.wslot.getLsbD 0, slotA := { tag := r.aTag, valid := r.wslot.getLsbD 1 },
          slotB := { tag := r.bTag, valid := r.wslot.getLsbD 2 }, step := r.step, version := r.version, batch := r.batch,
          stepRecorded := true, freshStep := true,
          lastOutcome := if r.stepOpen then 5 else c.lastOutcome,
          lastOutcomeStep := if r.stepOpen then r.step else c.lastOutcomeStep }) h))

/-- R242, R336, R337, R339, R350, R379: REGION_MAP and PROGRAM_LOAD are applied here, or their failing check ends them;
with BROADCAST the manager sends them down CTRL_TREE and waits for the RESULTs, and a worker refuses. TREE_SET of a
good table installs it in the context's measurement; a bad one is BAD_ARG with the field's offset.
R22, R233, R251, R347, R380, R381, R383: STEP_BEGIN at the manager opens the step and waits for its outcome; a
worker refuses it, and its failing check ends it. STEP_COMMIT and STEP_ABANDON decide a step that is held for NAN, and
only that. STREAM_CANCEL cancels the streams it names. -/
def Obligations.RegionStepAndStreamCommands : Prop :=
  (∀ (s : State) (h : Hdr) (recs : List RegionRec) (a : ProgramArgs) (b : TreeSetArgs),
     let x := namedCtx h
     let c := s.ctxOf x.val
     let sent := h.opt.getLsbD 0 = true
     (s.accepts h regionMapRow = true →
       (recs = [] → ¬ sent → exec (.regionMap h recs) s = s.finishes h stBAD_ARG) ∧
       (recs ≠ [] → recs.length ≤ 256 → ¬ sent →
         (∀ e, (s.mapRegions x recs).2 = some e → exec (.regionMap h recs) s = s.finishes h e.1 e.2) ∧
         ((s.mapRegions x recs).2 = none →
           exec (.regionMap h recs) s = (s.mapRegions x recs).1.finishes h)) ∧
       (sent → s.isManager x.val = false → exec (.regionMap h recs) s = s.finishes h stREFUSED) ∧
       (sent → s.isManager x.val = true → c.bcast = none → recs ≠ [] → recs.length ≤ 256 →
         (s.mapRegions x recs).2 = none → exec (.regionMap h recs) s =
           ((s.mapRegions x recs).1.broadcast x h (16 * recs.length) (.regionMap recs)).awaits h)) ∧
     (s.accepts h programLoadRow = true →
       (¬ sent → (∀ e, s.badLoad x a = some e → exec (.programLoad h a) s = s.finishes h e.1 e.2) ∧
         (s.badLoad x a = none → ∃ t : State, exec (.programLoad h a) s = t.finishes h ∧
           (t.regionOf a.region.val).state = .loaded ∧ (t.regionOf a.region.val).stage = a.stage ∧
           (t.regionOf a.region.val).code = a.code ∧ (t.regionOf a.region.val).seq = .idle)) ∧
       (sent → s.isManager x.val = false → exec (.programLoad h a) s = s.finishes h stREFUSED)) ∧
     (s.accepts h treeSetRow = true →
       (b.nodes = 0 → b.ctx.toNat = x.val → b.flags &&& 0xFE = 0 →
         exec (.treeSet h b) s = s.finishes h stBAD_ARG 4) ∧
       (firstBad (treeSetBad x b) = none → c.job ≠ 0 →
         (c.isOpen = true → b.flags.getLsbD 0 = false → exec (.treeSet h b) s = s.finishes h stBUSY) ∧
         (c.isOpen = false → exec (.treeSet h b) s = State.finishes (s.putCtx x.val { c with
           jobRec := some { node := b.node, nodes := b.nodes, manager := b.manager, ctrlTree := b.ctrlTree.setWidth 6,
                            stepLimit := b.stepLimit, trees := b.trees },
           measure := Config.sha384 (bytesLE 48 c.measure.toNat ++ bytesLE 2 0x12 ++ treeSetBytes b) }) h)))) ∧
  (∀ (s : State) (h : Hdr) (b : BeginArgs) (step : W32) (a : CancelArgs),
     let x := namedCtx h
     let c := s.ctxOf x.val
     let held := s.isManager x.val = true ∧ c.isOpen = true ∧ c.heldNan = true ∧ c.step = step
     (s.accepts h stepBeginRow = true →
       (s.isManager x.val = false → 1 < s.nodesOf x.val → exec (.stepBegin h b) s = s.finishes h stREFUSED) ∧
       (s.isManager x.val = true → c.swap = .waiting → c.isOpen = false → exec (.stepBegin h b) s = s.holdsBack h) ∧
       (s.isManager x.val = true → c.swap ≠ .waiting ∨ c.isOpen = true →
         (∀ e, s.badBegin x b = some e → exec (.stepBegin h b) s = s.finishes h e.1 e.2) ∧
         (s.badBegin x b = none → s.ctrlTree x.val = none →
           exec (.stepBegin h b) s = ((s.openStep x b (some h)).closeBatch x).awaits h ∧
           let o := (s.openStep x b (some h)).ctxOf x.val
           o.isOpen = true ∧ o.step = b.step ∧ o.beginCmd = some h ∧ o.outstanding = 0 ∧ o.marks = {}))) ∧
     (s.accepts h stepCommitRow = true →
       (h.opt.getLsbD 0 = true → held → exec (.stepCommit h step) s = (s.decideAs x 2 0 0xFFFF).finishes h) ∧
       (h.opt.getLsbD 0 = false ∨ ¬ held → exec (.stepCommit h step) s = s.finishes h stREFUSED)) ∧
     (s.accepts h stepAbandonRow = true →
       (held → exec (.stepAbandon h step) s = (s.decideAs x 3 0 0xFFFF).finishes h) ∧
       (¬ held → exec (.stepAbandon h step) s = s.finishes h stREFUSED)) ∧
     (s.accepts h streamCancelRow = true →
       (2 < a.scope.toNat → exec (.streamCancel h a) s = s.finishes h stBAD_ARG 0) ∧
       (a.scope = 0 → exec (.streamCancel h a) s = (s.cancelStreams (fun _ m => m.ctx == x)).finishes h) ∧
       (a.scope = 1 → exec (.streamCancel h a) s =
         (s.cancelStreams (fun _ m => m.ctx == x && m.region == a.region)).finishes h) ∧
       (a.scope = 2 → ∀ c : CoreId, a.lcore.toNat = c.val →
         (s.ticketCurrent x c.val a.ticket = true → exec (.streamCancel h a) s =
           (s.cancelStream (clusterOfCore c) (slotOf c.val (a.ticket.toNat % 16))).finishes h) ∧
         (s.ticketCurrent x c.val a.ticket = false → exec (.streamCancel h a) s = s.finishes h stBAD_ARG 8))))

/-! ## Commands on weights, images and links -/

/-- R260, R261, R275 to R277, R280, R382, R410: WEIGHT_BIND of STREAMED bindings makes them and completes; of RESIDENT
ones it waits for their fills. A swap fills the other slot and waits. PRESS_WRITE installs into an EMPTY slot, asking the
servers for every tile (log entry 36), or erases one that nothing names, and PRESS_RESUME goes on with one that is held. -/
def Obligations.WeightAndImageCommands : Prop :=
  ∀ (s : State) (h : Hdr) (recs : List BindRec) (a : SwapArgs) (p : PressArgs) (slot ctx : Byte) (key : W16),
    let x := namedCtx h
    let c := s.ctxOf x.val
    (s.accepts h weightBindRow = true →
      (recs = [] ∨ 16 < recs.length → exec (.weightBind h recs) s = s.finishes h stBAD_ARG) ∧
      (recs ≠ [] → recs.length ≤ 16 → (∀ e ∈ recs.zipIdx, s.badBindRec x.val recs e.2 e.1 = false) →
        (c.isOpen = true → exec (.weightBind h recs) s = s.finishes h stBUSY) ∧
        (c.isOpen = false → c.fills = [] → c.swap = .none → (∀ b ∈ recs, s.bindNotReady recs b = false) →
          (s.bindAll x.val recs).hamperOver x.val = false →
          let t := (s.bindAll x.val recs).measure x.val 0x20 (recs.flatMap bindRecBytes)
          (recs.any BindRec_resident = false → exec (.weightBind h recs) s = t.finishes h) ∧
          (recs.any BindRec_resident = true → exec (.weightBind h recs) s = (t.fillBindings x.val recs h).awaits h)))) ∧
    (s.accepts h weightSwapRow = true →
      (c.serving = false → exec (.weightSwap h a) s = s.finishes h stREFUSED) ∧
      (c.serving = true → a.version = c.activeTag → exec (.weightSwap h a) s = s.finishes h stBAD_ARG 0) ∧
      (c.serving = true → a.version ≠ c.activeTag → a.pairs = [] → c.swap = .none → c.anyValid = true → c.fills = [] →
        c.residents.any (fun e => e.2.source == 1) = false →
        (∀ e ∈ c.residents, (s.keyOf e.2.key).counter + c.residents.length ≤ 2 ^ 32) → (s.declareSwap x.val).hamperOver x.val = false →
        exec (.weightSwap h a) s =
          (((s.declareSwap x.val).measure x.val 0x21 (swapBytes a)).startSwap x.val h a).awaits h)) ∧
    (s.accepts h pressWriteRow = true → p.ctx.toNat = x.val → p.flags &&& 0xFE = 0 → p.slot.toNat < 32 →
      let i := s.imageOf p.slot.toNat
      (p.tileCount ≠ 0 → p.fmt.toNat < 15 → p.key.toNat < 256 → s.portsFor x.val ≠ [] →
        (i.state ≠ .empty → exec (.pressWriteInstall h p) s = s.finishes h stREFUSED) ∧
        (i.state = .empty → s.press.reserveBelow 100 = false → s.press.install = none → (s.keyOf p.key.toNat).filled = true →
          (s.keyOf p.key.toNat).counter < 2 ^ 32 → c.pressUsed + imageCharge (newImage p s.mgmt.keyPairs) ≤ c.pressQuota * 1000000000 →
          let number := BitVec.ofNat 32 (s.keyOf p.key.toNat).counter
          ∃ t : State, exec (.pressWriteInstall h p) s =
              t.pump.awaits h ∧
            t.press.install = some { slot := Fin.ofNat 32 p.slot.toNat, ctx := x, key := p.key.toNat, cmd := h, opcode := 0x40,
                                     number := number, asks := { last := p.tileCount.toNat } } ∧
            (t.keyOf p.key.toNat).counter = (s.keyOf p.key.toNat).counter + 1 ∧
            t.imageOf p.slot.toNat = { newImage p s.mgmt.keyPairs with charged := some x } ∧ t.mgmt.keyEncryptionKey = true ∧
            (t.ctxOf x.val) = { c with pressUsed := c.pressUsed + imageCharge (newImage p s.mgmt.keyPairs) })) ∧
      (s.slotNamed p.slot.toNat = false → s.press.reserveBelow 100 = false → s.press.install = none →
        exec (.pressWriteErase h p) s =
          State.finishes (s.putImage p.slot.toNat { i with state := .erasing, held := false }) h) ∧
      (s.slotNamed p.slot.toNat = true → exec (.pressWriteErase h p) s = s.finishes h stREFUSED)) ∧
    (s.accepts h pressResumeRow = true → ctx.toNat = x.val → slot.toNat < 32 → key.toNat < 256 → s.portsFor x.val ≠ [] →
      let i := s.imageOf slot.toNat
      (i.state ≠ .incomplete ∨ i.held = false → exec (.pressResume h slot ctx key) s = s.finishes h stBAD_ARG 0) ∧
      (i.state = .incomplete → i.held = true → i.charged = some x → s.press.reserveBelow 100 = false →
        s.press.install = none → (s.keyOf key.toNat).filled = true → (s.keyOf key.toNat).counter < 2 ^ 32 → c.pressUsed ≤ c.pressQuota * 1000000000 →
        let number := BitVec.ofNat 32 (s.keyOf key.toNat).counter
        let first := i.nextTile.toNat
        ∃ t : State, exec (.pressResume h slot ctx key) s =
            t.pump.awaits h ∧
          t.press.install = some { slot := Fin.ofNat 32 slot.toNat, ctx := x, key := key.toNat, cmd := h, opcode := 0x41,
                                   number := number, first := first,
                                   asks := { next := first, last := i.tileCount.toNat } } ∧
          t.imageOf slot.toNat = { i with resumed := true }))

/-- R312, R314, R324, R327, R329, R331, R384: LINK_SET of one unit sets its ENABLE and LOCKED, holds a disabled unit
DOWN and lets a DOWN one train; FENCE_ARM closes or opens the units of its mask for the context, and no other. -/
def Obligations.LinkCommands : Prop :=
  ∀ (s : State) (h : Hdr) (u : UnitId) (lock : Bool) (mask : BitVec 128) (v : UnitId) (y : CtxId),
    let k := s.unitOf u.val
    let rec_ : Bool → LinkRec := fun on =>
      { unit := BitVec.ofNat 8 u.val, gang := 0xFF, flags := (BitVec.ofBool lock ++ (0 : BitVec 1) ++ BitVec.ofBool on).setWidth 8 }
    (s.accepts h linkSetRow = true → k.gangLow = none →
      (k.state = .active → ∃ t : State, exec (.linkSet h [rec_ true]) s = t.finishes h ∧
        t.unitOf u.val = { k with enabled := true, timeParent := false, locked := lock }) ∧
      (k.state = .down → ∃ t : State, exec (.linkSet h [rec_ true]) s = t.finishes h ∧ (t.unitOf u.val).state = .wait ∧
        (t.unitOf u.val).enabled = true ∧ (t.unitOf u.val).failures = 0) ∧
      (∃ t : State, exec (.linkSet h [rec_ false]) s = t.finishes h ∧ (t.unitOf u.val).state = .down ∧
        (t.unitOf u.val).enabled = false) ∧
      exec (.linkSet h []) s = s.finishes h stBAD_ARG 0) ∧
    (s.accepts h fenceArmRow = true →
      let x := namedCtx h
      let at_ : Bool → State → Prop := fun on t => t = { s with units := t.units } ∧
        t.unitOpen v.val y.val = if y = x ∧ mask.getLsbD v.val = true then on else s.unitOpen v.val y.val
      (∃ t : State, exec (.fenceArmFence h mask) s = t.finishes h ∧ at_ false t) ∧
      ((s.ctxOf x.val).job ≠ 0 → ∃ t : State, exec (.fenceArmOpen h mask) s = t.finishes h ∧ at_ true t) ∧
      ((s.ctxOf x.val).job = 0 → exec (.fenceArmOpen h mask) s = s.finishes h stNOT_READY))

/-! ## Module states, repairs, keys, firmware and host requests -/

/-- R396, R397, R475, R481: STATE_SET moves between READY, RUN, DRAIN and MAINT where R396 allows it; a repair
command is applied once every stream has ended; BIST_WINDOW opens the one test window, whose command completes with
its counts. -/
def Obligations.ModuleStateCommands : Prop :=
  ∀ (s : State) (h : Hdr) (ps : List Part) (us : List (W32 × Bool)) (fs : List PhysId) (p : Part) (a : WindowArgs) (w : Window),
    let live := s.ctxs.any (fun e => e.2.live) = true
    let record : Byte → List DarnRec := fun op => ps.map (fun p => (op, p))
    (s.accepts h stateSetRow = true →
      (s.mode = .maint ∨ (s.mode = .drain ∧ s.darn.drainByCommand = true) → exec (.stateSetReady h) s =
        State.finishes { s with mode := if s.ctxs.any (fun e => e.2.live) then .run else .ready } h) ∧
      (s.mode = .ready ∨ s.mode = .run → exec (.stateSetReady h) s = s.finishes h stREFUSED) ∧
      (s.mode = .ready ∨ s.mode = .run → s.stepOpen = true → exec (.stateSetDrain h) s = s.finishes h stBUSY) ∧
      (s.mode = .ready ∨ s.mode = .run → s.stepOpen = false → s.streamsEnded = true → ∃ t : State,
        exec (.stateSetDrain h) s = t.finishes h ∧ t.mode = .drain ∧ t.darn = { s.darn with drainByCommand := true }) ∧
      (s.mode = .ready ∨ s.mode = .drain → ¬ live → ∃ t : State,
        exec (.stateSetMaint h) s = t.finishes h ∧ t.mode = .maint) ∧
      (s.mode = .ready ∨ s.mode = .drain → live → exec (.stateSetMaint h) s = s.finishes h stBUSY)) ∧
    (s.accepts h stateResetRow = true → exec (.stateSetReset h) s =
      State.finishes { s with mgmt := { s.mgmt with resetPending := true } } h) ∧
    (s.accepts h darnRow = true →
      (ps = [] ∨ 64 < ps.length → exec (.markBad h ⟨ps, us, fs⟩) s = s.finishes h stBAD_ARG 0) ∧
      (s.darnBad (record 1) = none → s.streamsEnded = false → exec (.markBad h ⟨ps, us, fs⟩) s = s.holdsBack h) ∧
      (∀ o ∈ ([(.markBad h ⟨ps, us, fs⟩, 1, us, fs), (.restore h ps, 2, [], []), (.harden h ps, 3, [], [])] :
          List (Instr × Byte × List (W32 × Bool) × List PhysId)),
        let r := s.applyDarn (record o.2.1) o.2.2.2
        (∀ b, s.darnBad (record o.2.1) = some b → exec o.1 s = s.finishes h b.1 b.2) ∧
        (s.darnBad (record o.2.1) = none → s.streamsEnded = true → s.darn.planner ≠ .waitHost → ∃ v,
          exec o.1 s = (r.1.poisonReplaced (record o.2.1) o.2.2.1).finishes h stOK noDetail [v] ∧
          v.toNat % 65536 = Nat.min r.2 65535)) ∧
      (∀ (f : W32 × Bool) (key : Nat), key = f.1.toNat + (if f.2 then 2 ^ 32 else 0) → us = [f] →
        ps.any (fun q => q.kind == 6) = true →
        ((s.applyDarn (record 1) fs).1.tileOf key).declared = true →
        (((s.applyDarn (record 1) fs).1.poisonReplaced (record 1) us).tileOf key).homePoisoned = true) ∧
      (s.mode = .drain → ps ≠ [] → ps.length ≤ 64 → (∀ q ∈ ps, partOk q = true) →
        exec (.restore h ps) s = s.finishes h stREFUSED 0 ∧ exec (.harden h ps) s = s.finishes h stREFUSED 0) ∧
      (s.mode = .maint → s.streamsEnded = true → s.darn.planner ≠ .waitHost → partOk p = true → p ∉ s.darn.fuses →
        s.darn.fuses.length < 1024 →
        ∀ e, s.darn.patch.find? (fun e => e.part == p) = some e → ∃ (t : State) (r : W64),
          exec (.harden h [p]) s = t.finishes h stOK noDetail [r] ∧
          t = { s with darn := { s.darn with
            fuses := s.darn.fuses ++ [p],
            patch := s.darn.patch.map (fun e => if e.part = p then { e with hard := true } else e) } })) ∧
    (s.accepts h bistWindowRow = true → a.flags &&& 0xF8 = 0 → 0 < a.duration.toNat → a.duration.toNat ≤ 3600000 →
      a.fields.toNat < 2 ^ 100 → (a.flags.getLsbD 2 = true → s.mgmt.gloved = false) →
      (s.darn.window = none → exec (.bistWindow h a) s =
        State.awaits { s with darn := { s.darn with window := some { cmd := h, args := a } } } h) ∧
      (s.darn.window ≠ none → exec (.bistWindow h a) s = s.finishes h stBUSY)) ∧
    (s.darn.window = some w → s.mode.works = true → (∀ e ∈ s.fields, e.2.slice = none) → exec .bistWindowEnd s =
      State.ends { s with darn := { s.darn with window := none } } w.cmd stOK noDetail [w.counts])

/-- R406, R407, R410 to R415, R420: an installed key fills its slot under its job with the counter at 0, and a cleared
one ends what used it; an authority is added, the public key written, a report signed under the next index. A firmware
slot is written, verified, activated for one trial, confirmed with its rollback number, or abandoned. -/
def Obligations.KeyAndFirmwareCommands : Prop :=
  ∀ (s : State) (h : Hdr) (slot : W16) (b : KeyBlob) (key : BitVec 776) (addr : W64) (len : W32) (a : AttestArgs)
    (fw : FwWriteArgs) (v : FwVerdict),
    let m := s.mgmt
    let withKey : State → State := fun t => { t with mgmt := { t.mgmt with keyEncryptionKey := true } }
    (s.accepts h keyProvisionRow = true →
      (255 < slot.toNat → exec (.keyProvisionClear h slot) s = s.finishes h stBAD_ARG 2) ∧
      (slot.toNat ≤ 255 → ∃ t : State, exec (.keyProvisionClear h slot) s = t.finishes h ∧
        t = withKey ((s.clearKey slot.toNat).shareKey slot.toNat) ∧ t.keyOf slot.toNat = {}) ∧
      (slot.toNat ≤ 255 → badBlob slot b = false →
        (m.authorities.length ≤ b.auth.toNat ∨ b.sigOk = false →
          exec (.keyProvisionInstall h slot b) s = s.finishes h stAUTH_FAIL) ∧
        (b.auth.toNat < m.authorities.length → b.sigOk = true → m.hostFunctions.getLsbD 7 = false →
          (b.tagOk = false → exec (.keyProvisionInstall h slot b) s = s.finishes h stAUTH_FAIL) ∧
          (b.tagOk = true → ∃ t : State, exec (.keyProvisionInstall h slot b) s = t.finishes h ∧
            t.keyOf slot.toNat = { filled := true, key := Config.sessionKey (KeyBlob.bytes b), job := b.job } ∧
            t.mgmt.keyEncryptionKey = true))) ∧
      (key.setWidth 8 ≠ (4 : Byte) → exec (.keyProvisionAuthority h key) s = s.finishes h stBAD_ARG) ∧
      (key.setWidth 8 = (4 : Byte) → m.authorities.length < 8 → exec (.keyProvisionAuthority h key) s =
        State.finishes { s with mgmt := { m with
          keyEncryptionKey := true, authorities := m.authorities ++ [key] } } h) ∧
      (key.setWidth 8 = (4 : Byte) → 8 ≤ m.authorities.length →
        exec (.keyProvisionAuthority h key) s = s.finishes h stNO_QUOTA) ∧
      (pubkeyBytes.length ≤ len.toNat → exec (.keyProvisionPubkey h addr len) s =
        (withKey { s with hostOut := s.hostOut ++ [.bytes addr pubkeyBytes] }).finishes h stOK noDetail
          [w64 pubkeyBytes.length])) ∧
    (s.accepts h attestRow = true → a.flags &&& 0xFE = 0 → 8 ≤ h.ctx.toNat →
      (2 ^ 30 ≤ m.hssNext → exec (.attest h a) s = s.finishes h stREFUSED) ∧
      (m.hssNext < 2 ^ 30 → (s.attestBytes h a).length ≤ a.len.toNat → ∃ t : State,
        exec (.attest h a) s = t.finishes h stOK noDetail [w64 (s.attestBytes h a).length] ∧
        t = { s with mgmt := t.mgmt, hostOut := s.hostOut ++ [.bytes a.addr (s.attestBytes h a)] } ∧
        t.mgmt.hssNext = m.hssNext + 1 ∧ (m.hssNext < t.mgmt.hssHigh) ∧
        t.mgmt.channelKey = (m.channelKey || a.flags.getLsbD 0))) ∧
    (s.accepts h fwStageRow = true →
      let other := if m.runningB then m.slotA else m.slotB
      let put : FwSlot → Mgmt := fun f => if m.runningB then { m with slotA := f } else { m with slotB := f }
      let good := other.headerOk = true ∧ v.digestOk = true ∧ v.ecOk = true ∧ v.lmsOk = true ∧
        m.rollback.val ≤ other.rollback
      let written := writeBytes other.image fw.offset.toNat (fw.data.take fw.len.toNat)
      let run := if m.runningB then m.slotB else m.slotA
      (fw.offset.toNat + fw.len.toNat ≤ fwSlotBytes → exec (.fwStageWrite h fw) s =
        State.finishes { s with mgmt := put { state := .incomplete, image := written } } h) ∧
      (fwSlotBytes < fw.offset.toNat + fw.len.toNat → exec (.fwStageWrite h fw) s = s.finishes h stBAD_ARG 4) ∧
      (good → other.state ≠ .empty → exec (.fwStageVerify h v) s =
        State.finishes { s with mgmt := put { other with state := .staged } } h) ∧
      (¬ good → other.state ≠ .empty → exec (.fwStageVerify h v) s =
        State.finishes { s with mgmt := put { other with state := .incomplete } } h stAUTH_FAIL) ∧
      (other.state = .staged → exec (.fwStageActivate h) s =
        State.finishes { s with mgmt := { m with trialPointer := some (!m.runningB) } } h) ∧
      (other.state ≠ .staged → exec (.fwStageActivate h) s = s.finishes h stNOT_READY) ∧
      (m.trialRunning = true → ∃ t : State, exec (.fwStageConfirm h) s = t.finishes h ∧
        t = { s with mgmt := { m with bootB := m.runningB, trialRunning := false, rollback := t.mgmt.rollback } } ∧
        (run.rollback ≤ 64 → t.mgmt.rollback.val = Nat.max m.rollback.val run.rollback)) ∧
      (m.trialRunning = false → exec (.fwStageConfirm h) s = s.finishes h stREFUSED) ∧
      exec (.fwStageAbandon h) s = State.finishes { s with mgmt := { put {} with
        trialPointer := none, trialRunning := false } } h)

/-- R385 to R390: TELEM_READ writes the registers of an aligned range; MODE_SET sets the mode of a function in its
scope; HOST_WAIT waits for a request, which goes to the oldest wait with room for it; a reply to a request that is not
given is REFUSED, one outside its ranges leaves it pending, and one within them ends it; without a reply it ends at its
limit. -/
def Obligations.ModesAndHostRequests : Prop :=
  ∀ (s : State) (h : Hdr) (a : TelemArgs) (b : ModeArgs) (addr : W64) (len : W32) (re : ReplyArgs) (r : HostReq)
    (w : HostWait) (u : UnitId),
    let x := h.ctx.toNat
    (s.accepts h telemReadRow = true → s.mgmt.recovery = false →
      (a.space.toNat ≤ 2 → (a.space = 1 → a.field.toNat ≤ 99) → a.offset.toNat % 8 = 0 →
        (a.len.toNat % 8 = 0 → a.len ≠ 0 → a.len.toNat ≤ 65536 →
          a.offset.toNat + a.len.toNat ≤ spaceSize a.space.toNat → exec (.telemRead h a) s =
            State.finishes { s with hostOut := s.hostOut ++ [.words a.addr ((List.range (a.len.toNat / 8)).map
              (fun i => s.readReg a.space.toNat a.field.toNat (a.offset.toNat + 8 * i)))] } h stOK noDetail [s.time]) ∧
        (a.len = 0 → exec (.telemRead h a) s = s.finishes h stBAD_ARG 8)) ∧
      (2 < a.space.toNat → exec (.telemRead h a) s = s.finishes h stBAD_ARG 0)) ∧
    (s.accepts h modeSetRow = true →
      (7 < b.function.toNat → exec (.modeSet h b) s = s.finishes h stBAD_ARG 0) ∧
      (b.function = 1 → s.mode = .ready ∨ s.mode = .run → b.scope = 1 → x < 8 → (s.ctxOf x).live = true →
        (s.ctxOf x).isOpen = false →
        (2 < b.mode.toNat → exec (.modeSet h b) s = s.finishes h stBAD_ARG 1) ∧
        (∀ n : Fin 3, b.mode.toNat = n.val → exec (.modeSet h b) s =
          (s.putCtx x { s.ctxOf x with reductionMode := n }).finishes h)) ∧
      (b.function = 4 → s.mode = .ready ∨ s.mode = .run → b.scope = 1 → x < 8 → (s.ctxOf x).live = true →
        (s.ctxOf x).isOpen = false → b.mode.toNat ≤ 1 →
        exec (.modeSet h b) s = (s.putCtx x { s.ctxOf x with hostSampling := b.mode != 0 }).finishes h) ∧
      (b.function = 6 → s.mode = .run → exec (.modeSet h b) s = s.finishes h stNOT_READY) ∧
      (b.function = 0 → b.scope = 2 → 8 ≤ x → b.mode.toNat ≤ 1 → ∃ t : State, exec (.modeSet h b) s = t.finishes h ∧
        t = { s with units := t.units } ∧ t.unitOf u.val = if b.units.getLsbD u.val then
          { s.unitOf u.val with hostMode := b.mode != 0 } else s.unitOf u.val)) ∧
    (s.accepts h hostWaitRow = true → exec (.hostWait h addr len) s =
      State.awaits { s with waits := s.waits ++ [{ hdr := h, addr := addr, len := len }] } h) ∧
    (s.mode ≠ .off → s.mode ≠ .hold →
      s.requests.find? (fun q => q.id == r.id && !q.given) = some r →
      let words := s.payload r.kind
      (s.waits.find? (fun w => decide (8 * words.length ≤ w.len.toNat)) = none →
        exec (.hostRequest r.id) s = .next s) ∧
      (s.waits.find? (fun w => decide (8 * words.length ≤ w.len.toNat)) = some w →
        exec (.hostRequest r.id) s = State.ends { s with
          waits := s.waits.erase w,
          requests := s.requests.map (fun q => if q.id = r.id then { q with given := true } else q),
          hostOut := s.hostOut ++ [.request w.addr r words] } w.hdr stOK noDetail
            [pack [(0, 32, r.id.toNat), (32, 8, r.kind.code), (48, 16, 8 * words.length)]])) ∧
    (s.accepts h hostReplyRow = true →
      (s.requests.find? (fun q => q.id == re.reqId && q.given) = none →
        exec (.hostReply h re) s = s.finishes h stREFUSED) ∧
      (s.requests.find? (fun q => q.id == re.reqId && q.given) = some r → re.len.toNat = re.data.length →
        (∀ e, s.badReply r.kind re.data = some e → exec (.hostReply h re) s = s.finishes h e.1 e.2) ∧
        (s.badReply r.kind re.data = none → exec (.hostReply h re) s =
          (State.applyReply { s with requests := s.requests.filter (fun q => q.id != re.reqId) } r.kind re).finishes h))) ∧
    (s.mode ≠ .off → s.mode ≠ .hold → s.requests.find? (fun q => q.id == r.id) = some r →
      let t : State := { s with requests := s.requests.filter (fun q => q.id != r.id) }
      (r.kind = .thermal → exec (.hostRequestLimit r.id) s = .next t.thermalStep) ∧
      (∀ ps, r.kind = .sparePlan ps →
        exec (.hostRequestLimit r.id) s = .next (t.raise .alarm 388 0 srcModule none [])) ∧
      (∀ hd bl, r.kind = .unwrap hd bl → exec (.hostRequestLimit r.id) s = t.ends hd stTIMEOUT) ∧
      (∀ e l, r.kind = .training u e l → (s.unitOf u.val).hostStop = false →
        exec (.hostRequestLimit r.id) s = .next t))

/-! ## Bring-up, resets and the standby -/

/-- R277, R399, R400, R401, R403, R405, R406, R430, R437: bring-up needs a GOOD reference, starts the first ring with a
boot image that verifies, enters MAINT in recovery without one, and FAULTED where the fuses or both management tiles
fail; a ring goes on in batches of fields, and READY follows the last one. A module reset keeps the Press, the fuses
and the pointers. -/
def Obligations.BringupAndReset : Prop :=
  ∀ (s : State) (b : BootFindings) (t : FieldTest),
    let m := s.mgmt
    let f := t.field.val
    let v := s.fieldOf f
    (s.mode = .bringup → s.ring = 0 → s.resetLow = false →
      (s.clocks.a ≠ .good → s.clocks.b ≠ .good →
        exec (.bringup b) s = .next (s.raise .alarm 430 1 srcModule none [])) ∧
      (s.clocks.a = .good →
        (b.fusesOk = true → b.primaryOk = true → b.systemAreaOk = true → b.connected = true → m.zeroise = false →
          ∀ slotB, m.chooseSlot b = some slotB → ∃ u : State, exec (.bringup b) s = .next u ∧ u.mode = .bringup ∧
            u.ring = 1 ∧ u.clocks.selB = false ∧ u.power.convOk = 8 ∧ u.mgmt.bringups = m.bringups + 1 ∧
            u.mgmt.runningB = slotB ∧ u.mgmt.trialPointer = none ∧ u.mgmt.standbyServes = false ∧
            u.mgmt.hssNext = Nat.max m.hssHigh (m.lmsSteps.val * 2 ^ 24)) ∧
        (b.fusesOk = true → b.primaryOk = true → m.chooseSlot b = none → ∃ u : State, exec (.bringup b) s = .next u ∧
          u.mode = .maint ∧ u.mgmt.recovery = true) ∧
        (b.fusesOk = false ∨ (b.primaryOk = false ∧ b.standbyOk = false) → ∃ u : State,
          exec (.bringup b) s = .next u ∧ u.mode = .faulted))) ∧
    (s.mode = .bringup → s.ring = ringOfField f + 1 → (v.state = .off ∨ v.state = .test ∧ v.tests = 1) →
      s.batchOf [f] = true → t.failedCores = [] → t.failedUnits = [] →
      (t.pass = true → t.imageOk = true → ∃ u : State, exec (.ringBatch [t]) s = .next u ∧ (u.fieldOf f).state = .online ∧
        (u.fieldOf f).arithGated = false ∧ (u.fieldOf f).meshGated = false ∧ (u.fieldOf f).osc = .locked ∧
        (u.ring = s.ring ∨ u.ring = s.ring + 1)) ∧
      (t.pass = false → v.tests = 0 → ∃ u : State, exec (.ringBatch [t]) s = .next u ∧
        (u.fieldOf f).state = .test ∧ (u.fieldOf f).tests = 1 ∧ u.ring = s.ring) ∧
      (t.pass = false → v.tests = 1 → ∃ u : State, exec (.ringBatch [t]) s = .next u ∧
        (u.fieldOf f).state = .retired)) ∧
    (s.mode = .bringup → s.ring = 6 → ∃ u : State, exec (.bringupComplete []) s = .next u ∧ u.mode = .ready ∧
      u.hamperUp = true ∧ u.holdArea.freeErased = true) ∧
    (s.mode ≠ .off → s.mode ≠ .hold → (∃ u : State, exec (.modReset true) s = .next u ∧ u.mode = .bringup ∧ u.ring = 0 ∧
        u.cores = [] ∧ u.ctxs = [] ∧ u.tiles = [] ∧ u.regions = [] ∧ u.fields = [] ∧ u.mboxes = [] ∧ u.time = 0 ∧
        u.press.blocks = s.press.blocks ∧ u.darn.patch = s.darn.patch ∧ u.darn.fuses = s.darn.fuses ∧
        u.mgmt.bootB = m.bootB ∧ u.mgmt.trialPointer = m.trialPointer ∧ u.mgmt.rollback = m.rollback ∧
        u.pending = s.pending) ∧
      (m.resetPending = false → exec (.modReset false) s = .next { s with resetLow := false })) ∧
    (s.mode = .hold → exec (.modReset true) s = .next { s with resetLow := true })

/-- R391, R394 to R396: a takeover withdraws the host's waits and requests, stops an installation and a window, and
leaves the standby serving; a serving standby that fails leaves the module FAULTED. A field controller that fails is
reloaded and its field reset (R437) and tested; the second failure within 24 hours retires the field. -/
def Obligations.ManagementFailures : Prop :=
  ∀ (s : State) (f : FieldId) (lost : FieldLoss),
    let m := s.mgmt
    let v := s.fieldOf f.val
    let recent := v.fcFailures.any (fun t => decide ((s.time - t).toNat ≤ 86400000 * 10000000))
    (s.mode.works = true → s.mode ≠ .faulted → m.standbyServes = false → m.standbyOk = true → ∃ t : State,
      exec .mmpTakeover s = .next t ∧ t.mode = s.mode ∧ t.waits = [] ∧ t.requests = [] ∧ t.mmpOk = false ∧
      t.press.install = none ∧ t.darn.window = none ∧ t.darn.planner = .idle ∧
      t.mgmt = { m with standbyServes := true, standbyOk := false, failedTile := true }) ∧
    (m.standbyServes = true ∨ m.standbyOk = false → exec .mmpTakeover s = .next s) ∧
    (m.standbyServes = true → s.mode ≠ .off → s.mode ≠ .hold → ∃ t : State, exec .standbyWatchdogExpiry s = .next t ∧
      t.mode = .faulted ∧ t.waits = [] ∧ t.requests = []) ∧
    (s.mode.works = true →
      (v.state = .test ∨ v.state = .dark → recent = false → exec (.fcHeartbeatLost ⟨f, lost⟩) s = .next (((s.stopThread f.val true).resetField f.val).putField f.val { v with
        state := .test, fcOk := true, closedCrossings := [], fcFailures := [s.time] })) ∧
      (fieldServes v = true → recent = false → ∃ t : State, exec (.fcHeartbeatLost ⟨f, lost⟩) s = .next t ∧
        (t.fieldOf f.val).state = .test ∧ (t.fieldOf f.val).fcFailures = [s.time]) ∧
      (fieldServes v = true ∨ v.state = .test ∨ v.state = .dark → recent = true → ∃ t : State,
        exec (.fcHeartbeatLost ⟨f, lost⟩) s = .next t ∧ (t.fieldOf f.val).state = .retired))

/-! ## Clocks, supply and heat -/

/-- R425, R429 to R431, R436: the loss of the selected reference switches to the other GOOD input, or leaves the module
without one, every unit DOWN; an input qualifies before it is GOOD, and one that comes back is selected again. The mesh
is calibrated against a GOOD input. A crossing that stops closes once, with a FAULT. -/
def Obligations.ClockEvents : Prop :=
  ∀ (s : State) (inB : Bool) (a b : W16) (f : FieldId) (other : Byte) (index : W32) (u : UnitId), s.mode.works = true →
    let c := s.clocks
    let ref : Bool → RefState := fun q => if q then c.b else c.a
    let set : RefState → Clocks := fun r => if inB then { c with b := r } else { c with a := r }
    let v := s.fieldOf f.val
    (c.selB = inB → c.noneSelected = false → ref inB = .good →
      (ref (!inB) = .good → exec (.refclkLoss inB false) s = .next (State.raise
        { s with clocks := { set .absent with selB := !inB, switches := satAdd16 c.switches 1 } } .alarm 430 0 srcModule
          none [if inB then 0 else 1])) ∧
      (ref (!inB) ≠ .good → ∃ t : State, exec (.refclkLoss inB false) s = .next t ∧
        t.clocks = { set .absent with noneSelected := true, fallback := true } ∧ t.portA = false ∧ t.portB = false ∧
        t.timeStatus.state = .holdover ∧ (t.unitOf u.val).state = .down)) ∧
    (c.selB ≠ inB → ∀ out : Bool, exec (.refclkLoss inB out) s = .next { s with
      clocks := set (if out then .outOfRange else .absent) }) ∧
    (ref inB = .absent ∨ ref inB = .outOfRange →
      exec (.refclkQualifying inB) s = .next { s with clocks := set .qualifying }) ∧
    (ref inB = .qualifying → c.noneSelected = false →
      exec (.refclkGood inB) s = .next { s with clocks := set .good }) ∧
    (ref inB = .qualifying → c.noneSelected = true → ∃ t : State, exec (.refclkGood inB) s = .next t ∧
      t.clocks.selB = inB ∧ t.clocks.noneSelected = false ∧ t.clocks.fallback = false ∧
      ((s.unitOf u.val).enabled = true → (s.unitOf u.val).state = .down → (s.unitOf u.val).cause ≠ .role →
        (t.unitOf u.val).state = .wait)) ∧
    (c.noneSelected = false → ref c.selB = .good → exec (.oscCalibration a b) s = .next { s with
      clocks := { c with aPpm := a, bPpm := b, calibrations := c.calibrations + 1 } }) ∧
    (v.closedCrossings.contains (other, index) = true → exec (.cdcTimeout (.field f other index)) s = .next s) ∧
    (v.closedCrossings.contains (other, index) = false → exec (.cdcTimeout (.field f other index)) s = .next
      ((s.putField f.val { v with closedCrossings := v.closedCrossings ++ [(other, index)],
                                  cdcTimeouts := satAdd16 v.cdcTimeouts 1 }).raise .fault 436 0 (srcField f.val) none
        [1, other.setWidth 64, index.setWidth 64]))

/-- R445, R446, R448 to R451, R462: a converter's failure lowers the caps, with an ALARM; the governor raises the power
step by 2 beyond the peak cap; a reading that leaves its range raises its event and may hold the power step at 4. The
warning, and a supply out of range, put the module in HOLD with its links DOWN and the Hamper lost; the commit writes
the contexts' records and leaves it OFF. -/
def Obligations.SupplyEvents : Prop :=
  ∀ (s : State) (r : PowerReading) (q : SupplyReading) (u : UnitId), s.mode.works = true →
    let p := s.power
    let k := p.convOk.toNat
    (0 < k → exec .converterFailure s = .next (State.raise { s with power := { p with convOk := p.convOk - 1 } } .alarm 445
      0 srcModule none [w64 (k - 1)])) ∧
    (k < 8 → exec .converterReturn s = .next { s with power := { p with convOk := p.convOk + 1 } }) ∧
    (∀ e ∈ [(8, 24000, 26000), (7, 24000, 26000), (6, 20000, 22000), (5, 16000, 18000), (4, 12000, 14000),
            (3, 8000, 10000), (2, 4000, 6000)], k = e.1 → r.averageW.toNat ≤ e.2.1 → 95 * e.2.1 ≤ 100 * r.averageW.toNat →
      ∃ t : State, exec (.powerSample r) s = .next t ∧ t = { s with power := t.power } ∧
        t.power.inputW = r.inputW ∧ t.power.averageW = r.averageW ∧ t.power.convOk = p.convOk ∧
        (r.inputW.toNat ≤ e.2.2 → t.power.pwrStep = p.pwrStep ∧ t.power.capEvents = p.capEvents) ∧
        (e.2.2 < r.inputW.toNat → t.power.pwrStep.toNat = Nat.min 15 (p.pwrStep.toNat + 2) ∧
          t.power.capEvents = satAdd16 p.capEvents 1)) ∧
    (let hot := 500 < q.coolantIn.toInt ∨ 150 < q.coolantOut.toInt - q.coolantIn.toInt
     ∃ t : State, exec (.readingCheck q) s = .next t ∧ t = { s with power := t.power, rings := t.rings } ∧
      t.power.inputV = q.j1 ∧ t.power.bus48 = q.bus48 ∧ t.power.coolantIn = q.coolantIn ∧
      t.power.coolantOut = q.coolantOut ∧ (t.power.hold4 = true ↔ hot) ∧
      (hot → t.power.pwrStep.toNat = Nat.max 4 p.pwrStep.toNat) ∧ (¬ hot → t.power.pwrStep = p.pwrStep) ∧
      (q.j1.toNat ≤ 4100 → 150 ≤ q.coolantIn.toInt → q.coolantIn.toInt ≤ 450 → ¬ hot → t.rings = s.rings)) ∧
    (∃ t : State, exec .pfWarn s = .next t ∧ t.mode = .hold ∧ t.resumeMode = s.mode ∧ t.pfSeen = true ∧
      t.hamperUp = false ∧ t.mesh = [] ∧ t.press.install = none ∧ (t.unitOf u.val).state = .down ∧
      t.holdArea.warnTime = s.time ∧ t.ctxs = s.ctxs ∧ t.cores = s.cores) ∧
    (∀ e ∈ [(SupplyFault.j1Low, 0), (.j1High, 1), (.bus48, 2)], ∃ t : State, exec (.supplyOutOfRange e.1) s = .next t ∧
      t.mode = .hold ∧ t.ringOf 0 = (s.raise .alarm 449 e.2 srcModule none [w64 e.2]).ringOf 0) ∧
    (∀ s' : State, s'.mode = .hold → ∃ t : State, exec .holdCommit s' = .next t ∧ t.mode = .off ∧ t.cores = [] ∧
      t.ctxs = [] ∧
      let xs := (List.finRange 8).filter (fun x => (s'.ctxOf x.val).live)
      (xs = [] → t.holdArea = s'.holdArea) ∧
      (xs ≠ [] → t.holdArea.holdNo = s'.holdArea.holdNo + 1 ∧
        let half := if s'.holdArea.newest1 then t.holdArea.half0 else t.holdArea.half1
        half.committed = true ∧ half.holdNo = s'.holdArea.holdNo + 1 ∧
        half.records = xs.map (fun x => s'.ctxRecord x true)))

/-- R386, R388, R455 to R459: the hottest field at 100 °C or more goes one thermal step up, and at most one field
changes; host-assisted, the host is asked instead. A reading takes the hottest good sensor; a tripped field goes DARK; a
first regulator fault holds a field at step 8, and a second one fails its controller. -/
def Obligations.HeatEvents : Prop :=
  ∀ (s : State) (f : FieldId) (readings : Vector W16 9) (sensor : Fin 9), s.mode.works = true →
    let v := s.fieldOf f.val
    (s.mgmt.hostFunctions.getLsbD 6 = false → fieldServes v = true → v.thStep.toNat < 15 → 1600 ≤ v.temp.toInt →
      (∀ g < 100, g ≠ f.val → fieldServes (s.fieldOf g) = true → (s.fieldOf g).temp.toInt < v.temp.toInt) →
      v.regFault = false → popcount v.badSensors ≤ 3 →
      exec .thermalStep s = .next (s.putField f.val { v with thStep := v.thStep + 1, state := .throttled })) ∧
    (s.mgmt.hostFunctions.getLsbD 6 = false → (∀ g < 100, fieldServes (s.fieldOf g) = true →
        (s.fieldOf g).temp.toInt < 1600 ∧ 1552 < (s.fieldOf g).temp.toInt) →
      exec .thermalStep s = .next s) ∧
    (s.mgmt.hostFunctions.getLsbD 6 = true → (∀ q ∈ s.requests, q.kind ≠ .thermal) →
      exec .thermalStep s = .next { s with
        requests := s.requests ++ [{ id := s.nextRequest, kind := .thermal }], nextRequest := s.nextRequest + 1 }) ∧
    (v.state = .online → v.badSensors = 0 → v.thStep = 0 → v.regFault = false →
      (∀ i : Fin 9, -640 ≤ readings[i].toInt ∧ readings[i].toInt ≤ 2400 ∧
        (readings[i].toInt - median9 readings).natAbs ≤ 320) →
      ∃ i : Fin 9, (∀ j : Fin 9, readings[j].toInt ≤ readings[i].toInt) ∧
        exec (.sensorRead f readings) s = .next (s.putField f.val { v with
          readings := readings, apart := Vector.replicate 9 0, temp := readings[i],
          hotSensor := BitVec.ofNat 4 i.val })) ∧
    (fieldServes v = true → ∃ t : State, exec (.thermalTrip f sensor) s = .next t ∧ (t.fieldOf f.val).state = .dark ∧
      (t.fieldOf f.val).darkCount = satAdd16 v.darkCount 1 ∧ (t.fieldOf f.val).arithGated = true) ∧
    (v.state = .online ∨ v.state = .throttled → v.regFault = false → exec (.regulatorFault f false) s = .next
      ((s.putField f.val { v with regFault := true, state := .throttled, thStep := if v.thStep.toNat ≤ 8 then 8 else v.thStep
        }).raise .alarm 458 0 (srcField f.val) none [w64 f.val])) ∧
    (v.state = .online ∨ v.state = .throttled → v.regFault = true → v.fcFailures = [] → ∃ t : State,
      exec (.regulatorFault f false) s = .next t ∧ (t.fieldOf f.val).state = .test)

/-! ## Self-test, Darning, counters, events and Tack -/

/-- R59, R461, R472, R474, R476, R480 to R482, R484: a slice starts where R461 and its kind allow, and its end is
recorded; the spare timer slices the next cluster with a SPARE core. Darning in DRAIN brings a SUSPECT core that passes
back, fails one that does not, and ends a DRAIN that the module entered itself, or asks the host for its plan. The
snapshot of the scores copies the ALARM and FAULT rings. -/
def Obligations.SlicesAndDarning : Prop :=
  ∀ (s : State) (k : ClusterId) (kind : SliceKind) (f : FieldId) (o : SliceOutcome) (d : DarningFindings) (l : Slice)
    (p : PhysId),
    let v := s.fieldOf f.val
    let w := s.fieldOf (k.val / 16)
    let asked := s.darn.pendingParts ++ s.planSpares s.darn.pendingParts
    (s.sliceMayStart k.val kind = false → exec (.sliceStart k kind) s = .next s) ∧
    (s.sliceMayStart k.val kind = true → kind = .spare ∨ kind = .scan → exec (.sliceStart k kind) s = .next
      (s.putField (k.val / 16) { w with
        slice := some { kind := kind, ci := Fin.ofNat 16 k.val, inWindow := kind == .scan },
        lastKind := BitVec.ofNat 2 (SliceKind.code kind), lastCluster := BitVec.ofNat 4 (k.val % 16) })) ∧
    (s.sliceMayStart k.val kind = true → s.mode.works = true ∧ w.slice = none ∧ s.power.pwrStep = 0 ∧
      s.slicesRunning < 24) ∧
    (v.slice = none → exec (.sliceEnd f o) s = .next s) ∧
    (v.slice = some l → s.mode.works = true →
      (l.kind = .scan → s.darn.window = none → exec (.sliceEnd f o) s = .next (s.putField f.val { v with
        slice := none, lastPass := true, slices := satAdd16 v.slices 1 })) ∧
      (l.kind = .spare → o.failedCores = [] → s.restoringOf (16 * f.val + l.ci.val) = [] →
        exec (.sliceEnd f o) s = .next (s.putField f.val { v with
        sparePassed := tput 0 v.sparePassed l.ci.val s.time, spareNoted := v.spareNoted &&& ~~~(BitVec.twoPow 16 l.ci.val),
        slice := none, lastPass := true, slices := satAdd16 v.slices 1 })) ∧
      (l.kind = .field → o.fieldCores = [] → o.failedUnits = [] → o.failedRouters = [] → o.failedGroups = [] →
        o.sharedOk = true → ∃ t : State,
        exec (.sliceEnd f o) s = .next t ∧ t.fieldOf f.val = { v with
          state := .online, fcOk := true, osc := .locked, arithGated := false, meshGated := false,
          sparePassed := (List.range 16).map (fun i => (i, s.time)),
          slice := none, lastPass := true, slices := satAdd16 v.slices 1 })) ∧
    (∀ ci : Fin 16, s.mode.works = true → v.state = .online → s.spareNotices f.val = s → s.nextSpare f.val = some ci.val →
      s.sliceMayStart (16 * f.val + ci.val) .spare = true → ∃ t : State, exec (.spareSliceTimer f) s = .next t ∧
        t = { s with fields := t.fields } ∧
        (t.fieldOf f.val).slice = some { kind := .spare, ci := ci, inWindow := false } ∧
        (t.fieldOf f.val).spareNext = (ci.val + 1) % 16) ∧
    (fieldServes v = false → exec (.spareSliceTimer f) s = .next s) ∧
    (s.sliceInWay = true → exec (.darning d) s = .next s) ∧
    (s.mode = .drain → s.streamsEnded = true → s.stepOpen = false → s.darn.planner = .idle → s.sliceInWay = false →
      (∀ e ∈ s.hamperStacks, e.2.suspect = false) → d.unreadable = [] →
      (s.darn.pendingParts = [] → s.suspects = [] → s.darn.hostPlan = false → exec (.darning d) s = .next { s with
        darn := { s.darn with planner := .idle, pendingParts := [] },
        mode := if s.darn.drainByCommand then .drain else s.serviceMode }) ∧
      (s.darn.pendingParts = [] → s.suspects = [p.val] → p ∈ d.passed → p ∉ d.failed → ∃ t : State, exec (.darning d) s = .next t ∧
        (t.physOf p.val).health = .good ∧ (t.physOf p.val).clockStopped = false) ∧
      (s.darn.pendingParts = [] → s.suspects = [p.val] → p ∉ d.passed → p.val ∉ s.darn.restoring → ∃ t : State, exec (.darning d) s = .next t ∧
        (t.physOf p.val).health = .failed) ∧
      (s.darn.hostPlan = true → s.darn.pendingParts ≠ [] → s.suspects = [] → exec (.darning d) s = .next { s with
        darn := { s.darn with planner := .waitHost }, nextRequest := s.nextRequest + 1,
        requests := s.requests ++ [{ id := s.nextRequest, kind := .sparePlan asked }] })) ∧
    (s.mode.works = true → ∃ t : State, exec .scoreSnapshot s = .next t ∧ t = { s with mgmt := t.mgmt, rings := t.rings } ∧
      t.mgmt = { s.mgmt with scores := t.mgmt.scores, snapshotTime := s.time } ∧
      (t.ringOf 0).previous = (s.ringOf 0).unread ∧ (t.ringOf 1).previous = (s.ringOf 1).unread ∧
      ((s.physOf p.val).score ≠ 0 → (p.val, (s.physOf p.val).score) ∈ t.mgmt.scores.cores))

/-- R156, R494: a counter never goes beyond its 48 bits: it stops at its maximum and sets OVF, which stays. R496, R499,
R501: an event of a class whose limit is met is dropped and counted, one that matches an unread ALARM coalesces into it,
and any other enters its ring under the next SEQ, with the drops before it. R183, R502: a field controller queues 32
events; in a full queue the oldest TRACE, or else the oldest NOTICE, makes room, or else a FAULT coalesces or is discarded,
and an ALARM replaces the newest FAULT; an ALARM is sent first, and another event no sooner than 32 cycles of CTRL_CLK after
the last. -/
def Obligations.CountersAndEventRings : Prop :=
  (∀ (c : Counter) (n : Nat),
    ((c.add n).count.toNat = Nat.min (c.count.toNat + n) (2 ^ 48 - 1)) ∧
    ((c.add n).ovf = true ↔ c.ovf = true ∨ 2 ^ 48 - 1 ≤ c.count.toNat + n)) ∧
  (∀ (q : EventQueue) (cls : EventClass) (e : EventRec),
    let r := q.put cls e
    let first : EventClass → Option (EventClass × EventRec) := fun c => q.queue.find? (fun v => v.1 == c)
    let same : EventClass × EventRec → Bool := fun v =>
      v.1 == .fault && v.2.code == e.code && v.2.domain == e.domain && v.2.index == e.index
    (q.queue.length < 32 → r = { q with queue := q.queue ++ [(cls, e)] }) ∧
    (32 ≤ q.queue.length →
      (∀ v, first .trace = some v → r.queue = q.queue.erase v ++ [(cls, e)] ∧
        r.dropTrace = q.dropTrace + v.2.count.toNat) ∧
      (first .trace = none → (∀ v, first .notice = some v → r.queue = q.queue.erase v ++ [(cls, e)] ∧
          r.dropNotice = q.dropNotice + v.2.count.toNat) ∧
        (first .notice = none →
          (cls = .fault → q.queue.any same = true → r.queue.length = q.queue.length ∧ r.dropFault = q.dropFault) ∧
          (cls = .fault → q.queue.any same = false → r.queue = q.queue ∧ r.dropFault = q.dropFault + 1) ∧
          (cls = .alarm → q.queue.any (fun v => v.1 == .alarm && v.2.code == e.code) = false →
            ∀ v, q.queue.reverse.find? (fun v => v.1 == .fault) = some v →
              r.queue.length = q.queue.length ∧ (cls, e) ∈ r.queue ∧ r.dropFault = q.dropFault + v.2.count.toNat))))) ∧
  (∀ (q : EventQueue) (now : W64),
    (∀ v, q.queue.find? (fun v => v.1 == .alarm) = some v → q.next now = some v) ∧
    (q.queue.find? (fun v => v.1 == .alarm) = none →
      (q.admitted = none → q.next now = q.queue.head?) ∧
      (∀ t, q.admitted = some t → (now - t).toNat < 753 → q.next now = none) ∧
      (∀ t, q.admitted = some t → 753 ≤ (now - t).toNat → q.next now = q.queue.head?))) ∧
  ∀ (g : Ring) (now : W64) (e : EventRec) (traceOn : Bool),
    let enters : Ring → Ring → Prop := fun g r => r.next = g.next + 1 ∧ r.dropped = 0 ∧ r.dropTotal = g.dropTotal ∧
      r.unread = g.unread ++ [{ e with seq := g.next, dropped := BitVec.ofNat 32 (Nat.min g.dropped 0xFFFFFFFF) }]
    let drops : Ring → Ring → Prop := fun g r => r.unread = g.unread ∧ r.next = g.next ∧
      r.dropped = g.dropped + e.count.toNat ∧ r.dropTotal = g.dropTotal.add e.count.toNat
    let fills := (g.refill now).tokens
    (if 768 ≤ g.unread.length then drops g (g.accept .notice traceOn now e) else enters g (g.accept .notice traceOn now e)) ∧
    (if traceOn = false ∨ 1024 ≤ g.unread.length then drops g (g.accept .trace traceOn now e)
      else enters g (g.accept .trace traceOn now e)) ∧
    (g.unread.any (EventRec.matches · e) = false → g.unread.length < 1023 →
      enters g (g.accept .alarm traceOn now e)) ∧
    (g.unread.any (EventRec.matches · e) = true →
      let r := g.accept .alarm traceOn now e
      r.unread.length = g.unread.length ∧ r.next = g.next ∧ r.dropped = g.dropped ∧
      r.unread.map (·.seq) = g.unread.map (·.seq)) ∧
    (g.unread.any (EventRec.matches · e) = false →
      (fills = 0 ∨ 1024 ≤ g.unread.length → drops g (g.accept .fault traceOn now e)) ∧
      (fills ≠ 0 → g.unread.length < 1024 → enters g (g.accept .fault traceOn now e) ∧
        (g.accept .fault traceOn now e).tokens = fills - 1)) ∧
    fills ≤ 64

/-- R417 to R421, R509 to R511: the Tack lines. ID is always answered; a line that is not allowed is REFUSED, in HOLD
NOT_READY. CHALLENGE gives a nonce, and a RESPONSE that verifies over it programs a fuse step, zeroises the module and
opens the monitor; one that fails leaves it gloved. The open monitor reads and writes registers, dumps events and
state, runs slices and resets; the strap's fall closes it. -/
def Obligations.TackLines : Prop :=
  ∀ (s : State) (v : TackVerdict) (rate : W32) (field : Byte) (off : W32) (n : Nat) (value : W64) (cls : Fin 4) (f : FieldId)
    (ci : Fin 16) (o : SliceOutcome),
    let m := s.mgmt
    let t := s.tack
    let answers : State → List W64 → Option Byte → Result := fun u d e =>
      .next { u with tack := { u.tack with uart := u.tack.uart ++ [(d, e)] } }
    let quiet := s.mode = .maint ∧ ∀ e ∈ s.ctxs, e.2.live = false
    let fits := s.sliceFits f.val = true ∧ (s.fieldOf f.val).state = .online
    (s.mode = .hold → ∀ i ∈ [Instr.tackId, .tackChallenge, .tackResponse v, .tackBaud rate, .tackRead 0 field off n,
      .tackWrite 0 field off value, .tackEvdump cls true, .tackState, .tackScan f, .tackBist f ci o, .tackReset,
      .tackLineTimeout], exec i s = answers s [] (some stNOT_READY)) ∧
    (s.mode ≠ .off → s.mode ≠ .hold →
      exec .tackId s = answers s [Config.serial.setWidth 64, 0xB1, if m.gloved then 1 else 0, w64 m.tackSteps.val,
        w64 s.mode.code] none ∧
      exec .tackLineTimeout s = answers s [] (some stBAD_ARG) ∧
      (m.gloved = true → quiet → t.en = true →
        let nonce := Config.tackNonce t.nonces
        exec .tackChallenge s = answers { s with tack := { t with nonce := some (nonce, s.time), nonces := t.nonces + 1 } }
          ([Config.serial.setWidth 64, w64 m.tackSteps.val] ++ (List.range 4).map (fun i =>
            BitVec.ofNat 64 (nonce.toNat / 2 ^ (64 * i)))) none) ∧
      (m.gloved = true → t.en = false ∨ ¬ quiet → exec .tackChallenge s = answers s [] (some stNOT_READY)) ∧
      (m.gloved = false → exec .tackChallenge s = answers s [] (some stREFUSED) ∧
        exec (.tackResponse v) s = answers s [] (some stREFUSED)) ∧
      (m.gloved = true → quiet → m.tackSteps.val < 64 →
        (∀ nonce now, t.nonce = some (nonce, now) → v.message = s.tackMessage nonce → (s.time - now).toNat ≤ 600000 * 10000000 → t.en = true →
          v.keyHashOk = true → v.ecOk = true → v.lmsOk = true → ∃ u : State,
            exec (.tackResponse v) s = answers u [] none ∧ u.mgmt.gloved = false ∧
            u.mgmt.tackSteps.val = m.tackSteps.val + 1 ∧ u.tack = { t with isOpen := true, nonce := none } ∧
            u.keys = [] ∧ u.mgmt.authorities = [] ∧ u.mgmt.keyEncryptionKey = false) ∧
        (v.keyHashOk = false ∨ v.ecOk = false ∨ v.lmsOk = false ∨ t.nonce = none →
          exec (.tackResponse v) s = answers (s.raise .alarm 418 0 srcModule none []) [] (some stAUTH_FAIL))) ∧
      (t.isOpen = false → ∀ i ∈ [Instr.tackBaud rate, .tackRead 0 field off n, .tackWrite 0 field off value,
        .tackEvdump cls true, .tackState, .tackScan f, .tackBist f ci o, .tackReset],
        exec i s = answers s [] (some stREFUSED)) ∧
      (t.isOpen = true →
        (rate.toNat ∈ [115200, 460800, 921600, 1500000, 3000000] → exec (.tackBaud rate) s = .next { s with
          tack := { t with baud := rate, uart := t.uart ++ [([], none)] } }) ∧
        (rate.toNat ∉ [115200, 460800, 921600, 1500000, 3000000] →
          exec (.tackBaud rate) s = answers s [] (some stBAD_ARG)) ∧
        (1 ≤ n → n ≤ 512 → off.toNat % 8 = 0 → off.toNat + 8 * n ≤ spaceSize 0 → exec (.tackRead 0 field off n) s =
          answers s ((List.range n).map (fun i => s.readReg 0 field.toNat (off.toNat + 8 * i))) none) ∧
        (512 < n → exec (.tackRead 0 field off n) s = answers s [] (some stBAD_ARG)) ∧
        (s.mode = .maint → off.toNat = 0x90808 → exec (.tackWrite 0 field off value) s = answers
          { s with clocks := { s.clocks with compat := value.getLsbD 0 } } [] none) ∧
        (s.mode ≠ .maint → exec (.tackWrite 0 field off value) s = answers s [] (some stREFUSED)) ∧
        (cls.val ≤ 1 → exec (.tackEvdump cls true) s = answers s ((s.ringOf cls.val).previous.flatMap (fun e =>
          (List.range 16).map (fun i => ((e.word cls.val (i / 2) : W64) >>> (32 * (i % 2) : Nat)) &&& (0xFFFFFFFF : W64)))) none) ∧
        exec (.tackEvdump cls false) s = answers s ((s.ringOf cls.val).unread.flatMap (fun e =>
          (List.range 16).map (fun i => ((e.word cls.val (i / 2) : W64) >>> (32 * (i % 2) : Nat)) &&& (0xFFFFFFFF : W64)))) none ∧
        exec .tackState s = answers s ((List.range 24).map s.mirrorWord ++ (List.range 32).map s.telemSample.word) none ∧
        exec .tackReset s = answers { s with mgmt := { m with resetPending := true } } [] none ∧
        (s.mode = .maint → fits → (∃ (u : State) (sig : W64), exec (.tackScan f) s = answers u [sig] none ∧
            (u.fieldOf f.val).slice = none ∧ (u.fieldOf f.val).slices = satAdd16 (s.fieldOf f.val).slices 1) ∧
          (∃ (u : State) (count : W64), exec (.tackBist f ci o) s = answers u [1, count] none ∧
            (u.fieldOf f.val).slice = none ∧ (o.failedCores = [] → count = 0))))) ∧
    exec .tackEnRise s = .next { s with tack := { t with en := true } } ∧
    exec (.tackEnFall false) s = .next { s with tack := { t with en := false, isOpen := false, baud := 115200 } }
end

