-- ==== Sys2Proof/Laws/Table.lean ====
section
/-! SUPPORT. The sparse table: a read after a write to the same number gives the value written, a
write leaves every other number alone, and every write keeps the canonical form. -/

set_option linter.unusedVariables false

namespace Sys2Proof.Machine

open Sys2Proof

variable {α : Type}

theorem tget_terase_same (d : α) (t : Table α) (n : Nat) : tget d (terase t n) n = d := by
  induction t with
  | nil => rfl
  | cons e r ih =>
    obtain ⟨k, w⟩ := e
    by_cases h : k = n
    · simpa [terase, List.filter_cons, h] using ih
    · simpa [terase, List.filter_cons, h, tget] using ih

theorem tget_terase_ne (d : α) (t : Table α) {n m : Nat} (h : m ≠ n) :
    tget d (terase t n) m = tget d t m := by
  induction t with
  | nil => rfl
  | cons e r ih =>
    obtain ⟨k, w⟩ := e
    by_cases hk : k = n
    · have : k ≠ m := fun c => h (c ▸ hk)
      simpa [terase, List.filter_cons, hk, tget, Ne.symm h] using ih
    · by_cases hm : k = m
      · simp [terase, tget, hm, h]
      · simpa [terase, List.filter_cons, hk, tget, hm] using ih

theorem tget_tinsert_same (d : α) (t : Table α) (n : Nat) (v : α) (h : ∀ e ∈ t, e.1 ≠ n) :
    tget d (tinsert n v t) n = v := by
  induction t with
  | nil => simp [tinsert, tget]
  | cons e r ih =>
    obtain ⟨k, w⟩ := e
    have hk : k ≠ n := h (k, w) (by simp)
    unfold tinsert
    split
    · simp [tget]
    · simp only [tget, hk, if_false]
      exact ih (fun e he => h e (by simp [he]))

theorem tget_tinsert_ne (d : α) (t : Table α) {n m : Nat} (v : α) (h : m ≠ n) :
    tget d (tinsert n v t) m = tget d t m := by
  induction t with
  | nil => simp [tinsert, tget, Ne.symm h]
  | cons e r ih =>
    obtain ⟨k, w⟩ := e
    unfold tinsert
    split
    · simp [tget, Ne.symm h]
    · simp only [tget, ih]

theorem terase_absent (t : Table α) (n : Nat) : ∀ e ∈ terase t n, e.1 ≠ n := by
  intro e he
  simpa [terase] using (List.mem_filter.mp he).2

theorem terase_of_absent (t : Table α) (n : Nat) (h : ∀ e ∈ t, e.1 ≠ n) : terase t n = t := by
  simpa [terase, List.filter_eq_self] using h

theorem terase_tinsert (t : Table α) (n : Nat) (v : α) (h : ∀ e ∈ t, e.1 ≠ n) :
    terase (tinsert n v t) n = t := by
  induction t with
  | nil => simp [tinsert, terase]
  | cons e r ih =>
    obtain ⟨k, w⟩ := e
    have hk : k ≠ n := h (k, w) (by simp)
    have hr : ∀ e ∈ r, e.1 ≠ n := fun e he => h e (by simp [he])
    have key : terase r n = r := terase_of_absent r n hr
    unfold tinsert
    split
    · simp [terase, hk]
      simpa [terase] using hr
    · have := ih hr
      simp only [terase, List.filter_cons] at this ⊢
      simp [hk, this]

variable [DecidableEq α]

/-- A read after a write to the same number gives the value written. -/
@[simp] theorem tget_tput_same (d : α) (t : Table α) (n : Nat) (v : α) : tget d (tput d t n v) n = v := by
  unfold tput
  split
  · next h => rw [h, tget_terase_same]
  · exact tget_tinsert_same d _ n v (terase_absent t n)

/-- A write leaves every other number alone. -/
@[simp] theorem tget_tput_ne (d : α) (t : Table α) {n m : Nat} (v : α) (h : m ≠ n) :
    tget d (tput d t n v) m = tget d t m := by
  unfold tput
  split
  · exact tget_terase_ne d t h
  · rw [tget_tinsert_ne d _ v h, tget_terase_ne d t h]

/-- The later of two writes to one number stands. -/
@[simp] theorem tput_tput (d : α) (t : Table α) (n : Nat) (v w : α) :
    tput d (tput d t n v) n w = tput d t n w := by
  have h : terase (tput d t n v) n = terase t n := by
    unfold tput
    split
    · exact terase_of_absent _ n (terase_absent t n)
    · exact terase_tinsert _ n v (terase_absent t n)
  unfold tput at h ⊢
  rw [h]

/-! ## The canonical form -/

theorem tableWfFrom_weaken (d : α) (t : Table α) {lo hi : Nat} (h : lo ≤ hi)
    (ht : tableWfFrom d (some hi) t = true) : tableWfFrom d (some lo) t = true := by
  cases t with
  | nil => rfl
  | cons e r =>
    obtain ⟨k, w⟩ := e
    simp only [tableWfFrom, Bool.and_eq_true, decide_eq_true_eq] at ht ⊢
    exact ⟨⟨by omega, ht.1.2⟩, ht.2⟩

theorem tableWfFrom_none (d : α) (t : Table α) (lo : Nat) (ht : tableWfFrom d (some lo) t = true) :
    tableWfFrom d none t = true := by
  cases t with
  | nil => rfl
  | cons e r =>
    obtain ⟨k, w⟩ := e
    simp only [tableWfFrom, Bool.and_eq_true, decide_eq_true_eq] at ht ⊢
    exact ⟨⟨trivial, ht.1.2⟩, ht.2⟩

theorem terase_wfFrom (d : α) (t : Table α) (n : Nat) (lo : Option Nat)
    (h : tableWfFrom d lo t = true) : tableWfFrom d lo (terase t n) = true := by
  induction t generalizing lo with
  | nil => exact h
  | cons e r ih =>
    obtain ⟨k, w⟩ := e
    simp only [tableWfFrom, Bool.and_eq_true, decide_eq_true_eq] at h
    have hr := ih (some k) h.2
    by_cases hk : k = n
    · have e1 : terase ((k, w) :: r) n = terase r n := by simp [terase, hk]
      rw [e1]
      cases lo with
      | none => exact tableWfFrom_none d _ k hr
      | some l => exact tableWfFrom_weaken d _ (Nat.le_of_lt (by simpa using h.1.1)) hr
    · have e1 : terase ((k, w) :: r) n = (k, w) :: terase r n := by simp [terase, hk]
      rw [e1]
      simp only [tableWfFrom, Bool.and_eq_true, decide_eq_true_eq]
      exact ⟨h.1, hr⟩

theorem tinsert_wfFrom (d : α) (t : Table α) (n : Nat) (v : α) (lo : Option Nat) (hv : v ≠ d)
    (hn : ∀ e ∈ t, e.1 ≠ n) (hlo : ∀ l, lo = some l → l < n) (h : tableWfFrom d lo t = true) :
    tableWfFrom d lo (tinsert n v t) = true := by
  induction t generalizing lo with
  | nil =>
    cases lo with
    | none => simp [tinsert, tableWfFrom, hv]
    | some l => simp [tinsert, tableWfFrom, hv, hlo l rfl]
  | cons e r ih =>
    obtain ⟨k, w⟩ := e
    have hk : k ≠ n := hn (k, w) (by simp)
    simp only [tableWfFrom, Bool.and_eq_true, decide_eq_true_eq] at h
    unfold tinsert
    split
    · next hlt =>
      simp only [tableWfFrom, Bool.and_eq_true, decide_eq_true_eq]
      refine ⟨⟨?_, hv⟩, ⟨hlt, h.1.2⟩, h.2⟩
      cases lo with
      | none => trivial
      | some l => simpa using hlo l rfl
    · next hge =>
      simp only [tableWfFrom, Bool.and_eq_true, decide_eq_true_eq]
      refine ⟨h.1, ih (some k) (fun e he => hn e (by simp [he])) ?_ h.2⟩
      intro l hl
      cases hl
      omega

/-- Every write keeps the canonical form. -/
theorem tput_wf (d : α) (t : Table α) (n : Nat) (v : α) (h : tableWf d t = true) :
    tableWf d (tput d t n v) = true := by
  unfold tput
  split
  · exact terase_wfFrom d t n none h
  · next hv =>
    exact tinsert_wfFrom d _ n v none hv (terase_absent t n) (fun _ h => by cases h)
      (terase_wfFrom d t n none h)

/-- Applying a function to every listed value gives a table in canonical form. -/
theorem tmap_wf (d : α) (f : Nat → α → α) (t : Table α) : tableWf d (tmap d f t) = true := by
  unfold tmap
  generalize hacc : ([] : Table α) = acc
  have hwf : tableWf d acc = true := by subst hacc; rfl
  clear hacc
  induction t generalizing acc with
  | nil => exact hwf
  | cons e r ih => exact ih _ (tput_wf d acc e.1 _ hwf)

end Sys2Proof.Machine
end

