-- ==== Sys2Proof/Laws/State.lean ====
section
/-! SUPPORT. What each write of a collection of State changes: a read back, and one lemma per other field,
so that no proof unfolds a record update. -/

set_option linter.unusedVariables false

namespace Sys2Proof.Machine

open Sys2Proof

/-! ## `State.putCore` -/

@[simp] theorem State.putCore_same (s : State) (n : Nat) (v : Core) : (s.putCore n v).coreOf n = v := by
  simp [State.putCore, State.coreOf]
@[simp] theorem State.putCore_ne (s : State) {n m : Nat} (v : Core) (h : m ≠ n) :
    (s.putCore n v).coreOf m = s.coreOf m := by simp [State.putCore, State.coreOf, h]
@[simp] theorem State.putCore_again (s : State) (n : Nat) (v w : Core) :
    (s.putCore n v).putCore n w = s.putCore n w := by simp [State.putCore]
@[simp] theorem State.putCore_phys (s : State) (n : Nat) (v : Core) : (s.putCore n v).phys = s.phys := rfl
@[simp] theorem State.putCore_physOf (s : State) (n m : Nat) (v : Core) :
    (s.putCore n v).physOf m = s.physOf m := rfl
@[simp] theorem State.putCore_clusters (s : State) (n : Nat) (v : Core) : (s.putCore n v).clusters = s.clusters := rfl
@[simp] theorem State.putCore_clusterOf (s : State) (n m : Nat) (v : Core) :
    (s.putCore n v).clusterOf m = s.clusterOf m := rfl
@[simp] theorem State.putCore_tiles (s : State) (n : Nat) (v : Core) : (s.putCore n v).tiles = s.tiles := rfl
@[simp] theorem State.putCore_tileOf (s : State) (n m : Nat) (v : Core) :
    (s.putCore n v).tileOf m = s.tileOf m := rfl
@[simp] theorem State.putCore_fields (s : State) (n : Nat) (v : Core) : (s.putCore n v).fields = s.fields := rfl
@[simp] theorem State.putCore_fieldOf (s : State) (n m : Nat) (v : Core) :
    (s.putCore n v).fieldOf m = s.fieldOf m := rfl
@[simp] theorem State.putCore_regions (s : State) (n : Nat) (v : Core) : (s.putCore n v).regions = s.regions := rfl
@[simp] theorem State.putCore_regionOf (s : State) (n m : Nat) (v : Core) :
    (s.putCore n v).regionOf m = s.regionOf m := rfl
@[simp] theorem State.putCore_pegs (s : State) (n : Nat) (v : Core) : (s.putCore n v).pegs = s.pegs := rfl
@[simp] theorem State.putCore_pegOf (s : State) (n m : Nat) (v : Core) :
    (s.putCore n v).pegOf m = s.pegOf m := rfl
@[simp] theorem State.putCore_ctxs (s : State) (n : Nat) (v : Core) : (s.putCore n v).ctxs = s.ctxs := rfl
@[simp] theorem State.putCore_ctxOf (s : State) (n m : Nat) (v : Core) :
    (s.putCore n v).ctxOf m = s.ctxOf m := rfl
@[simp] theorem State.putCore_keys (s : State) (n : Nat) (v : Core) : (s.putCore n v).keys = s.keys := rfl
@[simp] theorem State.putCore_keyOf (s : State) (n m : Nat) (v : Core) :
    (s.putCore n v).keyOf m = s.keyOf m := rfl
@[simp] theorem State.putCore_units (s : State) (n : Nat) (v : Core) : (s.putCore n v).units = s.units := rfl
@[simp] theorem State.putCore_unitOf (s : State) (n m : Nat) (v : Core) :
    (s.putCore n v).unitOf m = s.unitOf m := rfl
@[simp] theorem State.putCore_channels (s : State) (n : Nat) (v : Core) : (s.putCore n v).channels = s.channels := rfl
@[simp] theorem State.putCore_channelOf (s : State) (n m : Nat) (v : Core) :
    (s.putCore n v).channelOf m = s.channelOf m := rfl
@[simp] theorem State.putCore_hamperStacks (s : State) (n : Nat) (v : Core) : (s.putCore n v).hamperStacks = s.hamperStacks := rfl
@[simp] theorem State.putCore_stackOf (s : State) (n m : Nat) (v : Core) :
    (s.putCore n v).stackOf m = s.stackOf m := rfl
@[simp] theorem State.putCore_mboxes (s : State) (n : Nat) (v : Core) : (s.putCore n v).mboxes = s.mboxes := rfl
@[simp] theorem State.putCore_mboxOf (s : State) (n m : Nat) (v : Core) :
    (s.putCore n v).mboxOf m = s.mboxOf m := rfl
@[simp] theorem State.putCore_rings (s : State) (n : Nat) (v : Core) : (s.putCore n v).rings = s.rings := rfl
@[simp] theorem State.putCore_thread (s : State) (n : Nat) (v : Core) : (s.putCore n v).thread = s.thread := rfl
@[simp] theorem State.putCore_threadNode (s : State) (n : Nat) (v : Core) (a : W16) : (s.putCore n v).threadNode a = s.threadNode a := rfl
@[simp] theorem State.putCore_ringOf (s : State) (n m : Nat) (v : Core) :
    (s.putCore n v).ringOf m = s.ringOf m := rfl
@[simp] theorem State.putCore_counters (s : State) (n : Nat) (v : Core) : (s.putCore n v).counters = s.counters := rfl
@[simp] theorem State.putCore_counterOf (s : State) (n m : Nat) (v : Core) :
    (s.putCore n v).counterOf m = s.counterOf m := rfl
@[simp] theorem State.putCore_pending (s : State) (n : Nat) (v : Core) : (s.putCore n v).pending = s.pending := rfl
@[simp] theorem State.putCore_mode (s : State) (n : Nat) (v : Core) : (s.putCore n v).mode = s.mode := rfl
@[simp] theorem State.putCore_time (s : State) (n : Nat) (v : Core) : (s.putCore n v).time = s.time := rfl
@[simp] theorem State.putCore_fresh (s : State) (n : Nat) (v : Core) : (s.putCore n v).fresh = s.fresh := rfl
@[simp] theorem State.putCore_mesh (s : State) (n : Nat) (v : Core) : (s.putCore n v).mesh = s.mesh := rfl
@[simp] theorem State.putCore_press (s : State) (n : Nat) (v : Core) : (s.putCore n v).press = s.press := rfl
@[simp] theorem State.putCore_mgmt (s : State) (n : Nat) (v : Core) : (s.putCore n v).mgmt = s.mgmt := rfl
@[simp] theorem State.putCore_clocks (s : State) (n : Nat) (v : Core) : (s.putCore n v).clocks = s.clocks := rfl
@[simp] theorem State.putCore_power (s : State) (n : Nat) (v : Core) : (s.putCore n v).power = s.power := rfl
@[simp] theorem State.putCore_darn (s : State) (n : Nat) (v : Core) : (s.putCore n v).darn = s.darn := rfl
@[simp] theorem State.putCore_tack (s : State) (n : Nat) (v : Core) : (s.putCore n v).tack = s.tack := rfl
@[simp] theorem State.putCore_requests (s : State) (n : Nat) (v : Core) : (s.putCore n v).requests = s.requests := rfl
@[simp] theorem State.putCore_waits (s : State) (n : Nat) (v : Core) : (s.putCore n v).waits = s.waits := rfl
@[simp] theorem State.putCore_hostOut (s : State) (n : Nat) (v : Core) : (s.putCore n v).hostOut = s.hostOut := rfl

/-! ## `State.putPhys` -/

@[simp] theorem State.putPhys_same (s : State) (n : Nat) (v : Phys) : (s.putPhys n v).physOf n = v := by
  simp [State.putPhys, State.physOf]
@[simp] theorem State.putPhys_ne (s : State) {n m : Nat} (v : Phys) (h : m ≠ n) :
    (s.putPhys n v).physOf m = s.physOf m := by simp [State.putPhys, State.physOf, h]
@[simp] theorem State.putPhys_again (s : State) (n : Nat) (v w : Phys) :
    (s.putPhys n v).putPhys n w = s.putPhys n w := by simp [State.putPhys]
@[simp] theorem State.putPhys_cores (s : State) (n : Nat) (v : Phys) : (s.putPhys n v).cores = s.cores := rfl
@[simp] theorem State.putPhys_coreOf (s : State) (n m : Nat) (v : Phys) :
    (s.putPhys n v).coreOf m = s.coreOf m := rfl
@[simp] theorem State.putPhys_clusters (s : State) (n : Nat) (v : Phys) : (s.putPhys n v).clusters = s.clusters := rfl
@[simp] theorem State.putPhys_clusterOf (s : State) (n m : Nat) (v : Phys) :
    (s.putPhys n v).clusterOf m = s.clusterOf m := rfl
@[simp] theorem State.putPhys_tiles (s : State) (n : Nat) (v : Phys) : (s.putPhys n v).tiles = s.tiles := rfl
@[simp] theorem State.putPhys_tileOf (s : State) (n m : Nat) (v : Phys) :
    (s.putPhys n v).tileOf m = s.tileOf m := rfl
@[simp] theorem State.putPhys_fields (s : State) (n : Nat) (v : Phys) : (s.putPhys n v).fields = s.fields := rfl
@[simp] theorem State.putPhys_fieldOf (s : State) (n m : Nat) (v : Phys) :
    (s.putPhys n v).fieldOf m = s.fieldOf m := rfl
@[simp] theorem State.putPhys_regions (s : State) (n : Nat) (v : Phys) : (s.putPhys n v).regions = s.regions := rfl
@[simp] theorem State.putPhys_regionOf (s : State) (n m : Nat) (v : Phys) :
    (s.putPhys n v).regionOf m = s.regionOf m := rfl
@[simp] theorem State.putPhys_pegs (s : State) (n : Nat) (v : Phys) : (s.putPhys n v).pegs = s.pegs := rfl
@[simp] theorem State.putPhys_pegOf (s : State) (n m : Nat) (v : Phys) :
    (s.putPhys n v).pegOf m = s.pegOf m := rfl
@[simp] theorem State.putPhys_ctxs (s : State) (n : Nat) (v : Phys) : (s.putPhys n v).ctxs = s.ctxs := rfl
@[simp] theorem State.putPhys_ctxOf (s : State) (n m : Nat) (v : Phys) :
    (s.putPhys n v).ctxOf m = s.ctxOf m := rfl
@[simp] theorem State.putPhys_keys (s : State) (n : Nat) (v : Phys) : (s.putPhys n v).keys = s.keys := rfl
@[simp] theorem State.putPhys_keyOf (s : State) (n m : Nat) (v : Phys) :
    (s.putPhys n v).keyOf m = s.keyOf m := rfl
@[simp] theorem State.putPhys_units (s : State) (n : Nat) (v : Phys) : (s.putPhys n v).units = s.units := rfl
@[simp] theorem State.putPhys_unitOf (s : State) (n m : Nat) (v : Phys) :
    (s.putPhys n v).unitOf m = s.unitOf m := rfl
@[simp] theorem State.putPhys_channels (s : State) (n : Nat) (v : Phys) : (s.putPhys n v).channels = s.channels := rfl
@[simp] theorem State.putPhys_channelOf (s : State) (n m : Nat) (v : Phys) :
    (s.putPhys n v).channelOf m = s.channelOf m := rfl
@[simp] theorem State.putPhys_hamperStacks (s : State) (n : Nat) (v : Phys) : (s.putPhys n v).hamperStacks = s.hamperStacks := rfl
@[simp] theorem State.putPhys_stackOf (s : State) (n m : Nat) (v : Phys) :
    (s.putPhys n v).stackOf m = s.stackOf m := rfl
@[simp] theorem State.putPhys_mboxes (s : State) (n : Nat) (v : Phys) : (s.putPhys n v).mboxes = s.mboxes := rfl
@[simp] theorem State.putPhys_mboxOf (s : State) (n m : Nat) (v : Phys) :
    (s.putPhys n v).mboxOf m = s.mboxOf m := rfl
@[simp] theorem State.putPhys_rings (s : State) (n : Nat) (v : Phys) : (s.putPhys n v).rings = s.rings := rfl
@[simp] theorem State.putPhys_thread (s : State) (n : Nat) (v : Phys) : (s.putPhys n v).thread = s.thread := rfl
@[simp] theorem State.putPhys_threadNode (s : State) (n : Nat) (v : Phys) (a : W16) : (s.putPhys n v).threadNode a = s.threadNode a := rfl
@[simp] theorem State.putPhys_ringOf (s : State) (n m : Nat) (v : Phys) :
    (s.putPhys n v).ringOf m = s.ringOf m := rfl
@[simp] theorem State.putPhys_counters (s : State) (n : Nat) (v : Phys) : (s.putPhys n v).counters = s.counters := rfl
@[simp] theorem State.putPhys_counterOf (s : State) (n m : Nat) (v : Phys) :
    (s.putPhys n v).counterOf m = s.counterOf m := rfl
@[simp] theorem State.putPhys_pending (s : State) (n : Nat) (v : Phys) : (s.putPhys n v).pending = s.pending := rfl
@[simp] theorem State.putPhys_mode (s : State) (n : Nat) (v : Phys) : (s.putPhys n v).mode = s.mode := rfl
@[simp] theorem State.putPhys_time (s : State) (n : Nat) (v : Phys) : (s.putPhys n v).time = s.time := rfl
@[simp] theorem State.putPhys_fresh (s : State) (n : Nat) (v : Phys) : (s.putPhys n v).fresh = s.fresh := rfl
@[simp] theorem State.putPhys_mesh (s : State) (n : Nat) (v : Phys) : (s.putPhys n v).mesh = s.mesh := rfl
@[simp] theorem State.putPhys_press (s : State) (n : Nat) (v : Phys) : (s.putPhys n v).press = s.press := rfl
@[simp] theorem State.putPhys_mgmt (s : State) (n : Nat) (v : Phys) : (s.putPhys n v).mgmt = s.mgmt := rfl
@[simp] theorem State.putPhys_clocks (s : State) (n : Nat) (v : Phys) : (s.putPhys n v).clocks = s.clocks := rfl
@[simp] theorem State.putPhys_power (s : State) (n : Nat) (v : Phys) : (s.putPhys n v).power = s.power := rfl
@[simp] theorem State.putPhys_darn (s : State) (n : Nat) (v : Phys) : (s.putPhys n v).darn = s.darn := rfl
@[simp] theorem State.putPhys_tack (s : State) (n : Nat) (v : Phys) : (s.putPhys n v).tack = s.tack := rfl
@[simp] theorem State.putPhys_requests (s : State) (n : Nat) (v : Phys) : (s.putPhys n v).requests = s.requests := rfl
@[simp] theorem State.putPhys_waits (s : State) (n : Nat) (v : Phys) : (s.putPhys n v).waits = s.waits := rfl
@[simp] theorem State.putPhys_hostOut (s : State) (n : Nat) (v : Phys) : (s.putPhys n v).hostOut = s.hostOut := rfl

/-! ## `State.putCluster` -/

@[simp] theorem State.putCluster_same (s : State) (n : Nat) (v : Cluster) : (s.putCluster n v).clusterOf n = v := by
  simp [State.putCluster, State.clusterOf]
@[simp] theorem State.putCluster_ne (s : State) {n m : Nat} (v : Cluster) (h : m ≠ n) :
    (s.putCluster n v).clusterOf m = s.clusterOf m := by simp [State.putCluster, State.clusterOf, h]
@[simp] theorem State.putCluster_again (s : State) (n : Nat) (v w : Cluster) :
    (s.putCluster n v).putCluster n w = s.putCluster n w := by simp [State.putCluster]
@[simp] theorem State.putCluster_cores (s : State) (n : Nat) (v : Cluster) : (s.putCluster n v).cores = s.cores := rfl
@[simp] theorem State.putCluster_coreOf (s : State) (n m : Nat) (v : Cluster) :
    (s.putCluster n v).coreOf m = s.coreOf m := rfl
@[simp] theorem State.putCluster_phys (s : State) (n : Nat) (v : Cluster) : (s.putCluster n v).phys = s.phys := rfl
@[simp] theorem State.putCluster_physOf (s : State) (n m : Nat) (v : Cluster) :
    (s.putCluster n v).physOf m = s.physOf m := rfl
@[simp] theorem State.putCluster_tiles (s : State) (n : Nat) (v : Cluster) : (s.putCluster n v).tiles = s.tiles := rfl
@[simp] theorem State.putCluster_tileOf (s : State) (n m : Nat) (v : Cluster) :
    (s.putCluster n v).tileOf m = s.tileOf m := rfl
@[simp] theorem State.putCluster_fields (s : State) (n : Nat) (v : Cluster) : (s.putCluster n v).fields = s.fields := rfl
@[simp] theorem State.putCluster_fieldOf (s : State) (n m : Nat) (v : Cluster) :
    (s.putCluster n v).fieldOf m = s.fieldOf m := rfl
@[simp] theorem State.putCluster_regions (s : State) (n : Nat) (v : Cluster) : (s.putCluster n v).regions = s.regions := rfl
@[simp] theorem State.putCluster_regionOf (s : State) (n m : Nat) (v : Cluster) :
    (s.putCluster n v).regionOf m = s.regionOf m := rfl
@[simp] theorem State.putCluster_pegs (s : State) (n : Nat) (v : Cluster) : (s.putCluster n v).pegs = s.pegs := rfl
@[simp] theorem State.putCluster_pegOf (s : State) (n m : Nat) (v : Cluster) :
    (s.putCluster n v).pegOf m = s.pegOf m := rfl
@[simp] theorem State.putCluster_ctxs (s : State) (n : Nat) (v : Cluster) : (s.putCluster n v).ctxs = s.ctxs := rfl
@[simp] theorem State.putCluster_ctxOf (s : State) (n m : Nat) (v : Cluster) :
    (s.putCluster n v).ctxOf m = s.ctxOf m := rfl
@[simp] theorem State.putCluster_keys (s : State) (n : Nat) (v : Cluster) : (s.putCluster n v).keys = s.keys := rfl
@[simp] theorem State.putCluster_keyOf (s : State) (n m : Nat) (v : Cluster) :
    (s.putCluster n v).keyOf m = s.keyOf m := rfl
@[simp] theorem State.putCluster_units (s : State) (n : Nat) (v : Cluster) : (s.putCluster n v).units = s.units := rfl
@[simp] theorem State.putCluster_unitOf (s : State) (n m : Nat) (v : Cluster) :
    (s.putCluster n v).unitOf m = s.unitOf m := rfl
@[simp] theorem State.putCluster_channels (s : State) (n : Nat) (v : Cluster) : (s.putCluster n v).channels = s.channels := rfl
@[simp] theorem State.putCluster_channelOf (s : State) (n m : Nat) (v : Cluster) :
    (s.putCluster n v).channelOf m = s.channelOf m := rfl
@[simp] theorem State.putCluster_hamperStacks (s : State) (n : Nat) (v : Cluster) : (s.putCluster n v).hamperStacks = s.hamperStacks := rfl
@[simp] theorem State.putCluster_stackOf (s : State) (n m : Nat) (v : Cluster) :
    (s.putCluster n v).stackOf m = s.stackOf m := rfl
@[simp] theorem State.putCluster_mboxes (s : State) (n : Nat) (v : Cluster) : (s.putCluster n v).mboxes = s.mboxes := rfl
@[simp] theorem State.putCluster_mboxOf (s : State) (n m : Nat) (v : Cluster) :
    (s.putCluster n v).mboxOf m = s.mboxOf m := rfl
@[simp] theorem State.putCluster_rings (s : State) (n : Nat) (v : Cluster) : (s.putCluster n v).rings = s.rings := rfl
@[simp] theorem State.putCluster_thread (s : State) (n : Nat) (v : Cluster) : (s.putCluster n v).thread = s.thread := rfl
@[simp] theorem State.putCluster_threadNode (s : State) (n : Nat) (v : Cluster) (a : W16) : (s.putCluster n v).threadNode a = s.threadNode a := rfl
@[simp] theorem State.putCluster_ringOf (s : State) (n m : Nat) (v : Cluster) :
    (s.putCluster n v).ringOf m = s.ringOf m := rfl
@[simp] theorem State.putCluster_counters (s : State) (n : Nat) (v : Cluster) : (s.putCluster n v).counters = s.counters := rfl
@[simp] theorem State.putCluster_counterOf (s : State) (n m : Nat) (v : Cluster) :
    (s.putCluster n v).counterOf m = s.counterOf m := rfl
@[simp] theorem State.putCluster_pending (s : State) (n : Nat) (v : Cluster) : (s.putCluster n v).pending = s.pending := rfl
@[simp] theorem State.putCluster_mode (s : State) (n : Nat) (v : Cluster) : (s.putCluster n v).mode = s.mode := rfl
@[simp] theorem State.putCluster_time (s : State) (n : Nat) (v : Cluster) : (s.putCluster n v).time = s.time := rfl
@[simp] theorem State.putCluster_fresh (s : State) (n : Nat) (v : Cluster) : (s.putCluster n v).fresh = s.fresh := rfl
@[simp] theorem State.putCluster_mesh (s : State) (n : Nat) (v : Cluster) : (s.putCluster n v).mesh = s.mesh := rfl
@[simp] theorem State.putCluster_press (s : State) (n : Nat) (v : Cluster) : (s.putCluster n v).press = s.press := rfl
@[simp] theorem State.putCluster_mgmt (s : State) (n : Nat) (v : Cluster) : (s.putCluster n v).mgmt = s.mgmt := rfl
@[simp] theorem State.putCluster_clocks (s : State) (n : Nat) (v : Cluster) : (s.putCluster n v).clocks = s.clocks := rfl
@[simp] theorem State.putCluster_power (s : State) (n : Nat) (v : Cluster) : (s.putCluster n v).power = s.power := rfl
@[simp] theorem State.putCluster_darn (s : State) (n : Nat) (v : Cluster) : (s.putCluster n v).darn = s.darn := rfl
@[simp] theorem State.putCluster_tack (s : State) (n : Nat) (v : Cluster) : (s.putCluster n v).tack = s.tack := rfl
@[simp] theorem State.putCluster_requests (s : State) (n : Nat) (v : Cluster) : (s.putCluster n v).requests = s.requests := rfl
@[simp] theorem State.putCluster_waits (s : State) (n : Nat) (v : Cluster) : (s.putCluster n v).waits = s.waits := rfl
@[simp] theorem State.putCluster_hostOut (s : State) (n : Nat) (v : Cluster) : (s.putCluster n v).hostOut = s.hostOut := rfl

/-! ## `State.putTile` -/

@[simp] theorem State.putTile_same (s : State) (n : Nat) (v : Tile) : (s.putTile n v).tileOf n = v := by
  simp [State.putTile, State.tileOf]
@[simp] theorem State.putTile_ne (s : State) {n m : Nat} (v : Tile) (h : m ≠ n) :
    (s.putTile n v).tileOf m = s.tileOf m := by simp [State.putTile, State.tileOf, h]
@[simp] theorem State.putTile_again (s : State) (n : Nat) (v w : Tile) :
    (s.putTile n v).putTile n w = s.putTile n w := by simp [State.putTile]
@[simp] theorem State.putTile_cores (s : State) (n : Nat) (v : Tile) : (s.putTile n v).cores = s.cores := rfl
@[simp] theorem State.putTile_coreOf (s : State) (n m : Nat) (v : Tile) :
    (s.putTile n v).coreOf m = s.coreOf m := rfl
@[simp] theorem State.putTile_phys (s : State) (n : Nat) (v : Tile) : (s.putTile n v).phys = s.phys := rfl
@[simp] theorem State.putTile_physOf (s : State) (n m : Nat) (v : Tile) :
    (s.putTile n v).physOf m = s.physOf m := rfl
@[simp] theorem State.putTile_clusters (s : State) (n : Nat) (v : Tile) : (s.putTile n v).clusters = s.clusters := rfl
@[simp] theorem State.putTile_clusterOf (s : State) (n m : Nat) (v : Tile) :
    (s.putTile n v).clusterOf m = s.clusterOf m := rfl
@[simp] theorem State.putTile_fields (s : State) (n : Nat) (v : Tile) : (s.putTile n v).fields = s.fields := rfl
@[simp] theorem State.putTile_fieldOf (s : State) (n m : Nat) (v : Tile) :
    (s.putTile n v).fieldOf m = s.fieldOf m := rfl
@[simp] theorem State.putTile_regions (s : State) (n : Nat) (v : Tile) : (s.putTile n v).regions = s.regions := rfl
@[simp] theorem State.putTile_regionOf (s : State) (n m : Nat) (v : Tile) :
    (s.putTile n v).regionOf m = s.regionOf m := rfl
@[simp] theorem State.putTile_pegs (s : State) (n : Nat) (v : Tile) : (s.putTile n v).pegs = s.pegs := rfl
@[simp] theorem State.putTile_pegOf (s : State) (n m : Nat) (v : Tile) :
    (s.putTile n v).pegOf m = s.pegOf m := rfl
@[simp] theorem State.putTile_ctxs (s : State) (n : Nat) (v : Tile) : (s.putTile n v).ctxs = s.ctxs := rfl
@[simp] theorem State.putTile_ctxOf (s : State) (n m : Nat) (v : Tile) :
    (s.putTile n v).ctxOf m = s.ctxOf m := rfl
@[simp] theorem State.putTile_keys (s : State) (n : Nat) (v : Tile) : (s.putTile n v).keys = s.keys := rfl
@[simp] theorem State.putTile_keyOf (s : State) (n m : Nat) (v : Tile) :
    (s.putTile n v).keyOf m = s.keyOf m := rfl
@[simp] theorem State.putTile_units (s : State) (n : Nat) (v : Tile) : (s.putTile n v).units = s.units := rfl
@[simp] theorem State.putTile_unitOf (s : State) (n m : Nat) (v : Tile) :
    (s.putTile n v).unitOf m = s.unitOf m := rfl
@[simp] theorem State.putTile_channels (s : State) (n : Nat) (v : Tile) : (s.putTile n v).channels = s.channels := rfl
@[simp] theorem State.putTile_channelOf (s : State) (n m : Nat) (v : Tile) :
    (s.putTile n v).channelOf m = s.channelOf m := rfl
@[simp] theorem State.putTile_hamperStacks (s : State) (n : Nat) (v : Tile) : (s.putTile n v).hamperStacks = s.hamperStacks := rfl
@[simp] theorem State.putTile_stackOf (s : State) (n m : Nat) (v : Tile) :
    (s.putTile n v).stackOf m = s.stackOf m := rfl
@[simp] theorem State.putTile_mboxes (s : State) (n : Nat) (v : Tile) : (s.putTile n v).mboxes = s.mboxes := rfl
@[simp] theorem State.putTile_mboxOf (s : State) (n m : Nat) (v : Tile) :
    (s.putTile n v).mboxOf m = s.mboxOf m := rfl
@[simp] theorem State.putTile_rings (s : State) (n : Nat) (v : Tile) : (s.putTile n v).rings = s.rings := rfl
@[simp] theorem State.putTile_thread (s : State) (n : Nat) (v : Tile) : (s.putTile n v).thread = s.thread := rfl
@[simp] theorem State.putTile_threadNode (s : State) (n : Nat) (v : Tile) (a : W16) : (s.putTile n v).threadNode a = s.threadNode a := rfl
@[simp] theorem State.putTile_ringOf (s : State) (n m : Nat) (v : Tile) :
    (s.putTile n v).ringOf m = s.ringOf m := rfl
@[simp] theorem State.putTile_counters (s : State) (n : Nat) (v : Tile) : (s.putTile n v).counters = s.counters := rfl
@[simp] theorem State.putTile_counterOf (s : State) (n m : Nat) (v : Tile) :
    (s.putTile n v).counterOf m = s.counterOf m := rfl
@[simp] theorem State.putTile_pending (s : State) (n : Nat) (v : Tile) : (s.putTile n v).pending = s.pending := rfl
@[simp] theorem State.putTile_mode (s : State) (n : Nat) (v : Tile) : (s.putTile n v).mode = s.mode := rfl
@[simp] theorem State.putTile_time (s : State) (n : Nat) (v : Tile) : (s.putTile n v).time = s.time := rfl
@[simp] theorem State.putTile_fresh (s : State) (n : Nat) (v : Tile) : (s.putTile n v).fresh = s.fresh := rfl
@[simp] theorem State.putTile_mesh (s : State) (n : Nat) (v : Tile) : (s.putTile n v).mesh = s.mesh := rfl
@[simp] theorem State.putTile_press (s : State) (n : Nat) (v : Tile) : (s.putTile n v).press = s.press := rfl
@[simp] theorem State.putTile_mgmt (s : State) (n : Nat) (v : Tile) : (s.putTile n v).mgmt = s.mgmt := rfl
@[simp] theorem State.putTile_clocks (s : State) (n : Nat) (v : Tile) : (s.putTile n v).clocks = s.clocks := rfl
@[simp] theorem State.putTile_power (s : State) (n : Nat) (v : Tile) : (s.putTile n v).power = s.power := rfl
@[simp] theorem State.putTile_darn (s : State) (n : Nat) (v : Tile) : (s.putTile n v).darn = s.darn := rfl
@[simp] theorem State.putTile_tack (s : State) (n : Nat) (v : Tile) : (s.putTile n v).tack = s.tack := rfl
@[simp] theorem State.putTile_requests (s : State) (n : Nat) (v : Tile) : (s.putTile n v).requests = s.requests := rfl
@[simp] theorem State.putTile_waits (s : State) (n : Nat) (v : Tile) : (s.putTile n v).waits = s.waits := rfl
@[simp] theorem State.putTile_hostOut (s : State) (n : Nat) (v : Tile) : (s.putTile n v).hostOut = s.hostOut := rfl

/-! ## `State.putField` -/

@[simp] theorem State.putField_same (s : State) (n : Nat) (v : Field) : (s.putField n v).fieldOf n = v := by
  simp [State.putField, State.fieldOf]
@[simp] theorem State.putField_ne (s : State) {n m : Nat} (v : Field) (h : m ≠ n) :
    (s.putField n v).fieldOf m = s.fieldOf m := by simp [State.putField, State.fieldOf, h]
@[simp] theorem State.putField_again (s : State) (n : Nat) (v w : Field) :
    (s.putField n v).putField n w = s.putField n w := by simp [State.putField]
@[simp] theorem State.putField_cores (s : State) (n : Nat) (v : Field) : (s.putField n v).cores = s.cores := rfl
@[simp] theorem State.putField_coreOf (s : State) (n m : Nat) (v : Field) :
    (s.putField n v).coreOf m = s.coreOf m := rfl
@[simp] theorem State.putField_phys (s : State) (n : Nat) (v : Field) : (s.putField n v).phys = s.phys := rfl
@[simp] theorem State.putField_physOf (s : State) (n m : Nat) (v : Field) :
    (s.putField n v).physOf m = s.physOf m := rfl
@[simp] theorem State.putField_clusters (s : State) (n : Nat) (v : Field) : (s.putField n v).clusters = s.clusters := rfl
@[simp] theorem State.putField_clusterOf (s : State) (n m : Nat) (v : Field) :
    (s.putField n v).clusterOf m = s.clusterOf m := rfl
@[simp] theorem State.putField_tiles (s : State) (n : Nat) (v : Field) : (s.putField n v).tiles = s.tiles := rfl
@[simp] theorem State.putField_tileOf (s : State) (n m : Nat) (v : Field) :
    (s.putField n v).tileOf m = s.tileOf m := rfl
@[simp] theorem State.putField_regions (s : State) (n : Nat) (v : Field) : (s.putField n v).regions = s.regions := rfl
@[simp] theorem State.putField_regionOf (s : State) (n m : Nat) (v : Field) :
    (s.putField n v).regionOf m = s.regionOf m := rfl
@[simp] theorem State.putField_pegs (s : State) (n : Nat) (v : Field) : (s.putField n v).pegs = s.pegs := rfl
@[simp] theorem State.putField_pegOf (s : State) (n m : Nat) (v : Field) :
    (s.putField n v).pegOf m = s.pegOf m := rfl
@[simp] theorem State.putField_ctxs (s : State) (n : Nat) (v : Field) : (s.putField n v).ctxs = s.ctxs := rfl
@[simp] theorem State.putField_ctxOf (s : State) (n m : Nat) (v : Field) :
    (s.putField n v).ctxOf m = s.ctxOf m := rfl
@[simp] theorem State.putField_keys (s : State) (n : Nat) (v : Field) : (s.putField n v).keys = s.keys := rfl
@[simp] theorem State.putField_keyOf (s : State) (n m : Nat) (v : Field) :
    (s.putField n v).keyOf m = s.keyOf m := rfl
@[simp] theorem State.putField_units (s : State) (n : Nat) (v : Field) : (s.putField n v).units = s.units := rfl
@[simp] theorem State.putField_unitOf (s : State) (n m : Nat) (v : Field) :
    (s.putField n v).unitOf m = s.unitOf m := rfl
@[simp] theorem State.putField_channels (s : State) (n : Nat) (v : Field) : (s.putField n v).channels = s.channels := rfl
@[simp] theorem State.putField_channelOf (s : State) (n m : Nat) (v : Field) :
    (s.putField n v).channelOf m = s.channelOf m := rfl
@[simp] theorem State.putField_hamperStacks (s : State) (n : Nat) (v : Field) : (s.putField n v).hamperStacks = s.hamperStacks := rfl
@[simp] theorem State.putField_stackOf (s : State) (n m : Nat) (v : Field) :
    (s.putField n v).stackOf m = s.stackOf m := rfl
@[simp] theorem State.putField_mboxes (s : State) (n : Nat) (v : Field) : (s.putField n v).mboxes = s.mboxes := rfl
@[simp] theorem State.putField_mboxOf (s : State) (n m : Nat) (v : Field) :
    (s.putField n v).mboxOf m = s.mboxOf m := rfl
@[simp] theorem State.putField_rings (s : State) (n : Nat) (v : Field) : (s.putField n v).rings = s.rings := rfl
@[simp] theorem State.putField_thread (s : State) (n : Nat) (v : Field) : (s.putField n v).thread = s.thread := rfl
@[simp] theorem State.putField_threadNode (s : State) (n : Nat) (v : Field) (a : W16) : (s.putField n v).threadNode a = s.threadNode a := rfl
@[simp] theorem State.putField_ringOf (s : State) (n m : Nat) (v : Field) :
    (s.putField n v).ringOf m = s.ringOf m := rfl
@[simp] theorem State.putField_counters (s : State) (n : Nat) (v : Field) : (s.putField n v).counters = s.counters := rfl
@[simp] theorem State.putField_counterOf (s : State) (n m : Nat) (v : Field) :
    (s.putField n v).counterOf m = s.counterOf m := rfl
@[simp] theorem State.putField_pending (s : State) (n : Nat) (v : Field) : (s.putField n v).pending = s.pending := rfl
@[simp] theorem State.putField_mode (s : State) (n : Nat) (v : Field) : (s.putField n v).mode = s.mode := rfl
@[simp] theorem State.putField_time (s : State) (n : Nat) (v : Field) : (s.putField n v).time = s.time := rfl
@[simp] theorem State.putField_fresh (s : State) (n : Nat) (v : Field) : (s.putField n v).fresh = s.fresh := rfl
@[simp] theorem State.putField_mesh (s : State) (n : Nat) (v : Field) : (s.putField n v).mesh = s.mesh := rfl
@[simp] theorem State.putField_press (s : State) (n : Nat) (v : Field) : (s.putField n v).press = s.press := rfl
@[simp] theorem State.putField_mgmt (s : State) (n : Nat) (v : Field) : (s.putField n v).mgmt = s.mgmt := rfl
@[simp] theorem State.putField_clocks (s : State) (n : Nat) (v : Field) : (s.putField n v).clocks = s.clocks := rfl
@[simp] theorem State.putField_power (s : State) (n : Nat) (v : Field) : (s.putField n v).power = s.power := rfl
@[simp] theorem State.putField_darn (s : State) (n : Nat) (v : Field) : (s.putField n v).darn = s.darn := rfl
@[simp] theorem State.putField_tack (s : State) (n : Nat) (v : Field) : (s.putField n v).tack = s.tack := rfl
@[simp] theorem State.putField_requests (s : State) (n : Nat) (v : Field) : (s.putField n v).requests = s.requests := rfl
@[simp] theorem State.putField_waits (s : State) (n : Nat) (v : Field) : (s.putField n v).waits = s.waits := rfl
@[simp] theorem State.putField_hostOut (s : State) (n : Nat) (v : Field) : (s.putField n v).hostOut = s.hostOut := rfl

/-! ## `State.putRegion` -/

@[simp] theorem State.putRegion_same (s : State) (n : Nat) (v : Region) : (s.putRegion n v).regionOf n = v := by
  simp [State.putRegion, State.regionOf]
@[simp] theorem State.putRegion_ne (s : State) {n m : Nat} (v : Region) (h : m ≠ n) :
    (s.putRegion n v).regionOf m = s.regionOf m := by simp [State.putRegion, State.regionOf, h]
@[simp] theorem State.putRegion_again (s : State) (n : Nat) (v w : Region) :
    (s.putRegion n v).putRegion n w = s.putRegion n w := by simp [State.putRegion]
@[simp] theorem State.putRegion_cores (s : State) (n : Nat) (v : Region) : (s.putRegion n v).cores = s.cores := rfl
@[simp] theorem State.putRegion_coreOf (s : State) (n m : Nat) (v : Region) :
    (s.putRegion n v).coreOf m = s.coreOf m := rfl
@[simp] theorem State.putRegion_phys (s : State) (n : Nat) (v : Region) : (s.putRegion n v).phys = s.phys := rfl
@[simp] theorem State.putRegion_physOf (s : State) (n m : Nat) (v : Region) :
    (s.putRegion n v).physOf m = s.physOf m := rfl
@[simp] theorem State.putRegion_clusters (s : State) (n : Nat) (v : Region) : (s.putRegion n v).clusters = s.clusters := rfl
@[simp] theorem State.putRegion_clusterOf (s : State) (n m : Nat) (v : Region) :
    (s.putRegion n v).clusterOf m = s.clusterOf m := rfl
@[simp] theorem State.putRegion_tiles (s : State) (n : Nat) (v : Region) : (s.putRegion n v).tiles = s.tiles := rfl
@[simp] theorem State.putRegion_tileOf (s : State) (n m : Nat) (v : Region) :
    (s.putRegion n v).tileOf m = s.tileOf m := rfl
@[simp] theorem State.putRegion_fields (s : State) (n : Nat) (v : Region) : (s.putRegion n v).fields = s.fields := rfl
@[simp] theorem State.putRegion_fieldOf (s : State) (n m : Nat) (v : Region) :
    (s.putRegion n v).fieldOf m = s.fieldOf m := rfl
@[simp] theorem State.putRegion_pegs (s : State) (n : Nat) (v : Region) : (s.putRegion n v).pegs = s.pegs := rfl
@[simp] theorem State.putRegion_pegOf (s : State) (n m : Nat) (v : Region) :
    (s.putRegion n v).pegOf m = s.pegOf m := rfl
@[simp] theorem State.putRegion_ctxs (s : State) (n : Nat) (v : Region) : (s.putRegion n v).ctxs = s.ctxs := rfl
@[simp] theorem State.putRegion_ctxOf (s : State) (n m : Nat) (v : Region) :
    (s.putRegion n v).ctxOf m = s.ctxOf m := rfl
@[simp] theorem State.putRegion_keys (s : State) (n : Nat) (v : Region) : (s.putRegion n v).keys = s.keys := rfl
@[simp] theorem State.putRegion_keyOf (s : State) (n m : Nat) (v : Region) :
    (s.putRegion n v).keyOf m = s.keyOf m := rfl
@[simp] theorem State.putRegion_units (s : State) (n : Nat) (v : Region) : (s.putRegion n v).units = s.units := rfl
@[simp] theorem State.putRegion_unitOf (s : State) (n m : Nat) (v : Region) :
    (s.putRegion n v).unitOf m = s.unitOf m := rfl
@[simp] theorem State.putRegion_channels (s : State) (n : Nat) (v : Region) : (s.putRegion n v).channels = s.channels := rfl
@[simp] theorem State.putRegion_channelOf (s : State) (n m : Nat) (v : Region) :
    (s.putRegion n v).channelOf m = s.channelOf m := rfl
@[simp] theorem State.putRegion_hamperStacks (s : State) (n : Nat) (v : Region) : (s.putRegion n v).hamperStacks = s.hamperStacks := rfl
@[simp] theorem State.putRegion_stackOf (s : State) (n m : Nat) (v : Region) :
    (s.putRegion n v).stackOf m = s.stackOf m := rfl
@[simp] theorem State.putRegion_mboxes (s : State) (n : Nat) (v : Region) : (s.putRegion n v).mboxes = s.mboxes := rfl
@[simp] theorem State.putRegion_mboxOf (s : State) (n m : Nat) (v : Region) :
    (s.putRegion n v).mboxOf m = s.mboxOf m := rfl
@[simp] theorem State.putRegion_rings (s : State) (n : Nat) (v : Region) : (s.putRegion n v).rings = s.rings := rfl
@[simp] theorem State.putRegion_thread (s : State) (n : Nat) (v : Region) : (s.putRegion n v).thread = s.thread := rfl
@[simp] theorem State.putRegion_threadNode (s : State) (n : Nat) (v : Region) (a : W16) : (s.putRegion n v).threadNode a = s.threadNode a := rfl
@[simp] theorem State.putRegion_ringOf (s : State) (n m : Nat) (v : Region) :
    (s.putRegion n v).ringOf m = s.ringOf m := rfl
@[simp] theorem State.putRegion_counters (s : State) (n : Nat) (v : Region) : (s.putRegion n v).counters = s.counters := rfl
@[simp] theorem State.putRegion_counterOf (s : State) (n m : Nat) (v : Region) :
    (s.putRegion n v).counterOf m = s.counterOf m := rfl
@[simp] theorem State.putRegion_pending (s : State) (n : Nat) (v : Region) : (s.putRegion n v).pending = s.pending := rfl
@[simp] theorem State.putRegion_mode (s : State) (n : Nat) (v : Region) : (s.putRegion n v).mode = s.mode := rfl
@[simp] theorem State.putRegion_time (s : State) (n : Nat) (v : Region) : (s.putRegion n v).time = s.time := rfl
@[simp] theorem State.putRegion_fresh (s : State) (n : Nat) (v : Region) : (s.putRegion n v).fresh = s.fresh := rfl
@[simp] theorem State.putRegion_mesh (s : State) (n : Nat) (v : Region) : (s.putRegion n v).mesh = s.mesh := rfl
@[simp] theorem State.putRegion_press (s : State) (n : Nat) (v : Region) : (s.putRegion n v).press = s.press := rfl
@[simp] theorem State.putRegion_mgmt (s : State) (n : Nat) (v : Region) : (s.putRegion n v).mgmt = s.mgmt := rfl
@[simp] theorem State.putRegion_clocks (s : State) (n : Nat) (v : Region) : (s.putRegion n v).clocks = s.clocks := rfl
@[simp] theorem State.putRegion_power (s : State) (n : Nat) (v : Region) : (s.putRegion n v).power = s.power := rfl
@[simp] theorem State.putRegion_darn (s : State) (n : Nat) (v : Region) : (s.putRegion n v).darn = s.darn := rfl
@[simp] theorem State.putRegion_tack (s : State) (n : Nat) (v : Region) : (s.putRegion n v).tack = s.tack := rfl
@[simp] theorem State.putRegion_requests (s : State) (n : Nat) (v : Region) : (s.putRegion n v).requests = s.requests := rfl
@[simp] theorem State.putRegion_waits (s : State) (n : Nat) (v : Region) : (s.putRegion n v).waits = s.waits := rfl
@[simp] theorem State.putRegion_hostOut (s : State) (n : Nat) (v : Region) : (s.putRegion n v).hostOut = s.hostOut := rfl

/-! ## `State.putPeg` -/

@[simp] theorem State.putPeg_same (s : State) (n : Nat) (v : Peg) : (s.putPeg n v).pegOf n = v := by
  simp [State.putPeg, State.pegOf]
@[simp] theorem State.putPeg_ne (s : State) {n m : Nat} (v : Peg) (h : m ≠ n) :
    (s.putPeg n v).pegOf m = s.pegOf m := by simp [State.putPeg, State.pegOf, h]
@[simp] theorem State.putPeg_again (s : State) (n : Nat) (v w : Peg) :
    (s.putPeg n v).putPeg n w = s.putPeg n w := by simp [State.putPeg]
@[simp] theorem State.putPeg_cores (s : State) (n : Nat) (v : Peg) : (s.putPeg n v).cores = s.cores := rfl
@[simp] theorem State.putPeg_coreOf (s : State) (n m : Nat) (v : Peg) :
    (s.putPeg n v).coreOf m = s.coreOf m := rfl
@[simp] theorem State.putPeg_phys (s : State) (n : Nat) (v : Peg) : (s.putPeg n v).phys = s.phys := rfl
@[simp] theorem State.putPeg_physOf (s : State) (n m : Nat) (v : Peg) :
    (s.putPeg n v).physOf m = s.physOf m := rfl
@[simp] theorem State.putPeg_clusters (s : State) (n : Nat) (v : Peg) : (s.putPeg n v).clusters = s.clusters := rfl
@[simp] theorem State.putPeg_clusterOf (s : State) (n m : Nat) (v : Peg) :
    (s.putPeg n v).clusterOf m = s.clusterOf m := rfl
@[simp] theorem State.putPeg_tiles (s : State) (n : Nat) (v : Peg) : (s.putPeg n v).tiles = s.tiles := rfl
@[simp] theorem State.putPeg_tileOf (s : State) (n m : Nat) (v : Peg) :
    (s.putPeg n v).tileOf m = s.tileOf m := rfl
@[simp] theorem State.putPeg_fields (s : State) (n : Nat) (v : Peg) : (s.putPeg n v).fields = s.fields := rfl
@[simp] theorem State.putPeg_fieldOf (s : State) (n m : Nat) (v : Peg) :
    (s.putPeg n v).fieldOf m = s.fieldOf m := rfl
@[simp] theorem State.putPeg_regions (s : State) (n : Nat) (v : Peg) : (s.putPeg n v).regions = s.regions := rfl
@[simp] theorem State.putPeg_regionOf (s : State) (n m : Nat) (v : Peg) :
    (s.putPeg n v).regionOf m = s.regionOf m := rfl
@[simp] theorem State.putPeg_ctxs (s : State) (n : Nat) (v : Peg) : (s.putPeg n v).ctxs = s.ctxs := rfl
@[simp] theorem State.putPeg_ctxOf (s : State) (n m : Nat) (v : Peg) :
    (s.putPeg n v).ctxOf m = s.ctxOf m := rfl
@[simp] theorem State.putPeg_keys (s : State) (n : Nat) (v : Peg) : (s.putPeg n v).keys = s.keys := rfl
@[simp] theorem State.putPeg_keyOf (s : State) (n m : Nat) (v : Peg) :
    (s.putPeg n v).keyOf m = s.keyOf m := rfl
@[simp] theorem State.putPeg_units (s : State) (n : Nat) (v : Peg) : (s.putPeg n v).units = s.units := rfl
@[simp] theorem State.putPeg_unitOf (s : State) (n m : Nat) (v : Peg) :
    (s.putPeg n v).unitOf m = s.unitOf m := rfl
@[simp] theorem State.putPeg_channels (s : State) (n : Nat) (v : Peg) : (s.putPeg n v).channels = s.channels := rfl
@[simp] theorem State.putPeg_channelOf (s : State) (n m : Nat) (v : Peg) :
    (s.putPeg n v).channelOf m = s.channelOf m := rfl
@[simp] theorem State.putPeg_hamperStacks (s : State) (n : Nat) (v : Peg) : (s.putPeg n v).hamperStacks = s.hamperStacks := rfl
@[simp] theorem State.putPeg_stackOf (s : State) (n m : Nat) (v : Peg) :
    (s.putPeg n v).stackOf m = s.stackOf m := rfl
@[simp] theorem State.putPeg_mboxes (s : State) (n : Nat) (v : Peg) : (s.putPeg n v).mboxes = s.mboxes := rfl
@[simp] theorem State.putPeg_mboxOf (s : State) (n m : Nat) (v : Peg) :
    (s.putPeg n v).mboxOf m = s.mboxOf m := rfl
@[simp] theorem State.putPeg_rings (s : State) (n : Nat) (v : Peg) : (s.putPeg n v).rings = s.rings := rfl
@[simp] theorem State.putPeg_thread (s : State) (n : Nat) (v : Peg) : (s.putPeg n v).thread = s.thread := rfl
@[simp] theorem State.putPeg_threadNode (s : State) (n : Nat) (v : Peg) (a : W16) : (s.putPeg n v).threadNode a = s.threadNode a := rfl
@[simp] theorem State.putPeg_ringOf (s : State) (n m : Nat) (v : Peg) :
    (s.putPeg n v).ringOf m = s.ringOf m := rfl
@[simp] theorem State.putPeg_counters (s : State) (n : Nat) (v : Peg) : (s.putPeg n v).counters = s.counters := rfl
@[simp] theorem State.putPeg_counterOf (s : State) (n m : Nat) (v : Peg) :
    (s.putPeg n v).counterOf m = s.counterOf m := rfl
@[simp] theorem State.putPeg_pending (s : State) (n : Nat) (v : Peg) : (s.putPeg n v).pending = s.pending := rfl
@[simp] theorem State.putPeg_mode (s : State) (n : Nat) (v : Peg) : (s.putPeg n v).mode = s.mode := rfl
@[simp] theorem State.putPeg_time (s : State) (n : Nat) (v : Peg) : (s.putPeg n v).time = s.time := rfl
@[simp] theorem State.putPeg_fresh (s : State) (n : Nat) (v : Peg) : (s.putPeg n v).fresh = s.fresh := rfl
@[simp] theorem State.putPeg_mesh (s : State) (n : Nat) (v : Peg) : (s.putPeg n v).mesh = s.mesh := rfl
@[simp] theorem State.putPeg_press (s : State) (n : Nat) (v : Peg) : (s.putPeg n v).press = s.press := rfl
@[simp] theorem State.putPeg_mgmt (s : State) (n : Nat) (v : Peg) : (s.putPeg n v).mgmt = s.mgmt := rfl
@[simp] theorem State.putPeg_clocks (s : State) (n : Nat) (v : Peg) : (s.putPeg n v).clocks = s.clocks := rfl
@[simp] theorem State.putPeg_power (s : State) (n : Nat) (v : Peg) : (s.putPeg n v).power = s.power := rfl
@[simp] theorem State.putPeg_darn (s : State) (n : Nat) (v : Peg) : (s.putPeg n v).darn = s.darn := rfl
@[simp] theorem State.putPeg_tack (s : State) (n : Nat) (v : Peg) : (s.putPeg n v).tack = s.tack := rfl
@[simp] theorem State.putPeg_requests (s : State) (n : Nat) (v : Peg) : (s.putPeg n v).requests = s.requests := rfl
@[simp] theorem State.putPeg_waits (s : State) (n : Nat) (v : Peg) : (s.putPeg n v).waits = s.waits := rfl
@[simp] theorem State.putPeg_hostOut (s : State) (n : Nat) (v : Peg) : (s.putPeg n v).hostOut = s.hostOut := rfl

/-! ## `State.putCtx` -/

@[simp] theorem State.putCtx_same (s : State) (n : Nat) (v : Ctx) : (s.putCtx n v).ctxOf n = v := by
  simp [State.putCtx, State.ctxOf]
@[simp] theorem State.putCtx_ne (s : State) {n m : Nat} (v : Ctx) (h : m ≠ n) :
    (s.putCtx n v).ctxOf m = s.ctxOf m := by simp [State.putCtx, State.ctxOf, h]
@[simp] theorem State.putCtx_again (s : State) (n : Nat) (v w : Ctx) :
    (s.putCtx n v).putCtx n w = s.putCtx n w := by simp [State.putCtx]
@[simp] theorem State.putCtx_cores (s : State) (n : Nat) (v : Ctx) : (s.putCtx n v).cores = s.cores := rfl
@[simp] theorem State.putCtx_coreOf (s : State) (n m : Nat) (v : Ctx) :
    (s.putCtx n v).coreOf m = s.coreOf m := rfl
@[simp] theorem State.putCtx_phys (s : State) (n : Nat) (v : Ctx) : (s.putCtx n v).phys = s.phys := rfl
@[simp] theorem State.putCtx_physOf (s : State) (n m : Nat) (v : Ctx) :
    (s.putCtx n v).physOf m = s.physOf m := rfl
@[simp] theorem State.putCtx_clusters (s : State) (n : Nat) (v : Ctx) : (s.putCtx n v).clusters = s.clusters := rfl
@[simp] theorem State.putCtx_clusterOf (s : State) (n m : Nat) (v : Ctx) :
    (s.putCtx n v).clusterOf m = s.clusterOf m := rfl
@[simp] theorem State.putCtx_tiles (s : State) (n : Nat) (v : Ctx) : (s.putCtx n v).tiles = s.tiles := rfl
@[simp] theorem State.putCtx_tileOf (s : State) (n m : Nat) (v : Ctx) :
    (s.putCtx n v).tileOf m = s.tileOf m := rfl
@[simp] theorem State.putCtx_fields (s : State) (n : Nat) (v : Ctx) : (s.putCtx n v).fields = s.fields := rfl
@[simp] theorem State.putCtx_fieldOf (s : State) (n m : Nat) (v : Ctx) :
    (s.putCtx n v).fieldOf m = s.fieldOf m := rfl
@[simp] theorem State.putCtx_regions (s : State) (n : Nat) (v : Ctx) : (s.putCtx n v).regions = s.regions := rfl
@[simp] theorem State.putCtx_regionOf (s : State) (n m : Nat) (v : Ctx) :
    (s.putCtx n v).regionOf m = s.regionOf m := rfl
@[simp] theorem State.putCtx_pegs (s : State) (n : Nat) (v : Ctx) : (s.putCtx n v).pegs = s.pegs := rfl
@[simp] theorem State.putCtx_pegOf (s : State) (n m : Nat) (v : Ctx) :
    (s.putCtx n v).pegOf m = s.pegOf m := rfl
@[simp] theorem State.putCtx_keys (s : State) (n : Nat) (v : Ctx) : (s.putCtx n v).keys = s.keys := rfl
@[simp] theorem State.putCtx_keyOf (s : State) (n m : Nat) (v : Ctx) :
    (s.putCtx n v).keyOf m = s.keyOf m := rfl
@[simp] theorem State.putCtx_units (s : State) (n : Nat) (v : Ctx) : (s.putCtx n v).units = s.units := rfl
@[simp] theorem State.putCtx_unitOf (s : State) (n m : Nat) (v : Ctx) :
    (s.putCtx n v).unitOf m = s.unitOf m := rfl
@[simp] theorem State.putCtx_channels (s : State) (n : Nat) (v : Ctx) : (s.putCtx n v).channels = s.channels := rfl
@[simp] theorem State.putCtx_channelOf (s : State) (n m : Nat) (v : Ctx) :
    (s.putCtx n v).channelOf m = s.channelOf m := rfl
@[simp] theorem State.putCtx_hamperStacks (s : State) (n : Nat) (v : Ctx) : (s.putCtx n v).hamperStacks = s.hamperStacks := rfl
@[simp] theorem State.putCtx_stackOf (s : State) (n m : Nat) (v : Ctx) :
    (s.putCtx n v).stackOf m = s.stackOf m := rfl
@[simp] theorem State.putCtx_mboxes (s : State) (n : Nat) (v : Ctx) : (s.putCtx n v).mboxes = s.mboxes := rfl
@[simp] theorem State.putCtx_mboxOf (s : State) (n m : Nat) (v : Ctx) :
    (s.putCtx n v).mboxOf m = s.mboxOf m := rfl
@[simp] theorem State.putCtx_rings (s : State) (n : Nat) (v : Ctx) : (s.putCtx n v).rings = s.rings := rfl
@[simp] theorem State.putCtx_thread (s : State) (n : Nat) (v : Ctx) : (s.putCtx n v).thread = s.thread := rfl
@[simp] theorem State.putCtx_threadNode (s : State) (n : Nat) (v : Ctx) (a : W16) : (s.putCtx n v).threadNode a = s.threadNode a := rfl
@[simp] theorem State.putCtx_ringOf (s : State) (n m : Nat) (v : Ctx) :
    (s.putCtx n v).ringOf m = s.ringOf m := rfl
@[simp] theorem State.putCtx_counters (s : State) (n : Nat) (v : Ctx) : (s.putCtx n v).counters = s.counters := rfl
@[simp] theorem State.putCtx_counterOf (s : State) (n m : Nat) (v : Ctx) :
    (s.putCtx n v).counterOf m = s.counterOf m := rfl
@[simp] theorem State.putCtx_pending (s : State) (n : Nat) (v : Ctx) : (s.putCtx n v).pending = s.pending := rfl
@[simp] theorem State.putCtx_mode (s : State) (n : Nat) (v : Ctx) : (s.putCtx n v).mode = s.mode := rfl
@[simp] theorem State.putCtx_time (s : State) (n : Nat) (v : Ctx) : (s.putCtx n v).time = s.time := rfl
@[simp] theorem State.putCtx_fresh (s : State) (n : Nat) (v : Ctx) : (s.putCtx n v).fresh = s.fresh := rfl
@[simp] theorem State.putCtx_mesh (s : State) (n : Nat) (v : Ctx) : (s.putCtx n v).mesh = s.mesh := rfl
@[simp] theorem State.putCtx_press (s : State) (n : Nat) (v : Ctx) : (s.putCtx n v).press = s.press := rfl
@[simp] theorem State.putCtx_mgmt (s : State) (n : Nat) (v : Ctx) : (s.putCtx n v).mgmt = s.mgmt := rfl
@[simp] theorem State.putCtx_clocks (s : State) (n : Nat) (v : Ctx) : (s.putCtx n v).clocks = s.clocks := rfl
@[simp] theorem State.putCtx_power (s : State) (n : Nat) (v : Ctx) : (s.putCtx n v).power = s.power := rfl
@[simp] theorem State.putCtx_darn (s : State) (n : Nat) (v : Ctx) : (s.putCtx n v).darn = s.darn := rfl
@[simp] theorem State.putCtx_tack (s : State) (n : Nat) (v : Ctx) : (s.putCtx n v).tack = s.tack := rfl
@[simp] theorem State.putCtx_requests (s : State) (n : Nat) (v : Ctx) : (s.putCtx n v).requests = s.requests := rfl
@[simp] theorem State.putCtx_waits (s : State) (n : Nat) (v : Ctx) : (s.putCtx n v).waits = s.waits := rfl
@[simp] theorem State.putCtx_hostOut (s : State) (n : Nat) (v : Ctx) : (s.putCtx n v).hostOut = s.hostOut := rfl

/-! ## `State.putKey` -/

@[simp] theorem State.putKey_same (s : State) (n : Nat) (v : KeySlot) : (s.putKey n v).keyOf n = v := by
  simp [State.putKey, State.keyOf]
@[simp] theorem State.putKey_ne (s : State) {n m : Nat} (v : KeySlot) (h : m ≠ n) :
    (s.putKey n v).keyOf m = s.keyOf m := by simp [State.putKey, State.keyOf, h]
@[simp] theorem State.putKey_again (s : State) (n : Nat) (v w : KeySlot) :
    (s.putKey n v).putKey n w = s.putKey n w := by simp [State.putKey]
@[simp] theorem State.putKey_cores (s : State) (n : Nat) (v : KeySlot) : (s.putKey n v).cores = s.cores := rfl
@[simp] theorem State.putKey_coreOf (s : State) (n m : Nat) (v : KeySlot) :
    (s.putKey n v).coreOf m = s.coreOf m := rfl
@[simp] theorem State.putKey_phys (s : State) (n : Nat) (v : KeySlot) : (s.putKey n v).phys = s.phys := rfl
@[simp] theorem State.putKey_physOf (s : State) (n m : Nat) (v : KeySlot) :
    (s.putKey n v).physOf m = s.physOf m := rfl
@[simp] theorem State.putKey_clusters (s : State) (n : Nat) (v : KeySlot) : (s.putKey n v).clusters = s.clusters := rfl
@[simp] theorem State.putKey_clusterOf (s : State) (n m : Nat) (v : KeySlot) :
    (s.putKey n v).clusterOf m = s.clusterOf m := rfl
@[simp] theorem State.putKey_tiles (s : State) (n : Nat) (v : KeySlot) : (s.putKey n v).tiles = s.tiles := rfl
@[simp] theorem State.putKey_tileOf (s : State) (n m : Nat) (v : KeySlot) :
    (s.putKey n v).tileOf m = s.tileOf m := rfl
@[simp] theorem State.putKey_fields (s : State) (n : Nat) (v : KeySlot) : (s.putKey n v).fields = s.fields := rfl
@[simp] theorem State.putKey_fieldOf (s : State) (n m : Nat) (v : KeySlot) :
    (s.putKey n v).fieldOf m = s.fieldOf m := rfl
@[simp] theorem State.putKey_regions (s : State) (n : Nat) (v : KeySlot) : (s.putKey n v).regions = s.regions := rfl
@[simp] theorem State.putKey_regionOf (s : State) (n m : Nat) (v : KeySlot) :
    (s.putKey n v).regionOf m = s.regionOf m := rfl
@[simp] theorem State.putKey_pegs (s : State) (n : Nat) (v : KeySlot) : (s.putKey n v).pegs = s.pegs := rfl
@[simp] theorem State.putKey_pegOf (s : State) (n m : Nat) (v : KeySlot) :
    (s.putKey n v).pegOf m = s.pegOf m := rfl
@[simp] theorem State.putKey_ctxs (s : State) (n : Nat) (v : KeySlot) : (s.putKey n v).ctxs = s.ctxs := rfl
@[simp] theorem State.putKey_ctxOf (s : State) (n m : Nat) (v : KeySlot) :
    (s.putKey n v).ctxOf m = s.ctxOf m := rfl
@[simp] theorem State.putKey_units (s : State) (n : Nat) (v : KeySlot) : (s.putKey n v).units = s.units := rfl
@[simp] theorem State.putKey_unitOf (s : State) (n m : Nat) (v : KeySlot) :
    (s.putKey n v).unitOf m = s.unitOf m := rfl
@[simp] theorem State.putKey_channels (s : State) (n : Nat) (v : KeySlot) : (s.putKey n v).channels = s.channels := rfl
@[simp] theorem State.putKey_channelOf (s : State) (n m : Nat) (v : KeySlot) :
    (s.putKey n v).channelOf m = s.channelOf m := rfl
@[simp] theorem State.putKey_hamperStacks (s : State) (n : Nat) (v : KeySlot) : (s.putKey n v).hamperStacks = s.hamperStacks := rfl
@[simp] theorem State.putKey_stackOf (s : State) (n m : Nat) (v : KeySlot) :
    (s.putKey n v).stackOf m = s.stackOf m := rfl
@[simp] theorem State.putKey_mboxes (s : State) (n : Nat) (v : KeySlot) : (s.putKey n v).mboxes = s.mboxes := rfl
@[simp] theorem State.putKey_mboxOf (s : State) (n m : Nat) (v : KeySlot) :
    (s.putKey n v).mboxOf m = s.mboxOf m := rfl
@[simp] theorem State.putKey_rings (s : State) (n : Nat) (v : KeySlot) : (s.putKey n v).rings = s.rings := rfl
@[simp] theorem State.putKey_thread (s : State) (n : Nat) (v : KeySlot) : (s.putKey n v).thread = s.thread := rfl
@[simp] theorem State.putKey_threadNode (s : State) (n : Nat) (v : KeySlot) (a : W16) : (s.putKey n v).threadNode a = s.threadNode a := rfl
@[simp] theorem State.putKey_ringOf (s : State) (n m : Nat) (v : KeySlot) :
    (s.putKey n v).ringOf m = s.ringOf m := rfl
@[simp] theorem State.putKey_counters (s : State) (n : Nat) (v : KeySlot) : (s.putKey n v).counters = s.counters := rfl
@[simp] theorem State.putKey_counterOf (s : State) (n m : Nat) (v : KeySlot) :
    (s.putKey n v).counterOf m = s.counterOf m := rfl
@[simp] theorem State.putKey_pending (s : State) (n : Nat) (v : KeySlot) : (s.putKey n v).pending = s.pending := rfl
@[simp] theorem State.putKey_mode (s : State) (n : Nat) (v : KeySlot) : (s.putKey n v).mode = s.mode := rfl
@[simp] theorem State.putKey_time (s : State) (n : Nat) (v : KeySlot) : (s.putKey n v).time = s.time := rfl
@[simp] theorem State.putKey_fresh (s : State) (n : Nat) (v : KeySlot) : (s.putKey n v).fresh = s.fresh := rfl
@[simp] theorem State.putKey_mesh (s : State) (n : Nat) (v : KeySlot) : (s.putKey n v).mesh = s.mesh := rfl
@[simp] theorem State.putKey_press (s : State) (n : Nat) (v : KeySlot) : (s.putKey n v).press = s.press := rfl
@[simp] theorem State.putKey_mgmt (s : State) (n : Nat) (v : KeySlot) : (s.putKey n v).mgmt = s.mgmt := rfl
@[simp] theorem State.putKey_clocks (s : State) (n : Nat) (v : KeySlot) : (s.putKey n v).clocks = s.clocks := rfl
@[simp] theorem State.putKey_power (s : State) (n : Nat) (v : KeySlot) : (s.putKey n v).power = s.power := rfl
@[simp] theorem State.putKey_darn (s : State) (n : Nat) (v : KeySlot) : (s.putKey n v).darn = s.darn := rfl
@[simp] theorem State.putKey_tack (s : State) (n : Nat) (v : KeySlot) : (s.putKey n v).tack = s.tack := rfl
@[simp] theorem State.putKey_requests (s : State) (n : Nat) (v : KeySlot) : (s.putKey n v).requests = s.requests := rfl
@[simp] theorem State.putKey_waits (s : State) (n : Nat) (v : KeySlot) : (s.putKey n v).waits = s.waits := rfl
@[simp] theorem State.putKey_hostOut (s : State) (n : Nat) (v : KeySlot) : (s.putKey n v).hostOut = s.hostOut := rfl

/-! ## `State.putUnit` -/

@[simp] theorem State.putUnit_same (s : State) (n : Nat) (v : LinkUnit) : (s.putUnit n v).unitOf n = v := by
  simp [State.putUnit, State.unitOf]
@[simp] theorem State.putUnit_ne (s : State) {n m : Nat} (v : LinkUnit) (h : m ≠ n) :
    (s.putUnit n v).unitOf m = s.unitOf m := by simp [State.putUnit, State.unitOf, h]
@[simp] theorem State.putUnit_again (s : State) (n : Nat) (v w : LinkUnit) :
    (s.putUnit n v).putUnit n w = s.putUnit n w := by simp [State.putUnit]
@[simp] theorem State.putUnit_cores (s : State) (n : Nat) (v : LinkUnit) : (s.putUnit n v).cores = s.cores := rfl
@[simp] theorem State.putUnit_coreOf (s : State) (n m : Nat) (v : LinkUnit) :
    (s.putUnit n v).coreOf m = s.coreOf m := rfl
@[simp] theorem State.putUnit_phys (s : State) (n : Nat) (v : LinkUnit) : (s.putUnit n v).phys = s.phys := rfl
@[simp] theorem State.putUnit_physOf (s : State) (n m : Nat) (v : LinkUnit) :
    (s.putUnit n v).physOf m = s.physOf m := rfl
@[simp] theorem State.putUnit_clusters (s : State) (n : Nat) (v : LinkUnit) : (s.putUnit n v).clusters = s.clusters := rfl
@[simp] theorem State.putUnit_clusterOf (s : State) (n m : Nat) (v : LinkUnit) :
    (s.putUnit n v).clusterOf m = s.clusterOf m := rfl
@[simp] theorem State.putUnit_tiles (s : State) (n : Nat) (v : LinkUnit) : (s.putUnit n v).tiles = s.tiles := rfl
@[simp] theorem State.putUnit_tileOf (s : State) (n m : Nat) (v : LinkUnit) :
    (s.putUnit n v).tileOf m = s.tileOf m := rfl
@[simp] theorem State.putUnit_fields (s : State) (n : Nat) (v : LinkUnit) : (s.putUnit n v).fields = s.fields := rfl
@[simp] theorem State.putUnit_fieldOf (s : State) (n m : Nat) (v : LinkUnit) :
    (s.putUnit n v).fieldOf m = s.fieldOf m := rfl
@[simp] theorem State.putUnit_regions (s : State) (n : Nat) (v : LinkUnit) : (s.putUnit n v).regions = s.regions := rfl
@[simp] theorem State.putUnit_regionOf (s : State) (n m : Nat) (v : LinkUnit) :
    (s.putUnit n v).regionOf m = s.regionOf m := rfl
@[simp] theorem State.putUnit_pegs (s : State) (n : Nat) (v : LinkUnit) : (s.putUnit n v).pegs = s.pegs := rfl
@[simp] theorem State.putUnit_pegOf (s : State) (n m : Nat) (v : LinkUnit) :
    (s.putUnit n v).pegOf m = s.pegOf m := rfl
@[simp] theorem State.putUnit_ctxs (s : State) (n : Nat) (v : LinkUnit) : (s.putUnit n v).ctxs = s.ctxs := rfl
@[simp] theorem State.putUnit_ctxOf (s : State) (n m : Nat) (v : LinkUnit) :
    (s.putUnit n v).ctxOf m = s.ctxOf m := rfl
@[simp] theorem State.putUnit_keys (s : State) (n : Nat) (v : LinkUnit) : (s.putUnit n v).keys = s.keys := rfl
@[simp] theorem State.putUnit_keyOf (s : State) (n m : Nat) (v : LinkUnit) :
    (s.putUnit n v).keyOf m = s.keyOf m := rfl
@[simp] theorem State.putUnit_channels (s : State) (n : Nat) (v : LinkUnit) : (s.putUnit n v).channels = s.channels := rfl
@[simp] theorem State.putUnit_channelOf (s : State) (n m : Nat) (v : LinkUnit) :
    (s.putUnit n v).channelOf m = s.channelOf m := rfl
@[simp] theorem State.putUnit_hamperStacks (s : State) (n : Nat) (v : LinkUnit) : (s.putUnit n v).hamperStacks = s.hamperStacks := rfl
@[simp] theorem State.putUnit_stackOf (s : State) (n m : Nat) (v : LinkUnit) :
    (s.putUnit n v).stackOf m = s.stackOf m := rfl
@[simp] theorem State.putUnit_mboxes (s : State) (n : Nat) (v : LinkUnit) : (s.putUnit n v).mboxes = s.mboxes := rfl
@[simp] theorem State.putUnit_mboxOf (s : State) (n m : Nat) (v : LinkUnit) :
    (s.putUnit n v).mboxOf m = s.mboxOf m := rfl
@[simp] theorem State.putUnit_rings (s : State) (n : Nat) (v : LinkUnit) : (s.putUnit n v).rings = s.rings := rfl
@[simp] theorem State.putUnit_thread (s : State) (n : Nat) (v : LinkUnit) : (s.putUnit n v).thread = s.thread := rfl
@[simp] theorem State.putUnit_threadNode (s : State) (n : Nat) (v : LinkUnit) (a : W16) : (s.putUnit n v).threadNode a = s.threadNode a := rfl
@[simp] theorem State.putUnit_ringOf (s : State) (n m : Nat) (v : LinkUnit) :
    (s.putUnit n v).ringOf m = s.ringOf m := rfl
@[simp] theorem State.putUnit_counters (s : State) (n : Nat) (v : LinkUnit) : (s.putUnit n v).counters = s.counters := rfl
@[simp] theorem State.putUnit_counterOf (s : State) (n m : Nat) (v : LinkUnit) :
    (s.putUnit n v).counterOf m = s.counterOf m := rfl
@[simp] theorem State.putUnit_pending (s : State) (n : Nat) (v : LinkUnit) : (s.putUnit n v).pending = s.pending := rfl
@[simp] theorem State.putUnit_mode (s : State) (n : Nat) (v : LinkUnit) : (s.putUnit n v).mode = s.mode := rfl
@[simp] theorem State.putUnit_time (s : State) (n : Nat) (v : LinkUnit) : (s.putUnit n v).time = s.time := rfl
@[simp] theorem State.putUnit_fresh (s : State) (n : Nat) (v : LinkUnit) : (s.putUnit n v).fresh = s.fresh := rfl
@[simp] theorem State.putUnit_mesh (s : State) (n : Nat) (v : LinkUnit) : (s.putUnit n v).mesh = s.mesh := rfl
@[simp] theorem State.putUnit_press (s : State) (n : Nat) (v : LinkUnit) : (s.putUnit n v).press = s.press := rfl
@[simp] theorem State.putUnit_mgmt (s : State) (n : Nat) (v : LinkUnit) : (s.putUnit n v).mgmt = s.mgmt := rfl
@[simp] theorem State.putUnit_clocks (s : State) (n : Nat) (v : LinkUnit) : (s.putUnit n v).clocks = s.clocks := rfl
@[simp] theorem State.putUnit_power (s : State) (n : Nat) (v : LinkUnit) : (s.putUnit n v).power = s.power := rfl
@[simp] theorem State.putUnit_darn (s : State) (n : Nat) (v : LinkUnit) : (s.putUnit n v).darn = s.darn := rfl
@[simp] theorem State.putUnit_tack (s : State) (n : Nat) (v : LinkUnit) : (s.putUnit n v).tack = s.tack := rfl
@[simp] theorem State.putUnit_requests (s : State) (n : Nat) (v : LinkUnit) : (s.putUnit n v).requests = s.requests := rfl
@[simp] theorem State.putUnit_waits (s : State) (n : Nat) (v : LinkUnit) : (s.putUnit n v).waits = s.waits := rfl
@[simp] theorem State.putUnit_hostOut (s : State) (n : Nat) (v : LinkUnit) : (s.putUnit n v).hostOut = s.hostOut := rfl

/-! ## `State.putChannel` -/

@[simp] theorem State.putChannel_same (s : State) (n : Nat) (v : Channel) : (s.putChannel n v).channelOf n = v := by
  simp [State.putChannel, State.channelOf]
@[simp] theorem State.putChannel_ne (s : State) {n m : Nat} (v : Channel) (h : m ≠ n) :
    (s.putChannel n v).channelOf m = s.channelOf m := by simp [State.putChannel, State.channelOf, h]
@[simp] theorem State.putChannel_again (s : State) (n : Nat) (v w : Channel) :
    (s.putChannel n v).putChannel n w = s.putChannel n w := by simp [State.putChannel]
@[simp] theorem State.putChannel_cores (s : State) (n : Nat) (v : Channel) : (s.putChannel n v).cores = s.cores := rfl
@[simp] theorem State.putChannel_coreOf (s : State) (n m : Nat) (v : Channel) :
    (s.putChannel n v).coreOf m = s.coreOf m := rfl
@[simp] theorem State.putChannel_phys (s : State) (n : Nat) (v : Channel) : (s.putChannel n v).phys = s.phys := rfl
@[simp] theorem State.putChannel_physOf (s : State) (n m : Nat) (v : Channel) :
    (s.putChannel n v).physOf m = s.physOf m := rfl
@[simp] theorem State.putChannel_clusters (s : State) (n : Nat) (v : Channel) : (s.putChannel n v).clusters = s.clusters := rfl
@[simp] theorem State.putChannel_clusterOf (s : State) (n m : Nat) (v : Channel) :
    (s.putChannel n v).clusterOf m = s.clusterOf m := rfl
@[simp] theorem State.putChannel_tiles (s : State) (n : Nat) (v : Channel) : (s.putChannel n v).tiles = s.tiles := rfl
@[simp] theorem State.putChannel_tileOf (s : State) (n m : Nat) (v : Channel) :
    (s.putChannel n v).tileOf m = s.tileOf m := rfl
@[simp] theorem State.putChannel_fields (s : State) (n : Nat) (v : Channel) : (s.putChannel n v).fields = s.fields := rfl
@[simp] theorem State.putChannel_fieldOf (s : State) (n m : Nat) (v : Channel) :
    (s.putChannel n v).fieldOf m = s.fieldOf m := rfl
@[simp] theorem State.putChannel_regions (s : State) (n : Nat) (v : Channel) : (s.putChannel n v).regions = s.regions := rfl
@[simp] theorem State.putChannel_regionOf (s : State) (n m : Nat) (v : Channel) :
    (s.putChannel n v).regionOf m = s.regionOf m := rfl
@[simp] theorem State.putChannel_pegs (s : State) (n : Nat) (v : Channel) : (s.putChannel n v).pegs = s.pegs := rfl
@[simp] theorem State.putChannel_pegOf (s : State) (n m : Nat) (v : Channel) :
    (s.putChannel n v).pegOf m = s.pegOf m := rfl
@[simp] theorem State.putChannel_ctxs (s : State) (n : Nat) (v : Channel) : (s.putChannel n v).ctxs = s.ctxs := rfl
@[simp] theorem State.putChannel_ctxOf (s : State) (n m : Nat) (v : Channel) :
    (s.putChannel n v).ctxOf m = s.ctxOf m := rfl
@[simp] theorem State.putChannel_keys (s : State) (n : Nat) (v : Channel) : (s.putChannel n v).keys = s.keys := rfl
@[simp] theorem State.putChannel_keyOf (s : State) (n m : Nat) (v : Channel) :
    (s.putChannel n v).keyOf m = s.keyOf m := rfl
@[simp] theorem State.putChannel_units (s : State) (n : Nat) (v : Channel) : (s.putChannel n v).units = s.units := rfl
@[simp] theorem State.putChannel_unitOf (s : State) (n m : Nat) (v : Channel) :
    (s.putChannel n v).unitOf m = s.unitOf m := rfl
@[simp] theorem State.putChannel_hamperStacks (s : State) (n : Nat) (v : Channel) : (s.putChannel n v).hamperStacks = s.hamperStacks := rfl
@[simp] theorem State.putChannel_stackOf (s : State) (n m : Nat) (v : Channel) :
    (s.putChannel n v).stackOf m = s.stackOf m := rfl
@[simp] theorem State.putChannel_mboxes (s : State) (n : Nat) (v : Channel) : (s.putChannel n v).mboxes = s.mboxes := rfl
@[simp] theorem State.putChannel_mboxOf (s : State) (n m : Nat) (v : Channel) :
    (s.putChannel n v).mboxOf m = s.mboxOf m := rfl
@[simp] theorem State.putChannel_rings (s : State) (n : Nat) (v : Channel) : (s.putChannel n v).rings = s.rings := rfl
@[simp] theorem State.putChannel_thread (s : State) (n : Nat) (v : Channel) : (s.putChannel n v).thread = s.thread := rfl
@[simp] theorem State.putChannel_threadNode (s : State) (n : Nat) (v : Channel) (a : W16) : (s.putChannel n v).threadNode a = s.threadNode a := rfl
@[simp] theorem State.putChannel_ringOf (s : State) (n m : Nat) (v : Channel) :
    (s.putChannel n v).ringOf m = s.ringOf m := rfl
@[simp] theorem State.putChannel_counters (s : State) (n : Nat) (v : Channel) : (s.putChannel n v).counters = s.counters := rfl
@[simp] theorem State.putChannel_counterOf (s : State) (n m : Nat) (v : Channel) :
    (s.putChannel n v).counterOf m = s.counterOf m := rfl
@[simp] theorem State.putChannel_pending (s : State) (n : Nat) (v : Channel) : (s.putChannel n v).pending = s.pending := rfl
@[simp] theorem State.putChannel_mode (s : State) (n : Nat) (v : Channel) : (s.putChannel n v).mode = s.mode := rfl
@[simp] theorem State.putChannel_time (s : State) (n : Nat) (v : Channel) : (s.putChannel n v).time = s.time := rfl
@[simp] theorem State.putChannel_fresh (s : State) (n : Nat) (v : Channel) : (s.putChannel n v).fresh = s.fresh := rfl
@[simp] theorem State.putChannel_mesh (s : State) (n : Nat) (v : Channel) : (s.putChannel n v).mesh = s.mesh := rfl
@[simp] theorem State.putChannel_press (s : State) (n : Nat) (v : Channel) : (s.putChannel n v).press = s.press := rfl
@[simp] theorem State.putChannel_mgmt (s : State) (n : Nat) (v : Channel) : (s.putChannel n v).mgmt = s.mgmt := rfl
@[simp] theorem State.putChannel_clocks (s : State) (n : Nat) (v : Channel) : (s.putChannel n v).clocks = s.clocks := rfl
@[simp] theorem State.putChannel_power (s : State) (n : Nat) (v : Channel) : (s.putChannel n v).power = s.power := rfl
@[simp] theorem State.putChannel_darn (s : State) (n : Nat) (v : Channel) : (s.putChannel n v).darn = s.darn := rfl
@[simp] theorem State.putChannel_tack (s : State) (n : Nat) (v : Channel) : (s.putChannel n v).tack = s.tack := rfl
@[simp] theorem State.putChannel_requests (s : State) (n : Nat) (v : Channel) : (s.putChannel n v).requests = s.requests := rfl
@[simp] theorem State.putChannel_waits (s : State) (n : Nat) (v : Channel) : (s.putChannel n v).waits = s.waits := rfl
@[simp] theorem State.putChannel_hostOut (s : State) (n : Nat) (v : Channel) : (s.putChannel n v).hostOut = s.hostOut := rfl

/-! ## `State.putStack` -/

@[simp] theorem State.putStack_same (s : State) (n : Nat) (v : Stack) : (s.putStack n v).stackOf n = v := by
  simp [State.putStack, State.stackOf]
@[simp] theorem State.putStack_ne (s : State) {n m : Nat} (v : Stack) (h : m ≠ n) :
    (s.putStack n v).stackOf m = s.stackOf m := by simp [State.putStack, State.stackOf, h]
@[simp] theorem State.putStack_again (s : State) (n : Nat) (v w : Stack) :
    (s.putStack n v).putStack n w = s.putStack n w := by simp [State.putStack]
@[simp] theorem State.putStack_cores (s : State) (n : Nat) (v : Stack) : (s.putStack n v).cores = s.cores := rfl
@[simp] theorem State.putStack_coreOf (s : State) (n m : Nat) (v : Stack) :
    (s.putStack n v).coreOf m = s.coreOf m := rfl
@[simp] theorem State.putStack_phys (s : State) (n : Nat) (v : Stack) : (s.putStack n v).phys = s.phys := rfl
@[simp] theorem State.putStack_physOf (s : State) (n m : Nat) (v : Stack) :
    (s.putStack n v).physOf m = s.physOf m := rfl
@[simp] theorem State.putStack_clusters (s : State) (n : Nat) (v : Stack) : (s.putStack n v).clusters = s.clusters := rfl
@[simp] theorem State.putStack_clusterOf (s : State) (n m : Nat) (v : Stack) :
    (s.putStack n v).clusterOf m = s.clusterOf m := rfl
@[simp] theorem State.putStack_tiles (s : State) (n : Nat) (v : Stack) : (s.putStack n v).tiles = s.tiles := rfl
@[simp] theorem State.putStack_tileOf (s : State) (n m : Nat) (v : Stack) :
    (s.putStack n v).tileOf m = s.tileOf m := rfl
@[simp] theorem State.putStack_fields (s : State) (n : Nat) (v : Stack) : (s.putStack n v).fields = s.fields := rfl
@[simp] theorem State.putStack_fieldOf (s : State) (n m : Nat) (v : Stack) :
    (s.putStack n v).fieldOf m = s.fieldOf m := rfl
@[simp] theorem State.putStack_regions (s : State) (n : Nat) (v : Stack) : (s.putStack n v).regions = s.regions := rfl
@[simp] theorem State.putStack_regionOf (s : State) (n m : Nat) (v : Stack) :
    (s.putStack n v).regionOf m = s.regionOf m := rfl
@[simp] theorem State.putStack_pegs (s : State) (n : Nat) (v : Stack) : (s.putStack n v).pegs = s.pegs := rfl
@[simp] theorem State.putStack_pegOf (s : State) (n m : Nat) (v : Stack) :
    (s.putStack n v).pegOf m = s.pegOf m := rfl
@[simp] theorem State.putStack_ctxs (s : State) (n : Nat) (v : Stack) : (s.putStack n v).ctxs = s.ctxs := rfl
@[simp] theorem State.putStack_ctxOf (s : State) (n m : Nat) (v : Stack) :
    (s.putStack n v).ctxOf m = s.ctxOf m := rfl
@[simp] theorem State.putStack_keys (s : State) (n : Nat) (v : Stack) : (s.putStack n v).keys = s.keys := rfl
@[simp] theorem State.putStack_keyOf (s : State) (n m : Nat) (v : Stack) :
    (s.putStack n v).keyOf m = s.keyOf m := rfl
@[simp] theorem State.putStack_units (s : State) (n : Nat) (v : Stack) : (s.putStack n v).units = s.units := rfl
@[simp] theorem State.putStack_unitOf (s : State) (n m : Nat) (v : Stack) :
    (s.putStack n v).unitOf m = s.unitOf m := rfl
@[simp] theorem State.putStack_channels (s : State) (n : Nat) (v : Stack) : (s.putStack n v).channels = s.channels := rfl
@[simp] theorem State.putStack_channelOf (s : State) (n m : Nat) (v : Stack) :
    (s.putStack n v).channelOf m = s.channelOf m := rfl
@[simp] theorem State.putStack_mboxes (s : State) (n : Nat) (v : Stack) : (s.putStack n v).mboxes = s.mboxes := rfl
@[simp] theorem State.putStack_mboxOf (s : State) (n m : Nat) (v : Stack) :
    (s.putStack n v).mboxOf m = s.mboxOf m := rfl
@[simp] theorem State.putStack_rings (s : State) (n : Nat) (v : Stack) : (s.putStack n v).rings = s.rings := rfl
@[simp] theorem State.putStack_thread (s : State) (n : Nat) (v : Stack) : (s.putStack n v).thread = s.thread := rfl
@[simp] theorem State.putStack_threadNode (s : State) (n : Nat) (v : Stack) (a : W16) : (s.putStack n v).threadNode a = s.threadNode a := rfl
@[simp] theorem State.putStack_ringOf (s : State) (n m : Nat) (v : Stack) :
    (s.putStack n v).ringOf m = s.ringOf m := rfl
@[simp] theorem State.putStack_counters (s : State) (n : Nat) (v : Stack) : (s.putStack n v).counters = s.counters := rfl
@[simp] theorem State.putStack_counterOf (s : State) (n m : Nat) (v : Stack) :
    (s.putStack n v).counterOf m = s.counterOf m := rfl
@[simp] theorem State.putStack_pending (s : State) (n : Nat) (v : Stack) : (s.putStack n v).pending = s.pending := rfl
@[simp] theorem State.putStack_mode (s : State) (n : Nat) (v : Stack) : (s.putStack n v).mode = s.mode := rfl
@[simp] theorem State.putStack_time (s : State) (n : Nat) (v : Stack) : (s.putStack n v).time = s.time := rfl
@[simp] theorem State.putStack_fresh (s : State) (n : Nat) (v : Stack) : (s.putStack n v).fresh = s.fresh := rfl
@[simp] theorem State.putStack_mesh (s : State) (n : Nat) (v : Stack) : (s.putStack n v).mesh = s.mesh := rfl
@[simp] theorem State.putStack_press (s : State) (n : Nat) (v : Stack) : (s.putStack n v).press = s.press := rfl
@[simp] theorem State.putStack_mgmt (s : State) (n : Nat) (v : Stack) : (s.putStack n v).mgmt = s.mgmt := rfl
@[simp] theorem State.putStack_clocks (s : State) (n : Nat) (v : Stack) : (s.putStack n v).clocks = s.clocks := rfl
@[simp] theorem State.putStack_power (s : State) (n : Nat) (v : Stack) : (s.putStack n v).power = s.power := rfl
@[simp] theorem State.putStack_darn (s : State) (n : Nat) (v : Stack) : (s.putStack n v).darn = s.darn := rfl
@[simp] theorem State.putStack_tack (s : State) (n : Nat) (v : Stack) : (s.putStack n v).tack = s.tack := rfl
@[simp] theorem State.putStack_requests (s : State) (n : Nat) (v : Stack) : (s.putStack n v).requests = s.requests := rfl
@[simp] theorem State.putStack_waits (s : State) (n : Nat) (v : Stack) : (s.putStack n v).waits = s.waits := rfl
@[simp] theorem State.putStack_hostOut (s : State) (n : Nat) (v : Stack) : (s.putStack n v).hostOut = s.hostOut := rfl

/-! ## `State.putMbox` -/

@[simp] theorem State.putMbox_same (s : State) (n : Nat) (v : Mbox) : (s.putMbox n v).mboxOf n = v := by
  simp [State.putMbox, State.mboxOf]
@[simp] theorem State.putMbox_ne (s : State) {n m : Nat} (v : Mbox) (h : m ≠ n) :
    (s.putMbox n v).mboxOf m = s.mboxOf m := by simp [State.putMbox, State.mboxOf, h]
@[simp] theorem State.putMbox_again (s : State) (n : Nat) (v w : Mbox) :
    (s.putMbox n v).putMbox n w = s.putMbox n w := by simp [State.putMbox]
@[simp] theorem State.putMbox_cores (s : State) (n : Nat) (v : Mbox) : (s.putMbox n v).cores = s.cores := rfl
@[simp] theorem State.putMbox_coreOf (s : State) (n m : Nat) (v : Mbox) :
    (s.putMbox n v).coreOf m = s.coreOf m := rfl
@[simp] theorem State.putMbox_phys (s : State) (n : Nat) (v : Mbox) : (s.putMbox n v).phys = s.phys := rfl
@[simp] theorem State.putMbox_physOf (s : State) (n m : Nat) (v : Mbox) :
    (s.putMbox n v).physOf m = s.physOf m := rfl
@[simp] theorem State.putMbox_clusters (s : State) (n : Nat) (v : Mbox) : (s.putMbox n v).clusters = s.clusters := rfl
@[simp] theorem State.putMbox_clusterOf (s : State) (n m : Nat) (v : Mbox) :
    (s.putMbox n v).clusterOf m = s.clusterOf m := rfl
@[simp] theorem State.putMbox_tiles (s : State) (n : Nat) (v : Mbox) : (s.putMbox n v).tiles = s.tiles := rfl
@[simp] theorem State.putMbox_tileOf (s : State) (n m : Nat) (v : Mbox) :
    (s.putMbox n v).tileOf m = s.tileOf m := rfl
@[simp] theorem State.putMbox_fields (s : State) (n : Nat) (v : Mbox) : (s.putMbox n v).fields = s.fields := rfl
@[simp] theorem State.putMbox_fieldOf (s : State) (n m : Nat) (v : Mbox) :
    (s.putMbox n v).fieldOf m = s.fieldOf m := rfl
@[simp] theorem State.putMbox_regions (s : State) (n : Nat) (v : Mbox) : (s.putMbox n v).regions = s.regions := rfl
@[simp] theorem State.putMbox_regionOf (s : State) (n m : Nat) (v : Mbox) :
    (s.putMbox n v).regionOf m = s.regionOf m := rfl
@[simp] theorem State.putMbox_pegs (s : State) (n : Nat) (v : Mbox) : (s.putMbox n v).pegs = s.pegs := rfl
@[simp] theorem State.putMbox_pegOf (s : State) (n m : Nat) (v : Mbox) :
    (s.putMbox n v).pegOf m = s.pegOf m := rfl
@[simp] theorem State.putMbox_ctxs (s : State) (n : Nat) (v : Mbox) : (s.putMbox n v).ctxs = s.ctxs := rfl
@[simp] theorem State.putMbox_ctxOf (s : State) (n m : Nat) (v : Mbox) :
    (s.putMbox n v).ctxOf m = s.ctxOf m := rfl
@[simp] theorem State.putMbox_keys (s : State) (n : Nat) (v : Mbox) : (s.putMbox n v).keys = s.keys := rfl
@[simp] theorem State.putMbox_keyOf (s : State) (n m : Nat) (v : Mbox) :
    (s.putMbox n v).keyOf m = s.keyOf m := rfl
@[simp] theorem State.putMbox_units (s : State) (n : Nat) (v : Mbox) : (s.putMbox n v).units = s.units := rfl
@[simp] theorem State.putMbox_unitOf (s : State) (n m : Nat) (v : Mbox) :
    (s.putMbox n v).unitOf m = s.unitOf m := rfl
@[simp] theorem State.putMbox_channels (s : State) (n : Nat) (v : Mbox) : (s.putMbox n v).channels = s.channels := rfl
@[simp] theorem State.putMbox_channelOf (s : State) (n m : Nat) (v : Mbox) :
    (s.putMbox n v).channelOf m = s.channelOf m := rfl
@[simp] theorem State.putMbox_hamperStacks (s : State) (n : Nat) (v : Mbox) : (s.putMbox n v).hamperStacks = s.hamperStacks := rfl
@[simp] theorem State.putMbox_stackOf (s : State) (n m : Nat) (v : Mbox) :
    (s.putMbox n v).stackOf m = s.stackOf m := rfl
@[simp] theorem State.putMbox_rings (s : State) (n : Nat) (v : Mbox) : (s.putMbox n v).rings = s.rings := rfl
@[simp] theorem State.putMbox_thread (s : State) (n : Nat) (v : Mbox) : (s.putMbox n v).thread = s.thread := rfl
@[simp] theorem State.putMbox_threadNode (s : State) (n : Nat) (v : Mbox) (a : W16) : (s.putMbox n v).threadNode a = s.threadNode a := rfl
@[simp] theorem State.putMbox_ringOf (s : State) (n m : Nat) (v : Mbox) :
    (s.putMbox n v).ringOf m = s.ringOf m := rfl
@[simp] theorem State.putMbox_counters (s : State) (n : Nat) (v : Mbox) : (s.putMbox n v).counters = s.counters := rfl
@[simp] theorem State.putMbox_counterOf (s : State) (n m : Nat) (v : Mbox) :
    (s.putMbox n v).counterOf m = s.counterOf m := rfl
@[simp] theorem State.putMbox_pending (s : State) (n : Nat) (v : Mbox) : (s.putMbox n v).pending = s.pending := rfl
@[simp] theorem State.putMbox_mode (s : State) (n : Nat) (v : Mbox) : (s.putMbox n v).mode = s.mode := rfl
@[simp] theorem State.putMbox_time (s : State) (n : Nat) (v : Mbox) : (s.putMbox n v).time = s.time := rfl
@[simp] theorem State.putMbox_fresh (s : State) (n : Nat) (v : Mbox) : (s.putMbox n v).fresh = s.fresh := rfl
@[simp] theorem State.putMbox_mesh (s : State) (n : Nat) (v : Mbox) : (s.putMbox n v).mesh = s.mesh := rfl
@[simp] theorem State.putMbox_press (s : State) (n : Nat) (v : Mbox) : (s.putMbox n v).press = s.press := rfl
@[simp] theorem State.putMbox_mgmt (s : State) (n : Nat) (v : Mbox) : (s.putMbox n v).mgmt = s.mgmt := rfl
@[simp] theorem State.putMbox_clocks (s : State) (n : Nat) (v : Mbox) : (s.putMbox n v).clocks = s.clocks := rfl
@[simp] theorem State.putMbox_power (s : State) (n : Nat) (v : Mbox) : (s.putMbox n v).power = s.power := rfl
@[simp] theorem State.putMbox_darn (s : State) (n : Nat) (v : Mbox) : (s.putMbox n v).darn = s.darn := rfl
@[simp] theorem State.putMbox_tack (s : State) (n : Nat) (v : Mbox) : (s.putMbox n v).tack = s.tack := rfl
@[simp] theorem State.putMbox_requests (s : State) (n : Nat) (v : Mbox) : (s.putMbox n v).requests = s.requests := rfl
@[simp] theorem State.putMbox_waits (s : State) (n : Nat) (v : Mbox) : (s.putMbox n v).waits = s.waits := rfl
@[simp] theorem State.putMbox_hostOut (s : State) (n : Nat) (v : Mbox) : (s.putMbox n v).hostOut = s.hostOut := rfl

/-! ## `State.putRing` -/

@[simp] theorem State.putRing_same (s : State) (n : Nat) (v : Ring) : (s.putRing n v).ringOf n = v := by
  simp [State.putRing, State.ringOf]
@[simp] theorem State.putRing_ne (s : State) {n m : Nat} (v : Ring) (h : m ≠ n) :
    (s.putRing n v).ringOf m = s.ringOf m := by simp [State.putRing, State.ringOf, h]
@[simp] theorem State.putRing_again (s : State) (n : Nat) (v w : Ring) :
    (s.putRing n v).putRing n w = s.putRing n w := by simp [State.putRing]
@[simp] theorem State.putRing_cores (s : State) (n : Nat) (v : Ring) : (s.putRing n v).cores = s.cores := rfl
@[simp] theorem State.putRing_coreOf (s : State) (n m : Nat) (v : Ring) :
    (s.putRing n v).coreOf m = s.coreOf m := rfl
@[simp] theorem State.putRing_phys (s : State) (n : Nat) (v : Ring) : (s.putRing n v).phys = s.phys := rfl
@[simp] theorem State.putRing_physOf (s : State) (n m : Nat) (v : Ring) :
    (s.putRing n v).physOf m = s.physOf m := rfl
@[simp] theorem State.putRing_clusters (s : State) (n : Nat) (v : Ring) : (s.putRing n v).clusters = s.clusters := rfl
@[simp] theorem State.putRing_clusterOf (s : State) (n m : Nat) (v : Ring) :
    (s.putRing n v).clusterOf m = s.clusterOf m := rfl
@[simp] theorem State.putRing_tiles (s : State) (n : Nat) (v : Ring) : (s.putRing n v).tiles = s.tiles := rfl
@[simp] theorem State.putRing_tileOf (s : State) (n m : Nat) (v : Ring) :
    (s.putRing n v).tileOf m = s.tileOf m := rfl
@[simp] theorem State.putRing_fields (s : State) (n : Nat) (v : Ring) : (s.putRing n v).fields = s.fields := rfl
@[simp] theorem State.putRing_fieldOf (s : State) (n m : Nat) (v : Ring) :
    (s.putRing n v).fieldOf m = s.fieldOf m := rfl
@[simp] theorem State.putRing_regions (s : State) (n : Nat) (v : Ring) : (s.putRing n v).regions = s.regions := rfl
@[simp] theorem State.putRing_regionOf (s : State) (n m : Nat) (v : Ring) :
    (s.putRing n v).regionOf m = s.regionOf m := rfl
@[simp] theorem State.putRing_pegs (s : State) (n : Nat) (v : Ring) : (s.putRing n v).pegs = s.pegs := rfl
@[simp] theorem State.putRing_pegOf (s : State) (n m : Nat) (v : Ring) :
    (s.putRing n v).pegOf m = s.pegOf m := rfl
@[simp] theorem State.putRing_ctxs (s : State) (n : Nat) (v : Ring) : (s.putRing n v).ctxs = s.ctxs := rfl
@[simp] theorem State.putRing_ctxOf (s : State) (n m : Nat) (v : Ring) :
    (s.putRing n v).ctxOf m = s.ctxOf m := rfl
@[simp] theorem State.putRing_keys (s : State) (n : Nat) (v : Ring) : (s.putRing n v).keys = s.keys := rfl
@[simp] theorem State.putRing_keyOf (s : State) (n m : Nat) (v : Ring) :
    (s.putRing n v).keyOf m = s.keyOf m := rfl
@[simp] theorem State.putRing_units (s : State) (n : Nat) (v : Ring) : (s.putRing n v).units = s.units := rfl
@[simp] theorem State.putRing_unitOf (s : State) (n m : Nat) (v : Ring) :
    (s.putRing n v).unitOf m = s.unitOf m := rfl
@[simp] theorem State.putRing_channels (s : State) (n : Nat) (v : Ring) : (s.putRing n v).channels = s.channels := rfl
@[simp] theorem State.putRing_channelOf (s : State) (n m : Nat) (v : Ring) :
    (s.putRing n v).channelOf m = s.channelOf m := rfl
@[simp] theorem State.putRing_hamperStacks (s : State) (n : Nat) (v : Ring) : (s.putRing n v).hamperStacks = s.hamperStacks := rfl
@[simp] theorem State.putRing_stackOf (s : State) (n m : Nat) (v : Ring) :
    (s.putRing n v).stackOf m = s.stackOf m := rfl
@[simp] theorem State.putRing_mboxes (s : State) (n : Nat) (v : Ring) : (s.putRing n v).mboxes = s.mboxes := rfl
@[simp] theorem State.putRing_mboxOf (s : State) (n m : Nat) (v : Ring) :
    (s.putRing n v).mboxOf m = s.mboxOf m := rfl
@[simp] theorem State.putRing_counters (s : State) (n : Nat) (v : Ring) : (s.putRing n v).counters = s.counters := rfl
@[simp] theorem State.putRing_counterOf (s : State) (n m : Nat) (v : Ring) :
    (s.putRing n v).counterOf m = s.counterOf m := rfl
@[simp] theorem State.putRing_pending (s : State) (n : Nat) (v : Ring) : (s.putRing n v).pending = s.pending := rfl
@[simp] theorem State.putRing_mode (s : State) (n : Nat) (v : Ring) : (s.putRing n v).mode = s.mode := rfl
@[simp] theorem State.putRing_time (s : State) (n : Nat) (v : Ring) : (s.putRing n v).time = s.time := rfl
@[simp] theorem State.putRing_fresh (s : State) (n : Nat) (v : Ring) : (s.putRing n v).fresh = s.fresh := rfl
@[simp] theorem State.putRing_mesh (s : State) (n : Nat) (v : Ring) : (s.putRing n v).mesh = s.mesh := rfl
@[simp] theorem State.putRing_press (s : State) (n : Nat) (v : Ring) : (s.putRing n v).press = s.press := rfl
@[simp] theorem State.putRing_mgmt (s : State) (n : Nat) (v : Ring) : (s.putRing n v).mgmt = s.mgmt := rfl
@[simp] theorem State.putRing_clocks (s : State) (n : Nat) (v : Ring) : (s.putRing n v).clocks = s.clocks := rfl
@[simp] theorem State.putRing_power (s : State) (n : Nat) (v : Ring) : (s.putRing n v).power = s.power := rfl
@[simp] theorem State.putRing_darn (s : State) (n : Nat) (v : Ring) : (s.putRing n v).darn = s.darn := rfl
@[simp] theorem State.putRing_tack (s : State) (n : Nat) (v : Ring) : (s.putRing n v).tack = s.tack := rfl
@[simp] theorem State.putRing_requests (s : State) (n : Nat) (v : Ring) : (s.putRing n v).requests = s.requests := rfl
@[simp] theorem State.putRing_waits (s : State) (n : Nat) (v : Ring) : (s.putRing n v).waits = s.waits := rfl
@[simp] theorem State.putRing_hostOut (s : State) (n : Nat) (v : Ring) : (s.putRing n v).hostOut = s.hostOut := rfl

/-! ## `State.putCounter` -/

@[simp] theorem State.putCounter_same (s : State) (n : Nat) (v : Counter) : (s.putCounter n v).counterOf n = v := by
  simp [State.putCounter, State.counterOf]
@[simp] theorem State.putCounter_ne (s : State) {n m : Nat} (v : Counter) (h : m ≠ n) :
    (s.putCounter n v).counterOf m = s.counterOf m := by simp [State.putCounter, State.counterOf, h]
@[simp] theorem State.putCounter_again (s : State) (n : Nat) (v w : Counter) :
    (s.putCounter n v).putCounter n w = s.putCounter n w := by simp [State.putCounter]
@[simp] theorem State.putCounter_cores (s : State) (n : Nat) (v : Counter) : (s.putCounter n v).cores = s.cores := rfl
@[simp] theorem State.putCounter_coreOf (s : State) (n m : Nat) (v : Counter) :
    (s.putCounter n v).coreOf m = s.coreOf m := rfl
@[simp] theorem State.putCounter_phys (s : State) (n : Nat) (v : Counter) : (s.putCounter n v).phys = s.phys := rfl
@[simp] theorem State.putCounter_physOf (s : State) (n m : Nat) (v : Counter) :
    (s.putCounter n v).physOf m = s.physOf m := rfl
@[simp] theorem State.putCounter_clusters (s : State) (n : Nat) (v : Counter) : (s.putCounter n v).clusters = s.clusters := rfl
@[simp] theorem State.putCounter_clusterOf (s : State) (n m : Nat) (v : Counter) :
    (s.putCounter n v).clusterOf m = s.clusterOf m := rfl
@[simp] theorem State.putCounter_tiles (s : State) (n : Nat) (v : Counter) : (s.putCounter n v).tiles = s.tiles := rfl
@[simp] theorem State.putCounter_tileOf (s : State) (n m : Nat) (v : Counter) :
    (s.putCounter n v).tileOf m = s.tileOf m := rfl
@[simp] theorem State.putCounter_fields (s : State) (n : Nat) (v : Counter) : (s.putCounter n v).fields = s.fields := rfl
@[simp] theorem State.putCounter_fieldOf (s : State) (n m : Nat) (v : Counter) :
    (s.putCounter n v).fieldOf m = s.fieldOf m := rfl
@[simp] theorem State.putCounter_regions (s : State) (n : Nat) (v : Counter) : (s.putCounter n v).regions = s.regions := rfl
@[simp] theorem State.putCounter_regionOf (s : State) (n m : Nat) (v : Counter) :
    (s.putCounter n v).regionOf m = s.regionOf m := rfl
@[simp] theorem State.putCounter_pegs (s : State) (n : Nat) (v : Counter) : (s.putCounter n v).pegs = s.pegs := rfl
@[simp] theorem State.putCounter_pegOf (s : State) (n m : Nat) (v : Counter) :
    (s.putCounter n v).pegOf m = s.pegOf m := rfl
@[simp] theorem State.putCounter_ctxs (s : State) (n : Nat) (v : Counter) : (s.putCounter n v).ctxs = s.ctxs := rfl
@[simp] theorem State.putCounter_ctxOf (s : State) (n m : Nat) (v : Counter) :
    (s.putCounter n v).ctxOf m = s.ctxOf m := rfl
@[simp] theorem State.putCounter_keys (s : State) (n : Nat) (v : Counter) : (s.putCounter n v).keys = s.keys := rfl
@[simp] theorem State.putCounter_keyOf (s : State) (n m : Nat) (v : Counter) :
    (s.putCounter n v).keyOf m = s.keyOf m := rfl
@[simp] theorem State.putCounter_units (s : State) (n : Nat) (v : Counter) : (s.putCounter n v).units = s.units := rfl
@[simp] theorem State.putCounter_unitOf (s : State) (n m : Nat) (v : Counter) :
    (s.putCounter n v).unitOf m = s.unitOf m := rfl
@[simp] theorem State.putCounter_channels (s : State) (n : Nat) (v : Counter) : (s.putCounter n v).channels = s.channels := rfl
@[simp] theorem State.putCounter_channelOf (s : State) (n m : Nat) (v : Counter) :
    (s.putCounter n v).channelOf m = s.channelOf m := rfl
@[simp] theorem State.putCounter_hamperStacks (s : State) (n : Nat) (v : Counter) : (s.putCounter n v).hamperStacks = s.hamperStacks := rfl
@[simp] theorem State.putCounter_stackOf (s : State) (n m : Nat) (v : Counter) :
    (s.putCounter n v).stackOf m = s.stackOf m := rfl
@[simp] theorem State.putCounter_mboxes (s : State) (n : Nat) (v : Counter) : (s.putCounter n v).mboxes = s.mboxes := rfl
@[simp] theorem State.putCounter_mboxOf (s : State) (n m : Nat) (v : Counter) :
    (s.putCounter n v).mboxOf m = s.mboxOf m := rfl
@[simp] theorem State.putCounter_rings (s : State) (n : Nat) (v : Counter) : (s.putCounter n v).rings = s.rings := rfl
@[simp] theorem State.putCounter_thread (s : State) (n : Nat) (v : Counter) : (s.putCounter n v).thread = s.thread := rfl
@[simp] theorem State.putCounter_threadNode (s : State) (n : Nat) (v : Counter) (a : W16) : (s.putCounter n v).threadNode a = s.threadNode a := rfl
@[simp] theorem State.putCounter_ringOf (s : State) (n m : Nat) (v : Counter) :
    (s.putCounter n v).ringOf m = s.ringOf m := rfl
@[simp] theorem State.putCounter_pending (s : State) (n : Nat) (v : Counter) : (s.putCounter n v).pending = s.pending := rfl
@[simp] theorem State.putCounter_mode (s : State) (n : Nat) (v : Counter) : (s.putCounter n v).mode = s.mode := rfl
@[simp] theorem State.putCounter_time (s : State) (n : Nat) (v : Counter) : (s.putCounter n v).time = s.time := rfl
@[simp] theorem State.putCounter_fresh (s : State) (n : Nat) (v : Counter) : (s.putCounter n v).fresh = s.fresh := rfl
@[simp] theorem State.putCounter_mesh (s : State) (n : Nat) (v : Counter) : (s.putCounter n v).mesh = s.mesh := rfl
@[simp] theorem State.putCounter_press (s : State) (n : Nat) (v : Counter) : (s.putCounter n v).press = s.press := rfl
@[simp] theorem State.putCounter_mgmt (s : State) (n : Nat) (v : Counter) : (s.putCounter n v).mgmt = s.mgmt := rfl
@[simp] theorem State.putCounter_clocks (s : State) (n : Nat) (v : Counter) : (s.putCounter n v).clocks = s.clocks := rfl
@[simp] theorem State.putCounter_power (s : State) (n : Nat) (v : Counter) : (s.putCounter n v).power = s.power := rfl
@[simp] theorem State.putCounter_darn (s : State) (n : Nat) (v : Counter) : (s.putCounter n v).darn = s.darn := rfl
@[simp] theorem State.putCounter_tack (s : State) (n : Nat) (v : Counter) : (s.putCounter n v).tack = s.tack := rfl
@[simp] theorem State.putCounter_requests (s : State) (n : Nat) (v : Counter) : (s.putCounter n v).requests = s.requests := rfl
@[simp] theorem State.putCounter_waits (s : State) (n : Nat) (v : Counter) : (s.putCounter n v).waits = s.waits := rfl
@[simp] theorem State.putCounter_hostOut (s : State) (n : Nat) (v : Counter) : (s.putCounter n v).hostOut = s.hostOut := rfl

/-! ## `State.putThreadNode` -/

@[simp] theorem State.putThreadNode_same (s : State) (a : W16) (v : ThreadNode) : (s.putThreadNode a v).threadNode a = v := by
  simp [State.putThreadNode, State.threadNode]
@[simp] theorem State.putThreadNode_ne (s : State) {a b : W16} (v : ThreadNode) (h : b ≠ a) :
    (s.putThreadNode a v).threadNode b = s.threadNode b := by
  have h : b.toNat ≠ a.toNat := fun e => h (BitVec.eq_of_toNat_eq e)
  simp [State.putThreadNode, State.threadNode, h]
@[simp] theorem State.putThreadNode_again (s : State) (a : W16) (v w : ThreadNode) :
    (s.putThreadNode a v).putThreadNode a w = s.putThreadNode a w := by simp [State.putThreadNode]
@[simp] theorem State.putThreadNode_cores (s : State) (a : W16) (v : ThreadNode) : (s.putThreadNode a v).cores = s.cores := rfl
@[simp] theorem State.putThreadNode_coreOf (s : State) (a : W16) (v : ThreadNode) (m : Nat) :
    (s.putThreadNode a v).coreOf m = s.coreOf m := rfl
@[simp] theorem State.putThreadNode_phys (s : State) (a : W16) (v : ThreadNode) : (s.putThreadNode a v).phys = s.phys := rfl
@[simp] theorem State.putThreadNode_physOf (s : State) (a : W16) (v : ThreadNode) (m : Nat) :
    (s.putThreadNode a v).physOf m = s.physOf m := rfl
@[simp] theorem State.putThreadNode_clusters (s : State) (a : W16) (v : ThreadNode) : (s.putThreadNode a v).clusters = s.clusters := rfl
@[simp] theorem State.putThreadNode_clusterOf (s : State) (a : W16) (v : ThreadNode) (m : Nat) :
    (s.putThreadNode a v).clusterOf m = s.clusterOf m := rfl
@[simp] theorem State.putThreadNode_tiles (s : State) (a : W16) (v : ThreadNode) : (s.putThreadNode a v).tiles = s.tiles := rfl
@[simp] theorem State.putThreadNode_tileOf (s : State) (a : W16) (v : ThreadNode) (m : Nat) :
    (s.putThreadNode a v).tileOf m = s.tileOf m := rfl
@[simp] theorem State.putThreadNode_fields (s : State) (a : W16) (v : ThreadNode) : (s.putThreadNode a v).fields = s.fields := rfl
@[simp] theorem State.putThreadNode_fieldOf (s : State) (a : W16) (v : ThreadNode) (m : Nat) :
    (s.putThreadNode a v).fieldOf m = s.fieldOf m := rfl
@[simp] theorem State.putThreadNode_regions (s : State) (a : W16) (v : ThreadNode) : (s.putThreadNode a v).regions = s.regions := rfl
@[simp] theorem State.putThreadNode_regionOf (s : State) (a : W16) (v : ThreadNode) (m : Nat) :
    (s.putThreadNode a v).regionOf m = s.regionOf m := rfl
@[simp] theorem State.putThreadNode_pegs (s : State) (a : W16) (v : ThreadNode) : (s.putThreadNode a v).pegs = s.pegs := rfl
@[simp] theorem State.putThreadNode_pegOf (s : State) (a : W16) (v : ThreadNode) (m : Nat) :
    (s.putThreadNode a v).pegOf m = s.pegOf m := rfl
@[simp] theorem State.putThreadNode_ctxs (s : State) (a : W16) (v : ThreadNode) : (s.putThreadNode a v).ctxs = s.ctxs := rfl
@[simp] theorem State.putThreadNode_ctxOf (s : State) (a : W16) (v : ThreadNode) (m : Nat) :
    (s.putThreadNode a v).ctxOf m = s.ctxOf m := rfl
@[simp] theorem State.putThreadNode_keys (s : State) (a : W16) (v : ThreadNode) : (s.putThreadNode a v).keys = s.keys := rfl
@[simp] theorem State.putThreadNode_keyOf (s : State) (a : W16) (v : ThreadNode) (m : Nat) :
    (s.putThreadNode a v).keyOf m = s.keyOf m := rfl
@[simp] theorem State.putThreadNode_units (s : State) (a : W16) (v : ThreadNode) : (s.putThreadNode a v).units = s.units := rfl
@[simp] theorem State.putThreadNode_unitOf (s : State) (a : W16) (v : ThreadNode) (m : Nat) :
    (s.putThreadNode a v).unitOf m = s.unitOf m := rfl
@[simp] theorem State.putThreadNode_channels (s : State) (a : W16) (v : ThreadNode) : (s.putThreadNode a v).channels = s.channels := rfl
@[simp] theorem State.putThreadNode_channelOf (s : State) (a : W16) (v : ThreadNode) (m : Nat) :
    (s.putThreadNode a v).channelOf m = s.channelOf m := rfl
@[simp] theorem State.putThreadNode_hamperStacks (s : State) (a : W16) (v : ThreadNode) : (s.putThreadNode a v).hamperStacks = s.hamperStacks := rfl
@[simp] theorem State.putThreadNode_stackOf (s : State) (a : W16) (v : ThreadNode) (m : Nat) :
    (s.putThreadNode a v).stackOf m = s.stackOf m := rfl
@[simp] theorem State.putThreadNode_mboxes (s : State) (a : W16) (v : ThreadNode) : (s.putThreadNode a v).mboxes = s.mboxes := rfl
@[simp] theorem State.putThreadNode_mboxOf (s : State) (a : W16) (v : ThreadNode) (m : Nat) :
    (s.putThreadNode a v).mboxOf m = s.mboxOf m := rfl
@[simp] theorem State.putThreadNode_rings (s : State) (a : W16) (v : ThreadNode) : (s.putThreadNode a v).rings = s.rings := rfl
@[simp] theorem State.putThreadNode_ringOf (s : State) (a : W16) (v : ThreadNode) (m : Nat) :
    (s.putThreadNode a v).ringOf m = s.ringOf m := rfl
@[simp] theorem State.putThreadNode_counters (s : State) (a : W16) (v : ThreadNode) : (s.putThreadNode a v).counters = s.counters := rfl
@[simp] theorem State.putThreadNode_counterOf (s : State) (a : W16) (v : ThreadNode) (m : Nat) :
    (s.putThreadNode a v).counterOf m = s.counterOf m := rfl
@[simp] theorem State.putThreadNode_pending (s : State) (a : W16) (v : ThreadNode) : (s.putThreadNode a v).pending = s.pending := rfl
@[simp] theorem State.putThreadNode_mode (s : State) (a : W16) (v : ThreadNode) : (s.putThreadNode a v).mode = s.mode := rfl
@[simp] theorem State.putThreadNode_time (s : State) (a : W16) (v : ThreadNode) : (s.putThreadNode a v).time = s.time := rfl
@[simp] theorem State.putThreadNode_fresh (s : State) (a : W16) (v : ThreadNode) : (s.putThreadNode a v).fresh = s.fresh := rfl
@[simp] theorem State.putThreadNode_mesh (s : State) (a : W16) (v : ThreadNode) : (s.putThreadNode a v).mesh = s.mesh := rfl
@[simp] theorem State.putThreadNode_press (s : State) (a : W16) (v : ThreadNode) : (s.putThreadNode a v).press = s.press := rfl
@[simp] theorem State.putThreadNode_mgmt (s : State) (a : W16) (v : ThreadNode) : (s.putThreadNode a v).mgmt = s.mgmt := rfl
@[simp] theorem State.putThreadNode_clocks (s : State) (a : W16) (v : ThreadNode) : (s.putThreadNode a v).clocks = s.clocks := rfl
@[simp] theorem State.putThreadNode_power (s : State) (a : W16) (v : ThreadNode) : (s.putThreadNode a v).power = s.power := rfl
@[simp] theorem State.putThreadNode_darn (s : State) (a : W16) (v : ThreadNode) : (s.putThreadNode a v).darn = s.darn := rfl
@[simp] theorem State.putThreadNode_tack (s : State) (a : W16) (v : ThreadNode) : (s.putThreadNode a v).tack = s.tack := rfl
@[simp] theorem State.putThreadNode_requests (s : State) (a : W16) (v : ThreadNode) : (s.putThreadNode a v).requests = s.requests := rfl
@[simp] theorem State.putThreadNode_waits (s : State) (a : W16) (v : ThreadNode) : (s.putThreadNode a v).waits = s.waits := rfl
@[simp] theorem State.putThreadNode_hostOut (s : State) (a : W16) (v : ThreadNode) : (s.putThreadNode a v).hostOut = s.hostOut := rfl

end Sys2Proof.Machine
end

