-- ==== Sys2Proof/Laws/Issue.lean ====
section
/-! SUPPORT. What issuing an instruction does, said once: a legal word takes the effect its meaning gives,
an illegal one raises ILLEGAL, and an exception with a handler only enters the handler. -/

set_option linter.unusedVariables false

namespace Sys2Proof.Machine

open Sys2Proof

theorem issues_iff (s : State) (c : CoreId) (x : CtxId) :
    s.issues c x = true ↔ s.coreClocked c.val = true ∧ (s.coreOf c.val).running = some x ∧
      (s.coreOf c.val).waiting = none ∧ (s.coreOf c.val).ibufLost = none ∧
      wordDefined (s.fetched (s.coreOf c.val)) = true ∧ (s.coreOf c.val).pc < s.windowLen (s.coreOf c.val) := by
  simp [State.issues, and_assoc]

/-- A core that issues may issue any word. -/
theorem canIssue_of_issues {s : State} {c : CoreId} {x : CtxId} (h : s.issues c x = true) (w : W64) :
    s.canIssue c w = true := by
  obtain ⟨h1, h2, h3, h4, -⟩ := (issues_iff s c x).mp h
  simp [State.canIssue, h1, h2, h3, h4]

/-- Codes that find nothing change nothing. -/
@[simp] theorem meetsWords_clean (s : State) (c : CoreId) (f : CoreFinding) (hp : f.pocket = .good)
    (ha : f.acc = false) (r : List Nat) (a : Option Bool) : s.meetsWords c f r a = s := by
  simp only [State.meetsWords, hp, ha]
  cases s.servedBy c.val <;> rfl

@[simp] theorem meetsFetch_good (s : State) (c : CoreId) : s.meetsFetch c .good = s := rfl

/-- A legal word takes its effect. -/
theorem issue_legal {s : State} {c : CoreId} {x : CtxId} (h : s.issues c x = true) (major : BitVec 6)
    (minor : BitVec 5) (u : Uses) (defined : Bool) (a : CoreArgs) (body : State → Core → CtxId → Effect)
    (reads : Core → List Nat) (acc : Option Bool) (hf : a.finding = {}) (hl : (defined && u.legal a) = true) :
    issue major minor u defined c a s body reads acc =
      (body s (s.coreOf c.val) x).apply s c x (assemble major minor a) := by
  obtain ⟨h1, h2, h3, h4, h5, h6⟩ := (issues_iff s c x).mp h
  simp [issue, canIssue_of_issues h, h2, h3, h5, Nat.not_le.mpr h6, hl, hf]

/-- An illegal word raises ILLEGAL. -/
theorem issue_illegal {s : State} {c : CoreId} {x : CtxId} (h : s.issues c x = true) (major : BitVec 6)
    (minor : BitVec 5) (u : Uses) (defined : Bool) (a : CoreArgs) (body : State → Core → CtxId → Effect)
    (reads : Core → List Nat) (acc : Option Bool) (hf : a.finding = {}) (hl : (defined && u.legal a) = false) :
    issue major minor u defined c a s body reads acc = s.takeException c xILLEGAL (assemble major minor a) := by
  obtain ⟨h1, h2, h3, h4, h5, h6⟩ := (issues_iff s c x).mp h
  simp [issue, canIssue_of_issues h, h2, h3, h5, Nat.not_le.mpr h6, hl, hf]

/-- A core that changed and still runs x's program goes on at `pc`. -/
theorem retire_putCore (s : State) (c : CoreId) (x : CtxId) (k : Core) (pc : Nat) (hr : k.running = some x)
    (hw : k.waiting = none) : (s.putCore c.val k).retire c x pc = s.putCore c.val { k with pc := pc } := by
  obtain ⟨⟩ := k
  simp_all [State.retire, State.modCore]

/-- R88: with a handler, an exception changes only its core. -/
theorem takeException_handled (s : State) (c : CoreId) (cause info : W64)
    (h : (s.coreOf c.val).handles = true) :
    s.takeException c cause info = s.putCore c.val ((s.coreOf c.val).handling cause info) := by
  have h' : (s.coreOf c.val).xvec ≠ 0 ∧ (s.coreOf c.val).inHandler = false := by
    simpa [Core.handles] using h
  unfold State.takeException
  exact if_pos h'

/-! ## Core updates keep the program that runs -/

@[simp] theorem Core.setS_running (k : Core) (n : BitVec 5) (v : W64) : (k.setS n v).running = k.running := by
  unfold Core.setS; split <;> rfl
@[simp] theorem Core.setS_waiting (k : Core) (n : BitVec 5) (v : W64) : (k.setS n v).waiting = k.waiting := by
  unfold Core.setS; split <;> rfl
@[simp] theorem Core.setS_pc (k : Core) (n : BitVec 5) (v : W64) : (k.setS n v).pc = k.pc := by
  unfold Core.setS; split <;> rfl
@[simp] theorem Core.setS_zero (k : Core) (v : W64) : k.setS 0 v = k := rfl
@[simp] theorem Core.sreg_zero (k : Core) : k.sreg 0 = 0 := rfl
theorem Core.sreg_setS_same (k : Core) (n : BitVec 5) (v : W64) (h : n ≠ 0) : (k.setS n v).sreg n = v := by
  unfold Core.setS Core.sreg
  rw [if_neg h, if_neg h]
  exact tget_tput_same _ _ _ _
theorem Core.sreg_setS_ne (k : Core) (n m : BitVec 5) (v : W64) (h : m ≠ n) :
    (k.setS n v).sreg m = k.sreg m := by
  have : m.toNat ≠ n.toNat := fun e => h (BitVec.eq_of_toNat_eq e)
  unfold Core.setS Core.sreg
  by_cases hm : m = 0
  · simp [hm]
  · by_cases hn : n = 0
    · simp [hn]
    · rw [if_neg hm, if_neg hm, if_neg hn]
      exact tget_tput_ne _ _ _ this

@[simp] theorem Core.setV_running (k : Core) (n : BitVec 5) (v : Lanes) (p : Bool) :
    (k.setV n v p).running = k.running := rfl
@[simp] theorem Core.setV_waiting (k : Core) (n : BitVec 5) (v : Lanes) (p : Bool) :
    (k.setV n v p).waiting = k.waiting := rfl
@[simp] theorem Core.setV_pc (k : Core) (n : BitVec 5) (v : Lanes) (p : Bool) : (k.setV n v p).pc = k.pc := rfl
@[simp] theorem Core.setM_running (k : Core) (n : Nat) (v : W64) : (k.setM n v).running = k.running := rfl
@[simp] theorem Core.setM_waiting (k : Core) (n : Nat) (v : W64) : (k.setM n v).waiting = k.waiting := rfl
@[simp] theorem Core.setM_pc (k : Core) (n : Nat) (v : W64) : (k.setM n v).pc = k.pc := rfl

/-- An instruction that changes only its core completes with that core. -/
theorem issue_core {s : State} {c : CoreId} {x : CtxId} (h : s.issues c x = true) (major : BitVec 6)
    (minor : BitVec 5) (u : Uses) (defined : Bool) (a : CoreArgs) (body : State → Core → CtxId → Effect)
    (reads : Core → List Nat) (acc : Option Bool) (k' : Core) (hf : a.finding = {})
    (hl : (defined && u.legal a) = true) (hb : body s (s.coreOf c.val) x = .core s c k')
    (hr : k'.running = (s.coreOf c.val).running) (hw : k'.waiting = (s.coreOf c.val).waiting)
    (hp : k'.pc = (s.coreOf c.val).pc) :
    Host.Outcome.next (issue major minor u defined c a s body reads acc) = s.completes c k' := by
  obtain ⟨h1, h2, h3, -⟩ := (issues_iff s c x).mp h
  rw [issue_legal h _ _ _ _ _ _ _ _ hf hl, hb]
  simp only [Effect.core, Effect.apply]
  rw [retire_putCore s c x k' _ (by rw [hr, h2]) (by rw [hw, h3])]
  simp [State.completes, hp]

end Sys2Proof.Machine
end

