-- ==== Sys2Proof/Machine/Layouts.lean ====
section
/-! DEFINITION. The byte images, little-endian (R13), of what the module sends and writes: mesh packets,
completions, event records, context records and the HOLD area (R167, R173, R371, R450, R452, R496). -/

set_option linter.unusedVariables false

namespace Sys2Proof.Machine

open Sys2Proof

/-! ## Mesh packets (R167, R173) -/

/-- The classes of the mesh. -/
inductive MeshClass | req | rsp | red
  deriving DecidableEq, Repr

def MeshClass.code : MeshClass → Nat
  | .req => 0
  | .rsp => 1
  | .red => 2

/-- R167: the fields of a mesh header, HCHECK apart. -/
structure MeshHeader where
  dest : BitVec 12
  src : BitVec 12
  cls : MeshClass
  detour : Bool := false
  bypass : Bool := false
  notub : Bool := false
  ctx : CtxId
  job : W16
  step : W32
  len : Nat
  tag : W16 := 0
  handle : W32
  offset : W32
  count : W16 := 0
  total : W16 := 0
  wexp : W16 := 0
  deriving DecidableEq, Repr

/-- Bytes 0 to 29. -/
def MeshHeader.front (h : MeshHeader) : List Byte :=
  bytesLE 2 h.dest.toNat ++ bytesLE 2 h.src.toNat ++
  [BitVec.ofNat 8 (h.cls.code + 4 * flag h.detour + 8 * flag h.bypass + 16 * flag h.notub), BitVec.ofNat 8 h.ctx.val] ++
  bytesLE 2 h.job.toNat ++ bytesLE 4 h.step.toNat ++ bytesLE 2 h.len ++ bytesLE 2 h.tag.toNat ++
  bytesLE 4 h.handle.toNat ++ bytesLE 4 h.offset.toNat ++ bytesLE 2 h.count.toNat ++ bytesLE 2 h.total.toNat ++
  bytesLE 2 h.wexp.toNat

def MeshHeader.bytes (h : MeshHeader) : List Byte := h.front ++ bytesLE 2 (crc16 h.front).toNat

/-- The flits of a packet of `len` payload bytes. -/
def meshFlits (len : Nat) : Nat := (32 + len + 127) / 128

/-- R173: the OFFSET word of a RED packet. -/
def RedPacket_fragWord (p : RedPacket) : W32 :=
  BitVec.ofNat 32 (p.frag.val + 32 * wireCode p.form + 128 * flag p.sumFp32 + 256 * p.bmap.toNat + 1024 * flag p.poison)

def RedPacket_payload (p : RedPacket) : List Byte := p.data.flatMap (fun v => bytesLE (wireSize p.form) v.toNat)

def RedPacket_header (p : RedPacket) : MeshHeader :=
  { dest := p.dest, src := p.src, cls := .red, detour := p.detour, bypass := p.bypass, notub := p.notub, ctx := p.ctx,
    job := p.job, step := p.step, len := (RedPacket_payload p).length, handle := p.handle,
    offset := RedPacket_fragWord p, count := p.count, total := p.total,
    wexp := if p.sumFp32 then 0 else p.wexp }

def RedPacket_bytes (p : RedPacket) : List Byte := (RedPacket_header p).bytes ++ RedPacket_payload p

/-- R232: the TAG of transfer slot n. -/
def transferTag (n : Nat) (b : Xfer) : W16 := BitVec.ofNat 16 (n % 512 + 512 * b.epoch.toNat)

/-- R167, R232: the header of the request of transfer slot n of cluster k for bytes `offset` on of a tile, and that of
its reply, which goes back to the requester with the same TAG. -/
def State.requestHeader (s : State) (k n : Nat) (b : Xfer) (handle : W32) (offset len : Nat) : MeshHeader :=
  { dest := s.homeRouter (s.tileOf (s.tileKeyIn handle b.slotB)).home, src := routerAddr k, cls := .req, ctx := b.ctx,
    job := (s.ctxOf b.ctx.val).job, step := (s.ctxOf b.ctx.val).step, len := len, tag := transferTag n b,
    handle := handle, offset := BitVec.ofNat 32 offset }

def MeshHeader.reply (h : MeshHeader) (len : Nat) : MeshHeader :=
  { h with dest := h.src, src := h.dest, cls := .rsp, len := len }

/-! ## Host structures (R371, R452, R496) -/

def Completion.bytes (c : Completion) : List Byte :=
  bytesLE 4 c.seq.toNat ++ bytesLE 2 c.opcode.toNat ++ [c.status, BitVec.ofNat 8 (flag c.phase + 2 * flag c.nan), c.ctx,
    BitVec.ofNat 8 c.mbox.val] ++ bytesLE 2 c.job.toNat ++ bytesLE 4 c.detail.toNat ++ bytesLE 8 c.time.toNat ++
  (List.range 5).flatMap (fun i => bytesLE 8 (c.result.getD i 0).toNat)

def EventRec.bytes (e : EventRec) (cls : Nat) : List Byte :=
  (List.range 8).flatMap (fun i => bytesLE 8 (e.word cls i).toNat)

def RegionEntry_bytes (e : RegionEntry) : List Byte :=
  bytesLE 8 e.status.toNat ++ bytesLE 8 e.progress.toNat ++ bytesLE 4 e.laneFirst.toNat ++
  bytesLE 4 e.laneCount.toNat ++ bytesLE 2 e.openStreams.toNat ++ zeros 6

def CtxRecord_bytes (r : CtxRecord) : List Byte :=
  let body := bytesLE 4 1 ++ bytesLE 4 (ctxRecordLen r) ++ bytesLE 8 r.serial.toNat ++ bytesLE 8 r.time.toNat ++
    [r.ctx, BitVec.ofNat 8 (flag r.hold + 2 * flag r.serving + 4 * flag r.sumFp32 + 8 * flag r.stepOpen)] ++
    bytesLE 2 r.job.toNat ++ bytesLE 4 r.step.toNat ++ bytesLE 4 r.version.toNat ++ bytesLE 4 r.wslot.toNat ++
    bytesLE 4 r.aTag.toNat ++ bytesLE 4 r.bTag.toNat ++ bytesLE 8 r.batch.toNat ++ bytesLE 4 r.ledger.toNat ++
    bytesLE 2 r.regions.length ++ zeros 2 ++ bytesLE 4 r.lanes.length ++ zeros 12 ++
    r.regions.flatMap RegionEntry_bytes ++ r.lanes.flatMap recordBytes
  body ++ bytesLE 4 (crc32c body).toNat

/-- R450: the module header of the HOLD area, taken at the filtered warning. -/
def HoldHalf.header (h : HoldHalf) : List Byte :=
  let body := bytesLE 4 1 ++ bytesLE 4 h.holdNo.toNat ++ bytesLE 8 Config.serial.toNat ++ bytesLE 8 h.time.toNat ++
    [h.state, BitVec.ofNat 8 h.records.length] ++ zeros 34
  body ++ bytesLE 4 (crc32c body).toNat

/-- R450: the bytes of a half of the HOLD area, its commit word last. -/
def HoldHalf.bytes (h : HoldHalf) : List Byte :=
  let body := h.header ++ h.records.flatMap CtxRecord_bytes
  body ++ bytesLE 4 h.holdNo.toNat ++ bytesLE 4 body.length ++ bytesLE 4 (crc32c body).toNat ++ zeros 4

/-- The bytes that an entry of the host's log stands for, at its address. -/
def HostOut.image : HostOut → List Byte
  | .completion c => c.bytes
  | .vector _ => []
  | .words _ ws => ws.flatMap (fun w => bytesLE 8 w.toNat)
  | .bytes _ bs => bs
  | .record _ r => CtxRecord_bytes r
  | .request _ r ws => ws.flatMap (fun w => bytesLE 8 w.toNat)
  | .event _ cls e => e.bytes cls.val

end Sys2Proof.Machine
end

