-- ==== Sys2Proof/Laws/Layouts.lean ====
section
/-! SUPPORT. The lengths of byte images are those the manual states: a mesh header 32 bytes, a weight request 40, a PEG
message 32, a completion 64, an event record 64, a region entry 32. -/

set_option linter.unusedVariables false

namespace Sys2Proof.Machine

open Sys2Proof

@[simp] theorem bytesLE_length (n v : Nat) : (bytesLE n v).length = n := by simp [bytesLE]
@[simp] theorem zeros_length (n : Nat) : (zeros n).length = n := by simp [zeros]

theorem meshHeader_length (h : MeshHeader) : h.bytes.length = 32 := by simp [MeshHeader.bytes, MeshHeader.front]
theorem weightReq_length (r : WeightReq) : r.bytes.length = 40 := by simp [WeightReq.bytes]
theorem pegMsg_length (c : Bool) (m : PegMsg) : (PegMsg_bytes c m).length = 32 := by simp [PegMsg_bytes]
theorem stepMsg_length (t : Byte) (m : StepMsg) (b : List Byte) : (StepMsg_bytes t m b).length = 32 + b.length := by
  simp [StepMsg_bytes]; omega
theorem regionEntry_length (e : RegionEntry) : (RegionEntry_bytes e).length = 32 := by simp [RegionEntry_bytes]
theorem gradAck_length (a : GradAck) : (GradAck_aad a).length = 20 := by simp [GradAck_aad]
theorem gradRec_length (g : GradRec) (job : W16) : (g.aad job).length = 56 := by simp [GradRec.aad]
theorem weightRecord_length (w : WeightRecord) : (WeightRecord.aad w).length = 40 := by simp [WeightRecord.aad]
theorem completion_length (c : Completion) : c.bytes.length = 64 := by
  simp [Completion.bytes, List.range_succ]
theorem event_length (e : EventRec) (cls : Nat) : (e.bytes cls).length = 64 := by
  simp [EventRec.bytes, List.range_succ]

theorem recordBytes_length (r : LaneRec) : (recordBytes r).length = recordLen := by simp [recordBytes, recordLen]

theorem flatMap_const_length {α : Type} (f : α → List Byte) (n : Nat) (h : ∀ x, (f x).length = n) (l : List α) :
    (l.flatMap f).length = n * l.length := by
  induction l with
  | nil => simp
  | cons x xs ih => rw [List.flatMap_cons, List.length_append, ih, h, List.length_cons, Nat.mul_succ, Nat.add_comm]

/-- R452: LENGTH is the length of the record. -/
theorem ctxRecord_length (r : CtxRecord) : (CtxRecord_bytes r).length = ctxRecordLen r := by
  have e := flatMap_const_length RegionEntry_bytes 32 regionEntry_length r.regions
  have n := flatMap_const_length recordBytes recordLen recordBytes_length r.lanes
  unfold CtxRecord_bytes ctxRecordLen
  simp only [List.length_append, bytesLE_length, zeros_length, List.length_cons, List.length_nil, e, n]
  generalize recordLen * r.lanes.length = k
  omega

end Sys2Proof.Machine
end

