-- ==== Sys2Proof/Tests/Slice0.lean ====
section
/-! SUPPORT. Tests on small states: the well-formedness checks, worked examples of the manual, and for each
statement with hypotheses a state and operands that meet them. -/

set_option linter.unusedVariables false
set_option maxRecDepth 20000
set_option Elab.async false

namespace Sys2Proof.Tests

open Sys2Proof Sys2Proof.Machine

/-! ## Helpers -/

/-- The command answers a next state that satisfies p. -/
def gives (s : State) (i : Instr) (p : State → Bool) : Bool :=
  match exec i s with
  | .next t => p t
  | _ => false

/-- The command is ill-formed, and its meaning refuses it. -/
def illFormed (s : State) (i : Instr) : Bool :=
  !i.wf && (match exec i s with
    | .fault .illFormed => true
    | _ => false)

def online : Field := { state := .online, fcOk := true, osc := .locked, arithGated := false, meshGated := false }

/-- A module in RUN with context 1, its region 0 on cluster 0, and core 0 at PC 5 of its program. -/
def busy (k : Core) : State :=
  ({ State.reset with
      mode := .run
      fields := [(0, online)]
      ctxs := [(1, { live := true, job := 7, pocketQuota := 32 })]
      regions := [(0, { state := .loaded, ctx := 1, width := 1, height := 1, ibufSize := 64,
                        code := List.replicate 8 0xF400000000000000 })] } :
    State).putCore 0 { k with running := some 1, pc := 5 }

/-- A RESIDENT entry of context 1 with 512 stored bytes in INT8. -/
def entry (writable : Bool) : Entry :=
  { state := .resident, writable := writable, holder := 1, reserved := 4096,
    header := { bitmap := 1, fmt := 0x05, storedLen := 4096 }, bytes := [(0, 0x80), (1, 1)] }

def withTiles (ts : Table Entry) : State := busy { tiles := ts, xvec := 0x100 }

/-! ## Ill-formed terms -/

def packet : RedPacket :=
  { dest := 0, ctx := 1, job := 7, step := 0, handle := 0x20000000, frag := 0, form := .fp32, sumFp32 := false, bmap := 1,
    count := 1, total := 2, data := List.replicate 64 0 }

def coll : CollMsg :=
  { job := 7, node := 0, coll := 0, fp32 := true, step := 0, tile := 0, chunk := false, bitmap := 1, count := 1,
    body := [0], crc := 0 }

theorem test_illformed_tubArrival : illFormed (busy {}) (.tubArrival 0 { packet with count := 0 } false false) = true := by
  decide
theorem test_illformed_redArrival : illFormed (busy {}) (.redArrival { packet with data := [0] }) = true := by decide
theorem test_illformed_collUp : illFormed (busy {}) (.collUp 0 coll) = true := by decide
theorem test_illformed_collDown : illFormed (busy {}) (.collDown 0 coll) = true := by decide
theorem test_illformed_flit :
    illFormed (busy {}) (.flitReceive 0 ⟨{ kind := .data, payload := List.replicate 241 0 }, []⟩) = true := by decide
theorem test_wellformed_packet : (Instr.redArrival packet).wf = true := by decide

/-! ## Worked examples of the manual -/

/-- Example at R7: field (3,7), cluster (2,1), row 3, column 5. -/
theorem test_core_number : 512 * 73 + 32 * 6 + 8 * 3 + 5 = 0x92DD ∧ clusterAt 14 29 = 16 * 73 + 6 := by decide

/-- Example at R101: 0x3F80_5000 to BF16, t = 3. -/
theorem test_stochastic_rounding :
    (bf16.convert (.stochastic 3 2) (fp32Val 0x3F805000)).1 = 0x3F81 ∧
    (bf16.convert (.stochastic 3 3) (fp32Val 0x3F805000)).1 = 0x3F80 := by decide

/-- Example at R113: FW64 with E = 0. -/
theorem test_fw64_convert :
    (fwOfVal (fp32Val 0x3F800000) 0).1 = 0x4000000000000000 ∧ (fwOfVal (fp32Val 0x33800000) 0).1 = 0x4000000000 ∧
    (fwOfVal (fp32Val 0xBF400000) 0).1 = 0xD000000000000000 ∧ (fwOfVal (fp32Val 0x40000000) 0).1 = fwSatPos := by decide
theorem test_fw64_sum :
    (fwAdd (fwAdd 0x4000000000000000 0x4000000000).1 0x4000000000).1 = 0x4000008000000000 ∧
    (fwToFp32 0x4000008000000000 0).1 = 0x3F800001 := by decide

/-- ln u is 0 for u = 1, e^0 is 1, and a quarter turn has cosine 0: the fixed-point values are exact there. -/
theorem test_reals : fixLn 1 0 = 0 ∧ fixExp 0 = (fixOne, 0) ∧ fixTurns (2 ^ 22) false = 0 ∧ fixTurns (2 ^ 22) true = fixOne := by
  decide +kernel
/-- 0x3F317218 is the FP32 value next to ln 2; 0x3F317216 lies within 2 ulp of it and 0x3F31721A does not. -/
theorem test_near_ln2 : nearUlp 2 0x3F317216 (fixLn 2 0) (-fixBits) = true ∧
    nearUlp 2 0x3F31721A (fixLn 2 0) (-fixBits) = false := by decide +kernel
/-- R36, RNE: 1 + 2^-24 is a tie. -/
theorem test_fp32_tie : add32 0x3F800000 0x33800000 = (0x3F800000, flagNX) := by decide

/-- R11: serial-number order. -/
theorem test_serial_order : precedes 0xFFFFFFFF 0 = true ∧ unordered 0 0x80000000 = true := by decide

/-- R445: the caps of six working converters. -/
theorem test_caps : sustainedCap 6 = 20000 ∧ peakCap 6 = 22000 ∧ sustainedCap 5 = 16000 := by decide

/-! ## Scalar instructions, exceptions and tile entries -/

theorem witness_issues : (busy {}).issues 0 1 = true := by decide
theorem test_add_wraps : gives (busy { s := [(1, 0xFFFFFFFFFFFFFFFF), (2, 3)] }) (.add 0 { rd := 3, ra := 1, rb := 2 })
    (fun t => (t.coreOf 0).sreg 3 == 2 && (t.coreOf 0).pc == 6) = true := by decide
theorem test_sra_low_six_bits : gives (busy { s := [(1, 0x8000000000000000), (2, 65)] }) (.sra 0 { rd := 1, ra := 1, rb := 2 })
    (fun t => (t.coreOf 0).sreg 1 == 0xC000000000000000) = true := by decide
theorem test_div_by_zero : gives (busy { s := [(1, 9)] }) (.div 0 { rd := 3, ra := 1, rb := 2 })
    (fun t => (t.coreOf 0).sreg 3 == allOnes64) = true := by decide
theorem test_s0_ignores : gives (busy {}) (.li 0 { rd := 0, imm := 9 }) (fun t => (t.coreOf 0).sreg 0 == 0) = true := by
  decide
theorem witness_load : (withTiles [(3, entry true)]).issues 0 1 = true ∧
    gives (withTiles [(3, entry true)]) (.ld 0 { opt := 1, rd := 4, ra := 0, imm := 3 })
      (fun t => (t.coreOf 0).sreg 4 == 0xFFFFFFFFFFFFFF80) = true := by decide
theorem witness_load_misaligned : (withTiles [(3, entry true)]).issues 0 1 = true ∧
    gives (withTiles [(3, entry true)]) (.ld 0 { rd := 4, ra := 0, var := 1, imm := 0x103 })
      (fun t => (t.coreOf 0).xcause == 2 && (t.coreOf 0).pc == 0x100) = true := by decide
theorem witness_store : (withTiles [(3, entry true)]).writeBusy 0 3 = false ∧
    gives (withTiles [(3, entry true)]) (.st 0 { rd := 0, ra := 0, imm := 0x40003 })
      (fun t => ((t.coreOf 0).entry 3).header.bitmap == 0x10001) = true := by decide
theorem witness_store_not_writable :
    gives (withTiles [(3, entry false)]) (.st 0 { rd := 0, ra := 0, imm := 3 }) (fun t => (t.coreOf 0).xcause == 2) = true := by
  decide
theorem witness_branch : gives (busy { s := [(1, 1)] }) (.bne 0 { ra := 1, rb := 0, imm := 0xFFFFFFFB })
    (fun t => (t.coreOf 0).pc == 0) = true := by decide
theorem witness_branch_outside : gives (busy { s := [(1, 1)], xvec := 0x100 }) (.bne 0 { ra := 1, rb := 0, imm := 0xFFFFFFFA })
    (fun t => (t.coreOf 0).xcause == 2 && (t.coreOf 0).inHandler) = true := by decide
theorem witness_waitlim_floor : gives (busy { s := [(1, 5)] }) (.sprw 0 { ra := 1, imm := 8 })
    (fun t => (t.coreOf 0).waitlim == 65536) = true := by decide
theorem witness_illegal : gives (busy { xvec := 0x100 }) (.nop 0 { men := true })
    (fun t => (t.coreOf 0).xcause == 1 && (t.coreOf 0).xinfo == assemble 0x3D 0 { men := true }) = true := by decide
theorem witness_handlerless : gives (busy {}) (.brk 0 { imm := 3 })
    (fun t => (t.ctxOf 1).marks.aborted || !(t.ctxOf 1).isOpen) = true := by decide
theorem witness_return : (busy { inHandler := true, xpc := 9 }).issues 0 1 = true ∧
    gives (busy { inHandler := true, xpc := 9 }) (.xretSkipping 0 {}) (fun t => (t.coreOf 0).pc == 10) = true := by decide
theorem witness_talloc : gives (busy {}) (.talloc 0 { imm := 0x503 })
    (fun t => ((t.coreOf 0).entry 3).writable && ((t.coreOf 0).entry 3).header.storedLen == 4096) = true := by decide
theorem witness_tfree : (withTiles [(3, entry true)]).writeBusy 0 3 = false ∧
    gives (withTiles [(3, entry true)]) (.tfree 0 { imm := 3 }) (fun t => ((t.coreOf 0).entry 3).state == .empty) = true := by
  decide
theorem witness_foreign_entry : (busy { tiles := [(3, { entry true with holder := 2 })] }).issues 0 1 = true ∧
    (Core.heldByOther { tiles := [(3, { entry true with holder := 2 })] } 1 3) = true := by decide

/-! ## Vector and tensor instructions -/

theorem witness_vadd_masked : gives (busy { v := [(1, Vector.replicate 64 0x3F800000)], m := [(2, 1)] })
    (.vadd 0 { rd := 3, ra := 1, rb := 1, men := true, msel := 2 })
    (fun t => ((t.coreOf 0).vreg 3)[0] == 0x40000000 && ((t.coreOf 0).vreg 3)[1] == 0) = true := by decide +kernel
theorem witness_vldr : (entry true).short = false ∧ gives (withTiles [(3, entry true)]) (.vldr 0 { rd := 3, imm := 0x14003 })
    (fun t => ((t.coreOf 0).vreg 3)[0] == 0xFFFFFF80 && ((t.coreOf 0).vreg 3)[1] == 1) = true := by decide +kernel
theorem witness_vstr : gives (busy { tiles := [(3, entry true)], v := [(1, Vector.replicate 64 300)] })
    (.vstr 0 { rd := 1, imm := 0x14003 })
    (fun t => (tileByte ((t.coreOf 0).entry 3).bytes 0) == 127 && (t.coreOf 0).fpstatus == (flagOF ||| flagNX).setWidth 64) = true := by
  decide +kernel
theorem witness_vfwcv : gives (busy { v := [(2, Vector.replicate 64 0x3F800000)] }) (.vfwcv 0 { rd := 4, ra := 2 })
    (fun t => ((t.coreOf 0).vreg 5)[63] == 0x40000000 && ((t.coreOf 0).vreg 4)[63] == 0) = true := by decide +kernel
theorem witness_accumulator_read : gives (busy {}) (.vaccr 0 { rd := 1, imm := 64 })
    (fun t => ((t.coreOf 0).vreg 1)[5] == 0 && (t.coreOf 0).pc == 6) = true := by decide +kernel
theorem witness_rset : gives (busy { s := [(1, 5)] }) (.rsetSeed 0 { ra := 1 }) (fun t => (t.coreOf 0).seed == 5) = true := by
  decide +kernel
theorem witness_lane_step : gives (busy { m := [(1, 1)] }) (.rlane 0 { rd := 2, men := true, msel := 1 })
    (fun t => (t.coreOf 0).lanes[0] != (t.coreOf 0).lanes[1]) = true := by decide +kernel

theorem witness_tmm : tmmOperandsOk { imm := 0x303 } (entry true) (entry true) {} = true ∧
    gives (withTiles [(3, entry true)]) (.tmm 0 { imm := 0x303 })
      (fun t => ((t.coreOf 0).acc false).inFlight == 1 && ((t.coreOf 0).acc false).type == some .int32) = true := by
  decide +kernel
theorem witness_tmm_empty : gives (busy { xvec := 0x100 }) (.tmm 0 { imm := 0x303 }) (fun t => (t.coreOf 0).xcause == 2) = true := by
  decide +kernel
theorem witness_aclr : gives (busy { acc0 := { poison := true } }) (.aclr 0 {}) (fun t => !((t.coreOf 0).acc false).poison) = true ∧
    gives (busy { acc0 := { inFlight := 1 } }) (.accumulatorReadable 0 false)
      (fun t => ((t.coreOf 0).acc false).inFlight == 0) = true := by decide +kernel
theorem witness_compare : gives (busy { v := [(1, Vector.replicate 64 0x3F800000)], m := [(2, 1)] })
    (.vclt 0 { rd := 3, ra := 2, rb := 1, men := true, msel := 2 })
    (fun t => (t.coreOf 0).mreg 3 == allOnes64) = true := by decide +kernel
theorem witness_reduction : gives (busy { v := [(1, Vector.replicate 64 0x3F800000)] }) (.vrsum 0 { rd := 3, ra := 1 })
    (fun t => ((t.coreOf 0).vreg 3)[63] == 0x42800000) = true := by decide +kernel
theorem witness_convert_int32 : gives (busy { xvec := 0x100 }) (.vcvt 0 { rd := 3, ra := 1, imm := 0xD })
    (fun t => (t.coreOf 0).xcause == 3) = true := by decide +kernel
theorem witness_bounded :
    (([0x4000000000000000, fwSatPos, 0xC000000000000002] : List W64).map
      (fun v => if fwIsMark v then 0 else v.toInt.natAbs)).sum ≤ 2 ^ 63 - 2 := by decide +kernel

/-! ## Streams, Peg groups, sequencers and the sampler -/

/-- A READ of tile 0x4000 of context 1 into entry 8, laid out as the worked stream of R220. -/
def readDescriptor : Table Byte := [(0, 1), (1, 1), (5, 0x40), (7, 0x20), (12, 8), (32, 1)]

def reader : State :=
  let s := busy { tiles := [(3, { entry true with bytes := readDescriptor })], xvec := 0x100 }
  ({ s with tiles := [(2 ^ 29 + 0x4000, { declared := true, fmt := 5, region := some 0, home := .basket 0 })] } :
    State).putRegion 0 { s.regionOf 0 with decls := [{ first := 0x4000, count := 16, fmt := 5, flags := 0 }] }

theorem witness_descriptor : (match ((reader.coreOf 0).entryFor 1 3).descriptor 0 with
    | some b => b.ok && reader.descAllowed 0 (reader.coreOf 0) 1 b.desc && (reader.streamBinding 1 b.desc).isNone &&
        reader.boundsOk 1 (reader.coreOf 0) (reader.resolveRoles 1 0 b.desc) &&
        (reader.failingEntry (reader.coreOf 0) 1 b.desc).isNone && (b.desc.dstEntries == [8])
    | none => false) = true := by decide +kernel
theorem witness_sissue : reader.freeQueueSlot 0 = some 0 ∧ gives reader (.sissue 0 { rd := 2, imm := 3 })
    (fun t => (t.coreOf 0).pc == 6 && (t.slotAt 0 (slotOf 0 0)).stream.isSome) = true := by decide +kernel
theorem witness_sissue_misplaced : gives reader (.sissue 0 { rd := 2, ra := 0, imm := 4 })
    (fun t => (t.coreOf 0).xcause == 7) = true := by decide +kernel

/-- The module once the READ has been accepted. -/
def reading : State := (match exec (.sissue 0 { rd := 2, imm := 3 }) reader with
  | .next t => t
  | _ => reader)

theorem witness_running_stream : (match (reading.slotAt 0 (slotOf 0 0)).stream with
    | some m => m.ended.isNone
    | none => false) = true ∧ gives reading (.stest 0 { rd := 4, ra := 2 }) (fun t => (t.coreOf 0).sreg 4 == 1) = true ∧
    gives reading (.scancel 0 { ra := 2 }) (fun t => (t.slotAt 0 (slotOf 0 0)).epoch == 2) = true := by decide +kernel
theorem witness_stray_ticket : gives (busy {}) (.swait 0 { rd := 4, ra := 0 }) (fun t => (t.coreOf 0).sreg 4 == 3) = true := by
  decide +kernel
theorem witness_transfer : reading.meshRuns 0 = true ∧ (reading.queueWriters 0).freeXfer 0 = some 0 ∧
    ((reading.queueWriters 0).nextWork 0).isSome = true := by decide +kernel
theorem witness_free_slot_reply : (xferSlot (reading.clusterOf 0) 3).busy = none ∧
    gives reading (.xferReply 0 3 0 ⟨.data, none⟩) (fun t => (t.counterOf (counterKey 1 0x21028)).count == 1) = true := by
  decide +kernel

def grouped (total : Nat) (completed : W32) : State :=
  { busy { xvec := 0x100 } with
    pegs := [(5, { configured := true, ctx := 1, count := 2, scope := 1, total := total, completed := completed })] }

theorem witness_pegpost : (grouped 0 0).pegScope 5 0 = true ∧
    gives (grouped 0 0) (.pegpost 0 { imm := 5 }) (fun t => (t.pegOf 5).total == 1) = true := by decide +kernel
theorem witness_stray_post : (grouped 0 0).pegScope 6 0 = false ∧
    gives (grouped 0 0) (.pegpost 0 { imm := 6 }) (fun t => (t.counterOf (counterKey 1 0x31038)).count == 1) = true := by
  decide +kernel
theorem witness_pegwait : gives (grouped 0 1) (.pegwait 0 { rd := 2, imm := 5 }) (fun t => (t.coreOf 0).sreg 2 == 1) = true ∧
    gives (grouped 0 0) (.pegwait 0 { rd := 2, imm := 5 }) (fun t => (t.coreOf 0).waiting.isSome) = true := by decide +kernel
theorem witness_group_completes : gives (grouped 3 0) (.pegGroupComplete 5)
    (fun t => (t.pegOf 5).total == 1 && (t.pegOf 5).completed == 1) = true := by decide +kernel
theorem witness_buffer : gives (busy { s := [(1, 0x20004000)], xvec := 0x100 }) (.bswap 0 { rd := 2, ra := 1 })
    (fun t => (t.coreOf 0).xcause == 2) = true := by decide +kernel

def sampling : State := (busy { s := [(1, 0x3F800000), (2, 4)], xvec := 0x100 }).modRegion 0 (fun g => { g with sampler := 0x8000 })

theorem witness_sampler : sampling.samplerCluster 0 = some 0 ∧ sampling.issues 0 1 = true ∧
    cfgFault 0x3F800000 4 0x3F800000 = none ∧ (cfgFault 0xBF800000 4 0x3F800000).isSome = true := by decide +kernel

def handing : State := (busy {}).modRegion 0 (fun g => { g with
  seq := .running, stage := { tileCount := 4, dist := 0x10 }, handed := 1, outstanding := [(0, 0)] })

theorem witness_tilenext : (handing.regionOf 0).allHanded = false ∧
    gives handing (.tilenext 0 { rd := 1 }) (fun t => (t.seqInst 0 1).waiters == [0]) = true := by decide +kernel
theorem witness_tiledone : (0, 0) ∈ (handing.regionOf 0).outstanding ∧
    gives handing (.tiledone 0 { ra := 0 }) (fun t => (t.regionOf 0).doneTiles == 1) = true := by decide +kernel
theorem witness_lease : handing.handingRegion 0 1 = some 0 ∧ (handing.regionOf 0).staticDist = false ∧
    (handing.regionOf 0).tileTotal = some 4 := by decide +kernel

/-! ## Failing parts -/

/-- R90: a wait whose group has completed does not time out. -/
theorem witness_wait_met : gives ((busy { xvec := 0x100, waiting := some ⟨0xC400000000000000, 0, true⟩ }).putPeg 0
    { configured := true, ctx := 1, scope := 1, completed := 1 }) (.waitTimeout 0) (fun t => (t.coreOf 0).xcause == 0) = true := by
  decide +kernel
theorem witness_wait_timeout : gives (busy { xvec := 0x100, waiting := some ⟨0xC400000000000000, 0, true⟩ }) (.waitTimeout 0)
    (fun t => (t.coreOf 0).xcause == 5) = true := by decide +kernel
/-- A SPARE slice runs on cluster 0. -/
def slicing : State := (busy {}).modField 0 (fun v => { v with slice := some { kind := .spare, ci := 0, inWindow := false } })

theorem witness_spare_fails : slicing.physClocked 8 = true ∧ slicing.serves 8 = none ∧
    gives slicing (.residueError 8 .vector) (fun t => (t.physOf 8).health == .failed) = true := by decide +kernel
theorem witness_codes : ((busy { tiles := [(3, entry false)] }).coreOf 0).entryAt 12 = some 3 ∧
    gives (withTiles [(3, entry false)]) (.ld 0 { rd := 4, imm := 3, finding := { pocket := .uncorrectable, offset := 264 } })
      (fun t => (t.coreOf 0).xcause == 4 && ((t.coreOf 0).entry 3).state == .poisoned && (t.physOf 0).fault == 0x10020) = true ∧
    gives (busy {}) (.nop 0 { finding := { fetch := .uncorrectable } })
      (fun t => (t.coreOf 0).ibufLost == some 1 && (t.coreOf 0).running.isNone && (t.physOf 0).score == 64) = true := by
  decide +kernel
theorem witness_undefined_word : gives ((busy { xvec := 0x100 }).modRegion 0 (fun g => { g with code := [] })) (.nop 0 {})
    (fun t => (t.coreOf 0).xcause == 1 && (t.coreOf 0).xinfo == 0) = true := by decide +kernel
theorem witness_zeroed : (busy { space := [(0, 64, some 2)] }).issues 0 1 = true ∧
    ((busy { space := [(0, 64, some 2)] }).coreOf 0).lastUser 5 = some (some 2) ∧
    tileByte (((busy { space := [(0, 64, some 2)] }).coreOf 0).freshBytes 1 0 0 8) 5 = 0 := by decide +kernel
theorem witness_residue : (busy {}).physClocked 0 = true ∧ (busy {}).serves 0 = some 0 ∧ (busy {}).serves 8 = none ∧
    gives (busy {}) (.residueError 0 .vector) (fun t => (t.physOf 0).health == .suspect && t.mode == .drain) = true := by
  decide +kernel
theorem witness_heartbeat_order : gives (((busy {}).putPhys 0 { hbSeen := true, hbSeq := 4 }).threadWait (heartbeatMsg 0 9 true))
    (.heartbeatReceived 0 9 true) (fun t => (t.physOf 0).fault == 16) = true := by decide +kernel
theorem test_heartbeat_waits : gives (busy {}) (.heartbeat ⟨0, true⟩) (fun t =>
    (t.threadNode 1).normal == [⟨0, 1, .heartbeat 0 0 true⟩] && (t.physOf 0).hbMissed == 1) = true := by decide +kernel
/-- An event of field 0, and 32 of them in the queue of its controller. -/
def event (code : W16) : EventRec :=
  { code := code, seq := 0, firstTime := 0, lastTime := 0, domain := 1, index := 0 }
def fullQueue : EventQueue := { queue := List.replicate 32 (.fault, event 1) }
theorem test_full_queue : (fullQueue.put .notice (event 2)).dropNotice = 1 ∧ (fullQueue.put .fault (event 2)).dropFault = 1 ∧
    (fullQueue.put .alarm (event 9)).dropFault = 1 ∧ ((fullQueue.put .alarm (event 9)).next 5).map (·.1) = some .alarm ∧
    ({ fullQueue with admitted := some 4 }.next 5).isNone = true := by decide +kernel
theorem witness_abort : gives (busy {}) (.contextAbort 1 0) (fun t => (t.coreOf 0).running.isNone) = true := by decide +kernel
theorem witness_tub_total : RedPacket.wf packet = true ∧ gives { busy {} with mesh := [⟨packet, none⟩] } (.tubArrival 0 packet false true)
    (fun t => t.mesh == [] && ((t.clusterOf 0).tub 0).isSome) = true := by decide +kernel
/-- A packet from the router at (0, 0) to that at (2, 1). -/
def crossing : RedPacket := { packet with dest := 66, notub := true }
theorem test_route : (busy {}).hops ⟨crossing, none⟩ 0 = true ∧ (busy {}).hops ⟨crossing, some 0⟩ 1 = true ∧
    (busy {}).hops ⟨crossing, some 0⟩ 4 = false ∧ (busy {}).hops ⟨crossing, some 2⟩ 6 = true := by decide +kernel
/-- The router at (1, 0) is removed. -/
def holed : State := { busy {} with mesh := [⟨crossing, some 0⟩], darn := { (busy {}).darn with removedRouters := [1] } }
theorem test_detour : holed.detours crossing 0 = true ∧ holed.hops ⟨crossing, some 0⟩ 1 = false ∧
    gives holed (.tubArrival 4 { crossing with detour := true } true true) (fun t =>
      t.mesh == [⟨{ crossing with detour := true }, some 4⟩] && (t.counterOf (counterKey 1 0x31028)).count == 1) = true := by
  decide +kernel
theorem test_order : ((busy {}).inOrder 1 ⟨crossing, some 0⟩ = true) ∧
    ({ busy {} with mesh := [⟨crossing, some 0⟩, ⟨crossing, some 0⟩] }.inOrder 1 ⟨crossing, some 0⟩) = false := by decide +kernel
theorem test_field_dark : gives { busy {} with mesh := [⟨crossing, some 0⟩, ⟨crossing, some 16⟩] } (.fieldDark 0 {}) (fun t =>
    t.mesh == [] && (t.ctxOf 1).marks.aborted && (t.counterOf (counterKey 0 mmpRouteDrop)).count == 1) = true := by decide +kernel
theorem witness_red_dropped : gives { busy {} with mesh := [⟨packet, some 0⟩] } (.redArrival packet)
    (fun t => (t.counterOf (counterKey 1 0x31030)).count == 1) = true := by decide +kernel
theorem witness_red_declared :
    gives { busy {} with mesh := [⟨packet, some 0⟩], tiles := [(2 ^ 29, { declared := true, home := .basket 0 })] }
      (.redArrival packet) (fun t => (t.tileOf (2 ^ 29)).frags != []) = true := by decide +kernel
theorem witness_flit_refused : boundaryOf 0 .south = none ∧ (busy {}).meshRuns 0 = true ∧ (boundaryOf 3 .east).isSome = true := by
  decide +kernel
theorem witness_boundary : fieldServes ((busy {}).fieldOf 0) = true ∧
    gives ((busy {}).modBoundary 0 0 (fun g => { g with retries := 16 })) (.hopRetryGroupTest 0 0 (BitVec.twoPow 68 3))
      (fun t => t.darn.patch.length == 1) = true := by decide +kernel
theorem witness_scrub : (busy {}).scrubRuns = true ∧ ((busy {}).stackOf 0).retired = false ∧
    (busy {}).badChannel 0 0 = false := by decide +kernel

/-! ## Images, weights and gradients -/

def header (n : Nat) : Hdr := { mbox := 0, seq := BitVec.ofNat 32 n, ctx := 1, job := 7 }
def plain : Hdr := { mbox := 0, seq := 1 }

/-- The module with a host command held at mailbox 0. -/
def holding (s : State) (op : W16) (h : Hdr) : State :=
  s.putMbox 0 { enable := true, ctxMask := 0xFF, held := [{ opcode := op, hdr := h, order := false, irq := false }] }

def installing (retried : Bool) : State :=
  { holding (busy {}) 0x40 (header 1) with
    press := { install := some { slot := 2, ctx := 1, key := 0, cmd := header 1, opcode := 0x40, retried := retried },
               slots := [(2, { state := .incomplete, tileCount := 4, held := true, charged := some 1 })] } }

/-- Four tiles of no set blocks, each 16 bytes with its header. -/
def fourTiles : Table (Option ImageTile) := (List.range 4).map (fun i => (i, some { header := {}, bytes := [] }))
theorem witness_extent : (extentTiles ((installing false).imageOf 2) fourTiles 0 3).map (fun l =>
      (extentStored ((installing false).imageOf 2) l, extentCloses ((installing false).imageOf 2) fourTiles 3 64)) =
      some (64, true) ∧
    extentCloses ((installing false).imageOf 2) fourTiles 2 48 = false ∧
    extentTiles ((installing false).imageOf 2) fourTiles 0 4 = none := by decide +kernel
theorem witness_blocks : let p : Press := { blocks := [(1, { inUse := true, erases := 3, softDecode := true }),
      (4, { inUse := true, erases := 504 })], map := [(7, some 1)] }
    ({ busy {} with press := p } : State).refreshDue 1 = true ∧ p.leastWorn 1 = true ∧ p.leastWorn 4 = false ∧
    gives { busy {} with press := p } (.pressWearMove ⟨1, .done⟩)
      (fun t => (t.press.map == [(7, some 5)]) && (t.press.block 1).erases == 4) = true := by decide +kernel
theorem witness_slot_switch : gives ((busy {}).modCtx 1 (fun c => { c with swap := .waiting })) (.slotSwitch 1)
    (fun t => (t.ctxOf 1).activeB) = true := by decide +kernel

/-- Context 1 with a fabric link and a server port that are open to it, and unit 3 as its child in tree 0. -/
def linked (own : W16) : State :=
  let j : JobRec := { node := own, nodes := 2, manager := 0, ctrlTree := 0, stepLimit := 1000,
                      trees := [{ tree := 0, parent := if own = 0 then 0x7F else 4, subtree := 2, size := 2, children := 8 }] }
  { (busy {}).modCtx 1 (fun c => { c with jobRec := some j, isOpen := true, step := 9 }) with
    fields := [(0, online), (1, online), (2, online)],
    units := [(3, { state := .active, openCtx := 2, width := .full }), (4, { state := .active, openCtx := 2 }),
              (96, { state := .active, openCtx := 2 })] }

def weights : WeightRecord :=
  { job := 7, node := 0, stream := 0, object := 5, version := 1, tile := 0, seq := 0, header := {}, hcheck := 0,
    body := [], crcs := [] }

/-- A tile of no set blocks, for an image of object 5, and the module that installs that image. -/
def imageTile0 : WeightRecord :=
  { job := 7, node := 0, stream := 0, object := 5, version := 1, tile := 2, seq := 0, header := {},
    hcheck := headerCheck {}, body := [], crcs := [chunkCrc 0 0 [] 0, chunkCrc 0 0 [] 1] }
def installLinked : State :=
  { linked 0 with
    press := { install := some { slot := 2, ctx := 1, key := 0, cmd := header 1, opcode := 0x40, asks := { next := 4, last := 4, out := [(3, 96)] } },
               slots := [(2, { state := .incomplete, tileCount := 4, imageId := 5, version := 1, held := true })] } }
theorem witness_install_record : installLinked.admitted 96 0x11 7 = some 1 ∧ imageTile0.tagOk = true ∧
    ((installLinked.brimBump (brimOf 96) 0 1).expects 1 imageTile0).isSome = true ∧
    gives installLinked (.weightRecord 96 imageTile0)
      (fun t => (t.press.install.map (fun i => i.arrived.map (·.1))) == some [2]) = true ∧
    gives installLinked (.weightRecord 96 { imageTile0 with refuse := true }) (fun t => t.press.install.isNone) = true ∧
    gives installLinked (.requestDeadline 0 0 (some (1, none, 3))) (fun t => t.press.install.isNone) = true := by
  decide +kernel
theorem witness_arrived : gives { installing false with press := { (installing false).press with
      install := (installing false).press.install.map (fun i => { i with arrived := [(2, some { header := {}, bytes := [] })] }) } }
    (.pressExtentCommit 0 3 ⟨64, 0⟩ true true) (fun t => t.press.install.isSome && (t.imageOf 2).state == .incomplete) = true := by
  decide +kernel

theorem witness_weight_record : (linked 0).admitted 96 0x11 7 = some 1 ∧ (linked 0).expects 1 weights = none ∧
    gives (linked 0) (.weightRecord 96 weights) (fun t => t.counters != []) = true := by decide +kernel
theorem witness_stray_ack : (linked 0).admitted 96 0x13 7 = some 1 ∧
    gives (linked 0) (.gack 96 { job := 7, node := 0, stream := 0, seq := 0, status := 0, step := 9 })
      (fun t => (t.counterOf (counterKey 0 (0x74000 + 64 + 24))).count == 1) = true := by decide +kernel
theorem witness_step_done : gives ((linked 0).modCtx 1 (fun c => { c with heldDone := some false, jobRec := none }))
    (.stepDoneRelease 1) (fun t => !(t.ctxOf 1).isOpen && (t.ctxOf 1).lastOutcome == 1) = true := by decide +kernel

/-! ## Trees, collectives and links -/

def peg : PegMsg := { job := 7, node := 1, tree := 0, group := 5, step := 9, gen := 1, count := 1, nan := false }
def step_ : StepMsg := { job := 7, node := 0, step := 9 }

theorem witness_arrive : (linked 0).admitted 3 0x20 7 = some 1 ∧ ((linked 0).treeRec 1 0).isSome = true ∧
    gives (linked 0) (.pegArrive 3 peg) (fun t => (t.ctxOf 1).linked.length == 1) = true ∧
    gives (linked 0) (.pegArrive 4 peg) (fun t => (t.ctxOf 1).linked == []) = true := by decide +kernel
theorem witness_commit : (linked 1).admitted 4 0x21 7 = some 1 ∧ ((linked 1).ctrlTree 1).isSome = true ∧
    gives (linked 1) (.commitMsg 4 step_) (fun t => !(t.ctxOf 1).isOpen && (t.ctxOf 1).lastOutcome == 1) = true := by
  decide +kernel
theorem witness_step_limit : (linked 0).isManager 1 = true ∧
    gives (linked 0) (.stepLimitExpiry 1) (fun t => (t.ctxOf 1).lastOutcome == 3) = true := by decide +kernel

def colls : State := (linked 0).modCtx 1 (fun c => { c with colls := [(0, some { decl := {
  coll := 0, form := 0, treeA := 0, treeB := 0, src := 0x20000000, dst := 0x20000010, tiles := 1, window := 1,
  deadline := 100 } })] })

theorem witness_coll_deadline : (colls.openColl 1 0 0).isSome = true ∧
    gives colls (.collDeadline 1 0 0) (fun t => (t.ctxOf 1).marks.short) = true := by decide +kernel

def idle : Flit := { kind := .idle, ack := 5 }

theorem witness_flit : gives (linked 0) (.flitReceive 3 ⟨{ idle with crc := flitCrc idle }, [7, 9]⟩)
    (fun t => (t.unitOf 3).ackSeq == 5) = true ∧
    gives (linked 0) (.flitReceive 3 ⟨idle, []⟩) (fun t => (t.unitOf 3).nakSent && (t.unitOf 3).score == 1) = true := by
  decide +kernel
/-- R317, R319: the flits of a PEG message go out as one flit with SEQ 0, and a timeout sends it again. -/
theorem witness_replay : gives ((linked 0).transmit 3 7 (.pegUp ⟨7, 0, 0, 5, 9, 1, 1, false⟩)) (.replayTimeout 3)
    (fun t => (t.unitOf 3).wire.map (·.seq) == [0, 0] && (t.unitOf 3).goBacks == 1 && (t.unitOf 3).txSeq == 1) = true := by
  decide +kernel
/-- R318, R329: an admitted message frees its buffers; at a fence it is dropped. -/
theorem witness_admission : gives ((linked 0).modUnit 3 (fun k => { k with delivered := [⟨0x20, 7, 0, 0, 2⟩] }))
    (.messageAdmission 3 0x20 7) (fun t => (t.unitOf 3).delivered == [] && tget 0 (t.unitOf 3).freed 0 == 2) = true ∧
    gives ((linked 0).modUnit 3 (fun k => { k with openCtx := 0, delivered := [⟨0x20, 7, 0, 0, 2⟩] }))
      (.messageAdmission 3 0x20 7) (fun t => (t.counterOf (counterKey 0 (0x81000 + 64 * 3 + 56))).count == 1) = true := by
  decide +kernel
theorem witness_training : gives { busy {} with units := [(3, { state := .wait })] } (.trainingStage 3 (.wait 0x0F))
    (fun t => (t.unitOf 3).state == .training) = true ∧
    gives { busy {} with units := [(3, { state := .training, failures := 2 })] } (.trainingStageFail 3)
      (fun t => (t.unitOf 3).state == .down) = true := by decide +kernel
theorem witness_retrain : gives ((linked 0).modUnit 3 (fun k => { k with goBacks := 8 })) (.fastRetrain 3)
    (fun t => (t.unitOf 3).state == .retrain) = true := by decide +kernel
theorem witness_holdover : gives { busy {} with timeStatus := { state := .locked } } .holdover
    (fun t => t.timeStatus.state == .holdover) = true := by decide +kernel
theorem witness_time_parent : ((linked 0).modUnit 3 (fun k => { k with timeParent := true })).parentUnit = some 3 := by
  decide +kernel

/-! ## Host commands -/

def ready : State := { State.reset with mode := .ready, portA := true }
def maint : State := { State.reset with mode := .maint, portA := true }

theorem witness_takes : (holding ready 0x01 (header 1)).takes (header 1) 0x01 = true ∧
    (holding ready 0x01 (header 1)).accepts (header 1) ctxCreateRow = true ∧ ready.takes (header 1) 0x01 = false ∧
    gives (holding ready 0x01 plain) (.ctxCreate plain { pocket := 1, basket := 0, hamper := 0 })
      (fun t => t.hostOut.length == 1 && (t.mboxOf 0).held == []) = true := by decide +kernel
theorem witness_not_ready : gives (holding maint 0x01 (header 1)) (.ctxCreate (header 1) { pocket := 1, basket := 0, hamper := 0 })
    (fun t => match t.hostOut with
      | [.completion c] => c.status == stNOT_READY
      | _ => false) = true := by decide +kernel
theorem witness_mailbox : ready.windowUp = true ∧ gives ready (.mboxCtrl 0 0x0000_0005_0000_0001)
    (fun t => (t.mboxOf 0).enable && (t.mboxOf 0).expectSeq == 5) = true ∧
    gives ready (.sqDb 0 65 8) (fun t => (t.mboxOf 0).producer == 0 && t.counters != []) = true ∧
    gives ready (.sqDb 0 64 8) (fun t => (t.mboxOf 0).producer == 64) = true := by decide +kernel

def telem : Descriptor := { opcode := 0x80, seq := 0, hcheck := crc16 (descriptorBytes { opcode := 0x80, seq := 0, hcheck := 0 }) }

theorem witness_descriptor_fetch : gives (ready.putMbox 0 { enable := true, producer := 1 }) (.descriptorFetch 0 telem)
    (fun t => (t.mboxOf 0).held.length == 1 && (t.mboxOf 0).head == 1) = true ∧
    gives (ready.putMbox 0 { enable := true, producer := 1 }) (.descriptorFetch 0 { telem with seq := 1 })
      (fun t => (t.mboxOf 0).held == [] && t.hostOut.length == 1) = true := by decide +kernel
def someEvent : EventRec := { code := 0, seq := 0, firstTime := 0, lastTime := 0, domain := 0, index := 0 }

theorem witness_export : gives (ready.putRing 0 { enable := true, next := 1, unread := [someEvent] }) (.eventExport 0 true)
    (fun t => (t.ringOf 0).prod == 1 && (t.ringOf 0).unread == []) = true := by decide +kernel
theorem witness_create : gives (holding ready 0x01 (header 1)) (.ctxCreate (header 1) { pocket := 33, basket := 0, hamper := 0 })
    (fun t => !(t.ctxOf 1).live) = true ∧
    (holding ready 0x01 (header 1)).quotaOver { pocket := 32, basket := 0, hamper := 0 } = false := by decide +kernel
theorem witness_destroy : (holding (busy {}) 0x02 (header 1)).accepts (header 1) ctxDestroyRow = true ∧
    gives (holding (busy {}) 0x02 (header 1)) (.ctxDestroy (header 1))
      (fun t => t.mode == .ready && !(t.ctxOf 1).live && t.regions == []) = true := by decide +kernel
theorem witness_save : (holding (busy {}) 0x03 (header 1)).accepts (header 1) ctxSaveRow = true := by decide +kernel
theorem witness_restore : (holding (busy {}) 0x04 (header 1)).accepts (header 1) ctxRestoreRow = true := by decide +kernel
theorem witness_region_map : (holding (busy {}) 0x10 (header 1)).accepts (header 1) regionMapRow = true ∧
    (busy {}).isManager 1 = true ∧ (linked 1).isManager 1 = false := by decide +kernel
theorem witness_program_load : (holding (busy {}) 0x11 (header 1)).accepts (header 1) programLoadRow = true := by decide +kernel

def table : TreeSetArgs :=
  { ctx := 1, node := 0, nodes := 2, manager := 0, ctrlTree := 0, stepLimit := 1000,
    trees := [{ tree := 0, parent := 0x7F, subtree := 2, size := 2, children := 8 }] }

theorem witness_tree_set : (holding (busy {}) 0x12 (header 1)).accepts (header 1) treeSetRow = true ∧
    firstBad (treeSetBad 1 table) = none := by decide +kernel
theorem witness_step_begin : (holding (busy {}) 0x30 (header 1)).accepts (header 1) stepBeginRow = true ∧
    (((holding (busy {}) 0x30 (header 1)).putPeg 5 { configured := true, ctx := 1 }).modCtx 1
      (fun c => { c with basketQuota := 64 })).badBegin 1
      { step := 1, version := 1, doneGroup := 5 } = none := by decide +kernel
theorem witness_held_step : ((linked 0).modCtx 1 (fun c => { c with heldNan := true })).heldStep 1 9 = true := by decide +kernel
theorem witness_cancel : reading.ticketCurrent 1 0 (BitVec.ofNat 16 0) = true ∧
    (holding reading 0x33 (header 1)).accepts (header 1) streamCancelRow = true := by decide +kernel

def binding : BindRec := { binding := 0, mode := 0, source := 0, fmt := 5, first := 0, count := 1, flags := 4, object := 5, key := 0 }

theorem witness_bind : (holding (busy {}) 0x20 (header 1)).accepts (header 1) weightBindRow = true ∧
    (busy {}).badBindRec 1 [binding] 0 binding = false ∧
    ((busy {}).putKey 0 { filled := true, job := 7 }).bindNotReady [binding] binding = false := by decide +kernel
theorem witness_swap : (holding (busy {}) 0x21 (header 1)).accepts (header 1) weightSwapRow = true := by decide +kernel
theorem witness_press : (holding (busy {}) 0x40 (header 1)).accepts (header 1) pressWriteRow = true ∧
    (linked 0).portsFor 1 = [96] ∧ (busy {}).slotNamed 2 = false ∧
    (holding (busy {}) 0x41 (header 1)).accepts (header 1) pressResumeRow = true := by decide +kernel
theorem witness_link_set : (holding ready 0x50 plain).accepts plain linkSetRow = true ∧
    gives (holding ready 0x50 plain) (.linkSet plain [{ unit := 3, flags := 1 }])
      (fun t => (t.unitOf 3).state == .wait) = true := by decide +kernel
theorem witness_fence : (holding (busy {}) 0x51 (header 1)).accepts (header 1) fenceArmRow = true ∧
    gives (holding (busy {}) 0x51 (header 1)) (.fenceArmOpen (header 1) 8)
      (fun t => t.unitOpen 3 1 && !t.unitOpen 4 1) = true := by decide +kernel
theorem witness_state_set : (holding maint 0x62 plain).accepts plain stateSetRow = true ∧
    gives (holding maint 0x62 plain) (.stateSetReady plain) (fun t => t.mode == .ready) = true ∧
    gives (holding ready 0x62 plain) (.stateSetDrain plain) (fun t => t.mode == .drain) = true ∧
    gives (holding ready 0x62 plain) (.stateSetMaint plain) (fun t => t.mode == .maint) = true := by decide +kernel
theorem witness_darn : (holding maint 0x60 plain).accepts plain darnRow = true ∧
    maint.darnBad [(1, { kind := 1, t0 := 99, t1 := 15, t2 := 3, t3 := 8 })] = none ∧
    maint.darnBad [(1, { kind := 1, t0 := 100 })] = some (stBAD_ARG, 0) := by decide +kernel
theorem witness_window : (holding ready 0x61 plain).accepts plain bistWindowRow = true ∧
    gives (holding ready 0x61 plain) (.bistWindow plain { flags := 1, clusters := 1, duration := 1, fields := 1 })
      (fun t => t.darn.window.isSome) = true := by decide +kernel
theorem witness_keys : (holding maint 0x70 plain).accepts plain keyProvisionRow = true ∧
    gives (holding maint 0x70 plain) (.keyProvisionAuthority plain 4) (fun t => t.mgmt.authorities == [4]) = true ∧
    gives (holding maint 0x70 plain) (.keyProvisionClear plain 256) (fun t => !t.mgmt.keyEncryptionKey) = true := by
  decide +kernel
theorem witness_attest : (holding maint 0x71 plain).accepts plain attestRow = true := by decide +kernel
theorem witness_firmware : (holding maint 0x72 plain).accepts plain fwStageRow = true ∧
    gives (holding maint 0x72 plain) (.fwStageWrite plain { offset := 0, len := 64, addr := 0 })
      (fun t => t.mgmt.slotB.state == .incomplete) = true := by decide +kernel
theorem witness_telem : (holding ready 0x80 plain).accepts plain telemReadRow = true := by decide +kernel
theorem witness_mode_set : (holding (busy {}) 0x81 (header 1)).accepts (header 1) modeSetRow = true ∧
    gives (holding (busy {}) 0x81 (header 1)) (.modeSet (header 1) { function := 1, mode := 2, scope := 1 })
      (fun t => (t.ctxOf 1).reductionMode == 2) = true := by decide +kernel
theorem witness_requests : (holding ready 0x90 plain).accepts plain hostWaitRow = true ∧
    (holding ready 0x91 plain).accepts plain hostReplyRow = true ∧
    gives { holding ready 0x90 plain with waits := [{ hdr := plain, addr := 0, len := 4096 }],
                                           requests := [{ id := 4, kind := .sparePlan [] }] } (.hostRequest 4)
      (fun t => t.waits == [] && t.requests.all (·.given)) = true := by decide +kernel

/-! ## Management, clocks, supply, heat, self-test and Tack -/

def boots : BootFindings := {}

/-- A slot whose image has the known FORMAT and nothing else. -/
def imaged : FwSlot := { state := .valid, image := [(0, 1)] }

theorem witness_bringup : gives State.reset (.bringup boots) (fun t => t.ring == 0 && t.rings != []) = true ∧
    gives { State.reset with clocks := { a := .good }, mgmt := { slotA := imaged } } (.bringup boots)
      (fun t => t.mode == .bringup && t.ring == 1) = true ∧
    gives { State.reset with clocks := { a := .good } } (.bringup boots)
      (fun t => t.mode == .maint && t.mgmt.recovery) = true ∧
    gives { State.reset with clocks := { a := .good } } (.bringup { boots with fusesOk := false })
      (fun t => t.mode == .faulted) = true := by decide +kernel
theorem witness_ring : gives { State.reset with ring := ringOfField 44 + 1 } (.ringBatch [{ field := 44 }])
    (fun t => (t.fieldOf 44).state == .online) = true ∧
    gives { State.reset with ring := ringOfField 44 + 1 } (.ringBatch [{ field := 44, pass := false }])
    (fun t => (t.fieldOf 44).state == .test) = true := by decide +kernel
theorem witness_takeover : gives { ready with mgmt := { standbyOk := true } } .mmpTakeover (fun t => t.mgmt.standbyServes) = true ∧
    gives { ready with mgmt := { standbyServes := true } } .standbyWatchdogExpiry (fun t => t.mode == .faulted) = true := by
  decide +kernel
theorem witness_controller : gives { busy {} with fields := [(0, { online with state := .test, fcFailures := [0] })] }
    (.fcHeartbeatLost { field := 0 }) (fun t => (t.fieldOf 0).state == .retired) = true := by decide +kernel
theorem witness_reference : gives { ready with clocks := { a := .good, b := .good } } (.refclkLoss false false)
    (fun t => t.clocks.selB) = true ∧
    gives { ready with clocks := { a := .good } } (.refclkLoss false false) (fun t => t.clocks.noneSelected) = true := by
  decide +kernel
theorem witness_power : gives { ready with power := { convOk := 8 } } (.powerSample { inputW := 26001, averageW := 24000 })
    (fun t => t.power.pwrStep == 2) = true ∧
    gives { ready with power := { convOk := 8 } } (.powerSample { inputW := 26000, averageW := 22800 })
    (fun t => t.power.pwrStep == 0) = true := by decide +kernel
theorem witness_hold : gives ready .pfWarn (fun t => t.mode == .hold) = true ∧
    gives { busy {} with mode := .hold } .holdCommit (fun t => t.mode == .off && t.holdArea.holdNo == 1) = true := by
  decide +kernel
theorem witness_heat : gives { busy {} with fields := [(0, { online with temp := 1600 })] } .thermalStep
    (fun t => (t.fieldOf 0).thStep == 1) = true ∧
    gives (busy {}) (.sensorRead 0 (Vector.replicate 9 1280)) (fun t => (t.fieldOf 0).temp == 1280) = true := by decide +kernel
theorem witness_slice : gives { busy {} with power := { convOk := 8 } } (.sliceStart 0 .spare)
    (fun t => (t.fieldOf 0).slice.isSome) = true ∧ (busy {}).sliceMayStart 0 .scan = false ∧
    (busy {}).nextSpare 0 = some 0 := by decide +kernel
theorem witness_darning : gives { busy {} with mode := .drain, phys := [(0, { health := .suspect, clockStopped := true })] }
    (.darning { passed := [0] }) (fun t => (t.physOf 0).health == .good && t.mode == .run) = true := by decide +kernel
/-- The example of R475: the fuse word of physical core 2 of row 1 of cluster 9 of field 26. -/
theorem test_fuse_word : Part_fuseWord { kind := 1, t0 := 0x1A, t1 := 9, t2 := 1, t3 := 2 } = 0x0004C9A1 := by decide

/-- R475: a core that RESTORE has sent to test is SPARE once a SPARE slice has passed it. -/
theorem test_restored_spare : gives { slicing with
      phys := [(3, { health := .failed, clockStopped := true })],
      darn := { unrecorded := [corePart 3], restoring := [3] } } (.sliceEnd 0 {})
    (fun t => t.restoredSpare 3 && t.serves 8 == some 3 && t.coreStateCode 0 3 == 2) = true := by decide +kernel

theorem witness_counter : (Counter.add { count := 0xFFFFFFFFFFFE } 1) = { count := 0xFFFFFFFFFFFF, ovf := true } ∧
    (Counter.add { count := 0xFFFFFFFFFFFD } 1) = { count := 0xFFFFFFFFFFFE } := by decide +kernel
theorem witness_tack : gives maint .tackId (fun t => t.tack.uart.length == 1) = true ∧
    gives { maint with tack := { isOpen := true } } (.tackBaud 3000000) (fun t => t.tack.baud == 3000000) = true ∧
    gives maint (.tackBaud 3000000) (fun t => t.tack.uart == [([], some stREFUSED)]) = true ∧
    gives { maint with mode := .hold } .tackState (fun t => t.tack.uart == [([], some stNOT_READY)]) = true := by
  decide +kernel

end Sys2Proof.Tests
end

section
/-! PROOFS. Scalar instructions (R33, R67, R68): one completion lemma for each group of MAJOR, and the readings of
the comparisons and divisions as integers. -/

set_option linter.unusedVariables false

namespace Sys2Proof.Machine

open Sys2Proof

/-! ## Results of one operation -/

theorem boolW_slt (m n : W64) : boolW (m.slt n) = if m.toInt < n.toInt then 1 else 0 := by
  simp [boolW, BitVec.slt_iff_toInt_lt]

theorem boolW_ult (m n : W64) : boolW (m.ult n) = if m.toNat < n.toNat then 1 else 0 := by
  simp [boolW, BitVec.ult_iff_toNat_lt]

theorem ite_slt {α : Type} (m n : W64) (x y : α) :
    (if m.slt n then x else y) = if m.toInt < n.toInt then x else y := by
  simp only [BitVec.slt_iff_toInt_lt]

theorem ite_ult {α : Type} (m n : W64) (x y : α) :
    (if m.ult n then x else y) = if m.toNat < n.toNat then x else y := by
  simp only [BitVec.ult_iff_toNat_lt]

theorem divS_eq (m n : W64) :
    divS m n = if n = 0 then BitVec.allOnes 64 else BitVec.ofInt 64 (m.toInt.tdiv n.toInt) := by
  have quotient : m.sdiv n = BitVec.ofInt 64 (m.toInt.tdiv n.toInt) :=
    BitVec.eq_of_toInt_eq (by rw [BitVec.toInt_sdiv, BitVec.toInt_ofInt])
  rw [divS, quotient]; rfl

theorem divU_eq (m n : W64) :
    divU m n = if n = 0 then BitVec.allOnes 64 else BitVec.ofNat 64 (m.toNat / n.toNat) := by
  have quotient : m / n = BitVec.ofNat 64 (m.toNat / n.toNat) :=
    BitVec.eq_of_toNat_eq (by rw [← BitVec.toNat_udiv, BitVec.ofNat_toNat]; simp)
  rw [divU, quotient]; rfl

theorem remS_eq (m n : W64) :
    remS m n = if n = 0 then m else BitVec.ofInt 64 (m.toInt.tmod n.toInt) := by
  rw [remS, ← BitVec.toInt_srem, BitVec.ofInt_toInt]

theorem remU_eq (m n : W64) :
    remU m n = if n = 0 then m else BitVec.ofNat 64 (m.toNat % n.toNat) := by
  rw [remU, ← BitVec.toNat_umod, BitVec.ofNat_toNat, BitVec.setWidth_eq]

/-! ## The rows of MAJOR 0x01 to 0x04 -/

section
variable (c : CoreId) (a : CoreArgs) (s : State)

theorem exec_add : exec (.add c a) s = alu 0 (· + ·) c a s := rfl
theorem exec_sub : exec (.sub c a) s = alu 1 (· - ·) c a s := rfl
theorem exec_and : exec (.and c a) s = alu 2 (· &&& ·) c a s := rfl
theorem exec_or : exec (.or c a) s = alu 3 (· ||| ·) c a s := rfl
theorem exec_xor : exec (.xor c a) s = alu 4 (· ^^^ ·) c a s := rfl
theorem exec_sll : exec (.sll c a) s = alu 5 (fun x y => x <<< shamt y) c a s := rfl
theorem exec_srl : exec (.srl c a) s = alu 6 (fun x y => x >>> shamt y) c a s := rfl
theorem exec_sra : exec (.sra c a) s = alu 7 (fun x y => x.sshiftRight (shamt y)) c a s := rfl
theorem exec_slt : exec (.slt c a) s = alu 8 (fun x y => boolW (x.slt y)) c a s := rfl
theorem exec_sltu : exec (.sltu c a) s = alu 9 (fun x y => boolW (x.ult y)) c a s := rfl
theorem exec_min : exec (.min c a) s = alu 10 (fun x y => if x.slt y then x else y) c a s := rfl
theorem exec_max : exec (.max c a) s = alu 11 (fun x y => if x.slt y then y else x) c a s := rfl
theorem exec_minu : exec (.minu c a) s = alu 12 (fun x y => if x.ult y then x else y) c a s := rfl
theorem exec_maxu : exec (.maxu c a) s = alu 13 (fun x y => if x.ult y then y else x) c a s := rfl
theorem exec_li : exec (.li c a) s = execLi c a s := rfl
theorem exec_lui : exec (.lui c a) s = execLui c a s := rfl
theorem exec_mul : exec (.mul c a) s = muldiv 0 (· * ·) c a s := rfl
theorem exec_mulh : exec (.mulh c a) s = muldiv 1 mulHigh c a s := rfl
theorem exec_mulhu : exec (.mulhu c a) s = muldiv 2 mulHighU c a s := rfl
theorem exec_div : exec (.div c a) s = muldiv 3 divS c a s := rfl
theorem exec_divu : exec (.divu c a) s = muldiv 4 divU c a s := rfl
theorem exec_rem : exec (.rem c a) s = muldiv 5 remS c a s := rfl
theorem exec_remu : exec (.remu c a) s = muldiv 6 remU c a s := rfl

end

/-! ## The groups of MAJOR -/

section
variable {s : State} {c : CoreId} {x : CtxId} (h : s.issues c x = true)
include h

/-- An instruction whose effect is a write of s[RD] completes with that write. -/
theorem issue_setS (major : BitVec 6) (minor : BitVec 5) (u : Uses) (a : CoreArgs)
    (body : State → Core → CtxId → Effect) (v : W64) (hf : a.finding = {}) (hl : u.legal a = true)
    (hb : body s (s.coreOf c.val) x = .core s c ((s.coreOf c.val).setS a.rd v)) :
    Host.Outcome.next (issue major minor u true c a s body) =
      s.completes c ((s.coreOf c.val).setS a.rd v) :=
  issue_core h major minor u true a body _ none _ hf (by simpa using hl) hb (Core.setS_running ..)
    (Core.setS_waiting ..) (Core.setS_pc ..)

/-- R67: an ALU instruction, in the register form and in the immediate form. -/
theorem alu_completes (minor : BitVec 5) (op : W64 → W64 → W64) {rd ra rb : BitVec 5} {imm : W32}
    {a : CoreArgs} {n : W64}
    (hform : a = { rd := rd, ra := ra, rb := rb } ∧ n = (s.coreOf c.val).sreg rb ∨
      a = { immForm := true, rd := rd, ra := ra, imm := imm } ∧ n = imm.signExtend 64) :
    alu minor op c a s =
      s.completes c ((s.coreOf c.val).setS rd (op ((s.coreOf c.val).sreg ra) n)) := by
  obtain ⟨rfl, rfl⟩ | ⟨rfl, rfl⟩ := hform
  · exact issue_setS h 0x01 minor _ _ _ _ rfl (by simp [Uses.legal]) rfl
  · exact issue_setS h 0x02 minor _ _ _ _ rfl (by simp [Uses.legal]) rfl

/-- R68: a product or a division. -/
theorem muldiv_completes (minor : BitVec 5) (op : W64 → W64 → W64) (rd ra rb : BitVec 5) :
    muldiv minor op c { rd := rd, ra := ra, rb := rb } s = s.completes c ((s.coreOf c.val).setS rd
      (op ((s.coreOf c.val).sreg ra) ((s.coreOf c.val).sreg rb))) :=
  issue_setS h 0x04 minor _ _ _ _ rfl (by simp [Uses.legal]) rfl

theorem li_completes (rd : BitVec 5) (imm : W32) :
    execLi c { rd := rd, imm := imm } s =
      s.completes c ((s.coreOf c.val).setS rd (imm.signExtend 64)) :=
  issue_setS h 0x03 0 _ _ _ _ rfl (by simp [Uses.legal]) rfl

theorem lui_completes (rd : BitVec 5) (imm : W32) :
    execLui c { rd := rd, imm := imm } s = s.completes c
      ((s.coreOf c.val).setS rd (imm ++ ((s.coreOf c.val).sreg rd).setWidth 32)) :=
  issue_setS h 0x03 1 _ _ _ _ rfl (by simp [Uses.legal]) rfl

end

/-- Settles O6: each row is its group's completion lemma, read with the integer meaning of its operation. -/
theorem scalarArithmetic : Obligations.ScalarArithmetic := by
  unfold Obligations.ScalarArithmetic
  refine ⟨?registers, ?alu, ?immediatesProductsDivisions⟩
  case registers =>
    intro k n m v
    exact ⟨rfl, rfl, k.sreg_setS_same n v, k.sreg_setS_ne n m v⟩
  case alu =>
    intro s c x rd ra rb imm h k m write a n hform
    have completes (minor : BitVec 5) (op : W64 → W64 → W64) : alu minor op c a s = write (op m n) :=
      alu_completes h minor op hform
    refine ⟨?add, ?sub, ?and, ?or, ?xor, ?sll, ?srl, ?sra, ?slt, ?sltu, ?min, ?max, ?minu, ?maxu⟩
    case add => rw [exec_add, completes]
    case sub => rw [exec_sub, completes]
    case and => rw [exec_and, completes]
    case or => rw [exec_or, completes]
    case xor => rw [exec_xor, completes]
    case sll => rw [exec_sll, completes]; rfl
    case srl => rw [exec_srl, completes]; rfl
    case sra => rw [exec_sra, completes]; rfl
    case slt => rw [exec_slt, completes, boolW_slt]
    case sltu => rw [exec_sltu, completes, boolW_ult]
    case min => rw [exec_min, completes, ite_slt]
    case max => rw [exec_max, completes, ite_slt]
    case minu => rw [exec_minu, completes, ite_ult]
    case maxu => rw [exec_maxu, completes, ite_ult]
  case immediatesProductsDivisions =>
    intro s c x rd ra rb imm h k m n write a
    have completes (minor : BitVec 5) (op : W64 → W64 → W64) : muldiv minor op c a s = write (op m n) :=
      muldiv_completes h minor op rd ra rb
    refine ⟨?li, ?lui, ?mul, ?mulh, ?mulhu, ?div, ?divu, ?rem, ?remu⟩
    case li => rw [exec_li, li_completes h]
    case lui => rw [exec_lui, lui_completes h]
    case mul => rw [exec_mul, completes]
    case mulh => rw [exec_mulh, completes]; rfl
    case mulhu => rw [exec_mulhu, completes]; rfl
    case div => rw [exec_div, completes, divS_eq]
    case divu => rw [exec_divu, completes, divU_eq]
    case rem => rw [exec_rem, completes, remS_eq]
    case remu => rw [exec_remu, completes, remU_eq]

end Sys2Proof.Machine
end

section
/-! PROOFS. Vector instructions (R36, R69 to R71): what a masked write of a register leaves, and the lane-wise rows of
MAJOR 0x10 and 0x11. -/

set_option linter.unusedVariables false

namespace Sys2Proof.Machine

open Sys2Proof

/-! ## Vector registers -/

@[simp] theorem Core.vreg_setV_same (k : Core) (n : BitVec 5) (v : Lanes) (p : Bool) : (k.setV n v p).vreg n = v :=
  tget_tput_same ..

theorem Core.vreg_setV_ne (k : Core) {n r : BitVec 5} (v : Lanes) (p : Bool) (h : r ≠ n) :
    (k.setV n v p).vreg r = k.vreg r :=
  tget_tput_ne _ _ _ (fun e => h (BitVec.eq_of_toNat_eq e))

@[simp] theorem Core.vpois_setV_same (k : Core) (n : BitVec 5) (v : Lanes) (p : Bool) :
    (k.setV n v p).vpois n = p := by
  have hn : n.toNat < 32 := n.isLt
  cases p
  · simp [Core.vpois, Core.setV, hn]
  · simp [Core.vpois, Core.setV, hn]

theorem Core.vpois_setV_ne (k : Core) {n r : BitVec 5} (v : Lanes) (p : Bool) (h : r ≠ n) :
    (k.setV n v p).vpois r = k.vpois r := by
  have hn : n.toNat ≠ r.toNat := fun e => h (BitVec.eq_of_toNat_eq e.symm)
  have hr : r.toNat < 32 := r.isLt
  cases p
  · simp [Core.vpois, Core.setV, hr, Ne.symm hn]
  · simp [Core.vpois, Core.setV, hr, Ne.symm hn]

@[simp] theorem getElem_mergeLanes (mask : W64) (new old : Lanes) (l : Nat) (hl : l < 64) :
    (mergeLanes mask new old)[l] = if mask[l] then new[l] else old[l] := by
  simp [mergeLanes]

@[simp] theorem Core.addFlags_vreg (k : Core) (f : FpFlags) (r : BitVec 5) : (k.addFlags f).vreg r = k.vreg r := rfl
@[simp] theorem Core.addFlags_vpois (k : Core) (f : FpFlags) (r : BitVec 5) : (k.addFlags f).vpois r = k.vpois r := rfl

@[simp] theorem Core.addFlags_running (k : Core) (f : FpFlags) : (k.addFlags f).running = k.running := rfl
@[simp] theorem Core.addFlags_waiting (k : Core) (f : FpFlags) : (k.addFlags f).waiting = k.waiting := rfl
@[simp] theorem Core.addFlags_pc (k : Core) (f : FpFlags) : (k.addFlags f).pc = k.pc := rfl
@[simp] theorem Core.putV_running (k : Core) (a : CoreArgs) (n : BitVec 5) (v : Lanes) (p : Bool) :
    (k.putV a n v p).running = k.running := Core.setV_running ..
@[simp] theorem Core.putV_waiting (k : Core) (a : CoreArgs) (n : BitVec 5) (v : Lanes) (p : Bool) :
    (k.putV a n v p).waiting = k.waiting := Core.setV_waiting ..
@[simp] theorem Core.putV_pc (k : Core) (a : CoreArgs) (n : BitVec 5) (v : Lanes) (p : Bool) :
    (k.putV a n v p).pc = k.pc := Core.setV_pc ..

/-- No flag changes nothing. -/
@[simp] theorem Core.addFlags_zero (k : Core) : k.addFlags 0 = k := by simp [Core.addFlags]

/-! ## What a masked write leaves -/

/-- A write of v[RD] that keeps the masked-off lanes is what `writesLanes` says. -/
theorem writesLanes_of_setV {s : State} {i : Instr} {c : CoreId} {a : CoreArgs} (out : Fin 64 → W32) (flags : FpFlags)
    (poison : Bool) (v : Lanes) (p : Bool)
    (hx : exec i s = s.completes c (((s.coreOf c.val).setV a.rd v p).addFlags flags))
    (hv : ∀ l : Fin 64, v[l] = if ((s.coreOf c.val).laneMask a).getLsbD l.val then out l
      else ((s.coreOf c.val).vreg a.rd)[l])
    (hp : p = (poison || (a.men && (s.coreOf c.val).vpois a.rd))) : s.writesLanes i c a out flags poison := by
  unfold State.writesLanes
  generalize s.coreOf c.val = k at hx hv hp ⊢
  refine ⟨_, hx, ?lanes, ?poisonBit, rfl, ?others, rfl⟩
  case lanes => simpa using hv
  case poisonBit => simpa using hp
  case others => exact fun r hr => ⟨k.vreg_setV_ne v p hr, k.vpois_setV_ne v p hr⟩

/-- A masked write of v[RD], with its flags. -/
theorem writesLanes_of_putV {s : State} {i : Instr} {c : CoreId} {a : CoreArgs} (v : Lanes) (flags : FpFlags)
    (poison : Bool)
    (hx : exec i s = s.completes c (((s.coreOf c.val).putV a a.rd v poison).addFlags flags)) :
    s.writesLanes i c a (fun l => v[l]) flags poison :=
  writesLanes_of_setV _ flags poison _ _ hx (by simp) rfl

/-- A masked write without flags. -/
theorem writesLanes_of_putV_plain {s : State} {i : Instr} {c : CoreId} {a : CoreArgs} (v : Lanes) (poison : Bool)
    (hx : exec i s = s.completes c ((s.coreOf c.val).putV a a.rd v poison)) :
    s.writesLanes i c a (fun l => v[l]) 0 poison :=
  writesLanes_of_putV v 0 poison (by rwa [Core.addFlags_zero])

/-! ## Lane-wise operations -/

section
variable {s : State} {c : CoreId} {x : CtxId} (h : s.issues c x = true)
include h

/-- A vector instruction that writes v[RD] under the mask completes with that write. -/
theorem issue_putV (major : BitVec 6) (minor : BitVec 5) (u : Uses) (defined : Bool) (a : CoreArgs)
    (body : State → Core → CtxId → Effect) (reads : Core → List Nat) (acc : Option Bool) (v : Lanes) (poison : Bool)
    (flags : FpFlags) (hf : a.finding = {}) (hl : (defined && u.legal a) = true)
    (hb : body s (s.coreOf c.val) x = .core s c (((s.coreOf c.val).putV a a.rd v poison).addFlags flags)) :
    Host.Outcome.next (issue major minor u defined c a s body reads acc) =
      s.completes c (((s.coreOf c.val).putV a a.rd v poison).addFlags flags) :=
  issue_core h major minor u defined a body reads acc _ hf hl hb (by simp) (by simp) (by simp)

/-- A lane-wise operation gives each lane its result and its flags. -/
theorem lanewise_of_laneOp (i : Instr) (major : BitVec 6) (minor : BitVec 5) (useB useD : Bool)
    (f : W32 → W32 → W32 → W32 × FpFlags) (a : CoreArgs) (defined : Bool)
    (hx : exec i s = laneOp major minor useB useD f c a s defined) (hf : a.finding = {})
    (hl : (defined && ({ rd := true, ra := true, rb := useB, men := true } : Uses).legal a) = true) :
    let k := s.coreOf c.val
    s.lanewise i c a (fun l => f (k.vreg a.ra)[l] (k.vreg a.rb)[l] (k.vreg a.rd)[l])
      (k.vpois a.ra || (useB && k.vpois a.rb) || (useD && k.vpois a.rd)) := by
  intro k
  have completes := hx.trans (issue_putV h major minor _ defined a _ (fun _ => []) none _ _ _ hf hl rfl)
  simpa [State.lanewise, Vector.map_ofFn, Function.comp_def] using writesLanes_of_putV _ _ _ completes

end

theorem Uses.legal_lanes (useB : Bool) (rd ra rb : BitVec 5) (men : Bool) (msel : BitVec 3) (opt : BitVec 5)
    (hm : men = true ∨ msel = 0) (hb : useB = true ∨ rb = 0) :
    ({ rd := true, ra := true, rb := useB, men := true } : Uses).legal
      { opt := opt, rd := rd, ra := ra, rb := rb, men := men, msel := msel } = true := by
  simpa [Uses.legal] using And.intro hb hm

/-! ## The rows of MAJOR 0x10 and 0x11 -/

section
variable (c : CoreId) (a : CoreArgs) (s : State)

theorem exec_vadd : exec (.vadd c a) s = floatOp2 0 add32 c a s := rfl
theorem exec_vsub : exec (.vsub c a) s = floatOp2 1 sub32 c a s := rfl
theorem exec_vmul : exec (.vmul c a) s = floatOp2 2 mul32 c a s := rfl
theorem exec_vmin : exec (.vmin c a) s = floatOp2 5 min32 c a s := rfl
theorem exec_vmax : exec (.vmax c a) s = floatOp2 6 max32 c a s := rfl
theorem exec_vfma : exec (.vfma c a) s = laneOp 0x10 3 true true fma32 c a s := rfl
theorem exec_vfms : exec (.vfms c a) s = laneOp 0x10 4 true true fms32 c a s := rfl
theorem exec_vabs : exec (.vabs c a) s = floatOp1 7 abs32 c a s := rfl
theorem exec_vneg : exec (.vneg c a) s = floatOp1 8 neg32 c a s := rfl
theorem exec_viadd : exec (.viadd c a) s = intOp 0 (· + ·) c a s := rfl
theorem exec_visub : exec (.visub c a) s = intOp 1 (· - ·) c a s := rfl
theorem exec_vimul : exec (.vimul c a) s = intOp 2 (· * ·) c a s := rfl
theorem exec_vand : exec (.vand c a) s = intOp 3 (· &&& ·) c a s := rfl
theorem exec_vor : exec (.vor c a) s = intOp 4 (· ||| ·) c a s := rfl
theorem exec_vxor : exec (.vxor c a) s = intOp 5 (· ^^^ ·) c a s := rfl
theorem exec_vsll : exec (.vsll c a) s = intOp 6 (fun x y => x <<< (y.toNat % 32)) c a s := rfl
theorem exec_vsrl : exec (.vsrl c a) s = intOp 7 (fun x y => x >>> (y.toNat % 32)) c a s := rfl
theorem exec_vsra : exec (.vsra c a) s = intOp 8 (fun x y => x.sshiftRight (y.toNat % 32)) c a s := rfl

end

/-- Settles O12: every row is one `laneOp`, whose lanes `lanewise_of_laneOp` reads. -/
theorem vectorArithmetic : Obligations.VectorArithmetic := by
  unfold Obligations.VectorArithmetic
  refine ⟨?float, ?integer⟩
  case float =>
    intro s c x rd ra rb men msel h hm k a b d two one p
    have binary (i : Instr) (minor : BitVec 5) (f : W32 → W32 → W32 × FpFlags)
        (hx : exec i s = floatOp2 minor f c two s) : s.lanewise i c two (fun l => f a[l] b[l]) p := by
      simpa using lanewise_of_laneOp h i 0x10 minor true false (fun m n _ => f m n) two true hx rfl
        (Uses.legal_lanes true rd ra rb men msel 0 hm (.inl rfl))
    have ternary (i : Instr) (minor : BitVec 5) (f : W32 → W32 → W32 → W32 × FpFlags)
        (hx : exec i s = laneOp 0x10 minor true true f c two s) :
        s.lanewise i c two (fun l => f a[l] b[l] d[l]) (p || k.vpois rd) := by
      simpa using lanewise_of_laneOp h i 0x10 minor true true f two true hx rfl
        (Uses.legal_lanes true rd ra rb men msel 0 hm (.inl rfl))
    have unary (i : Instr) (minor : BitVec 5) (f : W32 → W32 × FpFlags)
        (hx : exec i s = floatOp1 minor f c one s) : s.lanewise i c one (fun l => f a[l]) (k.vpois ra) := by
      simpa using lanewise_of_laneOp h i 0x10 minor false false (fun m _ _ => f m) one true hx rfl
        (Uses.legal_lanes false rd ra 0 men msel 0 hm (.inr rfl))
    exact ⟨binary _ 0 _ (exec_vadd ..), binary _ 1 _ (exec_vsub ..), binary _ 2 _ (exec_vmul ..),
      ternary _ 3 _ (exec_vfma ..), ternary _ 4 _ (exec_vfms ..), binary _ 5 _ (exec_vmin ..),
      binary _ 6 _ (exec_vmax ..), unary _ 7 _ (exec_vabs ..), unary _ 8 _ (exec_vneg ..)⟩
  case integer =>
    intro s c x rd ra rb men msel h hm k a b i does
    have row (op : CoreId → CoreArgs → Instr) (minor : BitVec 5) (f : W32 → W32 → W32)
        (hx : exec (op c i) s = intOp minor f c i s) : does op f := by
      simpa [does] using lanewise_of_laneOp h (op c i) 0x11 minor true false (fun m n _ => (f m n, 0)) i true hx rfl
        (Uses.legal_lanes true rd ra rb men msel 0 hm (.inl rfl))
    exact ⟨row _ 0 _ (exec_viadd ..), row _ 1 _ (exec_visub ..), row _ 2 _ (exec_vimul ..),
      row _ 3 _ (exec_vand ..), row _ 4 _ (exec_vor ..), row _ 5 _ (exec_vxor ..), row _ 6 _ (exec_vsll ..),
      row _ 7 _ (exec_vsrl ..), row _ 8 _ (exec_vsra ..)⟩

end Sys2Proof.Machine
end

section
/-! PROOFS. Reductions and lane moves (R37, R69): the pairwise tree, and the rows of MAJOR 0x15 and 0x16 that write a
vector register or read one lane. -/

set_option linter.unusedVariables false

namespace Sys2Proof.Machine

open Sys2Proof

/-! ## The pairwise tree -/

theorem treeLevel_length (f : W32 → W32 → W32 × FpFlags) (l : List W32) (hl : l.length % 2 = 0) :
    (treeLevel f l).1.length = l.length / 2 := by
  induction l using treeLevel.induct f with
  | case1 a b r ih =>
    have hr : r.length % 2 = 0 := by simp at hl; omega
    simp [treeLevel, ih hr]; omega
  | case2 l short =>
    match l, short with
    | [], _ => rfl
    | [a], _ => simp at hl
    | a :: b :: r, short => exact (short a b r rfl).elim

/-- Lane i of a level combines lanes 2i and 2i + 1 of the level before. -/
theorem treeLevel_getD (f : W32 → W32 → W32 × FpFlags) (l : List W32) (i : Nat) (hi : 2 * i + 1 < l.length) :
    (treeLevel f l).1.getD i 0 = (f (l.getD (2 * i) 0) (l.getD (2 * i + 1) 0)).1 := by
  induction l using treeLevel.induct f generalizing i with
  | case1 a b r ih =>
    cases i with
    | zero => rfl
    | succ i =>
      have hr : 2 * i + 1 < r.length := by simp at hi; omega
      simpa [treeLevel, Nat.mul_add] using ih i hr
  | case2 l short =>
    match l, short with
    | [], _ => simp at hi
    | [a], _ => simp at hi
    | a :: b :: r, short => exact (short a b r rfl).elim

/-- Lanes that raise nothing leave FPSTATUS as it was. -/
@[simp] theorem laneFlags_none (mask : W64) : laneFlags mask (Vector.ofFn fun _ => 0#7) = 0#7 := by
  have none (l : Nat) : (Vector.ofFn (fun _ : Fin 64 => 0#7)).getD l 0#7 = 0#7 := by
    by_cases hl : l < 64 <;> simp [Vector.getD, hl]
  exact List.foldl_fixed' (fun l => by simp [none]) _

/-! ## The rows of MAJOR 0x15 and 0x16 -/

section
variable (c : CoreId) (a : CoreArgs) (s : State)

theorem exec_vrsum : exec (.vrsum c a) s = reduction 0 add32 0 c a s := rfl
theorem exec_vrmax : exec (.vrmax c a) s = reduction 1 max32 0xFF800000 c a s := rfl
theorem exec_vrmin : exec (.vrmin c a) s = reduction 2 min32 0x7F800000 c a s := rfl
theorem exec_vmov : exec (.vmov c a) s = laneOp 0x16 0 false false (fun m _ _ => (m, 0)) c a s := rfl
theorem exec_vbcast : exec (.vbcast c a) s = execVbcast c a s := rfl
theorem exec_vext : exec (.vext c a) s = execVext c a s := rfl
theorem exec_vsel : exec (.vsel c a) s = execVsel c a s := rfl

end

section
variable {s : State} {c : CoreId} {x : CtxId} (h : s.issues c x = true)
include h

/-- A reduction writes its one result to every lane, whatever the mask. -/
theorem reduction_completes (minor : BitVec 5) (f : W32 → W32 → W32 × FpFlags) (identity : W32) (a : CoreArgs)
    (hf : a.finding = {}) (hl : ({ rd := true, ra := true, men := true } : Uses).legal a = true) :
    let k := s.coreOf c.val
    let r := reduceLanes f identity (k.laneMask a) (k.vreg a.ra)
    reduction minor f identity c a s =
      s.completes c ((k.setV a.rd (Vector.replicate 64 r.1) (k.vpois a.ra)).addFlags r.2) :=
  issue_core h 0x15 minor _ true a _ (fun _ => []) none _ hf (by simpa using hl) rfl (by simp) (by simp) (by simp)

theorem vbcast_completes (a : CoreArgs) (hf : a.finding = {})
    (hl : ({ rd := true, ra := true, men := true } : Uses).legal a = true) :
    execVbcast c a s = s.completes c ((s.coreOf c.val).putV a a.rd
      (Vector.replicate 64 (((s.coreOf c.val).sreg a.ra).setWidth 32)) false) :=
  issue_core h 0x16 1 _ true a _ (fun _ => []) none _ hf (by simpa using hl) rfl (by simp) (by simp) (by simp)

theorem vsel_completes (a : CoreArgs) (hf : a.finding = {})
    (hl : ({ rd := true, ra := true, rb := true, men := true, msel := true } : Uses).legal a = true) :
    let k := s.coreOf c.val
    execVsel c a s = s.completes c (k.putV a a.rd
      (mergeLanes (k.mreg a.msel.toNat) (k.vreg a.ra) (k.vreg a.rb)) (k.vpois a.ra || k.vpois a.rb)) :=
  issue_core h 0x16 3 _ true a _ (fun _ => []) none _ hf (by simpa using hl) rfl (by simp) (by simp) (by simp)

theorem vext_completes (a : CoreArgs) (hf : a.finding = {})
    (hl : ({ rd := true, ra := true, men := true, imm := true } : Uses).legal a = true) :
    execVext c a s = s.completes c ((s.coreOf c.val).setS a.rd
      ((((s.coreOf c.val).vreg a.ra).getD (a.imm.toNat % 64) 0).setWidth 64)) :=
  issue_setS h 0x16 2 _ _ _ _ hf hl rfl

end

/-- Settles O15: the tree by induction over pairs of lanes, the rows by their completion lemmas. -/
theorem reductionsAndLaneMoves : Obligations.ReductionsAndLaneMoves := by
  unfold Obligations.ReductionsAndLaneMoves
  refine ⟨fun f l i hi heven => ⟨treeLevel_getD f l i hi, treeLevel_length f l heven⟩, ?rows⟩
  intro s c x rd ra rb imm men msel h k a b p i reduces
  have selects : men = true ∨ (if men then msel else 0) = 0 := by cases men <;> simp
  have legal : ({ rd := true, ra := true, men := true } : Uses).legal i = true :=
    Uses.legal_lanes false rd ra 0 men _ 0 selects (.inr rfl)
  have reduce (op : CoreId → CoreArgs → Instr) (minor : BitVec 5) (f : W32 → W32 → W32 × FpFlags) (identity : W32)
      (hx : exec (op c i) s = reduction minor f identity c i s) : reduces op f identity :=
    hx.trans (reduction_completes h minor f identity i rfl legal)
  refine ⟨reduce _ 0 _ _ (exec_vrsum ..), reduce _ 1 _ _ (exec_vrmax ..), reduce _ 2 _ _ (exec_vrmin ..),
    ?vmov, ?vbcast, ?vsel, ?vext⟩
  case vmov =>
    have lanes := lanewise_of_laneOp h _ _ _ false false (fun m _ _ => (m, 0)) i true (exec_vmov c i s) rfl legal
    simpa [State.lanewise] using lanes
  case vbcast =>
    have writes := writesLanes_of_putV_plain _ _ ((exec_vbcast c i s).trans (vbcast_completes h i rfl legal))
    simpa using writes
  case vsel =>
    intro v
    have legalSel : ({ rd := true, ra := true, rb := true, men := true, msel := true } : Uses).legal v = true := by
      simp [Uses.legal, v]
    have writes := writesLanes_of_putV_plain _ _ ((exec_vsel c v s).trans (vsel_completes h v rfl legalSel))
    simpa using writes
  case vext =>
    intro e
    have legalExt : ({ rd := true, ra := true, men := true, imm := true } : Uses).legal e = true := by
      simpa [Uses.legal, e, i] using selects
    rw [exec_vext, vext_completes h e rfl legalExt]
    simp [e, i, a, k, Vector.getD, Nat.mod_lt]

end Sys2Proof.Machine
end

section
/-! PROOFS. Conversions and special functions (R38, R66, R69, R100 to R102): VCVT to a format that is not MX, and the
lane-wise rows of MAJOR 0x13 and 0x14. -/

set_option linter.unusedVariables false

namespace Sys2Proof.Machine

open Sys2Proof

/-! ## Formats that are not MX -/

theorem Fmt.isMx_of_le {f : Fmt} (hf : f.toNat ≤ 6) : f.isMx = false := by
  simp [Fmt.isMx]; omega

/-- Format 0 alone is FP32. -/
theorem Fmt.float_eq_fp32_iff (f : Fmt) : f.float = some fp32 ↔ f.toNat = 0 := by
  revert f; decide

/-- R69, R99: what VCVT leaves in a lane for a code: the code of an FP32 lane, and the value of any other, rounded to
FP32. -/
def Fmt.widenedBack (f : Fmt) (code : Nat) : W32 :=
  if f.toNat = 0 then BitVec.ofNat 32 code else (roundFp32 (f.elemVal code)).1

/-- A conversion to a format that is not MX rounds each lane and widens it back. -/
theorem convertLanes_eq {f : Fmt} (hmx : f.isMx = false) (v : Lanes) (mode : RMode) (mask : W64) :
    convertLanes f v (Vector.replicate 64 mode) mask =
      (Vector.ofFn (fun l => f.widenedBack (f.narrow mode v[l]).1),
        laneFlags mask (Vector.ofFn (fun l => (f.narrow mode v[l]).2))) := by
  have hfp32 := f.float_eq_fp32_iff
  cases hg : f.float with
  | none =>
    have h0 : f.toNat ≠ 0 := fun e => by simp [hfp32.mpr e] at hg
    simp [convertLanes, Fmt.widenedBack, hmx, hg, h0, Vector.map_ofFn, Function.comp_def]
  | some g =>
    have hg0 : g = fp32 ↔ f.toNat = 0 := by rw [← hfp32, hg, Option.some.injEq]
    by_cases h0 : f.toNat = 0
    · simp [convertLanes, Fmt.widen, Fmt.widenedBack, hmx, hg, hg0.mpr h0, h0, Vector.map_ofFn, Function.comp_def]
    · simp [convertLanes, Fmt.widen, Fmt.widenedBack, Fmt.elemVal, hmx, hg, hg0, h0, Vector.map_ofFn,
        Function.comp_def]

/-! ## The rows of MAJOR 0x13 and 0x14 -/

section
variable (c : CoreId) (a : CoreArgs) (s : State)

theorem exec_vcvt : exec (.vcvt c a) s = execVcvt c a s := rfl
theorem exec_vcvti_toInt (ha : a.opt = 2) : exec (.vcvti c a) s =
    laneOp 0x13 2 false false (fun m _ _ => toInt32 m) c a s := by
  change execVcvti c a s = _
  simp [execVcvti, ha]
theorem exec_vcvti_ofInt (ha : a.opt = 3) : exec (.vcvti c a) s =
    laneOp 0x13 3 false false (fun m _ _ => ofInt32 m) c a s := by
  change execVcvti c a s = _
  simp [execVcvti, ha]
theorem exec_vrcp : exec (.vrcp c a) s = laneOp 0x14 0 false false (fun m _ _ => rcp32 m) c a s := rfl
theorem exec_vrsq : exec (.vrsq c a) s = laneOp 0x14 1 false false (fun m _ _ => rsq32 m) c a s := rfl
theorem exec_vexp : exec (.vexp c a) s = laneOp 0x14 2 false false (fun m _ _ => exp32 m) c a s := rfl
theorem exec_vlog : exec (.vlog c a) s = laneOp 0x14 3 false false (fun m _ _ => log32 m) c a s := rfl

end

/-- R66: VAR 0 rounds to nearest and VAR 1 toward 0, and neither draws. -/
def detMode (var : BitVec 2) : RMode := if var = 0 then .rne else .rtz

theorem roundModes_of_det (k : Core) (f : Fmt) (var : BitVec 2) (hv : var = 0 ∨ var = 1) (mask base : W64) :
    k.roundModes f var mask base = (Vector.replicate 64 (detMode var), k) := by
  obtain rfl | rfl := hv
  · simp [Core.roundModes, detMode]
  · simp [Core.roundModes, detMode]

section
variable {s : State} {c : CoreId} {x : CtxId} (h : s.issues c x = true)
include h

/-- An exception with a handler only enters it. -/
theorem issue_raise (major : BitVec 6) (minor : BitVec 5) (u : Uses) (defined : Bool) (a : CoreArgs)
    (body : State → Core → CtxId → Effect) (reads : Core → List Nat) (acc : Option Bool) (cause info : W64)
    (hf : a.finding = {}) (hl : (defined && u.legal a) = true) (hb : body s (s.coreOf c.val) x = .raise cause info)
    (hh : (s.coreOf c.val).handles = true) :
    Host.Outcome.next (issue major minor u defined c a s body reads acc) = s.handles c cause info := by
  rw [issue_legal h _ _ _ _ _ _ _ _ hf hl, hb]
  exact congrArg _ (takeException_handled s c cause info hh)

/-- R69: VCVT under VAR 0 or 1 to a format that is not MX. -/
theorem vcvt_lanewise (a : CoreArgs) {f : Fmt} (hf : a.finding = {})
    (hl : ({ rd := true, ra := true, men := true, var := true, imm := true } : Uses).legal a = true)
    (hv : a.var = 0 ∨ a.var = 1) (himm : a.imm.setWidth 4 = f) (hfmt : f.toNat ≤ 6) :
    let k := s.coreOf c.val
    s.lanewise (.vcvt c a) c a (fun l =>
      (f.widenedBack (f.narrow (detMode a.var) (k.vreg a.ra)[l]).1, (f.narrow (detMode a.var) (k.vreg a.ra)[l]).2))
      (k.vpois a.ra) := by
  intro k
  have hmx : f.isMx = false := Fmt.isMx_of_le hfmt
  have admitted : ¬ (0xD ≤ f.toNat ∨ (f.isMx = true ∧ a.men = true)) := by simp [hmx]; omega
  have completes := (exec_vcvt c a s).trans (issue_putV h 0x13 0 _ true a _ (fun _ => []) none _ (k.vpois a.ra) _ hf
    (by simpa using hl)
    (by simp only [himm, if_neg admitted, roundModes_of_det _ _ _ hv, convertLanes_eq hmx]; rfl))
  simpa [State.lanewise] using writesLanes_of_putV _ _ _ completes

end

/-- Settles O14: VCVT by `vcvt_lanewise`, the other rows as `laneOp`s. -/
theorem conversionsAndSpecialFunctions : Obligations.ConversionsAndSpecialFunctions := by
  unfold Obligations.ConversionsAndSpecialFunctions
  intro s c x rd ra men msel f h hm k a i p cvt toward back rounded
  have legal (opt : BitVec 5) := Uses.legal_lanes false rd ra 0 men msel opt hm (.inr rfl)
  have legalCvt (var : BitVec 2) : ({ rd := true, ra := true, men := true, var := true, imm := true } : Uses).legal
      { cvt with var := var } = true := by simpa [Uses.legal, cvt, i] using hm
  have target : cvt.imm.setWidth 4 = f := by simp [cvt]
  have unary (op : Instr) (major : BitVec 6) (minor : BitVec 5) (g : W32 → W32 × FpFlags)
      (hx : exec op s = laneOp major minor false false (fun m _ _ => g m) c i s) :
      s.lanewise op c i (fun l => g a[l]) p := by
    simpa using lanewise_of_laneOp h op major minor false false (fun m _ _ => g m) i true hx rfl (legal 0)
  refine ⟨?rounds, ?refuses, ?toInt, ?ofInt, unary _ 0x14 0 _ (exec_vrcp ..), unary _ 0x14 1 _ (exec_vrsq ..),
    unary _ 0x14 2 _ (exec_vexp ..), unary _ 0x14 3 _ (exec_vlog ..)⟩
  case rounds =>
    intro hf
    have rounds (var : BitVec 2) (hv : var = 0 ∨ var = 1) := vcvt_lanewise h { cvt with var := var } rfl (legalCvt var) hv
      target hf
    exact ⟨rounds 0 (.inl rfl), rounds 1 (.inr rfl)⟩
  case refuses =>
    intro hf hh
    rw [exec_vcvt]
    exact issue_raise h 0x13 0 _ true cvt _ _ none 3 _ rfl (legalCvt 0)
      (by simp only [target, hf, true_or, if_true]; rfl) hh
  case toInt =>
    simpa using lanewise_of_laneOp h _ 0x13 2 false false (fun m _ _ => toInt32 m) { i with opt := 2 } true
      (exec_vcvti_toInt c _ s rfl) rfl (legal 2)
  case ofInt =>
    simpa using lanewise_of_laneOp h _ 0x13 3 false false (fun m _ _ => ofInt32 m) { i with opt := 3 } true
      (exec_vcvti_ofInt c _ s rfl) rfl (legal 3)

end Sys2Proof.Machine
end

section
/-! PROOFS. The tensor array (R45 to R47, R72, R73) and the accumulator rows (R69, R70, R83). -/

set_option linter.unusedVariables false

namespace Sys2Proof.Machine

open Sys2Proof

/-! ## Accumulators -/

@[simp] theorem Core.setAcc_running (k : Core) (b : Bool) (a : Acc) : (k.setAcc b a).running = k.running := by
  cases b <;> rfl
@[simp] theorem Core.setAcc_waiting (k : Core) (b : Bool) (a : Acc) : (k.setAcc b a).waiting = k.waiting := by
  cases b <;> rfl
@[simp] theorem Core.setAcc_pc (k : Core) (b : Bool) (a : Acc) : (k.setAcc b a).pc = k.pc := by cases b <;> rfl

/-- A table that lists F's value at each number of `l` where it is not 0 reads as F on `l`. -/
theorem tget_listed (l : List Nat) (F : Nat → W32 × Bool × Bool) (n : Nat) :
    tget 0 (((l.map (fun m => (m, F m))).filter (fun o => o.2.1 != 0)).map (fun o => (o.1, o.2.1))) n =
      if n ∈ l then (F n).1 else 0 := by
  induction l with
  | nil => rfl
  | cons m r ih =>
    rw [List.map_cons, List.filter_cons]
    by_cases hn : n = m
    · subst hn
      by_cases hm : (F n).1 = 0 <;> simp_all [tget]
    · by_cases hm : (F m).1 = 0 <;> simp_all [tget, Ne.symm hn]

/-- Each element of a product's accumulator is the one that its cells have added to. -/
theorem Acc.addProduct_elem (acc : Acc) (skipA : Bool) (a b : Source64) (r q : Fin 64) :
    tget 0 (acc.addProduct skipA a b).elems (64 * r.val + q.val) =
      (tileElem skipA a b r.val q.val (tget 0 acc.elems (64 * r.val + q.val))).1 := by
  have inTile : 64 * r.val + q.val < 4096 := by omega
  have row : (64 * r.val + q.val) / 64 = r.val := by omega
  have column : (64 * r.val + q.val) % 64 = q.val := by omega
  simp only [Acc.addProduct, tget_listed, List.mem_range, inTile, if_true, row, column]

/-- An element none of whose products takes part keeps its value. -/
theorem tileElem_of_none {skipA : Bool} {a b : Source64} {r c : Nat} (acc : W32)
    (hnone : ∀ j < 8, participates skipA a b r c j = false) : tileElem skipA a b r c acc = (acc, false, false) := by
  simp [tileElem, List.range_succ, hnone]

/-- The accumulator of a TMM that completes. -/
def tmmAcc (a : CoreArgs) (ea eb : Entry) (fresh : Nat) (acc : Acc) : Acc :=
  let start := if tmmClr a then acc.cleared else acc
  let sum := ({ start with type := some (accType ea.fmt) } : Acc).addProduct (tmmSkipA a) (ea.source (tmmTA a) fresh)
    (eb.source (tmmTB a) (fresh + 8192))
  { sum with poison := sum.poison || (ea.state == .poisoned || eb.state == .poisoned), inFlight := sum.inFlight + 1 }

section
variable (a : CoreArgs) (ea eb : Entry) (fresh : Nat) (acc : Acc)

theorem tmmAcc_type : (tmmAcc a ea eb fresh acc).type = some (if ea.fmt.isInt then .int32 else .fp32) := rfl

theorem tmmAcc_inFlight : (tmmAcc a ea eb fresh acc).inFlight = acc.inFlight + 1 := by
  cases hc : tmmClr a <;> simp [tmmAcc, Acc.addProduct, Acc.cleared, hc]

theorem tmmAcc_poison : (tmmAcc a ea eb fresh acc).poison =
    ((!tmmClr a && acc.poison) || ea.state == .poisoned || eb.state == .poisoned) := by
  cases hc : tmmClr a <;> simp [tmmAcc, Acc.addProduct, Acc.cleared, hc, Bool.or_assoc]

theorem tmmAcc_elem (r q : Fin 64) : tget 0 (tmmAcc a ea eb fresh acc).elems (64 * r.val + q.val) =
    (tileElem (tmmSkipA a) (ea.source (tmmTA a) fresh) (eb.source (tmmTB a) (fresh + 8192)) r.val q.val
      (if tmmClr a then 0 else tget 0 acc.elems (64 * r.val + q.val))).1 := by
  simp only [tmmAcc, Acc.addProduct_elem]
  cases hc : tmmClr a <;> simp [Acc.cleared, tget]

end

/-- Replacing lanes of a row one after another leaves each element of the row that the mask admits with its lane. -/
theorem tget_foldl_lanes (row : Nat) (mask : W64) (v : Lanes) (n : Nat) (lane : Fin 64) (hlane : n % 64 = lane.val)
    (ls : List (Fin 64)) (t : Table W32) :
    tget 0 (ls.foldl (fun (t : Table W32) (l : Fin 64) =>
        if mask.getLsbD l.val then tput 0 t (64 * row + l.val) v[l] else t) t) n =
      if n / 64 = row ∧ mask.getLsbD lane.val = true ∧ lane ∈ ls then v[lane] else tget 0 t n := by
  induction ls generalizing t with
  | nil => simp
  | cons l r ih =>
    rw [List.foldl_cons, ih]
    simp only [List.mem_cons]
    by_cases hn : n = 64 * row + l.val
    · have same : lane = l := Fin.ext (by omega)
      have inRow : n / 64 = row := by omega
      subst same
      rw [← hn]
      cases hm : mask.getLsbD lane.val <;> simp [inRow]
    · have other (inRow : n / 64 = row) : lane ≠ l := fun e => hn (by subst e; omega)
      cases hm : mask.getLsbD l.val <;> grind [tget_tput_ne]

theorem Acc.setRow_elem (acc : Acc) (row : Nat) (mask : W64) (v : Lanes) (n : Nat) :
    tget 0 (acc.setRow row mask v).elems n =
      if n / 64 = row ∧ mask.getLsbD (n % 64) = true then v.getD (n % 64) 0 else tget 0 acc.elems n := by
  have inLanes : n % 64 < 64 := Nat.mod_lt _ (by norm_num)
  refine (tget_foldl_lanes row mask v n ⟨n % 64, inLanes⟩ rfl _ _).trans ?_
  simp [Vector.getD, inLanes]

/-! ## The rows -/

section
variable (c : CoreId) (a : CoreArgs) (s : State)

theorem exec_tmm : exec (.tmm c a) s = execTmm c a s := rfl
theorem exec_aclr : exec (.aclr c a) s = execAclr c a s := rfl
theorem exec_vaccr : exec (.vaccr c a) s = execVaccr c a s := rfl
theorem exec_vaccw : exec (.vaccw c a) s = execVaccw c a s := rfl
theorem exec_accumulatorReadable (side : Bool) :
    exec (.accumulatorReadable c side) s = execAccumulatorReadable c side s := rfl

end

/-- R74: an entry whose words an instruction may read, and that holds the bytes its bitmap names. -/
def Entry.readable (e : Entry) : Prop := (e.state = .resident ∨ e.state = .poisoned) ∧ e.short = false

theorem Entry.readable.settled {e : Entry} (h : e.readable) : e.state ≠ .empty ∧ e.state ≠ .filling := by
  obtain ⟨hr | hp, -⟩ := h
  · simp [hr]
  · simp [hp]

section
variable {s : State} {c : CoreId} {x : CtxId} (h : s.issues c x = true)
include h

/-- R72, R73: a TMM of two readable tiles that satisfy its operand conditions. -/
theorem tmm_completes (a : CoreArgs) (side : Bool) (na nb : Nat) (hf : a.finding = {})
    (hl : (decide (a.rd.toNat < 2) && ({ rd := true, ra := tmmRegs a, rb := tmmRegs a, imm := !tmmRegs a } : Uses).legal a)
      = true)
    (hside : a.rd.getLsbD 0 = side) (hna : (s.coreOf c.val).tmmA a = na) (hnb : (s.coreOf c.val).tmmB a = nb)
    (ha : ((s.coreOf c.val).entryFor x na).readable) (hb : ((s.coreOf c.val).entryFor x nb).readable)
    (hok : tmmOperandsOk a ((s.coreOf c.val).entryFor x na) ((s.coreOf c.val).entryFor x nb)
      ((s.coreOf c.val).acc side) = true) :
    let k := s.coreOf c.val
    execTmm c a s = s.completes c
      { k.setAcc side (tmmAcc a (k.entryFor x na) (k.entryFor x nb) s.fresh (k.acc side)) with
        tmmSources := k.tmmSources ++ [(na, nb, side)] } := by
  intro k
  refine issue_core h 0x20 a.opt _ _ a _ _ _ _ hf hl ?effect (by simp [k]) (by simp [k]) (by simp [k])
  simp only [hside, hna, hnb, ha.settled, hb.settled, hok, ha.2, hb.2]
  rfl

/-- R72, R73: a TMM of two tiles that are not EMPTY nor FILLING and that fail an operand condition. -/
theorem tmm_refuses (a : CoreArgs) (side : Bool) (na nb : Nat) (hf : a.finding = {})
    (hl : (decide (a.rd.toNat < 2) && ({ rd := true, ra := tmmRegs a, rb := tmmRegs a, imm := !tmmRegs a } : Uses).legal a)
      = true)
    (hside : a.rd.getLsbD 0 = side) (hna : (s.coreOf c.val).tmmA a = na) (hnb : (s.coreOf c.val).tmmB a = nb)
    (ha : ((s.coreOf c.val).entryFor x na).readable) (hb : ((s.coreOf c.val).entryFor x nb).readable)
    (hok : tmmOperandsOk a ((s.coreOf c.val).entryFor x na) ((s.coreOf c.val).entryFor x nb)
      ((s.coreOf c.val).acc side) = false) (hh : (s.coreOf c.val).handles = true) :
    execTmm c a s = s.handles c xOPERAND (operandInfo na nb ((s.coreOf c.val).entryFor x na).fmt.toNat) := by
  refine issue_raise h 0x20 a.opt _ _ a _ _ _ _ _ hf hl ?effect hh
  simp only [hside, hna, hnb, ha.settled, hb.settled, hok]
  rfl

/-- R72: a TMM whose first tile is EMPTY. -/
theorem tmm_of_empty (a : CoreArgs) (na : Nat) (hf : a.finding = {})
    (hl : (decide (a.rd.toNat < 2) && ({ rd := true, ra := tmmRegs a, rb := tmmRegs a, imm := !tmmRegs a } : Uses).legal a)
      = true)
    (hna : (s.coreOf c.val).tmmA a = na) (ha : ((s.coreOf c.val).entryFor x na).state = .empty)
    (hh : (s.coreOf c.val).handles = true) : execTmm c a s = s.handles c xADDRESS (addressInfo na 0) := by
  refine issue_raise h 0x20 a.opt _ _ a _ _ _ _ _ hf hl ?effect hh
  simp [hna, ha]

theorem aclr_completes (side : Bool) :
    execAclr c { rd := (BitVec.ofBool side).setWidth 5 } s =
      s.completes c ((s.coreOf c.val).setAcc side ((s.coreOf c.val).acc side).cleared) := by
  refine issue_core h 0x21 0 _ _ _ _ _ _ _ rfl (by simp [Uses.legal]) ?effect (by simp) (by simp) (by simp)
  cases side <;> rfl

/-- R69, R83: VACCR of a readable accumulator. -/
theorem vaccr_completes (a : CoreArgs) (side : Bool) (row : Nat) (hf : a.finding = {})
    (hl : ({ rd := true, men := true, imm := true } : Uses).legal a = true) (hside : a.imm.getLsbD 6 = side)
    (hrow : a.imm.toNat % 64 = row) (hidle : ((s.coreOf c.val).acc side).inFlight = 0) :
    execVaccr c a s = s.completes c ((s.coreOf c.val).putV a a.rd (((s.coreOf c.val).acc side).row row)
      ((s.coreOf c.val).acc side).poison) := by
  refine issue_core h 0x17 0 _ true a _ _ _ _ hf (by simpa using hl) ?effect (by simp) (by simp) (by simp)
  simp only [hside, hrow, hidle, ne_eq, not_true_eq_false, if_false]

/-- R69: VACCW. -/
theorem vaccw_completes (a : CoreArgs) (side : Bool) (row : Nat) (hf : a.finding = {})
    (hl : ({ ra := true, men := true, imm := true } : Uses).legal a = true) (hside : a.imm.getLsbD 6 = side)
    (hrow : a.imm.toNat % 64 = row) :
    let k := s.coreOf c.val
    execVaccw c a s = s.completes c (k.setAcc side { (k.acc side).setRow row (k.laneMask a) (k.vreg a.ra) with
      poison := (k.acc side).poison || k.vpois a.ra }) := by
  intro k
  refine issue_core h 0x17 1 _ true a _ _ _ _ hf (by simpa using hl) ?effect (by simp [k]) (by simp [k]) (by simp [k])
  simp only [hside, hrow]
  rfl

/-- R49: the oldest product of an accumulator drains. -/
theorem accumulatorReadable_drains (side : Bool) (hbusy : ((s.coreOf c.val).acc side).inFlight ≠ 0) :
    let k := s.coreOf c.val
    execAccumulatorReadable c side s = .next (s.putCore c.val
      { k.setAcc side { k.acc side with inFlight := (k.acc side).inFlight - 1 } with
        tmmSources := k.tmmSources.eraseP (fun t => t.2.2 == side) }) := by
  obtain ⟨clocked, -⟩ := (issues_iff s c x).mp h
  simp [execAccumulatorReadable, clocked, hbusy]

end

/-! ## Immediates -/

/-- A byte below other bits in an immediate: the immediate as a number. -/
theorem toNat_imm_append {w : Nat} (hi : BitVec w) (lo : Byte) (hw : w ≤ 24) :
    (BitVec.setWidth 32 (hi ++ lo)).toNat = 256 * hi.toNat + lo.toNat := by
  have bound : 2 ^ w ≤ 2 ^ 24 := Nat.pow_le_pow_right (by norm_num) hw
  rw [BitVec.toNat_setWidth, BitVec.toNat_append, ← Nat.shiftLeft_add_eq_or_of_lt lo.isLt, Nat.shiftLeft_eq]
  omega

/-- R69: bit 6 of the immediate of VACCR and VACCW names the accumulator, and bits [5:0] the row. -/
theorem accImm (row : Fin 64) (side : Bool) :
    (BitVec.ofNat 32 (row.val + if side then 64 else 0)).getLsbD 6 = side ∧
    (BitVec.ofNat 32 (row.val + if side then 64 else 0)).toNat % 64 = row.val := by
  revert row side; decide

/-- Settles O16: the products by `tmm_completes` and the fields of `tmmAcc`, the rows by `Acc.row` and `Acc.setRow_elem`. -/
theorem tensorArray : Obligations.TensorArray := by
  unfold Obligations.TensorArray
  refine ⟨?products, ?rows⟩
  case products =>
    intro s c x opt side na nb h hopt k a ea eb readable sa sb
    have noRegs : tmmRegs a = false := hopt
    have hl : (decide (a.rd.toNat < 2) &&
        ({ rd := true, ra := tmmRegs a, rb := tmmRegs a, imm := !tmmRegs a } : Uses).legal a) = true := by
      rw [noRegs]; cases side <;> simp [Uses.legal, a]
    have hside : a.rd.getLsbD 0 = side := by cases side <;> simp [a]
    have himm : a.imm.toNat = 256 * nb.toNat + na.toNat := toNat_imm_append nb na (by norm_num)
    have hna : k.tmmA a = na.toNat := by simp [Core.tmmA, noRegs, himm]; omega
    have hnb : k.tmmB a = nb.toNat := by simp [Core.tmmB, noRegs, himm]; omega
    refine ⟨?completes, ?refuses, ?empty, ?clears, ?drains⟩
    case completes =>
      intro ha hb hok
      refine ⟨tmmAcc a ea eb s.fresh (k.acc side), tmm_completes h a side _ _ rfl hl hside hna hnb ha hb hok,
        tmmAcc_type .., tmmAcc_inFlight .., tmmAcc_poison .., ?elements⟩
      intro r q start
      have elem := tmmAcc_elem a ea eb s.fresh (k.acc side) r q
      exact ⟨elem, fun hnone => by rw [elem, tileElem_of_none _ hnone]⟩
    case refuses => exact fun ha hb hok hh => tmm_refuses h a side _ _ rfl hl hside hna hnb ha hb hok hh
    case empty => exact fun ha hh => tmm_of_empty h a _ rfl hl hna ha hh
    case clears => exact aclr_completes h side
    case drains => exact fun hbusy => ⟨_, accumulatorReadable_drains h side hbusy⟩
  case rows =>
    intro s c x r side row men msel h hm k imm rd wr
    obtain ⟨hside, hrow⟩ := accImm row side
    refine ⟨?reads, ?writes⟩
    case reads =>
      intro hidle
      have writes := writesLanes_of_putV_plain _ _ ((exec_vaccr c rd s).trans
        (vaccr_completes h rd side row.val rfl (by simpa [Uses.legal, rd] using hm) hside hrow hidle))
      simpa [Acc.row] using writes
    case writes =>
      exact ⟨_, vaccw_completes h wr side row.val rfl (by simpa [Uses.legal, wr] using hm) hside hrow, rfl,
        Acc.setRow_elem (k.acc side) row.val _ _⟩

end Sys2Proof.Machine
end

section
/-! PROOFS. TFREE and the space that an entry still owes (R74, R233): the refutation of the statement on the tile table
instructions. -/

set_option linter.unusedVariables false

namespace Sys2Proof.Machine

open Sys2Proof

theorem exec_tfree (c : CoreId) (a : CoreArgs) (s : State) : exec (.tfree c a) s = execTfree c a s := rfl

@[simp] theorem State.emptyEntry_coreOf (s : State) (c : CoreId) (n : Nat) :
    (s.emptyEntry c n).coreOf c.val = (s.coreOf c.val).vacate n :=
  State.putCore_same ..

/-- R74, R233: the core after a TFREE that takes effect. The Pocket space of the entry stays charged to the stream that
reserved it while replies of that stream are out. -/
theorem tfree_vacates {s : State} {c : CoreId} {x : CtxId} (h : s.issues c x = true) (n : Byte)
    (hheld : (s.coreOf c.val).heldByOther x n.toNat = false)
    (hfilling : ((s.coreOf c.val).entry n.toNat).state ≠ .filling) (hbusy : s.writeBusy c n.toNat = false) :
    ∃ t, exec (.tfree c { imm := n.setWidth 32 }) s = .next t ∧
      t.coreOf c.val = { (s.coreOf c.val).vacate n.toNat with pc := (s.coreOf c.val).pc + 1 } := by
  obtain ⟨-, running, waiting, -⟩ := (issues_iff s c x).mp h
  have entryNo : n.toNat % 256 = n.toNat := Nat.mod_eq_of_lt n.isLt
  refine ⟨_, (exec_tfree ..).trans (congrArg Host.Outcome.next
    (issue_legal h 0x2A 1 _ true _ _ (fun _ => []) none rfl (by simp [Uses.legal]))), ?_⟩
  simp [entryNo, hheld, hfilling, hbusy, Effect.apply, State.retire, State.modCore, Core.vacate, running, waiting]

/-- Core 0 runs a program of context 1 on cluster 0. Entry 3 holds a whole tile that a stream in slot 0 has filled; the
entry's space stays reserved by that stream. -/
def freeingFilled : State :=
  { State.reset with
    mode := .run
    fields := [(0, { state := .online, fcOk := true, osc := .locked, arithGated := false, meshGated := false })]
    regions := [(0, { state := .loaded, ctx := 1, width := 1, height := 1, ibufSize := 1,
                      code := [assemble 0x2A 1 { imm := 3 }] })]
    cores := [(0, { running := some 1,
                    tiles := [(3, { state := .resident, holder := 1, reserved := 4096, filler := some (0, 0) })] })] }

/-- Refutes O22: TFREE of an entry whose space a stream reserved leaves that space owed (R233), where the statement keeps
every field of the core but its entries and its PC. -/
theorem not_tileTableInstructions : ¬ Obligations.TileTableInstructions := by
  unfold Obligations.TileTableInstructions
  intro holds
  have issues : freeingFilled.issues 0 1 = true := by decide +kernel
  have hheld : (freeingFilled.coreOf 0).heldByOther 1 3 = false := by decide +kernel
  have hfilling : ((freeingFilled.coreOf 0).entry 3).state ≠ .filling := by decide +kernel
  have hbusy : freeingFilled.writeBusy 0 3 = false := by decide +kernel
  obtain ⟨-, -, frees, -⟩ := holds freeingFilled 0 1 0 3 0 false issues
  obtain ⟨t, hexec, -, -, hcore, -⟩ := frees hheld hfilling hbusy (by decide +kernel)
  obtain ⟨t', hexec', hcore'⟩ := tfree_vacates issues 3 hheld hfilling hbusy
  obtain rfl : t = t' := Host.Outcome.next.inj (hexec.symm.trans hexec')
  have owed := congrArg Core.owed (hcore.symm.trans hcore')
  exact absurd owed (by decide +kernel)

end Sys2Proof.Machine
end

section
/-! PROOFS. Core health (R50 to R55, R60, R61, R84, R90, R182, R183): timed waits, heartbeats, residue errors, and what
the codes of a core find while an instruction issues. -/

set_option linter.unusedVariables false

namespace Sys2Proof.Machine

open Sys2Proof

/-! ## The core that serves a column -/

theorem badCore_of_darn {s t : State} (h : t.darn = s.darn) : t.badCore = s.badCore := by
  funext p; simp only [State.badCore, State.badParts, h]

theorem rowRetired_of_darn {s t : State} (h : t.darn = s.darn) : t.rowRetired = s.rowRetired := by
  funext r; simp only [State.rowRetired, badCore_of_darn h, State.badParts, h]

/-- R468: which core serves a column depends on the parts recorded as bad alone. -/
theorem servedBy_of_darn {s t : State} (h : t.darn = s.darn) : t.servedBy = s.servedBy := by
  funext c; simp only [State.servedBy, rowRetired_of_darn h, badCore_of_darn h]

theorem serves_of_darn {s t : State} (h : t.darn = s.darn) : t.serves = s.serves := by
  funext p; simp only [State.serves, servedBy_of_darn h]

/-- R468: a physical core serves a column of its own row. -/
theorem row_of_serves {s : State} {p d : Nat} (h : s.serves p = some d) : d / 8 = p / 9 := by
  obtain ⟨j, hj, hd⟩ := List.exists_of_findSome?_eq_some h
  rw [List.mem_range] at hj
  dsimp only at hd
  split at hd
  · obtain rfl := Option.some.inj hd
    omega
  · cases hd

theorem cluster_of_serves {s : State} {p d : Nat} (h : s.serves p = some d) : d / 32 = p / 36 := by
  have := row_of_serves h
  omega

/-- R31, R52: a core that serves a column and is clocked runs on that column's clock. -/
theorem physServing_of_physClocked {s : State} {p d : Nat} (hd : s.serves p = some d) (h : s.physClocked p = true) :
    s.physServing p = true := by
  simpa [State.physClocked, hd] using h

/-! ## Faults (R61) -/

/-- R61: what is kept of a core with a fault bit set and its weight scored. -/
def Phys.struck (h : Phys) (bit weight : Nat) : Phys :=
  { h with fault := h.fault ||| BitVec.twoPow 64 bit, lastFault := BitVec.ofNat 8 bit, score := satAdd16 h.score weight }

theorem coreFault_eq (s : State) (p bit weight : Nat) :
    s.coreFault p bit weight = s.putPhys p ((s.physOf p).struck bit weight) := rfl

/-- R39, R61: FAULT with the bank of the first Pocket code event. -/
def Phys.bank (h : Phys) (off : Nat) : Phys :=
  { h with fault := if h.fault.getLsbD 5 || h.fault.getLsbD 8 then h.fault
      else (h.fault &&& 0xFFFFFFFF0000FFFF) ||| (w64 (pocketBank off) <<< 16) }

theorem pocketFault_eq (s : State) (p bit weight off : Nat) :
    s.pocketFault p bit weight off = s.putPhys p (((s.physOf p).bank off).struck bit weight) := by
  have banked : s.pocketFault p bit weight off = (s.putPhys p ((s.physOf p).bank off)).coreFault p bit weight := by
    cases hb : (s.physOf p).fault.getLsbD 5 || (s.physOf p).fault.getLsbD 8 <;>
      simp only [State.pocketFault, State.modPhys, Phys.bank, hb] <;> rfl
  simp [banked, coreFault_eq]

/-- R55: a serving core that is declared dead. -/
theorem declareDead_eq {s : State} {p c : Nat} (bit : Nat) (hs : s.serves p = some c) :
    s.declareDead p bit = ((s.putPhys p { (s.physOf p).struck bit 256 with health := .suspect, clockStopped := true }).abortOver
      (fun k => k == c / 32) c).autoDrain := by
  have struck : (s.coreFault p bit 256).modPhys p (fun k => { k with health := .suspect, clockStopped := true }) =
      s.putPhys p { (s.physOf p).struck bit 256 with health := .suspect, clockStopped := true } := by
    simp [State.modPhys, coreFault_eq]
  have serves (v : Phys) : (s.putPhys p v).serves p = some c := (congrFun (serves_of_darn rfl) p).trans hs
  unfold State.declareDead State.suspectCore
  rw [struck]
  simp only [serves]

/-! ## Timed waits (R84, R90) -/

theorem exec_waitTimeout (c : CoreId) (s : State) : exec (.waitTimeout c) s = execWaitTimeout c s := rfl
theorem exec_residueError (p : PhysId) (unit : ResidueUnit) (s : State) :
    exec (.residueError p unit) s = execResidueError p unit s := rfl
theorem exec_heartbeat (b : CoreBeat) (s : State) : exec (.heartbeat b) s = execHeartbeat b s := rfl
theorem exec_heartbeatReceived (p : PhysId) (seq : W16) (good : Bool) (s : State) :
    exec (.heartbeatReceived p seq good) s = execHeartbeatReceived p seq good s := rfl
theorem exec_heartbeatLost (p : PhysId) (s : State) : exec (.heartbeatLost p) s = execHeartbeatLost p s := rfl

/-- What a withdrawn wait changes. -/
theorem reopenSequence_frame (s : State) (c : CoreId) :
    s.reopenSequence c =
      { s with clusters := (s.reopenSequence c).clusters, requests := (s.reopenSequence c).requests } := by
  unfold State.reopenSequence
  split
  · rfl
  · split <;> rfl

theorem leaveWaiters_frame (s : State) (c x : Nat) :
    s.leaveWaiters c x = { s with clusters := (s.leaveWaiters c x).clusters } := rfl

/-- R90: a wait whose condition has come is not timed out. -/
theorem waitTimesOut_of_met {s : State} {c : CoreId} {x : CtxId} {w : Waiting}
    (hr : (s.coreOf c.val).running = some x) (hw : (s.coreOf c.val).waiting = some w)
    (hm : s.waitMet c (s.coreOf c.val) x w = true) : s.waitTimesOut c = s := by
  simp [State.waitTimesOut, hr, hw, hm]

/-- R84, R86: a timed wait that reaches WAITLIM, with a handler. -/
theorem waitTimesOut_of_unmet {s : State} {c : CoreId} {x : CtxId} {w : Waiting} (hc : s.coreClocked c.val = true)
    (hr : (s.coreOf c.val).running = some x) (hw : (s.coreOf c.val).waiting = some w) (ht : w.timed = true)
    (hm : s.waitMet c (s.coreOf c.val) x w = false) (hh : (s.coreOf c.val).handles = true) :
    s.waitTimesOut c = ((s.leaveWaiters c.val x.val).reopenSequence c).putCore c.val
      ((s.coreOf c.val).handling xWAIT_TIMEOUT (w64 (w.major + w.info.toNat * 65536))) := by
  have core : ((s.leaveWaiters c.val x.val).reopenSequence c).coreOf c.val = s.coreOf c.val := by
    rw [reopenSequence_frame, leaveWaiters_frame]; rfl
  rw [← core, ← takeException_handled _ _ _ _ (by rwa [core])]
  simp [State.waitTimesOut, hr, hw, hm, hc, ht]

/-! ## Heartbeats (R53, R54) -/

section
variable {s : State} {p : PhysId} {d : CoreId} (hd : s.serves p.val = some d.val) (hp : s.physServing p.val = true)
include hd

/-- R53, R182: a heartbeat of a serving core travels from its column's cluster to its field controller. -/
theorem heartbeatMsg_eq (seq : W16) (good : Bool) :
    heartbeatMsg p seq good = ⟨fcNode (d.val / 512), clusterNode (d.val / 32), .heartbeat p seq good⟩ := by
  have cluster : d.val / 32 = physCluster p.val := cluster_of_serves hd
  have field : d.val / 512 = physCluster p.val / 16 := by omega
  rw [heartbeatMsg, cluster, field]

theorem heartbeatReceived_absent (seq : W16) (good : Bool)
    (hw : ⟨fcNode (d.val / 512), clusterNode (d.val / 32), .heartbeat p seq good⟩ ∉
      (s.threadNode (clusterNode (d.val / 32))).normal) : execHeartbeatReceived p seq good s = .next s := by
  simp [execHeartbeatReceived, heartbeatMsg_eq hd, hw]

include hp

theorem heartbeat_waits (good : Bool) (hm : (s.physOf p.val).hbMissed < 3) :
    let h := s.physOf p.val
    execHeartbeat ⟨p, good⟩ s = .next ((s.putPhys p.val { h with hbNext := h.hbNext + 1, hbMissed := h.hbMissed + 1 }).threadWait
      ⟨fcNode (d.val / 512), clusterNode (d.val / 32), .heartbeat p h.hbNext good⟩) := by
  intro h
  have missed : (s.physOf p.val).hbMissed ≠ 3 := fun e => by simp [e] at hm
  simp only [execHeartbeat, hp, heartbeatMsg_eq hd, if_true, if_neg missed]
  rfl

theorem heartbeatReceived_taken (seq : W16) (good : Bool) (m : ThreadMsg)
    (hmsg : m = ⟨fcNode (d.val / 512), clusterNode (d.val / 32), .heartbeat p seq good⟩)
    (hw : m ∈ (s.threadNode (clusterNode (d.val / 32))).normal) :
    let h := s.physOf p.val
    execHeartbeatReceived p seq good s =
      if good && (!h.hbSeen || seq == h.hbSeq + 1) then
        .next ((s.takeHeartbeat m p).putPhys p.val { h with hbSeq := seq, hbSeen := true, hbMissed := 0 })
      else .next (((s.takeHeartbeat m p).threadPass (fcNode (d.val / 512)) (mmpNode s.mgmt.standbyServes)
        (.heartbeatLost p.val)).declareDead p.val 4) := by
  intro h
  subst hmsg
  have waits := List.contains_iff_mem.mpr hw
  simp only [execHeartbeatReceived, heartbeatMsg_eq hd, hp, waits, Bool.not_true, Bool.or_self]
  rfl

theorem heartbeatLost_third (hm : (s.physOf p.val).hbMissed = 3) :
    execHeartbeatLost p s = .next (((s.putPhys p.val (s.physOf p.val)).threadPass (fcNode (d.val / 512))
      (mmpNode s.mgmt.standbyServes) (.heartbeatLost p.val)).declareDead p.val 4) := by
  have field : d.val / 512 = physCluster p.val / 16 := by
    have := cluster_of_serves hd
    simp only [physCluster]; omega
  have same : { s.physOf p.val with hbMissed := 3 } = s.physOf p.val := by rw [← hm]
  simp only [execHeartbeatLost, hp, if_true, State.modPhys, same, field]

end

end Sys2Proof.Machine
end

section
/-! PROOFS. What the codes of a core find while an instruction issues (R39, R42, R55, R61), and the statement on core
health. -/

set_option linter.unusedVariables false

namespace Sys2Proof.Machine

open Sys2Proof

/-! ## The issue of an instruction whose words the codes check -/

section
variable {s : State} {c : CoreId} {x : CtxId} (h : s.issues c x = true)
include h

/-- An instruction that reads its operands takes its effect on what the codes leave of them. -/
theorem issue_reads (major : BitVec 6) (minor : BitVec 5) (u : Uses) (defined : Bool) (a : CoreArgs)
    (body : State → Core → CtxId → Effect) (reads : Core → List Nat) (acc : Option Bool) (t : State)
    (hf : a.finding.fetch = .good) (hl : (defined && u.legal a) = true)
    (hb : (body s (s.coreOf c.val) x).reads = true) (ht : s.meetsWords c a.finding (reads (s.coreOf c.val)) acc = t) :
    issue major minor u defined c a s body reads acc =
      (body t (t.coreOf c.val) x).apply t c x (assemble major minor a) := by
  obtain ⟨-, running, waiting, -, word, inWindow⟩ := (issues_iff s c x).mp h
  simp [issue, canIssue_of_issues h, running, waiting, word, Nat.not_le.mpr inWindow, hl, hf, hb, ht]

/-- The instruction raises an exception on what the codes leave of its operands. -/
theorem issue_reads_raise (major : BitVec 6) (minor : BitVec 5) (u : Uses) (defined : Bool) (a : CoreArgs)
    (body : State → Core → CtxId → Effect) (reads : Core → List Nat) (acc : Option Bool) (t : State) (cause info : W64)
    (hf : a.finding.fetch = .good) (hl : (defined && u.legal a) = true)
    (hb : (body s (s.coreOf c.val) x).reads = true) (ht : s.meetsWords c a.finding (reads (s.coreOf c.val)) acc = t)
    (he : body t (t.coreOf c.val) x = .raise cause info) (hh : (t.coreOf c.val).handles = true) :
    (.next (issue major minor u defined c a s body reads acc) : Result) =
      .next (t.putCore c.val ((t.coreOf c.val).handling cause info)) := by
  rw [issue_reads h major minor u defined a body reads acc t hf hl hb ht, he]
  exact congrArg _ (takeException_handled t c cause info hh)

/-- The instruction completes on what the codes leave of its operands. -/
theorem issue_reads_core (major : BitVec 6) (minor : BitVec 5) (u : Uses) (defined : Bool) (a : CoreArgs)
    (body : State → Core → CtxId → Effect) (reads : Core → List Nat) (acc : Option Bool) (t t' : State) (k' : Core)
    (hf : a.finding.fetch = .good) (hl : (defined && u.legal a) = true)
    (hb : (body s (s.coreOf c.val) x).reads = true) (ht : s.meetsWords c a.finding (reads (s.coreOf c.val)) acc = t)
    (he : body t (t.coreOf c.val) x = .core t' c k') (hr : k'.running = (s.coreOf c.val).running)
    (hw : k'.waiting = (s.coreOf c.val).waiting) (hp : (t.coreOf c.val).pc = k'.pc) :
    Host.Outcome.next (issue major minor u defined c a s body reads acc) = t'.completes c k' := by
  obtain ⟨-, running, waiting, -⟩ := (issues_iff s c x).mp h
  rw [issue_reads h major minor u defined a body reads acc t hf hl hb ht, he]
  simp only [Effect.core, Effect.apply, hp]
  rw [retire_putCore t' c x k' _ (hr.trans running) (hw.trans waiting), State.completes]

/-- R55: with a corrected word fetched, the instruction takes its effect after the fault is counted. -/
theorem issue_corrected (major : BitVec 6) (minor : BitVec 5) (u : Uses) (defined : Bool) (a : CoreArgs)
    (body : State → Core → CtxId → Effect) (reads : Core → List Nat) (acc : Option Bool) (p : Nat)
    (hs : s.servedBy c.val = some p) (hf : a.finding = { fetch := .corrected }) (hl : (defined && u.legal a) = true) :
    issue major minor u defined c a s body reads acc =
      (body (s.coreFault p 9 1) (s.coreOf c.val) x).apply (s.coreFault p 9 1) c x (assemble major minor a) := by
  obtain ⟨-, running, waiting, -, word, inWindow⟩ := (issues_iff s c x).mp h
  have meets : s.meetsFetch c .corrected = s.coreFault p 9 1 := by simp [State.meetsFetch, hs]
  have fetched (k : Core) : (s.coreFault p 9 1).fetched k = s.fetched k := rfl
  have core : (s.coreFault p 9 1).coreOf c.val = s.coreOf c.val := rfl
  simp [issue, canIssue_of_issues h, running, waiting, word, Nat.not_le.mpr inWindow, hl, hf, meets, fetched, core]

/-- R55: with an uncorrectable word fetched, nothing issues. -/
theorem issue_uncorrectable (major : BitVec 6) (minor : BitVec 5) (u : Uses) (defined : Bool) (a : CoreArgs)
    (body : State → Core → CtxId → Effect) (reads : Core → List Nat) (acc : Option Bool) (p : Nat)
    (hs : s.servedBy c.val = some p) (hf : a.finding.fetch = .uncorrectable) :
    issue major minor u defined c a s body reads acc =
      ((s.coreFault p 6 64).abortOver (fun k => k == c.val / 32) c.val).modCore c.val (fun k =>
        { k with ibufLost := some x }) := by
  obtain ⟨-, running, waiting, -, word, inWindow⟩ := (issues_iff s c x).mp h
  simp [issue, canIssue_of_issues h, running, waiting, Nat.not_le.mpr inWindow, hf, State.losesFetch, hs]

end

/-- R55: a core that has lost a word of its instruction buffer issues nothing. -/
theorem issue_of_ibufLost {s : State} {c : CoreId} {v : CtxId} (hk : (s.coreOf c.val).ibufLost = some v)
    (major : BitVec 6) (minor : BitVec 5) (u : Uses) (defined : Bool) (a : CoreArgs)
    (body : State → Core → CtxId → Effect) (reads : Core → List Nat) (acc : Option Bool) :
    issue major minor u defined c a s body reads acc = s := by
  simp [issue, State.canIssue, hk]

/-! ## Words read (R42, R55, R61) -/

section
variable {s : State} {c : CoreId} {p n : Nat} (f : CoreFinding) (reads : List Nat) (hs : s.servedBy c.val = some p)
  (hat : (s.coreOf c.val).entryAt f.offset.toNat = some n) (hn : n ∈ reads)
include hs

/-- R42: an uncorrectable word of an accumulator poisons it. -/
theorem meetsWords_acc (side : Bool) (hp : f.pocket = .good) (ha : f.acc = true) :
    s.meetsWords c f reads (some side) = (s.coreFault p 7 64).modCore c.val (fun k =>
      k.setAcc side { k.acc side with poison := true }) := by
  simp [State.meetsWords, hs, hp, ha]

include hat hn

/-- R55: a corrected word of the Pocket. -/
theorem meetsWords_corrected (acc : Option Bool) (hp : f.pocket = .corrected) (ha : f.acc = false) :
    s.meetsWords c f reads acc = s.pocketFault p 8 1 f.offset.toNat := by
  have found : ((s.coreOf c.val).entryAt f.offset.toNat).filter reads.contains = some n := by
    simp [hat, Option.filter, hn]
  simp [State.meetsWords, hs, hp, ha, found]

/-- R42: an uncorrectable word of the Pocket makes its entry POISONED. -/
theorem meetsWords_uncorrectable (acc : Option Bool) (hp : f.pocket = .uncorrectable) (ha : f.acc = false) :
    s.meetsWords c f reads acc =
      (s.pocketFault p 5 64 f.offset.toNat).modEntry c.val n (fun e => { e with state := .poisoned }) := by
  have found : ((s.coreOf c.val).entryAt f.offset.toNat).filter reads.contains = some n := by
    simp [hat, Option.filter, hn]
  simp [State.meetsWords, hs, hp, ha, found]

end

/-! ## Entries that a word has made POISONED -/

@[simp] theorem Core.modEntry_running (k : Core) (n : Nat) (f : Entry → Entry) : (k.modEntry n f).running = k.running := rfl
@[simp] theorem Core.modEntry_waiting (k : Core) (n : Nat) (f : Entry → Entry) : (k.modEntry n f).waiting = k.waiting := rfl
@[simp] theorem Core.modEntry_pc (k : Core) (n : Nat) (f : Entry → Entry) : (k.modEntry n f).pc = k.pc := rfl
@[simp] theorem Core.modEntry_entry (k : Core) (n : Nat) (f : Entry → Entry) : (k.modEntry n f).entry n = f (k.entry n) :=
  tget_tput_same ..
@[simp] theorem Core.addFlags_entry (k : Core) (f : FpFlags) (n : Nat) : (k.addFlags f).entry n = k.entry n := rfl
@[simp] theorem Core.setV_entry (k : Core) (r : BitVec 5) (v : Lanes) (p : Bool) (n : Nat) :
    (k.setV r v p).entry n = k.entry n := rfl
@[simp] theorem Core.addFlags_acc (k : Core) (f : FpFlags) (b : Bool) : (k.addFlags f).acc b = k.acc b := rfl
@[simp] theorem Core.setV_acc (k : Core) (r : BitVec 5) (v : Lanes) (p b : Bool) : (k.setV r v p).acc b = k.acc b := rfl
@[simp] theorem Core.acc_setAcc (k : Core) (b : Bool) (a : Acc) : (k.setAcc b a).acc b = a := by cases b <;> rfl

/-- R74: an entry that its context may read, once its state has changed. -/
theorem Core.entryFor_modEntry {k : Core} {x : CtxId} {n : Nat} (hmine : k.entryFor x n = k.entry n)
    (hres : (k.entry n).state = .resident) (st : EntryState) (hst : st ≠ .empty) :
    (k.modEntry n (fun e => { e with state := st })).entryFor x n = { k.entry n with state := st } := by
  have holder : (k.entry n).holder = x := by
    by_contra hne
    have gone : k.entryFor x n = {} := by simp [Core.entryFor, hres, hne]
    rw [← hmine, gone] at hres
    cases hres
  have entry : (k.modEntry n (fun e => { e with state := st })).entry n = { k.entry n with state := st } :=
    k.modEntry_entry n _
  simp [Core.entryFor, entry, holder]

@[simp] theorem pocketFault_coreOf (s : State) (p bit weight off d : Nat) :
    (s.pocketFault p bit weight off).coreOf d = s.coreOf d := by rw [pocketFault_eq]; rfl

@[simp] theorem State.modEntry_coreOf (s : State) (c n : Nat) (f : Entry → Entry) :
    (s.modEntry c n f).coreOf c = (s.coreOf c).modEntry n f := State.putCore_same ..

@[simp] theorem Core.modEntry_handles (k : Core) (n : Nat) (f : Entry → Entry) :
    (k.modEntry n f).handles = k.handles := rfl

@[simp] theorem Core.modEntry_memOffset (k : Core) (n : Nat) (f : Entry → Entry) (a : CoreArgs) :
    (k.modEntry n f).memOffset a = k.memOffset a := rfl

/-- R69: the fields of VLDR's immediate. -/
theorem rowImm (f : Fmt) (n : Byte) :
    (BitVec.setWidth 32 (f ++ (0 : BitVec 6) ++ n)).toNat % 256 = n.toNat ∧
    (BitVec.setWidth 32 (f ++ (0 : BitVec 6) ++ n)).toNat / 2 ^ 14 = f.toNat := by
  have upper : (f ++ (0 : BitVec 6)).toNat = f.toNat * 64 := by
    rw [BitVec.toNat_append, Nat.shiftLeft_eq]; simp
  rw [toNat_imm_append _ n (by norm_num), upper]
  omega

theorem exec_ld (c : CoreId) (a : CoreArgs) (s : State) : exec (.ld c a) s = execLd c a s := rfl
theorem exec_nop (c : CoreId) (a : CoreArgs) (s : State) : exec (.nop c a) s = execNop c a s := rfl
theorem exec_vldr (c : CoreId) (a : CoreArgs) (s : State) : exec (.vldr c a) s = execVldr c a s := rfl

/-- A byte of an entry as LD without sign gives it. -/
theorem ld_byte (b : Byte) : (BitVec.ofNat (8 * 2 ^ (0 : BitVec 2).toNat) (ofBytesLE [b])).setWidth 64 = b.setWidth 64 := by
  apply BitVec.eq_of_toNat_eq
  simp [ofBytesLE]

section
variable {s : State} {c : CoreId} {x : CtxId} {p : Nat} (h : s.issues c x = true) (hs : s.servedBy c.val = some p)
  {n : Byte} {off : BitVec 18} (hat : (s.coreOf c.val).entryAt off.toNat = some n.toNat)
  (hmine : (s.coreOf c.val).entryFor x n.toNat = (s.coreOf c.val).entry n.toNat)
  (hres : ((s.coreOf c.val).entry n.toNat).state = .resident)
include h hs hat hmine hres

/-- R42, R68: LD of a byte in an entry that the read of an uncorrectable word has made POISONED. -/
theorem ld_uncorrectable (a : CoreArgs) (rd ra : BitVec 5)
    (ha : a = { rd := rd, ra := ra, imm := n.setWidth 32, finding := { pocket := .uncorrectable, offset := off } })
    (hin : (s.coreOf c.val).memOffset a < ((s.coreOf c.val).entry n.toNat).header.storedLen.toNat)
    (hh : (s.coreOf c.val).handles = true) :
    execLd c a s = .next ((s.pocketFault p 5 64 off.toNat).putCore c.val
      (((s.coreOf c.val).modEntry n.toNat (fun e => { e with state := .poisoned })).handling xDATA_ERROR
        (addressInfo n.toNat ((s.coreOf c.val).memOffset a)))) := by
  have entryNo : n.toNat % 256 = n.toNat := Nat.mod_eq_of_lt n.isLt
  have memEntry (k : Core) : k.memEntry a = n.toNat := by simp [Core.memEntry, ha, entryNo]
  have size : memSize a = 1 := by rw [ha]; rfl
  have hf : a.finding = { pocket := .uncorrectable, offset := off } := by rw [ha]
  refine (issue_reads_raise h 0x05 a.opt _ _ a _ (fun k => [k.memEntry a]) none
    ((s.pocketFault p 5 64 off.toNat).modEntry c.val n.toNat (fun e => { e with state := .poisoned })) xDATA_ERROR
    (addressInfo n.toNat ((s.coreOf c.val).memOffset a)) (by rw [hf]) (by simp [Uses.legal, ha]) ?reads
    (by rw [hf]; exact meetsWords_uncorrectable _ _ hs hat (by simp [memEntry]) none rfl rfl) ?faults (by simpa using hh)).trans
    (by simp [State.modEntry, State.modCore])
  case reads => simp [memEntry, hmine, hres, size, Nat.mod_one, Nat.not_lt.mpr hin, Effect.core, Effect.reads]
  case faults =>
    simp [memEntry, Core.entryFor_modEntry hmine hres .poisoned (by decide), size, Nat.mod_one, Nat.not_lt.mpr hin]

/-- R55: LD of a byte whose word is corrected. -/
theorem ld_corrected (a : CoreArgs) (rd ra : BitVec 5)
    (ha : a = { rd := rd, ra := ra, imm := n.setWidth 32, finding := { pocket := .corrected, offset := off } })
    (hin : (s.coreOf c.val).memOffset a < ((s.coreOf c.val).entry n.toNat).header.storedLen.toNat) :
    execLd c a s = (s.pocketFault p 8 1 off.toNat).completes c ((s.coreOf c.val).setS rd (BitVec.setWidth 64
      (tileByte ((s.coreOf c.val).entry n.toNat).bytes ((s.coreOf c.val).memOffset a)))) := by
  have entryNo : n.toNat % 256 = n.toNat := Nat.mod_eq_of_lt n.isLt
  have memEntry (k : Core) : k.memEntry a = n.toNat := by simp [Core.memEntry, ha, entryNo]
  have size : memSize a = 1 := by rw [ha]; rfl
  have hf : a.finding = { pocket := .corrected, offset := off } := by rw [ha]
  refine issue_reads_core h 0x05 a.opt _ _ a _ (fun k => [k.memEntry a]) none (s.pocketFault p 8 1 off.toNat) _ _ (by rw [hf])
    (by simp [Uses.legal, ha]) ?reads
    (by rw [hf]; exact meetsWords_corrected _ _ hs hat (by simp [memEntry]) none rfl rfl) ?loads (by simp) (by simp) (by simp)
  case reads => simp [memEntry, hmine, hres, size, Nat.mod_one, Nat.not_lt.mpr hin, Effect.core, Effect.reads]
  case loads =>
    have noSign : a.opt[0] = false := by simp [ha]
    have target : a.rd = rd := by rw [ha]
    have loaded (b : Byte) : (BitVec.ofNat (8 * memSize a) (ofBytesLE [b])).setWidth 64 = b.setWidth 64 := by
      rw [ha]; exact ld_byte b
    simp [memEntry, hmine, hres, size, Nat.mod_one, Nat.not_lt.mpr hin, noSign, target, loaded]

/-- R42, R69: VLDR of an entry that the read of an uncorrectable word has made POISONED poisons its register. -/
theorem vldr_uncorrectable (a : CoreArgs) (rd ra : BitVec 5) (f : Fmt)
    (ha : a = { rd := rd, ra := ra, imm := (f ++ (0 : BitVec 6) ++ n).setWidth 32,
                finding := { pocket := .uncorrectable, offset := off } })
    (hf : f = ((s.coreOf c.val).entry n.toNat).fmt) (hlt : f.toNat < 0xE) :
    ∃ (t' : State) (k' : Core), execVldr c a s = t'.completes c k' ∧ t'.phys = (s.pocketFault p 5 64 off.toNat).phys ∧
      k'.vpois rd = true ∧ (k'.entry n.toNat).state = .poisoned := by
  obtain ⟨entryNo, format⟩ : a.imm.toNat % 256 = n.toNat ∧ a.imm.toNat / 2 ^ 14 = f.toNat := by
    rw [ha]; exact rowImm f n
  have hfind : a.finding = { pocket := .uncorrectable, offset := off } := by rw [ha]
  have target : a.rd = rd := by rw [ha]
  have rowFormat : rowFmt a = f := by rw [rowFmt, format]; simp
  set k := s.coreOf c.val
  set k₁ := k.modEntry n.toNat (fun e => { e with state := .poisoned })
  set t := (s.pocketFault p 5 64 off.toNat).modEntry c.val n.toNat (fun e => { e with state := .poisoned })
  set e : Entry := { k.entry n.toNat with state := .poisoned }
  have format₁ : e.fmt = f := hf.symm
  have admitted : ¬ (f ≠ e.fmt ∨ 0xE ≤ e.fmt.toNat) := by rw [format₁]; simp [hlt]
  have core : t.coreOf c.val = k₁ := by simp [t, k₁, k]
  have entry : k₁.entryFor x n.toNat = e := Core.entryFor_modEntry hmine hres .poisoned (by decide)
  refine ⟨if e.short then t.useFrees 8192 else t,
    (k₁.putV a rd (Vector.ofFn (fun l => (e.lane t.fresh (k₁.tileRow a) l.val).1)) true).addFlags
      (laneFlags (k₁.laneMask a) (Vector.ofFn (fun l => (e.lane t.fresh (k₁.tileRow a) l.val).2))),
    issue_reads_core h 0x18 0 _ true a _ (fun _ => [a.imm.toNat % 256]) none t _ _ (by rw [hfind])
      (by simp [Uses.legal, ha]) ?reads
      (by rw [hfind]; exact meetsWords_uncorrectable _ _ hs hat (by simp [entryNo]) none rfl rfl) ?loads (by simp [k₁, k])
      (by simp [k₁, k]) (by simp [core]), ?faults, by simp [Core.putV], by simp [Core.putV, k₁]⟩
  case reads =>
    simp [k, entryNo, hmine, hres, rowFormat, ← hf, Nat.not_le.mpr hlt, Effect.core, Effect.reads]
  case loads =>
    simp [core, entryNo, entry, rowFormat, format₁, Nat.not_le.mpr hlt, target, e, Vector.map_ofFn, Function.comp_def]
  case faults => split <;> rfl

end

/-- R42: VACCR of an accumulator with an uncorrectable word poisons the accumulator and the register. -/
theorem vaccr_uncorrectable {s : State} {c : CoreId} {x : CtxId} {p : Nat} (h : s.issues c x = true)
    (hs : s.servedBy c.val = some p) (rd : BitVec 5) (side : Bool) (r : BitVec 6) (a : CoreArgs)
    (ha : a = { rd := rd, imm := (BitVec.ofBool side ++ r).setWidth 32, finding := { acc := true } })
    (hidle : ((s.coreOf c.val).acc side).inFlight = 0) :
    ∃ k' : Core, execVaccr c a s = (s.coreFault p 7 64).completes c k' ∧
      k'.vpois rd = true ∧ (k'.acc side).poison = true := by
  have hside : a.imm.getLsbD 6 = side := by
    rw [ha, BitVec.getLsbD_setWidth, BitVec.getLsbD_append]; cases side <;> simp
  have hf : a.finding = { acc := true } := by rw [ha]
  set k₁ := (s.coreOf c.val).setAcc side { (s.coreOf c.val).acc side with poison := true }
  set t := (s.coreFault p 7 64).modCore c.val (fun k => k.setAcc side { k.acc side with poison := true })
  have core : t.coreOf c.val = k₁ := State.putCore_same ..
  have poisoned : (k₁.acc side).poison = true := by simp [k₁]
  have idle : (k₁.acc side).inFlight = 0 := by simp [k₁, hidle]
  refine ⟨k₁.putV a rd ((k₁.acc side).row (a.imm.toNat % 64)) true, ?completes, by simp [Core.putV],
    by simp [Core.putV, poisoned]⟩
  case completes =>
    refine (issue_reads_core h 0x17 0 _ true a _ (fun _ => []) (some (a.imm.getLsbD 6)) t t
      (k₁.putV a rd ((k₁.acc side).row (a.imm.toNat % 64)) true) (by rw [hf]) (by simp [Uses.legal, ha]) ?reads
      (by rw [hf, hside]; exact meetsWords_acc _ _ hs side rfl rfl) ?effect (by simp [k₁]) (by simp [k₁])
      (by simp [core])).trans (by simp [State.completes, t, State.modCore])
    case reads => simp only [hside, hidle]; rfl
    case effect => 
      have target : a.rd = rd := by rw [ha]
      simp only [core, hside, idle, poisoned, target, ne_eq, not_true_eq_false, if_false]

/-! ## NOP under the codes of the instruction buffer (R55) -/

theorem nop_corrected {s : State} {c : CoreId} {x : CtxId} {p : Nat} (h : s.issues c x = true)
    (hs : s.servedBy c.val = some p) :
    execNop c { finding := { fetch := .corrected } } s = (s.coreFault p 9 1).completes c (s.coreOf c.val) := by
  obtain ⟨-, running, waiting, -⟩ := (issues_iff s c x).mp h
  refine (congrArg Host.Outcome.next (issue_corrected h 0x3D 0 {} true _ _ (fun _ => []) none p hs rfl
    (by simp [Uses.legal]))).trans ?_
  have core : (s.coreFault p 9 1).coreOf c.val = s.coreOf c.val := rfl
  simp [Effect.apply, State.retire, State.modCore, State.completes, core, running, waiting]

/-- R84, R86: WAIT_TIMEOUT changes the core, and gives up its place among the waiters and its open draw. -/
theorem waitTimeout_frame {s : State} {c : CoreId} {x : CtxId} {w : Waiting} (hc : s.coreClocked c.val = true)
    (hr : (s.coreOf c.val).running = some x) (hw : (s.coreOf c.val).waiting = some w) (ht : w.timed = true)
    (hm : s.waitMet c (s.coreOf c.val) x w = false) (hh : (s.coreOf c.val).handles = true) :
    ∃ t, execWaitTimeout c s = .next t ∧ t.coreOf c.val = (s.coreOf c.val).handling 5
        (BitVec.ofNat 64 (w.word.toNat / 2 ^ 58 + w.info.toNat * 65536)) ∧
      t = { s with cores := t.cores, clusters := t.clusters, requests := t.requests } := by
  refine ⟨_, congrArg Host.Outcome.next (waitTimesOut_of_unmet hc hr hw ht hm hh), State.putCore_same .., ?frame⟩
  case frame => rw [reopenSequence_frame, leaveWaiters_frame]; rfl

/-- Settles O27: the events of waits and heartbeats by their own lemmas, the codes by `issue_reads`. -/
theorem coreHealthEvents : Obligations.CoreHealthEvents := by
  unfold Obligations.CoreHealthEvents
  intro s c x p unit seq w k h bit struck dead
  refine ⟨?met, ?unmet, ?serving, ?lost, ?codes⟩
  case met =>
    intro hr hw hm
    rw [exec_waitTimeout, execWaitTimeout, waitTimesOut_of_met hr hw hm]
  case unmet => exact fun hc hr hw ht hm hh => waitTimeout_frame hc hr hw ht hm hh
  case serving =>
    intro hclocked
    have declares {v : State} {d : CoreId} (b : Nat) (hv : v.physOf p.val = h) (hd : v.serves p.val = some d.val) :
        Host.Outcome.next (v.declareDead p.val b) = dead v b d := by
      rw [declareDead_eq b hd, hv]; rfl
    refine ⟨?spare, ?serves⟩
    case spare =>
      intro hspare
      rw [exec_residueError, execResidueError, hclocked, hspare]
      simp [coreFault_eq, State.modPhys, Phys.struck, struck, bit, h]
    case serves =>
      intro d hd
      have hserving := physServing_of_physClocked hd hclocked
      refine ⟨?residue, ?beats⟩
      case residue =>
        rw [exec_residueError, execResidueError, hclocked, hd]
        exact declares _ rfl hd
      case beats =>
        intro fc node lost good m waits
        refine ⟨?sends, ?absent, ?inOrder, ?outOfOrder, ?third⟩
        case sends =>
          intro hm
          exact ⟨_, heartbeat_waits hd hserving good hm, by simp [h, State.threadWait],
            by simp [State.threadWait, ThreadNode.wait, ThreadBody.urgent, node, fc, h],
            by simp [State.threadWait, ThreadNode.wait, ThreadBody.urgent, node], rfl⟩
        case absent => exact fun hw => heartbeatReceived_absent hd seq good hw
        case inOrder =>
          intro hw hgood horder
          rw [exec_heartbeatReceived, heartbeatReceived_taken hd hserving seq good m rfl hw]
          exact if_pos (by simpa [hgood] using horder)
        case outOfOrder =>
          intro hw hbad
          rw [exec_heartbeatReceived, heartbeatReceived_taken hd hserving seq good m rfl hw]
          have hbad' : ¬ (good && (!h.hbSeen || seq == h.hbSeq + 1)) = true := by
            obtain hbad | ⟨hseen, hseq⟩ := hbad
            · simp [hbad]
            · simpa [hseen] using fun _ => hseq
          exact (if_neg hbad').trans (declares 4 rfl hd)
        case third =>
          intro hm
          rw [exec_heartbeatLost, heartbeatLost_third hd hserving hm]
          have again (v : Phys) : (lost (s.putPhys p.val h)).putPhys p.val v = (lost s).putPhys p.val v := by
            simp [lost, State.threadPass, State.putPhys, State.putThreadNode, State.threadNode]
          refine (declares (v := lost (s.putPhys p.val h)) 4 (by simp [lost, State.threadPass]) hd).trans ?_
          simp only [dead, again]
  case lost =>
    intro v a hv
    exact congrArg Host.Outcome.next (issue_of_ibufLost hv ..)
  case codes =>
    intro hs h rd ra n f off met banked
    have meets (b w : Nat) : met b w = s.coreFault p.val b w := rfl
    have banks (b w : Nat) : banked b w = s.pocketFault p.val b w off.toNat := (pocketFault_eq ..).symm
    refine ⟨?corrected, ?uncorrectable, ?pocket, ?accumulator⟩
    case corrected => exact nop_corrected h hs
    case uncorrectable => 
      exact congrArg Host.Outcome.next (issue_uncorrectable h _ _ _ _ _ _ _ _ p.val hs rfl)
    case pocket =>
      intro hat hmine hres
      refine ⟨?loadPoisons, ?loadCorrected, ?rowPoisons⟩
      case loadPoisons =>
        intro ld at_ hin hh
        rw [banks]
        exact ld_uncorrectable h hs hat hmine hres ld rd ra rfl hin hh
      case loadCorrected =>
        intro ld hin
        rw [banks]
        exact ld_corrected h hs hat hmine hres ld rd ra rfl hin
      case rowPoisons =>
        intro row hf hlt
        obtain ⟨t, k', hexec, hphys, hreg, hentry⟩ := vldr_uncorrectable h hs hat hmine hres row rd ra f rfl hf hlt
        refine ⟨_, hexec, ?_, ?_, ?_⟩
        · rw [State.putCore_same]; exact hreg
        · rw [State.putCore_same]; exact hentry
        · have fault : t.physOf p.val = (s.pocketFault p.val 5 64 off.toNat).physOf p.val := by
            simp only [State.physOf, hphys]
          simp [fault, pocketFault_eq, Phys.struck]
    case accumulator =>
      intro side r hidle rdAcc
      obtain ⟨k', hexec, hreg, hacc⟩ := vaccr_uncorrectable h hs rd side r rdAcc rfl hidle
      refine ⟨_, hexec, ?_, ?_, ?_⟩
      · rw [State.putCore_same]; exact hreg
      · rw [State.putCore_same]; exact hacc
      · simp [coreFault_eq, Phys.struck]

end Sys2Proof.Machine
end

section
/-! PROOFS. What an abort, an event, a completion and a repair leave of the cores under test: their physical state, the
cores that RESTORE has sent to test, and the parts that await the planner (R29, R55, R472 to R475). -/

set_option linter.unusedVariables false

namespace Sys2Proof.Machine

open Sys2Proof

/-- The state of the cores that Darning and the slices decide on. -/
def State.testView (s : State) : Table Phys × List Nat × List Part := (s.phys, s.darn.restoring, s.darn.pendingParts)

@[simp] theorem testView_ite (c : Prop) [Decidable c] (s t : State) :
    (if c then s else t).testView = if c then s.testView else t.testView := apply_ite State.testView c s t

theorem testView_each {β : Type} (l : List β) (f : State → β → State) (h : ∀ s b, (f s b).testView = s.testView)
    (s : State) : (s.each l f).testView = s.testView := by
  induction l generalizing s with
  | nil => rfl
  | cons b l ih => exact (ih (f s b)).trans (h s b)

/-! ## Accessors

Stated with `(rfl)`, so that simp rewrites with them and can discharge the premise of `testView_each`. -/

@[simp] theorem testView_putCore (s : State) (c : Nat) (k : Core) : (s.putCore c k).testView = s.testView := (rfl)
@[simp] theorem testView_modCore (s : State) (c : Nat) (f : Core → Core) : (s.modCore c f).testView = s.testView := (rfl)
@[simp] theorem testView_modCluster (s : State) (k : Nat) (f : Cluster → Cluster) :
    (s.modCluster k f).testView = s.testView := (rfl)
@[simp] theorem testView_putTile (s : State) (h : Nat) (t : Tile) : (s.putTile h t).testView = s.testView := (rfl)
@[simp] theorem testView_modTile (s : State) (h : Nat) (f : Tile → Tile) : (s.modTile h f).testView = s.testView := (rfl)
@[simp] theorem testView_modField (s : State) (n : Nat) (f : Field → Field) : (s.modField n f).testView = s.testView := (rfl)
@[simp] theorem testView_putRegion (s : State) (r : Nat) (g : Region) : (s.putRegion r g).testView = s.testView := (rfl)
@[simp] theorem testView_modRegion (s : State) (r : Nat) (f : Region → Region) :
    (s.modRegion r f).testView = s.testView := (rfl)
@[simp] theorem testView_putPeg (s : State) (g : Nat) (p : Peg) : (s.putPeg g p).testView = s.testView := (rfl)
@[simp] theorem testView_modPeg (s : State) (g : Nat) (f : Peg → Peg) : (s.modPeg g f).testView = s.testView := (rfl)
@[simp] theorem testView_putCtx (s : State) (x : Nat) (c : Ctx) : (s.putCtx x c).testView = s.testView := (rfl)
@[simp] theorem testView_modCtx (s : State) (x : Nat) (f : Ctx → Ctx) : (s.modCtx x f).testView = s.testView := (rfl)
@[simp] theorem testView_modStack (s : State) (h : Nat) (f : Stack → Stack) :
    (s.modStack h f).testView = s.testView := (rfl)
@[simp] theorem testView_putSlot (s : State) (k n : Nat) (v : StreamSlot) : (s.putSlot k n v).testView = s.testView := (rfl)
@[simp] theorem testView_threadPass (s : State) (a b : W16) (m : ThreadBody) :
    (s.threadPass a b m).testView = s.testView := (rfl)

/-! ## Events, counters and messages -/

@[simp] theorem testView_deliverEvent (s : State) (c : EventClass) (e : EventRec) (n : Nat) :
    (s.deliverEvent c e n).testView = s.testView := (rfl)

@[simp] theorem testView_sendEvents (f n : Nat) (s : State) : (s.sendEvents f n).testView = s.testView := by
  induction n generalizing s with
  | zero => rfl
  | succ n ih =>
    unfold State.sendEvents
    dsimp only
    split
    · rfl
    · exact ih _

@[simp] theorem testView_raise (s : State) (c : EventClass) (r p : Nat) (src : Source) (x : Option Nat) (d : List W64) :
    (s.raise c r p src x d).testView = s.testView := by
  unfold State.raise
  cases src.field? with
  | none => rfl
  | some f => exact testView_sendEvents _ _ _

@[simp] theorem testView_bump (s : State) (a o n : Nat) : (s.bump a o n).testView = s.testView := by
  unfold State.bump
  dsimp only
  split
  · exact testView_raise _ _ _ _ _ _ _
  · rfl

@[simp] theorem testView_engineBump (s : State) (k i n : Nat) : (s.engineBump k i n).testView = s.testView :=
  testView_bump _ _ _ _
@[simp] theorem testView_routerBump (s : State) (k i n : Nat) : (s.routerBump k i n).testView = s.testView :=
  testView_bump _ _ _ _
@[simp] theorem testView_linkBump (s : State) (u k n : Nat) : (s.linkBump u k n).testView = s.testView :=
  testView_bump _ _ _ _
@[simp] theorem testView_treeBump (s : State) (x k n : Nat) : (s.treeBump x k n).testView = s.testView :=
  testView_bump _ _ _ _

@[simp] theorem testView_transmit (s : State) (u : Nat) (j : W16) (m : OutMsg) : (s.transmit u j m).testView = s.testView := (rfl)

@[simp] theorem testView_send (s : State) (x u : Nat) (m : OutMsg) : (s.send x u m).testView = s.testView := by
  simp [State.send]

@[simp] theorem testView_sendDown (s : State) (x : Nat) (r : TreeRec) (m : OutMsg) :
    (s.sendDown x r m).testView = s.testView := by
  simp [State.sendDown, testView_each]

@[simp] theorem testView_sendUp (s : State) (x : Nat) (r : TreeRec) (m : OutMsg) :
    (s.sendUp x r m).testView = s.testView := by
  simp [State.sendUp]

/-! ## Completions -/

@[simp] theorem testView_complete (s : State) (h : Hdr) (st : Byte) (d : W32) (nan : Bool) (r : List W64) :
    (s.complete h st d nan r).testView = s.testView := by
  unfold State.complete
  dsimp only
  split <;> rfl

@[simp] theorem testView_completeSome (s : State) (h : Option Hdr) (st : Byte) :
    (s.completeSome h st).testView = s.testView := by
  cases h with
  | none => rfl
  | some h => exact testView_complete _ _ _ _ _ _

@[simp] theorem testView_completeBegin (s : State) (x : Nat) (code cause : Byte) (node : W16) (nan : Bool) :
    (s.completeBegin x code cause node nan).testView = s.testView := by
  unfold State.completeBegin
  dsimp only
  cases (s.ctxOf x).beginCmd with
  | none => rfl
  | some h => simp

/-! ## Streams -/

@[simp] theorem testView_postPegs (s : State) (g x k n : Nat) : (s.postPegs g x k n).testView = s.testView := by
  simp [State.postPegs, State.postPeg, testView_each]

@[simp] theorem testView_poisonTile (s : State) (key : Nat) : (s.poisonTile key).testView = s.testView := by
  unfold State.poisonTile
  dsimp only
  split <;> rfl

@[simp] theorem testView_releaseReserved (s : State) (k : ClusterId) (c n : Nat) (e : BitVec 7) :
    (s.releaseReserved k c n e).testView = s.testView := (rfl)

@[simp] theorem testView_releaseLast (s : State) (k : ClusterId) (n : Nat) (e : BitVec 7) (c : CoreId) (x : CtxId)
    (b d : Bool) : (s.releaseLast k n e c x b d).testView = s.testView := by
  simp [State.releaseLast]

@[simp] theorem testView_dropPoints (s : State) (k : ClusterId) (n : Nat) (m : Stream) :
    (s.dropPoints k n m).testView = s.testView := by
  simp [State.dropPoints, testView_each]

@[simp] theorem testView_modStream (s : State) (k n : Nat) (f : Stream → Stream) :
    (s.modStream k n f).testView = s.testView := by
  unfold State.modStream
  dsimp only
  split <;> rfl

@[simp] theorem testView_unlockAll (s : State) (k : ClusterId) (n : Nat) : (s.unlockAll k n).testView = s.testView := (rfl)

@[simp] theorem testView_finishStream (s : State) (k : ClusterId) (n : Nat) (e : BitVec 7) (st : Byte) :
    (s.finishStream k n e st).testView = s.testView := by
  unfold State.finishStream
  dsimp only
  cases (s.slotAt k n).stream with
  | none => rfl
  | some m => simp

@[simp] theorem testView_cancelStream (s : State) (k : ClusterId) (n : Nat) :
    (s.cancelStream k n).testView = s.testView := by
  unfold State.cancelStream
  dsimp only
  cases (s.slotAt k n).stream with
  | none => rfl
  | some m => simp

@[simp] theorem testView_cancelStreams (s : State) (p : Nat → Stream → Bool) :
    (s.cancelStreams p).testView = s.testView := by
  refine testView_each _ _ (fun s e => ?_) _
  split
  · refine testView_each _ _ (fun s v => ?_) _
    cases v.2.stream with
    | none => rfl
    | some m => simp
  · rfl

@[simp] theorem testView_freeSlots (s : State) (x : CtxId) : (s.freeSlots x).testView = s.testView := (rfl)

/-! ## Cores and what a context holds -/

@[simp] theorem testView_startNext (s : State) (c x : Nat) : (s.startNext c x).testView = s.testView := by
  unfold State.startNext
  dsimp only
  split
  · rfl
  · split <;> rfl

@[simp] theorem testView_discardHomes (s : State) (c : Nat) (x : CtxId) : (s.discardHomes c x).testView = s.testView := (rfl)

@[simp] theorem testView_leaveWaiters (s : State) (c x : Nat) : (s.leaveWaiters c x).testView = s.testView := (rfl)

@[simp] theorem testView_stopCores (s : State) (x : CtxId) : (s.stopCores x).testView = s.testView := by
  simp [State.stopCores, State.stopCore, testView_each]

@[simp] theorem testView_endReadImages (s : State) (x : CtxId) : (s.endReadImages x).testView = s.testView := by
  simp [State.endReadImages, testView_each]

@[simp] theorem testView_abortSequencers (s : State) (x : Nat) : (s.abortSequencers x).testView = s.testView := by
  simp [State.abortSequencers, testView_each]

@[simp] theorem testView_dischargeBasket (s : State) (k x n : Nat) :
    (s.dischargeBasket k x n).testView = s.testView := (rfl)

@[simp] theorem testView_dropTreePasses (s : State) (x : CtxId) : (s.dropTreePasses x).testView = s.testView := by
  simp [State.dropTreePasses, testView_each]

@[simp] theorem testView_resetPegs (s : State) (x : Nat) : (s.resetPegs x).testView = s.testView := by
  simp [State.resetPegs, testView_each]

@[simp] theorem testView_freeTubs (s : State) (x : CtxId) : (s.freeTubs x).testView = s.testView := by
  simp [State.freeTubs, testView_each]

@[simp] theorem testView_dropSequences (s : State) (x : Nat) : (s.dropSequences x).testView = s.testView := by
  refine testView_each _ _ (fun s r => ?_) _
  dsimp only
  split
  · split <;> rfl
  · rfl

@[simp] theorem testView_freeTiles (s : State) (x : Nat) (keys : List Nat) :
    (s.freeTiles x keys).testView = s.testView := by
  unfold State.freeTiles
  apply testView_each
  intro s key
  extract_lets t len u v
  have hu : u.testView = s.testView := by
    unfold u
    cases t.declHome with
    | pocket c e => exact (rfl)
    | hamper h q => exact (rfl)
    | basket k => exact (rfl)
    | lost => cases t.declared <;> exact (rfl)
  have hv : v.testView = u.testView := by
    unfold v
    split <;> exact (rfl)
  exact hv.trans hu
/-! ## Steps, fills and the abort of a context -/

@[simp] theorem testView_closeStep (s : State) (x : CtxId) (code : Fin 6) : (s.closeStep x code).testView = s.testView := by
  simp [State.closeStep]

@[simp] theorem testView_closeBatch (s : State) (x : CtxId) : (s.closeBatch x).testView = s.testView := by
  simp [State.closeBatch]

@[simp] theorem testView_decideAs (s : State) (x : CtxId) (code : Fin 6) (cause : Byte) (node : W16) :
    (s.decideAs x code cause node).testView = s.testView := by
  unfold State.decideAs
  dsimp only
  split <;> simp

@[simp] theorem testView_decideStep (s : State) (x : CtxId) (t : Trigger) : (s.decideStep x t).testView = s.testView := by
  cases t with
  | done nan => cases nan <;> simp [State.decideStep]
  | report cause node => simp [State.decideStep]
  | timeout => simp [State.decideStep]

@[simp] theorem testView_report (s : State) (x : CtxId) (cause : Byte) (d : List Byte) :
    (s.report x cause d).testView = s.testView := by
  unfold State.report
  dsimp only
  split
  · rfl
  · split
    · simp
    · split <;> simp

@[simp] theorem testView_setMark (s : State) (x : CtxId) (k : Mark) (d : List Byte) :
    (s.setMark x k d).testView = s.testView := by
  simp [State.setMark]

@[simp] theorem testView_endBind (s : State) (x : Nat) (st : Byte) : (s.endBind x st).testView = s.testView := by
  simp [State.endBind]

@[simp] theorem testView_abortFills (s : State) (x : Nat) : (s.abortFills x).testView = s.testView := by
  simp [State.abortFills]

@[simp] theorem testView_stopInstall (s : State) (x : CtxId) : (s.stopInstall x).testView = s.testView := (rfl)

@[simp] theorem testView_abortCommands (s : State) (x : Nat) : (s.abortCommands x).testView = s.testView := by
  simp [State.abortCommands, testView_each]

/-- R29: an abort changes no core's health and no plan. -/
@[simp] theorem testView_abortContext (s : State) (x : CtxId) (d : List Byte) :
    (s.abortContext x d).testView = s.testView := by
  simp [State.abortContext, testView_each]

@[simp] theorem testView_abortOver (s : State) (p : Nat → Bool) (c : Nat) : (s.abortOver p c).testView = s.testView := by
  simp [State.abortOver, testView_each]

@[simp] theorem testView_autoDrain (s : State) : s.autoDrain.testView = s.testView := by
  unfold State.autoDrain
  split <;> rfl

/-! ## Slices, repairs and stacks -/

@[simp] theorem testView_setMainPath (s : State) (k : Nat) (ok : Bool) : (s.setMainPath k ok).testView = s.testView := by
  simp only [State.setMainPath, testView_ite, testView_raise]
  exact ite_self _

@[simp] theorem testView_resetCore (s : State) (c : Nat) : (s.resetCore c).testView = s.testView := (rfl)

@[simp] theorem testView_noteSlice (s : State) (k : Nat) (kind : SliceKind) : (s.noteSlice k kind).testView = s.testView := (rfl)

@[simp] theorem testView_sliceDone (s : State) (f : Nat) (pass : Bool) : (s.sliceDone f pass).testView = s.testView := (rfl)

@[simp] theorem testView_record (s : State) (p : Part) (host : Bool) (score : W16) :
    (s.record p host score).testView = s.testView := by
  unfold State.record
  split
  · rfl
  · split
    · rfl
    · exact testView_raise _ _ _ _ _ _ _

@[simp] theorem testView_noteSpare (s : State) (src : Source) (d : List W64) : (s.noteSpare src d).testView = s.testView :=
  testView_raise _ _ _ _ _ _ _

@[simp] theorem testView_noteRetired (s : State) (src : Source) (d : List W64) :
    (s.noteRetired src d).testView = s.testView := testView_raise _ _ _ _ _ _ _

@[simp] theorem testView_staleRegions (s : State) (cause : StaleCause) (p : Nat → Bool) :
    (s.staleRegions cause p).testView = s.testView := by
  simp [State.staleRegions, testView_each]

@[simp] theorem testView_retireRow (s : State) (row : Nat) (host : Bool) : (s.retireRow row host).testView = s.testView := by
  simp [State.retireRow, testView_each]

theorem testView_moveOff (s : State) (key : Nat) (fits : Bool) : (s.moveOff key fits).1.testView = s.testView := by
  unfold State.moveOff
  dsimp only
  split
  · rfl
  · simp

/-- R211: one tile of a retired pair is moved, where what is placed beyond the room left allows it. -/
def movePlace (r : State × Nat × Bool) (key : Nat) : State × Nat × Bool :=
  let len := reservation (r.1.tileOf key).fmt
  let m := r.1.moveOff key (r.2.1 == 0)
  (m.1, if r.2.1 = 0 then 0 else r.2.1 - len, r.2.2 && m.2)

@[simp] theorem testView_emptyPair (s : State) (h q : Nat) : (s.emptyPair h q).testView = s.testView := by
  have placed (keys : List Nat) (r : State × Nat × Bool) : (keys.foldl movePlace r).1.testView = r.1.testView := by
    induction keys generalizing r with
    | nil => rfl
    | cons key keys ih => exact (ih _).trans (testView_moveOff _ _ _)
  unfold State.emptyPair
  dsimp only
  split
  · exact placed _ _
  · exact (testView_raise _ _ _ _ _ _ _).trans (placed _ _)

@[simp] theorem testView_repairStack (s : State) (h : Nat) : (s.repairStack h).testView = s.testView := by
  simp [State.repairStack, testView_each]

@[simp] theorem testView_resolveStacks (s : State) (l : List StackId) : (s.resolveStacks l).testView = s.testView := by
  simp [State.resolveStacks, testView_each]

@[simp] theorem testView_addRequest (s : State) (k : RequestKind) : (s.addRequest k).testView = s.testView := (rfl)

end Sys2Proof.Machine
end

section
/-! PROOFS. What Darning in DRAIN does to one core (R56, R472 to R475, R480): a core that no slice fails keeps its state
through the repairs of the others, and one that is FAILED stays so unless RESTORE has sent it to test. -/

set_option linter.unusedVariables false

namespace Sys2Proof.Machine

open Sys2Proof

/-- Whether a core is in use, and whether its clock runs. -/
def Phys.use (h : Phys) : CoreHealth × Bool := (h.health, h.clockStopped)

/-- A part of Darning after which core p is as before, or was under RESTORE and is good, or is FAILED as one of the cores
that may fail; the parts that join the plan are cores that may fail. -/
structure Darns (may : Nat → Prop) (p : Nat) (s t : State) : Prop where
  core : (t.physOf p).use = (s.physOf p).use ∨ (p ∈ s.darn.restoring ∧ (t.physOf p).use = (.good, false)) ∨
    (may p ∧ (t.physOf p).health = .failed)
  restoring : ∀ q ∈ t.darn.restoring, q ∈ s.darn.restoring
  parts : ∀ a ∈ t.darn.pendingParts, a ∈ s.darn.pendingParts ∨ ∃ n < 57600, may n ∧ a = corePart n

namespace Darns

variable {may : Nat → Prop} {p : Nat} {s t u : State}

theorem of_testView (h : t.testView = s.testView) : Darns may p s t := by
  obtain ⟨phys, restoring, parts⟩ : t.phys = s.phys ∧ t.darn.restoring = s.darn.restoring ∧
      t.darn.pendingParts = s.darn.pendingParts := by
    simpa [State.testView] using h
  exact ⟨.inl (by simp [State.physOf, phys]), by simp [restoring], fun a h => .inl (parts ▸ h)⟩

theorem refl (s : State) : Darns may p s s := of_testView rfl

theorem trans (h : Darns may p s t) (g : Darns may p t u) : Darns may p s u where
  core := by
    rcases g.core with same | ⟨sent, good⟩ | failed
    · rcases h.core with before | ⟨sent, good⟩ | ⟨may, failed⟩
      · exact .inl (same.trans before)
      · exact .inr (.inl ⟨sent, same.trans good⟩)
      · exact .inr (.inr ⟨may, (congrArg Prod.fst same).trans failed⟩)
    · exact .inr (.inl ⟨h.restoring _ sent, good⟩)
    · exact .inr (.inr failed)
  restoring := fun q hq => h.restoring q (g.restoring q hq)
  parts := fun a ha => (g.parts a ha).elim (h.parts a) .inr

theorem each {β : Type} {l : List β} {f : State → β → State} (h : ∀ s, ∀ b ∈ l, Darns may p s (f s b)) (s : State) :
    Darns may p s (s.each l f) := by
  induction l generalizing s with
  | nil => exact refl s
  | cons b l ih =>
    have head : Darns may p s (f s b) := h s b List.mem_cons_self
    exact head.trans (ih (fun s c hc => h s c (List.mem_cons_of_mem b hc)) (f s b))

/-- A core that is good and clocked stays so, unless it may fail. -/
theorem good (h : Darns may p s t) (hm : ¬ may p) (hs : (s.physOf p).use = (.good, false)) :
    (t.physOf p).use = (.good, false) := by
  rcases h.core with same | ⟨_, good⟩ | ⟨hp, _⟩
  · exact same.trans hs
  · exact good
  · exact absurd hp hm

/-- A FAILED core stays FAILED, unless RESTORE has sent it to test. -/
theorem failed (h : Darns may p s t) (hr : p ∉ s.darn.restoring) (hs : (s.physOf p).health = .failed) :
    (t.physOf p).health = .failed := by
  rcases h.core with same | ⟨sent, _⟩ | ⟨_, failed⟩
  · exact (congrArg Prod.fst same).trans hs
  · exact absurd sent hr
  · exact failed

end Darns

/-! ## The steps of a repair -/

section
variable {may : Nat → Prop} {p : Nat}

theorem darns_modPhys (s : State) (q : Nat) (f : Phys → Phys)
    (h : q = p → (f (s.physOf q)).use = (s.physOf q).use ∨ (q ∈ s.darn.restoring ∧ (f (s.physOf q)).use = (.good, false)) ∨
      (may q ∧ (f (s.physOf q)).health = .failed)) : Darns may p s (s.modPhys q f) := by
  refine ⟨?_, fun _ h => h, fun _ h => .inl h⟩
  by_cases hq : q = p
  · subst hq
    simpa [State.modPhys] using h rfl
  · exact .inl (by simp [State.modPhys, Ne.symm hq])

theorem darns_scorePhys (s : State) (q n : Nat) : Darns may p s (s.scorePhys q n) :=
  darns_modPhys s q _ (fun _ => .inl rfl)

theorem darns_failSlice (s : State) (q : Nat) : Darns may p s (s.failSlice q) := darns_scorePhys s q _

theorem darns_failPhys (s : State) {q : Nat} (h : may q) : Darns may p s (s.failPhys q) :=
  darns_modPhys s q _ (fun _ => .inr (.inr ⟨h, rfl⟩))

theorem darns_startBeats (s : State) (q : Nat) : Darns may p s (s.startBeats q) :=
  (darns_modPhys s q (fun k => { k with hbNext := 0, hbSeen := false, hbMissed := 0 }) (fun _ => .inl rfl)).trans
    (.of_testView rfl)

theorem darns_beginServing (s : State) (c : Nat) : Darns may p s (s.beginServing c) := by
  unfold State.beginServing
  cases s.servedBy c with
  | none => exact .refl s
  | some q => exact darns_startBeats s q

theorem darns_suspectCore (s : State) {q : Nat} (h : q ≠ p) : Darns may p s (s.suspectCore q) := by
  refine (darns_modPhys s q (fun k => { k with health := .suspect, clockStopped := true }) (absurd · h)).trans
    (.of_testView ?_)
  unfold State.suspectCore
  dsimp only
  split
  · rfl
  · simp

theorem darns_joinPlan (s : State) {q : Nat} (h : may q) (hq : q < 57600) : Darns may p s (s.joinPlan q) := by
  refine ⟨.inl rfl, fun _ h => h, fun a ha => ?_⟩
  rcases List.mem_append.mp ha with before | new
  · exact .inl before
  · exact .inr ⟨q, hq, h, List.mem_singleton.mp new⟩

/-- R475: the cores that RESTORE sent to test become good. -/
theorem darns_bringBack (s : State) (l : List Nat) (hl : ∀ q ∈ l, q ∈ s.darn.restoring) :
    Darns may p s (s.each l (fun s q => s.modPhys q (fun v => { v with health := .good, clockStopped := false }))) := by
  induction l generalizing s with
  | nil => exact .refl s
  | cons q l ih =>
    have sent := hl q List.mem_cons_self
    exact (darns_modPhys s q _ (fun _ => .inr (.inl ⟨sent, rfl⟩))).trans (ih _ (fun r hr => hl r (List.mem_cons_of_mem q hr)))

theorem darns_endRestoring (s : State) (k : Nat) (bad : List Nat) : Darns may p s (s.endRestoring k bad) := by
  have sent : ∀ q ∈ (s.restoringOf k).filter (fun q => !bad.contains q), q ∈ s.darn.restoring := fun q hq =>
    List.mem_of_mem_filter (List.mem_of_mem_filter hq)
  refine (darns_bringBack s _ sent).trans ⟨.inl rfl, fun q hq => List.mem_of_mem_filter hq, fun _ h => .inl h⟩

theorem darns_leaveCluster (s : State) (k : Nat) : Darns may p s (s.leaveCluster k) := by
  refine (Darns.each (fun s c _ => ?_) s).trans (.of_testView (testView_modCluster _ _ _))
  exact (Darns.of_testView (by simp)).trans (darns_beginServing _ _)

/-! ## Repairs of cores (R473, R480) -/

theorem darns_endSpare (s : State) (k : Nat) (o : SliceOutcome) (h : ∀ i ∈ o.failedCores, may (36 * k + i.val)) :
    Darns may p s (s.endSpare k o) := by
  have bad : ∀ q ∈ SliceOutcome_bad o k (s.spareTests k), may q := by
    intro q hq
    obtain ⟨i, hi, rfl⟩ : ∃ i ∈ o.failedCores, 36 * k + i.val = q := by
      simpa using (List.mem_filter.mp hq).2
    exact h i hi
  have ended (t : State) (b : Prop) [Decidable b] (pass : Bool) (f : Field → Field) :
      Darns may p t ((if b then t.modField (k / 16) f else t).sliceDone (k / 16) pass) := .of_testView (by simp)
  unfold State.endSpare
  refine (Darns.trans (Darns.each (fun s q hq => ?_) s) (darns_endRestoring _ k _)).trans (ended _ _ _ _)
  exact (darns_failSlice s q).trans (darns_failPhys _ (bad q hq))

theorem darns_freshSpare (s : State) (failed : List PhysId) (a : Part) (h : ∀ q ∈ failed, may q.val) :
    Darns may p s (s.freshSpare failed a) := by
  unfold State.freshSpare
  dsimp only
  split
  · exact .refl s
  · refine (Darns.of_testView (testView_noteSlice _ _ _)).trans (darns_endSpare _ _ _ (fun i hi => ?_))
    obtain ⟨q, hq, hi⟩ : ∃ q ∈ failed, q.val = 36 * (Part_phys a / 36) + i.val := by
      simpa using (List.mem_filter.mp hi).2
    exact hi ▸ h q hq

theorem darns_bringIn (s : State) (row q : Nat) : Darns may p s (s.bringIn row q) := by
  unfold State.bringIn
  dsimp only
  refine Darns.trans ?_ (Darns.each (fun t j _ => ?_) _)
  · exact .of_testView rfl
  · exact (Darns.of_testView (testView_resetCore _ _)).trans (darns_beginServing _ _)

theorem darns_repairCore (s : State) {q : Nat} (host : Bool) (h : may q) : Darns may p s (s.repairCore q host) := by
  have out : Darns may p s ((s.failPhys q).record (corePart q) host (s.physOf q).score) :=
    (darns_failPhys s h).trans (.of_testView (testView_record _ _ _ _))
  unfold State.repairCore
  dsimp only
  split
  · exact out
  · refine out.trans ?_
    split
    · exact .refl _
    · split
      · exact ((Darns.of_testView (testView_resetCore _ _)).trans (darns_beginServing _ _)).trans
          (.of_testView (testView_noteSpare _ _ _))
      · split
        · exact (darns_bringIn _ _ _).trans (.of_testView (testView_noteSpare _ _ _))
        · exact .of_testView (testView_retireRow _ _ _)

theorem Part_phys_corePart {n : Nat} (h : n < 57600) : Part_phys (corePart n) = n := by
  simp only [Part_phys, corePart, BitVec.toNat_ofNat]
  omega

theorem darns_repair_corePart (s : State) {n : Nat} (hn : n < 57600) (host : Bool) (h : may n) :
    Darns may p s (s.repair (corePart n) host) := by
  unfold State.repair
  split
  · exact .refl s
  · have core : Darns may p s (s.repairCore (Part_phys (corePart n)) host) := by
      rw [Part_phys_corePart hn]; exact darns_repairCore s host h
    exact core

theorem darns_endDarning (s : State) : Darns may p s s.endDarning := by
  unfold State.endDarning
  dsimp only
  split <;> exact ⟨.inl rfl, fun _ h => h, fun _ h => nomatch h⟩

/-- R472, R474: the plan of failed cores. -/
theorem darns_plan (s : State) (failed : List PhysId) (hf : ∀ q ∈ failed, may q.val)
    (hs : ∀ a ∈ s.darn.pendingParts, ∃ n < 57600, may n ∧ a = corePart n) : Darns may p s (s.plan failed) := by
  unfold State.plan
  split
  · exact .of_testView rfl
  · refine Darns.trans (Darns.each (fun s a ha => ?_) s) (darns_endDarning _)
    obtain ⟨n, hn, h, rfl⟩ := hs a ha
    exact (darns_freshSpare s failed _ hf).trans (darns_repair_corePart _ hn false h)

/-! ## The slice of a cluster in DRAIN (R472 point 2) -/

theorem darns_failSecond (s : State) {q : Nat} (hp : q ≠ p) (hq : q < 57600) (h : may q) : Darns may p s (s.failSecond q) := by
  unfold State.failSecond
  split
  · exact (((darns_failSlice s q).trans (darns_suspectCore _ hp)).trans (darns_failPhys _ h)).trans (darns_joinPlan _ h hq)
  · exact (darns_failSlice s q).trans (darns_failPhys _ h)

end

end Sys2Proof.Machine
end

section
/-! PROOFS. Slices, Darning in DRAIN and the score snapshot (R59, R461, R472, R474, R476, R480 to R482, R484). -/

set_option linter.unusedVariables false

namespace Sys2Proof.Machine

open Sys2Proof

theorem exec_sliceStart (k : ClusterId) (kind : SliceKind) (s : State) :
    exec (.sliceStart k kind) s = execSliceStart k kind s := rfl
theorem exec_sliceEnd (f : FieldId) (o : SliceOutcome) (s : State) : exec (.sliceEnd f o) s = execSliceEnd f o s := rfl
theorem exec_spareSliceTimer (f : FieldId) (s : State) : exec (.spareSliceTimer f) s = execSpareSliceTimer f s := rfl
theorem exec_darning (d : DarningFindings) (s : State) : exec (.darning d) s = execDarning d s := rfl
theorem exec_scoreSnapshot (s : State) : exec .scoreSnapshot s = execScoreSnapshot s := rfl

/-! ## A slice starts (R461, R480) -/

/-- R461: where a slice may start. -/
theorem sliceFits_of_sliceMayStart {s : State} {k : Nat} {kind : SliceKind} (h : s.sliceMayStart k kind = true) :
    s.mode.works = true ∧ (s.fieldOf (k / 16)).slice = none ∧ s.power.pwrStep = 0 ∧ s.slicesRunning < 24 := by
  have fits : s.sliceFits (k / 16) = true := (Bool.and_eq_true_iff.mp h).1
  simp only [State.sliceFits, Bool.and_eq_true, decide_eq_true_eq, beq_iff_eq, Option.isNone_iff_eq_none] at fits
  obtain ⟨⟨⟨⟨works, running⟩, free⟩, step⟩, _⟩ := fits
  exact ⟨works, free, step, running⟩

/-- A field with a slice of a kind that leaves the samplers as they are. -/
def Field.sliced (v : Field) (k : Nat) (kind : SliceKind) (inWindow : Bool) : Field :=
  { v.noted k kind with slice := some { kind := kind, ci := Fin.ofNat 16 k, inWindow := inWindow } }

theorem startSlice_spare (s : State) (k : Nat) (w : Bool) :
    s.startSlice k .spare w = s.putField (k / 16) ((s.fieldOf (k / 16)).sliced k .spare w) := rfl

theorem startSlice_scan (s : State) (k : Nat) (w : Bool) :
    s.startSlice k .scan w = s.putField (k / 16) ((s.fieldOf (k / 16)).sliced k .scan w) := rfl

theorem sliceStart_of_mayStart {s : State} {k : ClusterId} {kind : SliceKind} (h : s.sliceMayStart k.val kind = true)
    (hk : kind = .spare ∨ kind = .scan) :
    execSliceStart k kind s = .next (s.putField (k.val / 16) ((s.fieldOf (k.val / 16)).sliced k.val kind (kind == .scan))) := by
  rw [execSliceStart, if_pos h]
  rcases hk with rfl | rfl
  · exact congrArg Host.Outcome.next (startSlice_spare s _ _)
  · exact congrArg Host.Outcome.next (startSlice_scan s _ _)

section
variable {s : State} {f : FieldId} {ci : Fin 16} (hw : s.mode.works = true) (hf : (s.fieldOf f.val).state = .online)
  (hn : s.spareNotices f.val = s) (hc : s.nextSpare f.val = some ci.val)
  (hm : s.sliceMayStart (16 * f.val + ci.val) .spare = true)
include hw hf hn hc hm

/-- R480: the spare timer slices the next cluster with a SPARE core. -/
theorem spareSliceTimer_starts : execSpareSliceTimer f s = .next (s.putField f.val
    { (s.fieldOf f.val).sliced (16 * f.val + ci.val) .spare false with spareNext := (ci.val + 1) % 16 }) := by
  have serves : fieldServes (s.fieldOf f.val) = true := by simp [fieldServes, hf]
  have field : (16 * f.val + ci.val) / 16 = f.val := by omega
  simp [execSpareSliceTimer, hw, serves, hn, hc, hm, startSlice_spare, field, State.modField]

end

theorem ofNat_cluster (f : Nat) (ci : Fin 16) : Fin.ofNat 16 (16 * f + ci.val) = ci := by
  apply Fin.ext
  simp [Fin.ofNat]

/-! ## A slice ends (R398, R476, R480) -/

/-- A field whose slice has ended with no failure. -/
def Field.slicePassed (v : Field) : Field := { v with slice := none, lastPass := true, slices := satAdd16 v.slices 1 }

theorem sliceDone_passed (s : State) (f : Nat) : s.sliceDone f true = s.putField f (s.fieldOf f).slicePassed := rfl

theorem closeWindow_none {s : State} (h : s.darn.window = none) : s.closeWindow = s := by
  simp [State.closeWindow, h]

theorem endRestoring_none {s : State} {k : Nat} (h : s.restoringOf k = []) : s.endRestoring k [] = s := by
  have kept : s.darn.restoring.filter (fun p => p / 36 != k) = s.darn.restoring := by
    rw [List.filter_eq_self]
    intro p hp
    simpa using (List.filter_eq_nil_iff.mp h) p hp
  simp only [State.endRestoring, h, List.filter_nil, State.each, List.foldl_nil, kept]

theorem endSpare_passed {s : State} {f : Nat} {ci : Fin 16} {o : SliceOutcome} (ho : o.failedCores = [])
    (hr : s.restoringOf (16 * f + ci.val) = []) :
    s.endSpare (16 * f + ci.val) o = s.putField f (Field.slicePassed { s.fieldOf f with
      sparePassed := tput 0 (s.fieldOf f).sparePassed ci.val s.time,
      spareNoted := (s.fieldOf f).spareNoted &&& ~~~(BitVec.twoPow 16 ci.val) }) := by
  have bad : SliceOutcome_bad o (16 * f + ci.val) (s.spareTests (16 * f + ci.val)) = [] := by
    simp [SliceOutcome_bad, ho]
  have field : (16 * f + ci.val) / 16 = f := by omega
  have cluster : (16 * f + ci.val) % 16 = ci.val := by omega
  unfold State.endSpare
  simp only [bad, State.each, List.foldl_nil, endRestoring_none hr, field, cluster, if_true]
  simp [State.modField, State.sliceDone, Field.slicePassed]

/-! ## The samplers and the fields (R138) -/

theorem each_fieldOf {β : Type} (l : List β) (g : State → β → State) (f : Nat)
    (h : ∀ s b, (g s b).fieldOf f = s.fieldOf f) (s : State) : (s.each l g).fieldOf f = s.fieldOf f := by
  induction l generalizing s with
  | nil => rfl
  | cons b l ih => exact (ih (g s b)).trans (h s b)

@[simp] theorem sendEvents_fieldOf (a n f : Nat) (s : State) : (s.sendEvents a n).fieldOf f = s.fieldOf f := by
  induction n generalizing s with
  | zero => rfl
  | succ n ih =>
    unfold State.sendEvents
    dsimp only
    split
    · rfl
    · exact ih _

@[simp] theorem raise_fieldOf (s : State) (c : EventClass) (r p : Nat) (src : Source) (x : Option Nat) (d : List W64)
    (f : Nat) : (s.raise c r p src x d).fieldOf f = s.fieldOf f := by
  unfold State.raise
  cases src.field? with
  | none => rfl
  | some a => exact sendEvents_fieldOf _ _ _ _

theorem setMainPath_fieldOf (s : State) (k : Nat) (ok : Bool) (f : Nat) : (s.setMainPath k ok).fieldOf f = s.fieldOf f := by
  unfold State.setMainPath
  dsimp only
  split
  · rfl
  · simp [State.modSampler, State.modCluster]

theorem samplersTested_fieldOf (s : State) (f : Nat) (bad : List (Fin 16)) (g : Nat) :
    (s.samplersTested f bad).fieldOf g = s.fieldOf g :=
  each_fieldOf _ _ g (fun s c => setMainPath_fieldOf s _ _ g) s

section
variable {o : SliceOutcome} (hc : o.fieldCores = []) (hu : o.failedUnits = []) (hr : o.failedRouters = [])
  (hg : o.failedGroups = []) (hs : o.sharedOk = true)
include hc hu hr hg

theorem repairTested_none (s : State) (f : FieldId) : s.repairTested (SliceOutcome_fieldTest o f) = s := by
  simp [State.repairTested, SliceOutcome_fieldTest, hc, hu, hr, hg, State.each]

include hs

/-- R398, R425, R480: a field that passes its test is ONLINE. -/
theorem endField_passed (s : State) (f : FieldId) : (s.endField f o).fieldOf f.val = { (s.fieldOf f.val).slicePassed with
    state := .online, fcOk := true, osc := .locked, arithGated := false, meshGated := false,
    sparePassed := (List.range 16).map (fun i => (i, s.time)) } := by
  have tested : (s.sliceDone f.val true).fieldTested (SliceOutcome_fieldTest o f) =
      (s.sliceDone f.val true).fieldUp f.val o.failedSamplers := by
    have pass : (SliceOutcome_fieldTest o f).pass = true := hs
    unfold State.fieldTested
    rw [repairTested_none hc hu hr hg, pass]
    rfl
  have up : ((s.sliceDone f.val true).fieldUp f.val o.failedSamplers).fieldOf f.val =
      { (s.fieldOf f.val).slicePassed with
        state := .online, fcOk := true, osc := .locked, arithGated := false, meshGated := false,
        sparePassed := (List.range 16).map (fun i => (i, s.time)) } := by
    unfold State.fieldUp
    rw [samplersTested_fieldOf, sliceDone_passed]
    simp [State.modField]
  unfold State.endField
  rw [hs, tested]
  dsimp only
  split
  · next retired => rw [up] at retired; cases retired
  · exact up

end

/-! ## Darning (R472, R474) -/

section
variable {s : State} {d : DarningFindings}

theorem execDarning_drain (hmode : s.mode = .drain) (he : s.streamsEnded = true) (ho : s.stepOpen = false)
    (hp : s.darn.planner = .idle) (hw : s.sliceInWay = false) (hu : d.unreadable = []) :
    execDarning d s = .next (((s.resolveSuspects d).resolveStacks d.stacksRecovered).plan d.failed) := by
  simp [execDarning, hmode, he, ho, hp, hw, hu, State.poisonUnreadable, State.each]

theorem resolveSuspects_none (h : s.suspects = []) : s.resolveSuspects d = s := by
  simp [State.resolveSuspects, h, State.each]

theorem resolveStacks_none (h : ∀ e ∈ s.hamperStacks, e.2.suspect = false) (l : List StackId) :
    s.resolveStacks l = s := by
  have none : tkeys (fun k : Stack => k.suspect && !k.retired) s.hamperStacks = [] := by
    simp only [tkeys, List.map_eq_nil_iff, List.filter_eq_nil_iff]
    intro e he
    simp [h e he]
  simp [State.resolveStacks, none, State.each]

theorem plan_none (h : s.darn.pendingParts = []) (hh : s.darn.hostPlan = false) (l : List PhysId) :
    s.plan l = s.endDarning := by
  simp [State.plan, h, hh, State.each]

theorem plan_host (h : s.darn.pendingParts ≠ []) (hh : s.darn.hostPlan = true) (l : List PhysId) :
    s.plan l = ({ s with darn := { s.darn with planner := .waitHost } } : State).addRequest
      (.sparePlan (s.darn.pendingParts ++ s.planSpares s.darn.pendingParts)) := by
  simp [State.plan, h, hh]

theorem endDarning_eq (hmode : s.mode = .drain) : s.endDarning = { s with
    darn := { s.darn with planner := .idle, pendingParts := [] },
    mode := if s.darn.drainByCommand then .drain else s.serviceMode } := by
  cases hc : s.darn.drainByCommand with
  | true => simp [State.endDarning, hc, ← hmode]
  | false =>
    simp only [State.endDarning, hc, hmode]
    rfl

/-! ## The one SUSPECT core of a DRAIN (R56, R472) -/

/-- R56: a SUSPECT core that passes is good again, and joins no plan. -/
theorem resolveSuspect_passed {p : PhysId} (t : State) (h : p ∈ d.passed) :
    ((t.resolveSuspect d.passed p.val).physOf p.val).use = (.good, false) ∧
      (t.resolveSuspect d.passed p.val).darn = t.darn := by
  have passed : d.passed.any (fun q => q.val == p.val) = true := List.any_eq_true.mpr ⟨p, h, beq_self_eq_true _⟩
  rw [State.resolveSuspect, if_pos passed]
  refine ⟨(darns_startBeats (may := fun _ => False) _ p.val).good (fun h => h) ?_, rfl⟩
  simp [State.modPhys, Phys.use]

/-- R472: a SUSPECT core that does not pass is FAILED and joins the plan. -/
theorem resolveSuspect_failed {p : PhysId} (t : State) (h : p ∉ d.passed) :
    ((t.resolveSuspect d.passed p.val).physOf p.val).health = .failed ∧
      (t.resolveSuspect d.passed p.val).darn =
        { t.darn with pendingParts := t.darn.pendingParts ++ [corePart p.val] } := by
  have passed : ¬ d.passed.any (fun q => q.val == p.val) = true := by
    simp only [List.any_eq_true, not_exists, not_and, beq_iff_eq]
    exact fun q hq e => h (Fin.ext e ▸ hq)
  rw [State.resolveSuspect, if_neg passed]
  refine ⟨?_, rfl⟩
  simp [State.joinPlan, State.failPhys, State.failSlice, State.scorePhys, State.modPhys, State.physOf, State.putPhys]

section
variable {may : Nat → Prop} {p : PhysId} (hp : s.suspects = [p.val])
  (hf : ∀ q ∈ d.failed, may q.val)
include hp hf

/-- R472 point 2: the slice of the cluster of the only SUSPECT core resolves it, and otherwise fails others alone. -/
theorem resolveSuspects_one : ∃ t, Darns may p.val s t ∧
    Darns may p.val (t.resolveSuspect d.passed p.val) (s.resolveSuspects d) := by
  have own : s.suspects.filter (fun q => q / 36 == p.val / 36) = [p.val] := by simp [hp]
  have only : s.resolveSuspects d = s.drainSlice d (p.val / 36) := by rw [State.resolveSuspects, hp]; rfl
  refine ⟨((s.noteSlice (p.val / 36) .cluster).leaveCluster (p.val / 36)).setMainPath (p.val / 36)
    (!d.failedSamplers.any (fun j => j.val == p.val / 36)), ?_, ?_⟩
  · exact ((Darns.of_testView (testView_noteSlice _ _ _)).trans (darns_leaveCluster _ _)).trans
      (.of_testView (testView_setMainPath _ _ _))
  · rw [only]
    unfold State.drainSlice
    rw [own]
    refine Darns.trans (Darns.trans (Darns.each (fun s q hq => ?_) _) (darns_endRestoring _ _ _))
      (.of_testView (testView_sliceDone _ _ _))
    obtain ⟨hne, r, hr, rfl⟩ : q ≠ p.val ∧ ∃ r ∈ d.failed, r.val = q := by
      simpa using (List.mem_filter.mp hq).2
    exact darns_failSecond s hne r.isLt (hf r hr)

/-- R472, R474: after the suspect is resolved, the rest of Darning leaves it as it is. -/
theorem darns_rest (hn : s.darn.pendingParts = []) :
    ∃ t, Darns may p.val s t ∧ ((∀ a ∈ (t.resolveSuspect d.passed p.val).darn.pendingParts, a ∈ t.darn.pendingParts ∨
        ∃ n < 57600, may n ∧ a = corePart n) →
      Darns may p.val (t.resolveSuspect d.passed p.val)
        (((s.resolveSuspects d).resolveStacks d.stacksRecovered).plan d.failed)) := by
  obtain ⟨t, before, after⟩ := resolveSuspects_one hp hf
  refine ⟨t, before, fun added => ?_⟩
  have settled : Darns may p.val (t.resolveSuspect d.passed p.val) ((s.resolveSuspects d).resolveStacks d.stacksRecovered) :=
    after.trans (.of_testView (testView_resolveStacks _ _))
  have early : ∀ a ∈ t.darn.pendingParts, ∃ n < 57600, may n ∧ a = corePart n := fun a ha =>
    (before.parts a ha).elim (fun h => by simp [hn] at h) id
  refine settled.trans (darns_plan _ _ hf (fun a ha => ?_))
  rcases settled.parts a ha with old | new
  · exact (added a old).elim (early a) id
  · exact new

end

/-- R56, R472: a SUSPECT core that passes the slice of its cluster is back in use. -/
theorem darning_passed {p : PhysId} (hp : s.suspects = [p.val]) (hn : s.darn.pendingParts = []) (hpass : p ∈ d.passed)
    (hfail : p ∉ d.failed) :
    (((((s.resolveSuspects d).resolveStacks d.stacksRecovered).plan d.failed)).physOf p.val).use = (.good, false) := by
  have others : ∀ q ∈ d.failed, q.val ≠ p.val := fun q hq e => hfail (Fin.ext e ▸ hq)
  obtain ⟨t, _, rest⟩ := darns_rest (may := (· ≠ p.val)) hp others hn
  obtain ⟨good, same⟩ := resolveSuspect_passed (d := d) t hpass
  exact (rest (fun a ha => .inl (same ▸ ha))).good (fun h => h rfl) good

/-- R472, R473: a SUSPECT core that does not pass is FAILED. -/
theorem darning_failed {p : PhysId} (hp : s.suspects = [p.val]) (hn : s.darn.pendingParts = []) (hpass : p ∉ d.passed)
    (hr : p.val ∉ s.darn.restoring) :
    ((((s.resolveSuspects d).resolveStacks d.stacksRecovered).plan d.failed).physOf p.val).health = .failed := by
  obtain ⟨t, before, rest⟩ := darns_rest (may := fun _ => True) hp (fun _ _ => trivial) hn
  obtain ⟨failed, darn⟩ := resolveSuspect_failed (d := d) t hpass
  have joined : ∀ a ∈ (t.resolveSuspect d.passed p.val).darn.pendingParts, a ∈ t.darn.pendingParts ∨
      ∃ n < 57600, True ∧ a = corePart n := by
    intro a ha
    rw [darn] at ha
    rcases List.mem_append.mp ha with old | new
    · exact .inl old
    · exact .inr ⟨p.val, p.isLt, trivial, List.mem_singleton.mp new⟩
  have notSent : p.val ∉ (t.resolveSuspect d.passed p.val).darn.restoring := by
    rw [darn]
    exact fun h => hr (before.restoring _ h)
  exact (rest joined).failed notSent failed

end

/-! ## The score snapshot (R484, R503) -/

theorem mem_of_tget_ne {α : Type} {d : α} {t : Table α} {n : Nat} (h : tget d t n ≠ d) : (n, tget d t n) ∈ t := by
  induction t with
  | nil => exact absurd rfl h
  | cons e t ih =>
    obtain ⟨k, v⟩ := e
    by_cases hk : k = n
    · simp [tget, hk]
    · simp only [tget, hk, if_false] at h ⊢
      exact List.mem_cons_of_mem _ (ih h)

theorem snapshotScores_frame (s : State) :
    s.snapshotScores = { s with mgmt := s.snapshotScores.mgmt, rings := s.snapshotScores.rings } := rfl

theorem snapshotScores_mgmt (s : State) :
    s.snapshotScores.mgmt = { s.mgmt with scores := s.snapshotScores.mgmt.scores, snapshotTime := s.time } := rfl

theorem snapshotScores_rings (s : State) : (s.snapshotScores.ringOf 0).previous = (s.ringOf 0).unread ∧
    (s.snapshotScores.ringOf 1).previous = (s.ringOf 1).unread := by
  constructor
  · simp [State.snapshotScores, State.modRing]
    rfl
  · simp [State.snapshotScores, State.modRing]
    rfl

theorem snapshotScores_cores {s : State} {p : Nat} (h : (s.physOf p).score ≠ 0) :
    (p, (s.physOf p).score) ∈ s.snapshotScores.mgmt.scores.cores := by
  have listed : (p, s.physOf p) ∈ s.phys := mem_of_tget_ne (fun e => h (by rw [State.physOf, e]))
  have scored : (p, (s.physOf p).score) ∈ (s.phys.map (fun e => (e.1, e.2.score))).filter (fun e => e.2 != 0) :=
    List.mem_filter.mpr ⟨List.mem_map_of_mem listed, by simpa using h⟩
  exact scored

/-- Settles O58: the slices by their rules of start and end, Darning by what each of its steps may do to one core. -/
theorem slicesAndDarning : Obligations.SlicesAndDarning := by
  unfold Obligations.SlicesAndDarning
  intro s k kind f o d l p v w asked
  simp only [exec_sliceStart, exec_sliceEnd, exec_spareSliceTimer, exec_darning, exec_scoreSnapshot]
  refine ⟨?_, sliceStart_of_mayStart, sliceFits_of_sliceMayStart, ?_, ?_, ?_, ?_, ?_, ?_, ?_⟩
  · intro h
    rw [execSliceStart, if_neg (by simp [h])]
  · intro h
    have none : (s.fieldOf f.val).slice = none := h
    simp [execSliceEnd, none]
  · intro hl hw
    have slice : (s.fieldOf f.val).slice = some l := hl
    refine ⟨fun hk hwin => ?_, fun hk ho hr => ?_, fun hk hc hu hr hg hs => ?_⟩
    · simp only [execSliceEnd, slice, hw, hk]
      exact congrArg Host.Outcome.next (closeWindow_none hwin)
    · simp only [execSliceEnd, slice, hw, hk, endSpare_passed ho hr]
      rfl
    · refine ⟨s.endField f o, ?_, endField_passed hc hu hr hg hs s f⟩
      simp only [execSliceEnd, slice, hw, hk]
      rfl
  · intro ci hw hf hn hc hm
    refine ⟨_, spareSliceTimer_starts hw hf hn hc hm, rfl, ?_, ?_⟩
    · simp only [State.putField_same, Field.sliced, ofNat_cluster]
    · simp
  · intro h
    have idle : fieldServes (s.fieldOf f.val) = false := h
    simp [execSpareSliceTimer, idle]
  · intro h
    simp [execDarning, h]
  · intro hmode he ho hpl hw hst hu
    rw [execDarning_drain hmode he ho hpl hw hu]
    refine ⟨fun hn hs hh => ?_, fun hn hs hp hf => ⟨_, rfl, ?_⟩, fun hn hs hp hr => ⟨_, rfl, darning_failed hs hn hp hr⟩,
      fun hh hn hs => ?_⟩
    · rw [resolveSuspects_none hs, resolveStacks_none hst, plan_none hn hh, endDarning_eq hmode]
    · exact Prod.mk.inj (darning_passed hs hn hp hf)
    · rw [resolveSuspects_none hs, resolveStacks_none hst, plan_host hn hh]
      rfl
  · intro hw
    refine ⟨s.snapshotScores, ?_, snapshotScores_frame s, snapshotScores_mgmt s, (snapshotScores_rings s).1,
      (snapshotScores_rings s).2, snapshotScores_cores⟩
    rw [execScoreSnapshot, if_pos hw]

end Sys2Proof.Machine
end

section
/-! PROOFS. Stored bytes (R74, R94, R141): what a write of bytes, of a little-endian value and of bits leaves of a table
of bytes, bit by bit. -/

set_option linter.unusedVariables false

namespace Sys2Proof.Machine

open Sys2Proof

/-! ## Bytes written -/

theorem tileByte_tput (t : Table Byte) (m n : Nat) (b : Byte) :
    tileByte (tput 0 t m b) n = if n = m then b else tileByte t n := by
  by_cases h : n = m
  · subst h
    simp [tileByte]
  · simp [tileByte, h]

/-- Bytes written one after another, those of a list numbered from `i` on. -/
theorem tileByte_foldl_tput (bs : List Byte) (t : Table Byte) (off i n : Nat) :
    tileByte ((bs.zipIdx i).foldl (fun (t : Table Byte) b => tput 0 t (off + b.2) b.1) t) n =
      if off + i ≤ n ∧ n < off + i + bs.length then bs.getD (n - (off + i)) 0 else tileByte t n := by
  induction bs generalizing t i with
  | nil => simp
  | cons b bs ih =>
    rw [List.zipIdx_cons, List.foldl_cons, ih, tileByte_tput, List.length_cons]
    obtain hlt | heq | hgt := Nat.lt_trichotomy n (off + i)
    · rw [if_neg (by omega), if_neg (by omega), if_neg (by omega)]
    · rw [if_neg (by omega), if_pos heq, if_pos (by omega), heq, Nat.sub_self, List.getD_cons_zero]
    · have next : n - (off + i) = n - (off + (i + 1)) + 1 := by omega
      rw [if_neg (show n ≠ off + i by omega), next, List.getD_cons_succ]
      exact if_congr (by omega) rfl rfl

/-- A write of stored bytes changes those bytes and no other. -/
theorem tileByte_writeBytes (t : Table Byte) (off : Nat) (bs : List Byte) (n : Nat) :
    tileByte (writeBytes t off bs) n =
      if off ≤ n ∧ n < off + bs.length then bs.getD (n - off) 0 else tileByte t n :=
  tileByte_foldl_tput bs t off 0 n

@[simp] theorem writeBytes_nil (t : Table Byte) (off : Nat) : writeBytes t off [] = t := rfl

/-! ## Bits -/

/-- Bit `i` of stored bytes, counted from bit 0 of byte 0. -/
def tileBit (t : Table Byte) (i : Nat) : Bool := (tileByte t (i / 8)).getLsbD (i % 8)

theorem getD_bytesLE (n v i : Nat) (hi : i < n) : (bytesLE n v).getD i 0 = BitVec.ofNat 8 (v / 256 ^ i) := by
  simp [bytesLE, hi]

theorem testBit_byteLE (v i j : Nat) (hj : j < 8) : (BitVec.ofNat 8 (v / 256 ^ i)).getLsbD j = v.testBit (8 * i + j) := by
  have pow : 256 ^ i = 2 ^ (8 * i) := (Nat.pow_mul 2 8 i).symm
  rw [BitVec.getLsbD_ofNat, pow, Nat.testBit_div_two_pow]
  simp [hj, Nat.add_comm]

theorem testBit_ofBytesLE (bs : List Byte) (i : Nat) : (ofBytesLE bs).testBit i = (bs.getD (i / 8) 0).getLsbD (i % 8) := by
  induction bs generalizing i with
  | nil => simp [ofBytesLE]
  | cons b bs ih =>
    have low : ofBytesLE (b :: bs) = 2 ^ 8 * ofBytesLE bs + b.toNat := by simp [ofBytesLE, Nat.mul_comm]
    rw [low, Nat.testBit_two_pow_mul_add _ b.isLt]
    by_cases hi : i < 8
    · rw [if_pos hi, Nat.div_eq_of_lt hi, Nat.mod_eq_of_lt hi]; rfl
    · have next : i / 8 = (i - 8) / 8 + 1 := by omega
      have same : (i - 8) % 8 = i % 8 := by omega
      rw [if_neg hi, ih, next, List.getD_cons_succ, same]

/-- Bytes of a table as one number. -/
theorem testBit_storedBytes (t : Table Byte) (first len i : Nat) :
    (ofBytesLE ((List.range len).map (fun i => tileByte t (first + i)))).testBit i =
      (decide (i < 8 * len) && tileBit t (8 * first + i)) := by
  have byte : (8 * first + i) / 8 = first + i / 8 := by omega
  have bit : (8 * first + i) % 8 = i % 8 := by omega
  rw [testBit_ofBytesLE, tileBit, byte, bit]
  by_cases hi : i < 8 * len
  · have inside : i / 8 < len := by omega
    simp [hi, inside]
  · have outside : ¬ i / 8 < len := by omega
    simp [hi, outside]

theorem tileBit_writeLE (t : Table Byte) (first len v i : Nat) :
    tileBit (writeBytes t first (bytesLE len v)) i =
      if 8 * first ≤ i ∧ i < 8 * (first + len) then v.testBit (i - 8 * first) else tileBit t i := by
  rw [tileBit, tileByte_writeBytes, bytesLE_length]
  by_cases hi : 8 * first ≤ i ∧ i < 8 * (first + len)
  · have position : 8 * (i / 8 - first) + i % 8 = i - 8 * first := by omega
    rw [if_pos (by omega), if_pos hi, getD_bytesLE _ _ _ (by omega), testBit_byteLE _ _ _ (by omega), position]
  · rw [if_neg (by omega), if_neg hi]; rfl

/-- Bits read are bits of the table. -/
theorem testBit_readBits (t : Table Byte) (base pos n i : Nat) :
    (readBits t base pos n).testBit i = (decide (i < n) && tileBit t (8 * base + pos + i)) := by
  have position : 8 * (base + pos / 8) + (i + pos % 8) = 8 * base + pos + i := by omega
  simp only [readBits, Nat.testBit_mod_two_pow, Nat.testBit_div_two_pow, testBit_storedBytes, position]
  by_cases hi : i < n
  · have inside : i + pos % 8 < 8 * ((pos % 8 + n + 7) / 8) := by omega
    simp [hi, inside]
  · simp [hi]

theorem testBit_replaceBits (old p n w i : Nat) (hw : w < 2 ^ n) :
    (old - old / 2 ^ p % 2 ^ n * 2 ^ p + w * 2 ^ p).testBit i =
      if p ≤ i ∧ i < p + n then w.testBit (i - p) else old.testBit i := by
  have split : old = 2 ^ p * (2 ^ n * (old / 2 ^ (p + n)) + old / 2 ^ p % 2 ^ n) + old % 2 ^ p := by
    rw [Nat.pow_add, ← Nat.div_div_eq_div_mul, Nat.div_add_mod, Nat.div_add_mod]
  have replaced : old - old / 2 ^ p % 2 ^ n * 2 ^ p + w * 2 ^ p =
      2 ^ p * (2 ^ n * (old / 2 ^ (p + n)) + w) + old % 2 ^ p := by
    conv_lhs => lhs; lhs; rw [split]
    rw [Nat.mul_add, Nat.mul_add, Nat.mul_comm w, Nat.mul_comm (old / 2 ^ p % 2 ^ n)]
    omega
  rw [replaced, Nat.testBit_two_pow_mul_add _ (Nat.mod_lt _ (by positivity)), Nat.testBit_two_pow_mul_add _ hw]
  by_cases low : i < p
  · rw [if_pos low, if_neg (by omega), Nat.testBit_mod_two_pow]; simp [low]
  · by_cases mid : i < p + n
    · rw [if_neg low, if_pos (by omega), if_pos (by omega)]
    · rw [if_neg low, if_neg (by omega), if_neg (by omega), Nat.testBit_div_two_pow]
      congr 1; omega

/-- A write of bits changes those bits and no other. -/
theorem tileBit_writeBits (t : Table Byte) (base pos n v i : Nat) :
    tileBit (writeBits t base pos n v) i =
      if 8 * base + pos ≤ i ∧ i < 8 * base + pos + n then v.testBit (i - (8 * base + pos)) else tileBit t i := by
  simp only [writeBits, tileBit_writeLE, testBit_replaceBits _ _ _ _ _ (Nat.mod_lt v (Nat.two_pow_pos n)),
    testBit_storedBytes, Nat.testBit_mod_two_pow]
  by_cases inBits : 8 * base + pos ≤ i ∧ i < 8 * base + pos + n
  · have position : i - 8 * (base + pos / 8) - pos % 8 = i - (8 * base + pos) := by omega
    have within : i - (8 * base + pos) < n := by omega
    rw [if_pos (by omega), if_pos (by omega), if_pos inBits, position]
    simp [within]
  · rw [if_neg inBits]
    by_cases inBytes : 8 * (base + pos / 8) ≤ i ∧ i < 8 * (base + pos / 8 + (pos % 8 + n + 7) / 8)
    · have position : 8 * (base + pos / 8) + (i - 8 * (base + pos / 8)) = i := by omega
      have within : i - 8 * (base + pos / 8) < 8 * ((pos % 8 + n + 7) / 8) := by omega
      rw [if_pos inBytes, if_neg (by omega), position]
      simp [within]
    · rw [if_neg inBytes]

/-- Bits read where bits have been written. -/
theorem readBits_writeBits_same (t : Table Byte) (base pos n v : Nat) (hv : v < 2 ^ n) :
    readBits (writeBits t base pos n v) base pos n = v := by
  apply Nat.eq_of_testBit_eq
  intro i
  rw [testBit_readBits, tileBit_writeBits]
  by_cases hi : i < n
  · rw [if_pos (by omega), Nat.add_sub_cancel_left]; simp [hi]
  · simp [hi, Nat.testBit_lt_two_pow (hv.trans_le (Nat.pow_le_pow_right (by norm_num) (Nat.not_lt.mp hi)))]

/-- Bits read apart from those written. -/
theorem readBits_writeBits_apart (t : Table Byte) {base pos base' pos' n v : Nat}
    (h : 8 * base' + pos' + n ≤ 8 * base + pos ∨ 8 * base + pos + n ≤ 8 * base' + pos') :
    readBits (writeBits t base pos n v) base' pos' n = readBits t base' pos' n := by
  apply Nat.eq_of_testBit_eq
  intro i
  rw [testBit_readBits, testBit_readBits, tileBit_writeBits]
  by_cases hi : i < n
  · rw [if_neg (by omega)]
  · simp [hi]

end Sys2Proof.Machine
end

section
/-! PROOFS. Scalar loads and stores (R67, R68, R70, R74): LD and ST by the state of their entry and the place they
reach in it. -/

set_option linter.unusedVariables false

namespace Sys2Proof.Machine

open Sys2Proof

theorem exec_st (c : CoreId) (a : CoreArgs) (s : State) : exec (.st c a) s = execSt c a s := rfl

@[simp] theorem Core.putEntry_running (k : Core) (n : Nat) (e : Entry) : (k.putEntry n e).running = k.running := rfl
@[simp] theorem Core.putEntry_waiting (k : Core) (n : Nat) (e : Entry) : (k.putEntry n e).waiting = k.waiting := rfl
@[simp] theorem Core.putEntry_pc (k : Core) (n : Nat) (e : Entry) : (k.putEntry n e).pc = k.pc := rfl

/-- R41: the entry has a tile, intact or not. -/
def Entry.held (e : Entry) : Prop := e.state = .resident ∨ e.state = .poisoned

theorem Entry.held.settled {e : Entry} (h : e.held) : e.state ≠ .empty ∧ e.state ≠ .filling := by
  obtain h | h := h
  · simp [h]
  · simp [h]

/-- R67: an access of `len` bytes at `off` is misaligned, or goes beyond the stored bytes. -/
abbrev Entry.misses (e : Entry) (off align len : Nat) : Prop :=
  off % align ≠ 0 ∨ e.header.storedLen.toNat < off + len

/-- The fields that a load or a store uses; s[RB] where it names the entry. -/
abbrev accessUses (byReg : Bool) : Uses := { rd := true, ra := true, rb := byReg, var := true, imm := true }

/-! ## LD -/

/-- R68: what LD gives of `len` stored bytes. -/
def Entry.loaded (e : Entry) (off len : Nat) (signed : Bool) : W64 :=
  let v := BitVec.ofNat (8 * len) (ofBytesLE ((List.range len).map (fun i => tileByte e.bytes (off + i))))
  if signed then v.signExtend 64 else v.setWidth 64

section
variable {s : State} {c : CoreId} {x : CtxId} (h : s.issues c x = true) {a : CoreArgs} {n off : Nat} {e : Entry}
  (hf : a.finding = {})
  (hl : (decide (a.opt.toNat < 4) && (accessUses (a.opt.getLsbD 1)).legal a) = true)
  (hn : (s.coreOf c.val).memEntry a = n) (hoff : (s.coreOf c.val).memOffset a = off)
  (he : (s.coreOf c.val).entryFor x n = e)
include h hf hl hn hoff he

theorem ld_completes (hres : e.state = .resident) (hin : ¬ e.misses off (memSize a) (memSize a)) :
    execLd c a s = s.completes c ((s.coreOf c.val).setS a.rd (e.loaded off (memSize a) (a.opt.getLsbD 0))) := by
  refine issue_core h 0x05 a.opt _ _ a _ _ none _ hf hl ?effect (by simp) (by simp) (by simp)
  simp only [hn, hoff, he, hres, if_neg hin]
  rfl

theorem ld_address (hbad : e.state = .empty ∨ e.state ≠ .filling ∧ e.misses off (memSize a) (memSize a))
    (hh : (s.coreOf c.val).handles = true) : execLd c a s = s.handles c xADDRESS (addressInfo n off) := by
  refine issue_raise h 0x05 a.opt _ _ a _ _ none _ _ hf hl ?effect hh
  simp only [hn, hoff, he]
  by_cases hempty : e.state = .empty
  · rw [if_pos hempty]
  · obtain ⟨hsettled, hmiss⟩ := hbad.resolve_left hempty
    rw [if_neg hempty, if_neg hsettled, if_pos hmiss]

theorem ld_poisoned (hpois : e.state = .poisoned) (hin : ¬ e.misses off (memSize a) (memSize a))
    (hh : (s.coreOf c.val).handles = true) : execLd c a s = s.handles c xDATA_ERROR (addressInfo n off) := by
  refine issue_raise h 0x05 a.opt _ _ a _ _ none _ _ hf hl ?effect hh
  simp only [hn, hoff, he, hpois, if_neg hin]
  rfl

end

/-! ## Raw stores -/

/-- R74: an entry after a raw store of bytes. -/
def Entry.stored (e : Entry) (off : Nat) (bs : List Byte) (poison : Bool) : Entry :=
  { e with
    bytes := writeBytes e.bytes off bs
    state := if poison then .poisoned else e.state
    header := { e.header with bitmap := e.header.bitmap ||| blocksWritten e.fmt off bs.length } }

section
variable {s : State} {c : CoreId} {k : Core} {x : CtxId} {n : Nat} {e : Entry} (he : k.entryFor x n = e)
  (off align : Nat) (bs : List Byte) (poison : Bool)
include he

theorem rawStore_stores (hheld : e.held) (hbusy : s.writeBusy c n = false) (hw : e.writable = true)
    (hin : ¬ e.misses off align bs.length) :
    rawStore s c k x n off align bs poison = .core s c (k.putEntry n (e.stored off bs poison)) := by
  obtain ⟨hempty, hfilling⟩ := hheld.settled
  obtain ⟨haligned, hlen⟩ := not_or.mp hin
  simp [rawStore, Entry.stored, he, hempty, hfilling, hbusy, hw, not_not.mp haligned, hlen]

theorem rawStore_raises (hbad : e.state = .empty ∨ e.state ≠ .filling ∧ s.writeBusy c n = false ∧
      (e.writable = false ∨ e.misses off align bs.length)) :
    rawStore s c k x n off align bs poison = .raise xADDRESS (addressInfo n off) := by
  by_cases hempty : e.state = .empty
  · simp only [rawStore, he, hempty, if_true]
  · obtain ⟨hfilling, hbusy, hrefused⟩ := hbad.resolve_left hempty
    have refused : (!e.writable || decide (off % align ≠ 0) ||
        decide (e.header.storedLen.toNat < off + bs.length)) = true := by
      simpa [Entry.misses, or_assoc] using hrefused
    simp only [rawStore, he, hempty, hfilling, hbusy, refused, if_true]
    rfl

end

/-! ## ST -/

section
variable {s : State} {c : CoreId} {x : CtxId} (h : s.issues c x = true) {a : CoreArgs} {n off : Nat} {e : Entry}
  (hf : a.finding = {})
  (hl : ((a.opt == 0 || a.opt == 2) && (accessUses (a.opt.getLsbD 1)).legal a) = true)
  (hn : (s.coreOf c.val).memEntry a = n) (hoff : (s.coreOf c.val).memOffset a = off)
  (he : (s.coreOf c.val).entryFor x n = e)
include h hf hl hn hoff he

theorem st_completes (hheld : e.held) (hbusy : s.writeBusy c n = false) (hw : e.writable = true)
    (hin : ¬ e.misses off (memSize a) (memSize a)) :
    execSt c a s = s.completes c ((s.coreOf c.val).putEntry n
      (e.stored off (bytesLE (memSize a) ((s.coreOf c.val).sreg a.rd).toNat) false)) := by
  refine issue_core h 0x06 a.opt _ _ a _ _ none _ hf hl ?effect (by simp) (by simp) (by simp)
  simp only [hn, hoff]
  exact rawStore_stores he off _ _ _ hheld hbusy hw (by simpa using hin)

theorem st_raises (hbad : e.state = .empty ∨ e.state ≠ .filling ∧ s.writeBusy c n = false ∧
      (e.writable = false ∨ e.misses off (memSize a) (memSize a))) (hh : (s.coreOf c.val).handles = true) :
    execSt c a s = s.handles c xADDRESS (addressInfo n off) := by
  refine issue_raise h 0x06 a.opt _ _ a _ _ none _ _ hf hl ?effect hh
  simp only [hn, hoff]
  exact rawStore_raises he off _ _ _ (by simpa using hbad)

end

/-! ## The option bits of LD and ST -/

/-- R67, R528: MINOR[0] of LD is the sign, MINOR[1] the register form. -/
theorem loadOpt (byReg signed : Bool) :
    let opt : BitVec 5 := (BitVec.ofBool byReg ++ BitVec.ofBool signed).setWidth 5
    opt.toNat < 4 ∧ opt.getLsbD 1 = byReg ∧ opt.getLsbD 0 = signed := by
  revert byReg signed; decide

theorem storeOpt (byReg : Bool) :
    let opt : BitVec 5 := if byReg then 2 else 0
    (opt == 0 || opt == 2) = true ∧ opt.getLsbD 1 = byReg := by
  revert byReg; decide

/-- The fields of a load or a store are legal, whichever form names its entry. -/
theorem Uses.legal_access (opt : BitVec 5) (rd ra rb : BitVec 5) (byReg : Bool) (size : BitVec 2) (imm : W32) :
    (accessUses byReg).legal
      { opt := opt, rd := rd, ra := ra, rb := if byReg then rb else 0, var := size, imm := imm } = true := by
  cases byReg <;> simp [Uses.legal]

/-- R67: the entry of a load or a store is in s[RB] or in the immediate. -/
theorem Core.memEntry_eq (k : Core) (a : CoreArgs) (byReg : Bool) (rb : BitVec 5) (hform : a.opt.getLsbD 1 = byReg)
    (hrb : a.rb = if byReg then rb else 0) :
    k.memEntry a = if byReg then (k.sreg rb).toNat % 256 else a.imm.toNat % 256 := by
  rw [Core.memEntry, hform, hrb]
  cases byReg <;> rfl

/-- Settles O7: LD and ST by the state of their entry, each case by its own lemma. -/
theorem tileLoadsAndStores : Obligations.TileLoadsAndStores := by
  unfold Obligations.TileLoadsAndStores
  refine ⟨tileByte_writeBytes, ?loads, ?stores⟩
  case loads =>
    intro s c x rd ra rb signed byReg size imm h k a n off len e bad v
    obtain ⟨options, hform, hsign⟩ := loadOpt byReg signed
    have legal : (decide (a.opt.toNat < 4) && (accessUses (a.opt.getLsbD 1)).legal a) = true := by
      rw [show a.opt.getLsbD 1 = byReg from hform, Uses.legal_access, decide_eq_true options]; rfl
    have entry : k.memEntry a = n := k.memEntry_eq a byReg rb hform rfl
    refine ⟨?completes, ?address, ?poisoned⟩
    case completes =>
      rintro ⟨hres, hin⟩
      have signed : a.opt.getLsbD 0 = signed := hsign
      rw [exec_ld, ld_completes h rfl legal entry rfl rfl hres hin, signed]
      rfl
    case address => exact fun hbad hh => ld_address h rfl legal entry rfl rfl hbad hh
    case poisoned => exact fun hpois hin hh => ld_poisoned h rfl legal entry rfl rfl hpois hin hh
  case stores =>
    intro s c x rd ra rb byReg size imm h k a n off len e bad
    obtain ⟨options, hform⟩ := storeOpt byReg
    have legal : ((a.opt == 0 || a.opt == 2) && (accessUses (a.opt.getLsbD 1)).legal a) = true := by
      rw [show a.opt.getLsbD 1 = byReg from hform, Uses.legal_access, options]; rfl
    have entry : k.memEntry a = n := k.memEntry_eq a byReg rb hform rfl
    refine ⟨?completes, ?raises⟩
    case completes =>
      intro hheld hbusy hok
      obtain ⟨hw, hin⟩ := not_or.mp hok
      rw [exec_st, st_completes h rfl legal entry rfl rfl hheld hbusy (by simpa using hw) hin]
      simp only [Entry.stored, bytesLE_length]
      rfl
    case raises => exact fun hbad hh => st_raises h rfl legal entry rfl rfl hbad hh

end Sys2Proof.Machine
end

section
/-! PROOFS. Vector loads of tile rows and raw bytes (R69, R70, R86): VLDR and VLD by the state of their entry. -/

set_option linter.unusedVariables false

namespace Sys2Proof.Machine

open Sys2Proof

theorem exec_vld (c : CoreId) (a : CoreArgs) (s : State) : exec (.vld c a) s = execVld c a s := rfl

/-! ## Immediates -/

/-- R69: the entry, the row and the format in the immediate of VLDR and VSTR. -/
theorem tileRowImm (n : Byte) (row : Fin 64) (f : Fmt) :
    let imm : W32 := BitVec.ofNat 32 (n.toNat + 256 * row.val + 2 ^ 14 * f.toNat)
    imm.toNat % 256 = n.toNat ∧ imm.toNat / 256 % 64 = row.val ∧ BitVec.ofNat 4 (imm.toNat / 2 ^ 14) = f := by
  intro imm
  have hn : n.toNat < 256 := n.isLt
  have hf : f.toNat < 16 := f.isLt
  have himm : imm.toNat = n.toNat + 256 * row.val + 2 ^ 14 * f.toNat := by
    rw [BitVec.toNat_ofNat]; exact Nat.mod_eq_of_lt (by omega)
  have format : imm.toNat / 2 ^ 14 = f.toNat := by omega
  refine ⟨by omega, by omega, ?_⟩
  rw [format, BitVec.ofNat_toNat, BitVec.setWidth_eq]

theorem Core.tileRow_eq (k : Core) (a : CoreArgs) {row : Nat} (hrow : a.imm.toNat / 256 % 64 = row) :
    k.tileRow a = (row + (k.sreg a.ra).toNat) % 64 := by
  rw [Core.tileRow, hrow, Nat.add_mod_mod]

/-- R69: the entry and the offset in the immediate of VLD and VST. -/
theorem rawImm (hi : BitVec 24) (n : Byte) :
    (hi ++ n : W32).toNat % 256 = n.toNat ∧ BitVec.ofNat 64 ((hi ++ n : W32).toNat / 256) = hi.setWidth 64 := by
  have himm : (hi ++ n : W32).toNat = 256 * hi.toNat + n.toNat := by
    simpa using toNat_imm_append hi n le_rfl
  have hn : n.toNat < 256 := n.isLt
  have upper : (hi ++ n : W32).toNat / 256 = hi.toNat := by omega
  refine ⟨by omega, ?_⟩
  rw [upper, BitVec.ofNat_toNat]

theorem Core.rawOffset_eq (k : Core) (a : CoreArgs) {hi : W64} (hhi : BitVec.ofNat 64 (a.imm.toNat / 256) = hi) :
    k.rawOffset a = (k.sreg a.ra + hi).toNat := by
  rw [Core.rawOffset, hhi]

/-- R69: 256 bytes at an offset that is a multiple of 32, all of them stored. -/
theorem Entry.not_misses_iff (e : Entry) (off : Nat) :
    ¬ e.misses off 32 256 ↔ off % 32 = 0 ∧ off + 256 ≤ e.header.storedLen.toNat := by
  simp [Entry.misses]

/-! ## What the loads do -/

/-- R69: an element of an entry that holds the bytes its bitmap names. -/
theorem Entry.lane_whole {e : Entry} (hshort : e.short = false) (fresh r q : Nat) :
    e.lane fresh r q =
      if e.header.bitmap.getLsbD (blockOf r q) then e.fmt.widen (e.code r q) (e.scale r q) else (0, 0) := by
  simp [Entry.lane, Entry.readCode, Entry.readScale, hshort]

/-- The fields that a vector load uses. -/
abbrev vectorLoadUses : Uses := { rd := true, ra := true, men := true, imm := true }

section
variable {s : State} {c : CoreId} {x : CtxId} (h : s.issues c x = true) {a : CoreArgs} {n : Nat} {e : Entry}
  (hf : a.finding = {}) (hl : vectorLoadUses.legal a = true) (hn : a.imm.toNat % 256 = n)
  (he : (s.coreOf c.val).entryFor x n = e)
include h hf hl hn he

theorem vldr_lanewise {r : Nat} (hr : (s.coreOf c.val).tileRow a = r) (hheld : e.held) (hfmt : rowFmt a = e.fmt)
    (hlt : e.fmt.toNat < 0xE) (hshort : e.short = false) :
    s.lanewise (.vldr c a) c a (fun l => e.lane s.fresh r l.val) (e.state == .poisoned) := by
  have admitted : ¬ (rowFmt a ≠ e.fmt ∨ 0xE ≤ e.fmt.toNat) := by simp [hfmt, hlt]
  have completes := (exec_vldr c a s).trans (issue_putV h 0x18 0 _ true a _ _ none
    (Vector.ofFn (fun l => (e.lane s.fresh r l.val).1)) (e.state == .poisoned)
    (laneFlags ((s.coreOf c.val).laneMask a) (Vector.ofFn (fun l => (e.lane s.fresh r l.val).2))) hf hl
    (by simp [hn, he, hr, hheld.settled, admitted, hshort, Vector.map_ofFn, Function.comp_def]))
  simpa [State.lanewise] using writesLanes_of_putV _ _ _ completes

theorem vldr_operand (hheld : e.held) (hfmt : rowFmt a ≠ e.fmt) (hh : (s.coreOf c.val).handles = true) :
    execVldr c a s = s.handles c xOPERAND (operandInfo n 0 (rowFmt a).toNat) := by
  refine issue_raise h 0x18 0 _ true a _ _ none _ _ hf hl ?effect hh
  simp [hn, he, hheld.settled, hfmt]

theorem vldr_address (hempty : e.state = .empty) (hh : (s.coreOf c.val).handles = true) :
    execVldr c a s = s.handles c xADDRESS (addressInfo n 0) := by
  refine issue_raise h 0x18 0 _ true a _ _ none _ _ hf hl ?effect hh
  simp [hn, he, hempty]

theorem vld_writesLanes {off : Nat} (hoff : (s.coreOf c.val).rawOffset a = off) (hheld : e.held)
    (hin : ¬ e.misses off 32 256) :
    s.writesLanes (.vld c a) c a
      (fun l => BitVec.ofNat 32 (ofBytesLE ((List.range 4).map (fun i => tileByte e.bytes (off + 4 * l.val + i)))))
      0 (e.state == .poisoned) := by
  have completes := (exec_vld c a s).trans (issue_core h 0x18 2 _ true a _ _ none
    ((s.coreOf c.val).putV a a.rd (Vector.ofFn (fun l => BitVec.ofNat 32
      (ofBytesLE ((List.range 4).map (fun i => tileByte e.bytes (off + 4 * l.val + i)))))) (e.state == .poisoned))
    hf hl (by simp only [hn, he, hoff, hheld.settled, if_neg hin, if_false]) (by simp) (by simp) (by simp))
  simpa using writesLanes_of_putV_plain _ _ completes

theorem vld_address {off : Nat} (hoff : (s.coreOf c.val).rawOffset a = off)
    (hbad : e.state = .empty ∨ e.held ∧ e.misses off 32 256) (hh : (s.coreOf c.val).handles = true) :
    execVld c a s = s.handles c xADDRESS (addressInfo n off) := by
  refine issue_raise h 0x18 2 _ true a _ _ none _ _ hf hl ?effect hh
  obtain hempty | ⟨hheld, hmiss⟩ := hbad
  · simp [hn, he, hoff, hempty]
  · simp only [hn, he, hoff, hheld.settled, if_pos hmiss, if_false]

end

end Sys2Proof.Machine
end

section
/-! PROOFS. Vector stores of tile rows and raw bytes (R69, R74, R101, R144): what VSTR and VST leave in an entry. -/

set_option linter.unusedVariables false

namespace Sys2Proof.Machine

open Sys2Proof

/-- Words or-ed in one after another set the bits that some of them has. -/
theorem getLsbD_foldl_or {β : Type} {w : Nat} (p : β → Bool) (v : β → BitVec w) (ls : List β) (m : BitVec w) (b : Nat) :
    (ls.foldl (fun m i => if p i then m ||| v i else m) m).getLsbD b =
      (m.getLsbD b || ls.any (fun i => p i && (v i).getLsbD b)) := by
  induction ls generalizing m with
  | nil => simp
  | cons i ls ih =>
    rw [List.foldl_cons, ih, List.any_cons]
    cases hp : p i <;> simp [Bool.or_assoc]

/-! ## Elements of stored bytes (R94, R141, R142) -/

/-- The code of element (r, q) of a DENSE tile. -/
def Fmt.codeAt (f : Fmt) (t : Table Byte) (r q : Nat) : Nat :=
  readBits t (f.blockSize * blockOf r q) (elemBit f r q) f.elemBits

/-- A code written at element (r, q) of a DENSE tile. -/
def Fmt.putCode (f : Fmt) (t : Table Byte) (r q v : Nat) : Table Byte :=
  writeBits t (f.blockSize * blockOf r q) (elemBit f r q) f.elemBits v

/-- The place of element (r, q) among the 4,096 of a DENSE tile. -/
def elemPlace (r q : Nat) : Nat := 64 * blockOf r q + 8 * (r % 8) + q % 8

theorem bit_of_elemPlace (f : Fmt) (r q : Nat) :
    8 * (f.blockSize * blockOf r q) + elemBit f r q = elemPlace r q * f.elemBits := by
  simp only [Fmt.blockSize, elemBit, elemPlace]; ring

theorem elemPlace_inj {r q r' q' : Nat} (hq : q < 64) (hq' : q' < 64) (h : elemPlace r q = elemPlace r' q') :
    r = r' ∧ q = q' := by
  simp only [elemPlace, blockOf] at h
  omega

theorem codeAt_putCode_same (f : Fmt) (t : Table Byte) (r q v : Nat) (hv : v < 2 ^ f.elemBits) :
    f.codeAt (f.putCode t r q v) r q = v :=
  readBits_writeBits_same _ _ _ _ _ hv

theorem codeAt_putCode_ne (f : Fmt) (t : Table Byte) {r q r' q' : Nat} (v : Nat) (hq : q < 64) (hq' : q' < 64)
    (hne : ¬ (r' = r ∧ q' = q)) : f.codeAt (f.putCode t r q v) r' q' = f.codeAt t r' q' := by
  have places : elemPlace r' q' ≠ elemPlace r q := fun e => hne (elemPlace_inj hq' hq e)
  apply readBits_writeBits_apart
  rw [bit_of_elemPlace, bit_of_elemPlace]
  obtain hlt | hgt := Nat.lt_or_gt_of_ne places
  · have := Nat.mul_le_mul_right f.elemBits (Nat.succ_le_of_lt hlt)
    left; rwa [Nat.succ_mul] at this
  · have := Nat.mul_le_mul_right f.elemBits (Nat.succ_le_of_lt hgt)
    right; rwa [Nat.succ_mul] at this

/-- Codes written along a row leave each element of the row that the mask admits with its code, and every other element
as it was. -/
theorem codeAt_foldl_putCode (f : Fmt) (row : Nat) (mask : W64) (code : Fin 64 → Nat)
    (hcode : ∀ l, code l < 2 ^ f.elemBits) (r : Nat) (q : Fin 64) (ls : List (Fin 64)) (t : Table Byte) :
    f.codeAt (ls.foldl (fun t l => if mask.getLsbD l.val then f.putCode t row l.val (code l) else t) t) r q.val =
      if r = row ∧ mask.getLsbD q.val = true ∧ q ∈ ls then code q else f.codeAt t r q.val := by
  induction ls generalizing t with
  | nil => simp
  | cons l ls ih =>
    rw [List.foldl_cons, ih]
    by_cases here : r = row ∧ q = l
    · obtain ⟨rfl, rfl⟩ := here
      cases hm : mask.getLsbD q.val
      · simp
      · simp [codeAt_putCode_same _ _ _ _ _ (hcode q)]
    · have kept (v : Nat) : f.codeAt (f.putCode t row l.val v) r q.val = f.codeAt t r q.val :=
        codeAt_putCode_ne f t v l.isLt q.isLt (fun e => here ⟨e.1, Fin.ext e.2⟩)
      have elsewhere : (r = row ∧ mask.getLsbD q.val = true ∧ q ∈ ls) ↔
          (r = row ∧ mask.getLsbD q.val = true ∧ q ∈ l :: ls) := by
        constructor
        · exact fun ⟨e, m, i⟩ => ⟨e, m, List.mem_cons_of_mem _ i⟩
        · exact fun ⟨e, m, i⟩ => ⟨e, m, (List.mem_cons.mp i).resolve_left (fun eq => here ⟨e, eq⟩)⟩
      cases hm : mask.getLsbD l.val
      · exact if_congr elsewhere rfl rfl
      · exact if_congr elsewhere rfl (kept _)

/-! ## Rows of an integer format (R69, R101, R144) -/

/-- A format whose elements are integers of their own, without a scale. -/
def Fmt.plainInt (f : Fmt) : Prop := f.float = none ∧ f.isMx = false ∧ f.toNat < 0xE

theorem Fmt.plainInt_of_mem {f : Fmt} (hf : f ∈ ([5, 6, 13] : List Fmt)) : f.plainInt := by
  unfold Fmt.plainInt
  revert f; decide

theorem Fmt.saturate_lt (f : Fmt) (w : W32) : (f.saturate w).1 < 2 ^ f.elemBits := BitVec.isLt _

/-- R144: an integer code counts as zero when it is 0. -/
theorem Fmt.plainInt.countsZero {f : Fmt} (hf : f.plainInt) {code : Nat} (hcode : code < 2 ^ f.elemBits) (scale : Byte) :
    f.countsZero code scale = (code == 0) := by
  obtain ⟨hfloat, hmx, -⟩ := hf
  simp [Fmt.countsZero, hfloat, hmx, Nat.mod_eq_of_lt hcode]

/-- Lanes saturated to the format, with their flags. -/
def Fmt.saturated (f : Fmt) (v : Lanes) : Fin 64 → Nat × FpFlags := fun l => f.saturate v[l]

/-- A row of an integer format draws nothing and has no scales. -/
theorem Fmt.plainInt.storeRow {f : Fmt} (hf : f.plainInt) (k : Core) (var : BitVec 2) (mask : W64) (row : Nat) (v : Lanes) :
    k.storeRow f var mask row v = ((List.finRange 64).map (fun l => (f.saturated v l).1), [],
      laneFlags mask (Vector.ofFn (fun l => (f.saturated v l).2)), k) := by
  obtain ⟨hfloat, hmx, -⟩ := hf
  have lanes : v.map f.saturate = Vector.ofFn (f.saturated v) := by ext l hl <;> simp [Fmt.saturated]
  have codes : ((Vector.ofFn (f.saturated v)).toList.map (·.1)) = (List.finRange 64).map (fun l => (f.saturated v l).1) := by
    rw [Vector.toList_ofFn, List.map_ofFn, List.ofFn_eq_map]; rfl
  simp only [Core.storeRow, hfloat, hmx, lanes, codes, Vector.map_ofFn, Function.comp_def]
  rfl

theorem zipIdx_map_finRange (code : Fin 64 → Nat) :
    ((List.finRange 64).map code).zipIdx = (List.finRange 64).map (fun l => (code l, l.val)) := by
  apply List.ext_getElem
  · simp
  · intro i hi hi'
    simp

/-- A row of codes without scales in an entry, its bytes and its bitmap lane by lane. -/
theorem Entry.putRow_eq (e : Entry) (row : Nat) (mask : W64) (code : Fin 64 → Nat) :
    e.putRow row mask ((List.finRange 64).map code) [] = { e with
      bytes := (List.finRange 64).foldl (fun t l => if mask.getLsbD l.val then e.fmt.putCode t row l.val (code l) else t)
        e.bytes
      header := { e.header with
        bitmap := (List.finRange 64).foldl (fun m l => if mask.getLsbD l.val && !e.fmt.countsZero (code l) 0
          then m ||| BitVec.twoPow 64 (blockOf row l.val) else m) e.header.bitmap } } := by
  have marks (m : W64) (l : Fin 64) :
      (if mask.getLsbD l.val then (if e.fmt.countsZero (code l) 0 then m else m ||| BitVec.twoPow 64 (blockOf row l.val))
        else m) =
      if mask.getLsbD l.val && !e.fmt.countsZero (code l) 0 then m ||| BitVec.twoPow 64 (blockOf row l.val) else m := by
    cases mask.getLsbD l.val <;> cases e.fmt.countsZero (code l) 0 <;> rfl
  simp only [Entry.putRow, zipIdx_map_finRange, List.foldl_filter, List.foldl_map, writeBytes_nil, ← marks,
    List.getD_nil, Fmt.putCode]
  rfl

/-- The entry after VSTR of integer codes. -/
def Entry.rowStored (e : Entry) (row : Nat) (mask : W64) (code : Fin 64 → Nat) (poison : Bool) : Entry :=
  { e.putRow row mask ((List.finRange 64).map code) [] with state := if poison then .poisoned else e.state }

section
variable (e : Entry) (row : Nat) (mask : W64) (code : Fin 64 → Nat) (poison : Bool)

theorem Entry.rowStored_frame : e.rowStored row mask code poison =
    { e with
      state := if poison then .poisoned else e.state
      bytes := (e.rowStored row mask code poison).bytes
      header := { e.header with bitmap := (e.rowStored row mask code poison).header.bitmap } } := by
  simp only [Entry.rowStored, Entry.putRow_eq]

variable (hcode : ∀ l, code l < 2 ^ e.fmt.elemBits)
include hcode

theorem Entry.rowStored_bitmap (hf : e.fmt.plainInt) (b : Fin 64) :
    (e.rowStored row mask code poison).header.bitmap.getLsbD b.val = (e.header.bitmap.getLsbD b.val ||
      (List.finRange 64).any (fun l => mask.getLsbD l.val && blockOf row l.val == b.val && code l != 0)) := by
  simp only [Entry.rowStored, Entry.putRow_eq, getLsbD_foldl_or, hf.countsZero (hcode _), BitVec.getLsbD_twoPow]
  have inRange (m : Nat) : (decide (m < 64) && decide (m = b.val)) = (m == b.val) := by
    by_cases hm : m = b.val
    · simp [hm]
    · simp [hm]
  simp only [inRange, bne, Bool.and_right_comm]

theorem Entry.rowStored_code (r q : Fin 64) : e.fmt.codeAt (e.rowStored row mask code poison).bytes r.val q.val =
    if r.val = row ∧ mask.getLsbD q.val = true then code q else e.fmt.codeAt e.bytes r.val q.val := by
  simp only [Entry.rowStored, Entry.putRow_eq, codeAt_foldl_putCode e.fmt row mask code hcode, List.mem_finRange, and_true]

end

/-! ## Raw stores of lanes (R69, R74) -/

theorem Entry.foldl_putRaw (off : Nat) (mask : W64) (v : Lanes) (ls : List (Fin 64)) (e : Entry) :
    ls.foldl (fun e l =>
      if mask.getLsbD l.val then
        { e with
          bytes := writeBytes e.bytes (off + 4 * l.val) (bytesLE 4 v[l].toNat)
          header := { e.header with bitmap := e.header.bitmap ||| blocksWritten e.fmt (off + 4 * l.val) 4 } }
      else e) e =
    { e with
      bytes := ls.foldl (fun t l => if mask.getLsbD l.val then writeBytes t (off + 4 * l.val) (bytesLE 4 v[l].toNat) else t)
        e.bytes
      header := { e.header with
        bitmap := ls.foldl (fun m l => if mask.getLsbD l.val then m ||| blocksWritten e.fmt (off + 4 * l.val) 4 else m)
          e.header.bitmap } } := by
  induction ls generalizing e with
  | nil => rfl
  | cons l ls ih =>
    simp only [List.foldl_cons, ih]
    cases mask.getLsbD l.val <;> rfl

theorem Entry.putRaw_state (e : Entry) (off : Nat) (mask : W64) (v : Lanes) : (e.putRaw off mask v).state = e.state := by
  rw [Entry.putRaw, Entry.foldl_putRaw]

theorem getD_bytesLE_lane (w : W32) {j : Nat} (hj : j < 4) : (bytesLE 4 w.toNat).getD j 0 = w.extractLsb' (8 * j) 8 := by
  rw [getD_bytesLE _ _ _ hj]
  apply BitVec.eq_of_getLsbD_eq
  intro i hi
  rw [testBit_byteLE _ _ _ hi, BitVec.getLsbD_extractLsb', decide_eq_true hi, Bool.true_and]
  rfl

/-- One lane stored raw. -/
theorem tileByte_writeLane (t : Table Byte) (off l : Nat) (w : W32) (m : Nat) :
    tileByte (writeBytes t (off + 4 * l) (bytesLE 4 w.toNat)) m =
      if off ≤ m ∧ (m - off) / 4 = l then w.extractLsb' (8 * ((m - off) % 4)) 8 else tileByte t m := by
  rw [tileByte_writeBytes, bytesLE_length]
  by_cases inLane : off ≤ m ∧ (m - off) / 4 = l
  · have place : m - (off + 4 * l) = (m - off) % 4 := by omega
    rw [if_pos (by omega), if_pos inLane, place, getD_bytesLE_lane _ (Nat.mod_lt _ (by norm_num))]
  · rw [if_neg (by omega), if_neg inLane]

/-- Lanes stored raw one after another. -/
theorem tileByte_foldl_writeLane (off : Nat) (mask : W64) (v : Lanes) (m : Nat) (ls : List (Fin 64)) (t : Table Byte) :
    tileByte (ls.foldl (fun t l =>
        if mask.getLsbD l.val then writeBytes t (off + 4 * l.val) (bytesLE 4 v[l].toNat) else t) t) m =
      if off ≤ m ∧ mask.getLsbD ((m - off) / 4) = true ∧ ∃ l ∈ ls, (m - off) / 4 = l.val then
        (v.getD ((m - off) / 4) 0).extractLsb' (8 * ((m - off) % 4)) 8
      else tileByte t m := by
  induction ls generalizing t with
  | nil => simp
  | cons l ls ih =>
    rw [List.foldl_cons, ih]
    by_cases later : off ≤ m ∧ mask.getLsbD ((m - off) / 4) = true ∧ ∃ l ∈ ls, (m - off) / 4 = l.val
    · obtain ⟨hoff, hm, j, hj, hlane⟩ := later
      rw [if_pos ⟨hoff, hm, j, hj, hlane⟩, if_pos ⟨hoff, hm, j, List.mem_cons_of_mem _ hj, hlane⟩]
    · rw [if_neg later]
      by_cases here : off ≤ m ∧ mask.getLsbD ((m - off) / 4) = true ∧ (m - off) / 4 = l.val
      · obtain ⟨hoff, hm, hlane⟩ := here
        have lane : v[l] = v.getD ((m - off) / 4) 0 := by simp [hlane, Vector.getD]
        rw [if_pos (hlane ▸ hm), tileByte_writeLane, if_pos ⟨hoff, hlane⟩, lane,
          if_pos ⟨hoff, hm, l, List.mem_cons_self, hlane⟩]
      · have nowhere : ¬ (off ≤ m ∧ mask.getLsbD ((m - off) / 4) = true ∧ ∃ j ∈ l :: ls, (m - off) / 4 = j.val) := by
          rintro ⟨hoff, hm, j, hj, hlane⟩
          obtain rfl | hj := List.mem_cons.mp hj
          · exact here ⟨hoff, hm, hlane⟩
          · exact later ⟨hoff, hm, j, hj, hlane⟩
        rw [if_neg nowhere]
        cases hm : mask.getLsbD l.val
        · rfl
        · rw [if_pos rfl, tileByte_writeLane, if_neg (fun ⟨hoff, hlane⟩ => here ⟨hoff, hlane ▸ hm, hlane⟩)]

/-- The entry after VST. -/
def Entry.rawStored (e : Entry) (off : Nat) (mask : W64) (v : Lanes) (poison : Bool) : Entry :=
  { e.putRaw off mask v with state := if poison then .poisoned else e.state }

section
variable (e : Entry) (off : Nat) (mask : W64) (v : Lanes) (poison : Bool)

theorem Entry.rawStored_frame : e.rawStored off mask v poison =
    { e with
      state := if poison then .poisoned else e.state
      bytes := (e.rawStored off mask v poison).bytes
      header := { e.header with bitmap := (e.rawStored off mask v poison).header.bitmap } } := by
  simp only [Entry.rawStored, Entry.putRaw, Entry.foldl_putRaw]

theorem Entry.rawStored_bitmap (b : Nat) :
    (e.rawStored off mask v poison).header.bitmap.getLsbD b = (e.header.bitmap.getLsbD b ||
      (List.finRange 64).any (fun l => mask.getLsbD l.val && (blocksWritten e.fmt (off + 4 * l.val) 4).getLsbD b)) := by
  simp only [Entry.rawStored, Entry.putRaw, Entry.foldl_putRaw, getLsbD_foldl_or]

theorem Entry.rawStored_byte (m : Nat) : tileByte (e.rawStored off mask v poison).bytes m =
    if off ≤ m ∧ m < off + 256 ∧ mask.getLsbD ((m - off) / 4) = true then
      (v.getD ((m - off) / 4) 0).extractLsb' (8 * ((m - off) % 4)) 8
    else tileByte e.bytes m := by
  have lane : (∃ l ∈ List.finRange 64, (m - off) / 4 = l.val) ↔ (m - off) / 4 < 64 :=
    ⟨fun ⟨l, _, hl⟩ => hl ▸ l.isLt, fun hl => ⟨⟨_, hl⟩, List.mem_finRange _, rfl⟩⟩
  simp only [Entry.rawStored, Entry.putRaw, Entry.foldl_putRaw, tileByte_foldl_writeLane, lane]
  have inside (hoff : off ≤ m) : (m - off) / 4 < 64 ↔ m < off + 256 := by omega
  exact if_congr (and_congr_right fun hoff => by rw [inside hoff, and_comm]) rfl rfl

end

end Sys2Proof.Machine
end

section
/-! PROOFS. VSTR and VST by the state of their entry (R69, R74), and the statement on the accesses of vector registers
to tiles. -/

set_option linter.unusedVariables false

namespace Sys2Proof.Machine

open Sys2Proof

section
variable {s : State} {c : CoreId} {x : CtxId} (h : s.issues c x = true) {a : CoreArgs} {n : Nat} {e : Entry}
  (hf : a.finding = {}) (hn : a.imm.toNat % 256 = n) (he : (s.coreOf c.val).entryFor x n = e)
include h hf hn he

/-- R69, R74, R101: VSTR of a register into a WRITABLE entry of its integer format. -/
theorem vstr_completes (hl : ({ rd := true, ra := true, men := true, var := true, imm := true } : Uses).legal a = true)
    {r : Nat} (hr : (s.coreOf c.val).tileRow a = r) (hheld : e.held) (hbusy : s.writeBusy c n = false)
    (hw : e.writable = true) (hfmt : rowFmt a = e.fmt) (hint : e.fmt.plainInt) :
    let k := s.coreOf c.val
    execVstr c a s = s.completes c
      ((k.putEntry n (e.rowStored r (k.laneMask a) (fun l => (e.fmt.saturated (k.vreg a.rd) l).1) (k.vpois a.rd))).addFlags
        (laneFlags (k.laneMask a) (Vector.ofFn (fun l => (e.fmt.saturated (k.vreg a.rd) l).2)))) := by
  intro k
  refine issue_core h 0x18 1 _ true a _ _ none _ hf hl ?effect (by simp [k]) (by simp [k]) (by simp [k])
  obtain ⟨-, hmx, hlt⟩ := id hint
  have admitted : ¬ (rowFmt a ≠ e.fmt ∨ 0xE ≤ e.fmt.toNat ∨ (e.fmt.isMx = true ∧ a.men = true)) := by
    simp [hfmt, hmx, hlt]
  simp only [hn, he, hr, hheld.settled, hbusy, hw, if_neg admitted, hint.storeRow]
  rfl

theorem vstr_address (hl : ({ rd := true, ra := true, men := true, var := true, imm := true } : Uses).legal a = true)
    (hbusy : s.writeBusy c n = false) (hbad : e.state = .empty ∨ e.held ∧ e.writable = false)
    (hh : (s.coreOf c.val).handles = true) : execVstr c a s = s.handles c xADDRESS (addressInfo n 0) := by
  refine issue_raise h 0x18 1 _ true a _ _ none _ _ hf hl ?effect hh
  obtain hempty | ⟨hheld, hw⟩ := hbad
  · simp [hn, he, hempty]
  · simp [hn, he, hheld.settled, hbusy, hw]

variable {off : Nat} (hoff : (s.coreOf c.val).rawOffset a = off)
include hoff

/-- R69, R74: VST of a register into a WRITABLE entry. -/
theorem vst_completes (hl : vectorLoadUses.legal a = true) (hheld : e.held) (hbusy : s.writeBusy c n = false)
    (hw : e.writable = true) (hin : ¬ e.misses off 32 256) :
    let k := s.coreOf c.val
    execVst c a s = s.completes c (k.putEntry n (e.rawStored off (k.laneMask a) (k.vreg a.rd) (k.vpois a.rd))) := by
  intro k
  refine issue_core h 0x18 3 _ true a _ _ none _ hf hl ?effect (by simp [k]) (by simp [k]) (by simp [k])
  have admitted : ¬ (e.writable = false ∨ e.misses off 32 256) := by simp only [hw, hin]; simp
  simp only [hn, he, hoff, hheld.settled, hbusy, if_neg admitted, Entry.putRaw_state]
  rfl

theorem vst_address (hl : vectorLoadUses.legal a = true) (hbusy : s.writeBusy c n = false)
    (hbad : e.state = .empty ∨ e.held ∧ e.writable = false) (hh : (s.coreOf c.val).handles = true) :
    execVst c a s = s.handles c xADDRESS (addressInfo n off) := by
  refine issue_raise h 0x18 3 _ true a _ _ none _ _ hf hl ?effect hh
  obtain hempty | ⟨hheld, hw⟩ := hbad
  · simp [hn, he, hoff, hempty]
  · simp [hn, he, hoff, hheld.settled, hbusy, hw]

end

/-- Settles O17: VLDR and VLD by the state of their entry; VSTR and VST by what a row of codes and 64 raw lanes leave in
an entry. -/
theorem vectorTileAccess : Obligations.VectorTileAccess := by
  unfold Obligations.VectorTileAccess
  refine ⟨?loads, ?stores⟩
  case loads =>
    intro s c x rd ra n row f hi men msel h hm k e imm a r lane raw off inside
    obtain ⟨entry, hrow, hfmt⟩ := tileRowImm n row f
    obtain ⟨rawEntry, upper⟩ := rawImm hi n
    have legal : vectorLoadUses.legal a = true := by simpa [Uses.legal, a] using hm
    have rawLegal : vectorLoadUses.legal raw = true := by simpa [Uses.legal, raw] using hm
    have format : rowFmt a = f := hfmt
    have offset : k.rawOffset raw = off := k.rawOffset_eq raw upper
    refine ⟨?row, ?operand, ?empty, ?bytes, ?beyond⟩
    case row =>
      intro hres hef hlt hshort
      have widens : s.lanewise (.vldr c a) c a (fun l => e.lane s.fresh r l.val) (e.state == .poisoned) :=
        vldr_lanewise h rfl legal entry rfl (k.tileRow_eq a hrow) (.inl hres) (format.trans hef.symm) (hef ▸ hlt) hshort
      simp only [Entry.lane_whole hshort, hef, hres] at widens
      exact widens
    case operand =>
      intro hres hef hh
      rw [exec_vldr, vldr_operand h rfl legal entry rfl (.inl hres) (fun eq => hef (eq.symm.trans format)) hh, format]
      rfl
    case empty =>
      exact fun hempty hh => ⟨vldr_address h rfl legal entry rfl hempty hh,
        vld_address h rfl rawLegal rawEntry rfl offset (.inl hempty) hh⟩
    case bytes =>
      exact fun hheld hin => vld_writesLanes h rfl rawLegal rawEntry rfl offset hheld ((e.not_misses_iff off).mpr hin)
    case beyond =>
      exact fun hheld hout hh => vld_address h rfl rawLegal rawEntry rfl offset
        (.inr ⟨hheld, of_not_not (fun hin => hout ((e.not_misses_iff off).mp hin))⟩) hh
  case stores =>
    intro s c x rd ra n row f hi men msel h hm hbusy k e held imm a r code state raw off inside
    obtain ⟨entry, hrow, hfmt⟩ := tileRowImm n row f
    obtain ⟨rawEntry, upper⟩ := rawImm hi n
    have legal : ({ rd := true, ra := true, men := true, var := true, imm := true } : Uses).legal a = true := by
      simpa [Uses.legal, a] using hm
    have rawLegal : vectorLoadUses.legal raw = true := by simpa [Uses.legal, raw] using hm
    have format : rowFmt a = f := hfmt
    have offset : k.rawOffset raw = off := k.rawOffset_eq raw upper
    refine ⟨?row, ?bytes, ?address⟩
    case row =>
      intro hheld hw hef hint
      obtain rfl : e.fmt = f := hef
      have codes (l : Fin 64) : (code l).1 < 2 ^ e.fmt.elemBits := e.fmt.saturate_lt _
      exact ⟨e.rowStored r (k.laneMask a) (fun l => (code l).1) (k.vpois rd),
        vstr_completes h rfl entry rfl legal (k.tileRow_eq a hrow) hheld hbusy hw format (Fmt.plainInt_of_mem hint),
        e.rowStored_frame .., e.rowStored_bitmap _ _ _ _ codes (Fmt.plainInt_of_mem hint),
        e.rowStored_code _ _ _ _ codes⟩
    case bytes =>
      exact fun hheld hw hin => ⟨e.rawStored off (k.laneMask raw) (k.vreg rd) (k.vpois rd),
        vst_completes h rfl rawEntry rfl offset rawLegal hheld hbusy hw ((e.not_misses_iff off).mpr hin),
        e.rawStored_frame .., fun b => e.rawStored_bitmap _ _ _ _ b, e.rawStored_byte _ _ _ _⟩
    case address =>
      exact fun hbad hh => ⟨vstr_address h rfl entry rfl legal hbusy hbad hh,
        vst_address h rfl rawEntry rfl offset rawLegal hbusy hbad hh⟩

end Sys2Proof.Machine
end

section
/-! PROOFS. Control transfers (R64, R67, R80): NOP, WAITC, branches and jumps, with targets inside the program's window
and outside it. -/

set_option linter.unusedVariables false

namespace Sys2Proof.Machine

open Sys2Proof

section
variable (c : CoreId) (a : CoreArgs) (s : State)

theorem exec_beq : exec (.beq c a) s = branch 0 (fun m n => m == n) c a s := rfl
theorem exec_bne : exec (.bne c a) s = branch 1 (fun m n => m != n) c a s := rfl
theorem exec_blt : exec (.blt c a) s = branch 2 (fun m n => m.slt n) c a s := rfl
theorem exec_bge : exec (.bge c a) s = branch 3 (fun m n => !m.slt n) c a s := rfl
theorem exec_bltu : exec (.bltu c a) s = branch 4 (fun m n => m.ult n) c a s := rfl
theorem exec_bgeu : exec (.bgeu c a) s = branch 5 (fun m n => !m.ult n) c a s := rfl

end

/-! ## Targets (R64, R244) -/

/-- R244: a target within the program's window. -/
abbrev State.inWindow (s : State) (k : Core) (target : Int) : Prop := 0 ≤ target ∧ target < s.windowLen k

theorem goto_inside {s : State} {k : Core} {target : Int} (t : State) (c : CoreId) (hin : s.inWindow k target) :
    goto s t c k target = .jump target.toNat t :=
  if_pos hin

theorem goto_outside {s : State} {k : Core} {target : Int} (t : State) (c : CoreId) (hout : ¬ s.inWindow k target) :
    goto s t c k target = .raise xADDRESS (addressInfo 0 (BitVec.ofInt 32 target).toNat) :=
  if_neg hout

/-! ## Effects that leave the core, or move its PC -/

/-- A core that runs x's program and waits for nothing goes on at `pc`. -/
theorem retire_running (t : State) {c : CoreId} {x : CtxId} {pc : Nat} (hr : (t.coreOf c.val).running = some x)
    (hw : (t.coreOf c.val).waiting = none) : t.retire c x pc = t.putCore c.val { t.coreOf c.val with pc := pc } := by
  simp only [State.retire, State.modCore, hr, if_true, ← hw]

section
variable {s : State} {c : CoreId} {x : CtxId} (h : s.issues c x = true)
include h

section
variable (major : BitVec 6) (minor : BitVec 5) (u : Uses) (a : CoreArgs) (body : State → Core → CtxId → Effect)
  (hf : a.finding = {}) (hl : u.legal a = true)
include hf hl

/-- An instruction without effect completes with the core as it is. -/
theorem issue_done (hb : body s (s.coreOf c.val) x = .done s) :
    Host.Outcome.next (issue major minor u true c a s body) = s.completes c (s.coreOf c.val) := by
  obtain ⟨-, running, waiting, -⟩ := (issues_iff s c x).mp h
  rw [issue_legal h _ _ _ _ _ _ _ _ hf (by simpa using hl), hb]
  exact congrArg _ (retire_running s running waiting)

theorem issue_jump {pc : Nat} (hb : body s (s.coreOf c.val) x = .jump pc s) :
    Host.Outcome.next (issue major minor u true c a s body) = s.jumps c (s.coreOf c.val) pc := by
  obtain ⟨-, running, waiting, -⟩ := (issues_iff s c x).mp h
  rw [issue_legal h _ _ _ _ _ _ _ _ hf (by simpa using hl), hb]
  exact congrArg _ (retire_running s running waiting)

/-- An instruction that changes its core and jumps. -/
theorem issue_core_jump {pc : Nat} {k' : Core} (hb : body s (s.coreOf c.val) x = .jump pc (s.putCore c.val k'))
    (hr : k'.running = (s.coreOf c.val).running) (hw : k'.waiting = (s.coreOf c.val).waiting) :
    Host.Outcome.next (issue major minor u true c a s body) = s.jumps c k' pc := by
  obtain ⟨-, running, waiting, -⟩ := (issues_iff s c x).mp h
  rw [issue_legal h _ _ _ _ _ _ _ _ hf (by simpa using hl), hb]
  exact congrArg _ (retire_putCore s c x k' pc (hr.trans running) (hw.trans waiting))

end

/-! ## NOP and WAITC -/

theorem nop_completes : execNop c {} s = s.completes c (s.coreOf c.val) :=
  issue_done h 0x3D 0 {} {} _ rfl (by simp [Uses.legal]) rfl

theorem waitc_completes (imm : W32) : execWaitc c { imm := imm } s = s.completes c (s.coreOf c.val) :=
  issue_done h 0x3D 1 _ _ _ rfl (by simp [Uses.legal]) rfl

/-! ## Branches -/

section
variable (minor : BitVec 5) (cond : W64 → W64 → Bool) (ra rb : BitVec 5) (imm : W32)

theorem branch_falls (hcond : cond ((s.coreOf c.val).sreg ra) ((s.coreOf c.val).sreg rb) = false) :
    branch minor cond c { ra := ra, rb := rb, imm := imm } s = s.completes c (s.coreOf c.val) :=
  issue_done h 0x07 minor _ _ _ rfl (by simp [Uses.legal]) (by simp only [hcond]; rfl)

variable {target : Int} (ht : target = (s.coreOf c.val).pc + imm.toInt)
include ht

theorem branch_jumps (hcond : cond ((s.coreOf c.val).sreg ra) ((s.coreOf c.val).sreg rb) = true)
    (hin : s.inWindow (s.coreOf c.val) target) :
    branch minor cond c { ra := ra, rb := rb, imm := imm } s = s.jumps c (s.coreOf c.val) target.toNat := by
  subst ht
  exact issue_jump h 0x07 minor _ _ _ rfl (by simp [Uses.legal])
    (by simp only [hcond]; exact goto_inside s c hin)

theorem branch_raises (hcond : cond ((s.coreOf c.val).sreg ra) ((s.coreOf c.val).sreg rb) = true)
    (hout : ¬ s.inWindow (s.coreOf c.val) target) (hh : (s.coreOf c.val).handles = true) :
    branch minor cond c { ra := ra, rb := rb, imm := imm } s =
      s.handles c xADDRESS (addressInfo 0 (BitVec.ofInt 32 target).toNat) := by
  subst ht
  exact issue_raise h 0x07 minor _ true _ _ _ none _ _ rfl (by simp [Uses.legal])
    (by simp only [hcond]; exact goto_outside s c hout) hh

end

/-! ## DBNZ -/

section
variable (ra : BitVec 5) (imm : W32) {v : W64} (hv : v = (s.coreOf c.val).sreg ra - 1)
include hv

theorem dbnz_falls (hzero : v = 0) :
    execDbnz c { ra := ra, imm := imm } s = s.completes c ((s.coreOf c.val).setS ra v) := by
  subst hv
  exact issue_core h 0x07 6 _ true _ _ _ none _ rfl (by simp [Uses.legal]) (if_neg (not_not.mpr hzero)) (by simp)
    (by simp) (by simp)

variable {target : Int} (ht : target = (s.coreOf c.val).pc + imm.toInt) (hne : v ≠ 0)
include ht hne

theorem dbnz_jumps (hin : s.inWindow (s.coreOf c.val) target) :
    execDbnz c { ra := ra, imm := imm } s = s.jumps c ((s.coreOf c.val).setS ra v) target.toNat := by
  subst hv ht
  exact issue_core_jump h 0x07 6 _ _ _ rfl (by simp [Uses.legal]) ((if_pos hne).trans (goto_inside _ c hin)) (by simp)
    (by simp)

theorem dbnz_raises (hout : ¬ s.inWindow (s.coreOf c.val) target) (hh : (s.coreOf c.val).handles = true) :
    execDbnz c { ra := ra, imm := imm } s =
      s.handles c xADDRESS (addressInfo 0 (BitVec.ofInt 32 target).toNat) := by
  subst hv ht
  exact issue_raise h 0x07 6 _ true _ _ _ none _ _ rfl (by simp [Uses.legal])
    ((if_pos hne).trans (goto_outside _ c hout)) hh

end

/-! ## Jumps -/

section
variable (rd : BitVec 5) (imm : W32) {target : Int} (ht : target = (s.coreOf c.val).pc + imm.toInt)
include ht

theorem j_jumps (hin : s.inWindow (s.coreOf c.val) target) :
    execJ c { imm := imm } s = s.jumps c (s.coreOf c.val) target.toNat := by
  subst ht
  exact issue_jump h 0x08 0 _ _ _ rfl (by simp [Uses.legal]) (goto_inside s c hin)

theorem jal_jumps (hin : s.inWindow (s.coreOf c.val) target) :
    execJal c { rd := rd, imm := imm } s =
      s.jumps c ((s.coreOf c.val).setS rd (w64 ((s.coreOf c.val).pc + 1))) target.toNat := by
  subst ht
  exact issue_core_jump h 0x08 1 _ _ _ rfl (by simp [Uses.legal]) (goto_inside _ c hin) (by simp) (by simp)

variable (hout : ¬ s.inWindow (s.coreOf c.val) target) (hh : (s.coreOf c.val).handles = true)
include hout hh

theorem j_raises : execJ c { imm := imm } s =
    s.handles c xADDRESS (addressInfo 0 (BitVec.ofInt 32 target).toNat) := by
  subst ht
  exact issue_raise h 0x08 0 _ true _ _ _ none _ _ rfl (by simp [Uses.legal]) (goto_outside _ c hout) hh

theorem jal_raises : execJal c { rd := rd, imm := imm } s =
    s.handles c xADDRESS (addressInfo 0 (BitVec.ofInt 32 target).toNat) := by
  subst ht
  exact issue_raise h 0x08 1 _ true _ _ _ none _ _ rfl (by simp [Uses.legal]) (goto_outside _ c hout) hh

end

section
variable (ra : BitVec 5) {reg : Nat} (hreg : reg = ((s.coreOf c.val).sreg ra).toNat % 4096)
include hreg

theorem jr_jumps (hin : reg < s.windowLen (s.coreOf c.val)) :
    execJr c { ra := ra } s = s.jumps c (s.coreOf c.val) reg := by
  subst hreg
  exact issue_jump h 0x08 2 _ _ _ rfl (by simp [Uses.legal])
    (goto_inside s c ⟨Int.natCast_nonneg _, Int.ofNat_lt.mpr hin⟩)

theorem jr_raises (hout : ¬ reg < s.windowLen (s.coreOf c.val)) (hh : (s.coreOf c.val).handles = true) :
    execJr c { ra := ra } s = s.handles c xADDRESS (addressInfo 0 (BitVec.ofInt 32 reg).toNat) := by
  subst hreg
  exact issue_raise h 0x08 2 _ true _ _ _ none _ _ rfl (by simp [Uses.legal])
    (goto_outside _ c (fun hin => hout (Int.ofNat_lt.mp hin.2))) hh

end

end

/-- Settles O8: each row by whether it jumps, and whether its target lies in the window. -/
theorem controlTransfers : Obligations.ControlTransfers := by
  unfold Obligations.ControlTransfers
  refine ⟨?idles, ?branches, ?jumps⟩
  case idles => exact fun s c x imm h => ⟨nop_completes h, waitc_completes h imm⟩
  case branches =>
    intro s c x ra rb imm h k m n target inside a goes
    have row (op : CoreId → CoreArgs → Instr) (minor : BitVec 5) (cond : W64 → W64 → Bool) {taken : Bool}
        (hx : exec (op c a) s = branch minor cond c a s) (hc : cond m n = taken) : goes op taken := by
      subst hc
      exact ⟨fun hcond => hx.trans (branch_falls h minor cond ra rb imm hcond),
        fun hcond hin => hx.trans (branch_jumps h minor cond ra rb imm rfl hcond hin),
        fun hcond hout hh => hx.trans (branch_raises h minor cond ra rb imm rfl hcond hout hh)⟩
    have signedGe : (!m.slt n) = decide (n.toInt ≤ m.toInt) := by rw [← BitVec.sle_eq_not_slt, BitVec.sle_eq_decide]
    have unsignedGe : (!m.ult n) = decide (n.toNat ≤ m.toNat) := by rw [← BitVec.ule_eq_not_ult, BitVec.ule_eq_decide]
    refine ⟨row _ 0 _ (exec_beq ..) rfl, row _ 1 _ (exec_bne ..) rfl, row _ 2 _ (exec_blt ..) BitVec.slt_eq_decide,
      row _ 3 _ (exec_bge ..) signedGe, row _ 4 _ (exec_bltu ..) BitVec.ult_eq_decide,
      row _ 5 _ (exec_bgeu ..) unsignedGe, ?dbnz⟩
    case dbnz =>
      intro d
      exact ⟨dbnz_falls h ra imm rfl, dbnz_jumps h ra imm rfl rfl, dbnz_raises h ra imm rfl rfl⟩
  case jumps =>
    intro s c x rd ra imm h k target inside info reg
    exact ⟨fun hin => ⟨j_jumps h imm rfl hin, jal_jumps h rd imm rfl hin⟩,
      fun hout hh => ⟨j_raises h imm rfl hout hh, jal_raises h rd imm rfl hout hh⟩,
      jr_jumps h ra rfl, jr_raises h ra rfl⟩

end Sys2Proof.Machine
end

section
/-! PROOFS. Special registers (R81): what SPRR gives and what SPRW leaves, by register number. -/

set_option linter.unusedVariables false

namespace Sys2Proof.Machine

open Sys2Proof

/-- R81: the numbers of the registers that SPRW may write. -/
def writableSprs : List Nat := [8, 9, 0x0A, 0x0B, 0x10]

/-- R81: the numbers of the registers that SPRR reads. -/
def listedSprs : List Nat := [0, 1, 2, 3, 4, 5, 6, 7, 8, 9, 0x0A, 0x0B, 0x10, 0x11, 0x12, 0x13, 0x14]

theorem Core.writeSpr_unlisted {n : Nat} (hn : n ∉ writableSprs) (k : Core) (v : W64) : k.writeSpr n v = none := by
  unfold Core.writeSpr
  split <;> simp [writableSprs] at hn ⊢

theorem State.readSpr_unlisted {n : Nat} (hn : n ∉ listedSprs) (s : State) (c : CoreId) (k : Core) (x : CtxId) :
    s.readSpr c k x n = none := by
  unfold State.readSpr
  split <;> simp [listedSprs] at hn ⊢

/-- R81: a WAITLIM below 65,536 is written as 65,536. -/
theorem waitlim_floor (n : Nat) : (if n < 65536 then 65536 else w64 n) = BitVec.ofNat 64 (max 65536 n) := by
  split
  · next hlt => rw [Nat.max_eq_left hlt.le]; rfl
  · next hge => rw [Nat.max_eq_right (Nat.not_lt.mp hge)]; rfl

section
variable {s : State} {c : CoreId} {x : CtxId} (h : s.issues c x = true) {imm : W32} {n : Nat} (hn : imm.toNat % 4096 = n)
include h hn

theorem sprr_reads (rd : BitVec 5) {w : W64} (hzero : n ≠ 0) (hw : s.readSpr c (s.coreOf c.val) x n = some w) :
    execSprr c { rd := rd, imm := imm } s = s.completes c ((s.coreOf c.val).setS rd w) := by
  refine issue_setS h 0x09 0 _ _ _ _ rfl (by simp [Uses.legal]) ?effect
  simp only [sprNumber, hn, hw, if_neg hzero]

theorem sprr_illegal (rd : BitVec 5) (hlist : n ∉ listedSprs) (hh : (s.coreOf c.val).handles = true) :
    execSprr c { rd := rd, imm := imm } s = s.handles c xILLEGAL (assemble 0x09 0 { rd := rd, imm := imm }) := by
  refine issue_raise h 0x09 0 _ true _ _ _ none _ _ rfl (by simp [Uses.legal]) ?effect hh
  simp only [sprNumber, hn, State.readSpr_unlisted hlist]

theorem sprw_writes (ra : BitVec 5) {k' : Core}
    (hw : (s.coreOf c.val).writeSpr n ((s.coreOf c.val).sreg ra) = some k')
    (hr : k'.running = (s.coreOf c.val).running) (hs : k'.waiting = (s.coreOf c.val).waiting)
    (hp : k'.pc = (s.coreOf c.val).pc) : execSprw c { ra := ra, imm := imm } s = s.completes c k' := by
  refine issue_core h 0x09 1 _ true _ _ _ none _ rfl (by simp [Uses.legal]) ?effect hr hs hp
  simp only [sprNumber, hn, hw]

theorem sprw_illegal (ra : BitVec 5) (hlist : n ∉ writableSprs) (hh : (s.coreOf c.val).handles = true) :
    execSprw c { ra := ra, imm := imm } s = s.handles c xILLEGAL (assemble 0x09 1 { ra := ra, imm := imm }) := by
  refine issue_raise h 0x09 1 _ true _ _ _ none _ _ rfl (by simp [Uses.legal]) ?effect hh
  simp only [sprNumber, hn, Core.writeSpr_unlisted hlist]

end

/-- Settles O9: SPRR and SPRW of a listed number by their tables, of any other by its absence from them. -/
theorem specialRegisterAccess : Obligations.SpecialRegisterAccess := by
  unfold Obligations.SpecialRegisterAccess
  intro s c x rd ra imm h k v n reads writes
  have read (m : Nat) (w : W64) (hm : m ≠ 0) (hw : s.readSpr c k x m = some w) : reads m w :=
    fun hn => sprr_reads h hn rd hm hw
  have write (m : Nat) (k' : Core) (hw : k.writeSpr m v = some k') (hr : k'.running = k.running)
      (hs : k'.waiting = k.waiting) (hp : k'.pc = k.pc) : writes m k' :=
    fun hn => sprw_writes h hn ra hw hr hs hp
  have waitlim : k.writeSpr 8 v = some { k with waitlim := BitVec.ofNat 64 (max 65536 (v.toNat % 2 ^ 32)) } := by
    rw [← waitlim_floor]; rfl
  exact ⟨read 1 _ (by decide) rfl, read 2 _ (by decide) rfl, read 4 _ (by decide) rfl, read 5 _ (by decide) rfl,
    read 6 _ (by decide) rfl, read 7 _ (by decide) rfl, read 8 _ (by decide) rfl, read 9 _ (by decide) rfl,
    read 0x0B _ (by decide) rfl, read 0x10 _ (by decide) rfl, read 0x11 _ (by decide) rfl, read 0x12 _ (by decide) rfl,
    read 0x13 _ (by decide) rfl, read 0x14 _ (by decide) rfl,
    write 8 _ waitlim rfl rfl rfl, write 9 _ rfl rfl rfl rfl, write 0x0B _ rfl rfl rfl rfl, write 0x10 _ rfl rfl rfl rfl,
    fun hlist hh => sprw_illegal h rfl ra hlist hh, fun hlist hh => sprr_illegal h rfl rd hlist hh⟩

end Sys2Proof.Machine
end

section
/-! PROOFS. Exceptions (R62, R63, R80, R86 to R89, R528): words that raise ILLEGAL, and the entry of the handler and the
return from it. -/

set_option linter.unusedVariables false

namespace Sys2Proof.Machine

open Sys2Proof

/-! ## Words that are not legal -/

/-- R62, R63, R528: whatever the row, an undefined word at the PC raises ILLEGAL with that word. -/
theorem issue_undefined {s : State} {c : CoreId} {w : W64} (hclock : s.coreClocked c.val = true)
    (hrun : (s.coreOf c.val).running.isSome = true) (hwait : (s.coreOf c.val).waiting = none)
    (hbuf : (s.coreOf c.val).ibufLost = none) (hpc : (s.coreOf c.val).pc < s.windowLen (s.coreOf c.val))
    (hword : s.fetched (s.coreOf c.val) = w) (hundef : wordDefined w = false)
    (hh : (s.coreOf c.val).handles = true) (major : BitVec 6) (minor : BitVec 5) (u : Uses) (defined : Bool) (a : CoreArgs)
    (hf : a.finding = {}) (body : State → Core → CtxId → Effect) (reads : Core → List Nat) (acc : Option Bool) :
    Host.Outcome.next (issue major minor u defined c a s body reads acc) = s.handles c xILLEGAL w := by
  obtain ⟨x, running⟩ := Option.isSome_iff_exists.mp hrun
  have issues : s.canIssue c (assemble major minor a) = true := by simp [State.canIssue, hclock, hrun, hbuf, hwait]
  have raises : issue major minor u defined c a s body reads acc = s.takeException c xILLEGAL w := by
    simp [issue, issues, running, hwait, Nat.not_le.mpr hpc, hf, hword, hundef]
  rw [raises]
  exact congrArg _ (takeException_handled s c xILLEGAL w hh)

/-- R62: a mask where the instruction has none. -/
theorem Uses.legal_masked {u : Uses} {a : CoreArgs} (hu : u.men = false) (hm : a.men = true) : u.legal a = false := by
  simp [Uses.legal, hu, hm]

/-- R62, R86: an instruction without a mask whose word has MEN set. -/
theorem issue_masked {s : State} {c : CoreId} {x : CtxId} (h : s.issues c x = true) {a : CoreArgs} (hm : a.men = true)
    (hf : a.finding = {}) (hh : (s.coreOf c.val).handles = true) (major : BitVec 6) (minor : BitVec 5) (u : Uses)
    (defined : Bool) (body : State → Core → CtxId → Effect) (reads : Core → List Nat) (acc : Option Bool)
    (hu : u.men = false) :
    Host.Outcome.next (issue major minor u defined c a s body reads acc) =
      s.handles c xILLEGAL (assemble major minor a) := by
  rw [issue_illegal h _ _ _ _ _ _ _ _ hf (by rw [Uses.legal_masked hu hm, Bool.and_false])]
  exact congrArg _ (takeException_handled s c xILLEGAL _ hh)

/-- Settles O10: an undefined word by `issue_undefined`, whatever the row; MEN set by `issue_masked`, one row at a time. -/
theorem unusedFieldRaisesIllegal : Obligations.UnusedFieldRaisesIllegal := by
  unfold Obligations.UnusedFieldRaisesIllegal
  refine ⟨⟨by decide, ?undefined⟩, ?masked⟩
  case undefined =>
    intro s c a w k hclock hrun hwait hbuf hpc hcode hundef hh hf
    have fetched : s.fetched k = w := by simp [State.fetched, hcode]
    have raises := issue_undefined hclock hrun hwait hbuf hpc fetched hundef hh
    and_intros <;> exact raises _ _ _ _ a hf _ _ _
  case masked =>
    intro s c x a h hm hf hh raises alu
    have masked := issue_masked h hm hf hh
    and_intros <;> exact masked _ _ _ _ _ _ _ rfl

/-! ## The handler -/

section
variable {s : State} {c : CoreId} {x : CtxId} (h : s.issues c x = true)
include h

theorem brk_handled (imm : W32) (hh : (s.coreOf c.val).handles = true) :
    execBrk c { imm := imm } s = s.handles c xBREAK (imm.setWidth 64) :=
  issue_raise h 0x3E 2 _ true _ _ _ none _ _ rfl (by simp [Uses.legal]) rfl hh

theorem xret_returns (minor : BitVec 5) (skip : Nat) (hin : (s.coreOf c.val).inHandler = true) :
    xret minor skip c {} s =
      s.jumps c { s.coreOf c.val with inHandler := false } ((s.coreOf c.val).xpc.toNat + skip) :=
  issue_core_jump h 0x3E minor {} {} _ rfl (by simp [Uses.legal]) (if_pos hin) rfl rfl

theorem xret_illegal (minor : BitVec 5) (skip : Nat) (hh : (s.coreOf c.val).handles = true) :
    xret minor skip c {} s = s.handles c xILLEGAL (assemble 0x3E minor {}) := by
  have outside : (s.coreOf c.val).inHandler = false := by
    simp only [Core.handles, Bool.and_eq_true, Bool.not_eq_true'] at hh
    exact hh.2
  exact issue_raise h 0x3E minor {} true {} _ _ none _ _ rfl (by simp [Uses.legal]) (if_neg (by simp [outside])) hh

end

/-- R31: a clocked core has a physical core that serves it. -/
theorem servedBy_of_coreClocked {s : State} {c : Nat} (h : s.coreClocked c = true) : ∃ p, s.servedBy c = some p := by
  unfold State.coreClocked at h
  cases hs : s.servedBy c with
  | none => simp [hs] at h
  | some p => exact ⟨p, rfl⟩

/-- R89: an exception without a handler is a FAULT of the core and aborts the context. -/
theorem takeException_unhandled {s : State} {c : CoreId} {x : CtxId} {p : Nat} (cause info : W64)
    (hh : (s.coreOf c.val).handles = false) (hr : (s.coreOf c.val).running = some x) (hs : s.servedBy c.val = some p) :
    s.takeException c cause info =
      (s.raise .fault 89 0 (srcCore p) (some x.val) [w64 c.val, w64 x.val, w64 (s.coreOf c.val).pc, cause, info]).abortContext
        x (bytesLE 8 (s.coreOf c.val).pc ++ bytesLE 8 cause.toNat) := by
  have none : ¬ ((s.coreOf c.val).xvec ≠ 0 ∧ (s.coreOf c.val).inHandler = false) := by
    simpa [Core.handles] using hh
  simp only [State.takeException, if_neg none, hr, hs]

theorem brk_unhandled {s : State} {c : CoreId} {x : CtxId} (h : s.issues c x = true) (imm : W32)
    (hh : (s.coreOf c.val).handles = false) : ∃ p : Nat, s.servedBy c.val = some p ∧
    execBrk c { imm := imm } s = .next ((s.raise .fault 89 0 (srcCore p) (some x.val)
      [w64 c.val, w64 x.val, w64 (s.coreOf c.val).pc, xBREAK, imm.setWidth 64]).abortContext x
        (bytesLE 8 (s.coreOf c.val).pc ++ bytesLE 8 xBREAK.toNat)) := by
  obtain ⟨clocked, running, -⟩ := (issues_iff s c x).mp h
  obtain ⟨p, serves⟩ := servedBy_of_coreClocked clocked
  refine ⟨p, serves, congrArg Host.Outcome.next ?_⟩
  rw [issue_legal h 0x3E 2 _ true _ _ _ none rfl (by simp [Uses.legal])]
  exact takeException_unhandled _ _ hh running serves

/-- Settles O11: BRK by whether a handler takes it, XRET by whether one has been entered. -/
theorem handlerEntryAndReturn : Obligations.HandlerEntryAndReturn := by
  unfold Obligations.HandlerEntryAndReturn
  intro s c x imm h k
  exact ⟨brk_handled h imm, fun hin => ⟨xret_returns h 0 0 hin, xret_returns h 1 1 hin⟩,
    fun hh => ⟨xret_illegal h 0 0 hh, xret_illegal h 1 1 hh⟩, brk_unhandled h imm⟩

end Sys2Proof.Machine
end

section
/-! PROOFS. Compares and mask operations (R36, R69): what a masked write of a mask register leaves, and the rows that
write one. -/

set_option linter.unusedVariables false

namespace Sys2Proof.Machine

open Sys2Proof

/-! ## Mask registers -/

@[simp] theorem Core.mreg_setM_same (k : Core) (n : Nat) (v : W64) : (k.setM n v).mreg n = v :=
  tget_tput_same ..

theorem Core.mreg_setM_ne (k : Core) {n r : Nat} (v : W64) (h : r % 8 ≠ n % 8) : (k.setM n v).mreg r = k.mreg r :=
  tget_tput_ne _ _ _ h

@[simp] theorem Core.addFlags_mreg (k : Core) (f : FpFlags) (r : Nat) : (k.addFlags f).mreg r = k.mreg r := rfl

@[simp] theorem Core.putM_running (k : Core) (a : CoreArgs) (v : W64) : (k.putM a v).running = k.running :=
  Core.setM_running ..
@[simp] theorem Core.putM_waiting (k : Core) (a : CoreArgs) (v : W64) : (k.putM a v).waiting = k.waiting :=
  Core.setM_waiting ..
@[simp] theorem Core.putM_pc (k : Core) (a : CoreArgs) (v : W64) : (k.putM a v).pc = k.pc := Core.setM_pc ..

/-- Bits taken from one word where the mask admits them, and from the other where it does not. -/
theorem getLsbD_mergeBits (mask new old : W64) (l : Fin 64) :
    ((new &&& mask) ||| (old &&& ~~~mask)).getLsbD l.val = if mask.getLsbD l.val then new.getLsbD l.val
      else old.getLsbD l.val := by
  rw [BitVec.getLsbD_or, BitVec.getLsbD_and, BitVec.getLsbD_and, BitVec.getLsbD_not, decide_eq_true l.isLt]
  cases mask.getLsbD l.val <;> simp

/-- A mask word has the bit of each lane. -/
theorem getLsbD_maskWord (f : Fin 64 → Bool) (l : Fin 64) : (maskWord f).getLsbD l.val = f l := by
  have lane (i : Fin 64) : (BitVec.twoPow 64 i.val).getLsbD l.val = true ↔ i = l := by
    rw [BitVec.getLsbD_twoPow, Bool.and_eq_true, decide_eq_true_eq, decide_eq_true_eq, Fin.ext_iff]
    exact and_iff_right i.isLt
  rw [maskWord, getLsbD_foldl_or, Bool.eq_iff_iff]
  simp only [BitVec.ofNat_eq_ofNat, BitVec.getLsbD_zero, Bool.false_or, List.any_eq_true, List.mem_finRange, true_and,
    Bool.and_eq_true, lane]
  exact ⟨fun ⟨_, hi, eq⟩ => eq ▸ hi, fun hl => ⟨l, hl, rfl⟩⟩

/-- A masked write of m[RD], with its flags, is what `writesMask` says. -/
theorem writesMask_of_putM {s : State} {i : Instr} {c : CoreId} {a : CoreArgs} {v : W64} {out : Fin 64 → Bool}
    {flags : FpFlags} (hx : exec i s = s.completes c (((s.coreOf c.val).putM a v).addFlags flags))
    (hv : ∀ l : Fin 64, v.getLsbD l.val = out l) : s.writesMask i c a out flags := by
  unfold State.writesMask
  generalize s.coreOf c.val = k at hx ⊢
  refine ⟨_, hx, ?bits, ?others, rfl, rfl⟩
  case bits =>
    intro l
    rw [← hv l, ← getLsbD_mergeBits, Core.addFlags_mreg, Core.putM, Core.mreg_setM_same]
  case others => exact fun r hr => k.mreg_setM_ne _ hr

/-- A masked write of m[RD] without flags. -/
theorem writesMask_of_putM_plain {s : State} {i : Instr} {c : CoreId} {a : CoreArgs} {v : W64}
    (hx : exec i s = s.completes c ((s.coreOf c.val).putM a v)) :
    s.writesMask i c a (fun l => v.getLsbD l.val) 0 :=
  writesMask_of_putM (by rwa [Core.addFlags_zero]) (fun _ => rfl)

/-! ## The rows of MAJOR 0x12 and 0x16 that write a mask register -/

section
variable (c : CoreId) (a : CoreArgs) (s : State)

theorem exec_vceq : exec (.vceq c a) s = compare 0 cmpEq32 c a s := rfl
theorem exec_vclt : exec (.vclt c a) s = compare 1 cmpLt32 c a s := rfl
theorem exec_vcle : exec (.vcle c a) s = compare 2 cmpLe32 c a s := rfl
theorem exec_vcun : exec (.vcun c a) s = compare 3 cmpUn32 c a s := rfl
theorem exec_viceq : exec (.viceq c a) s = compare 4 (fun m n => (m == n, 0)) c a s := rfl
theorem exec_viclt : exec (.viclt c a) s = compare 5 (fun m n => (m.slt n, 0)) c a s := rfl
theorem exec_mand : exec (.mand c a) s = maskOp 4 true (· &&& ·) c a s := rfl
theorem exec_mor : exec (.mor c a) s = maskOp 5 true (· ||| ·) c a s := rfl
theorem exec_mxor : exec (.mxor c a) s = maskOp 6 true (· ^^^ ·) c a s := rfl
theorem exec_mnot : exec (.mnot c a) s = maskOp 7 false (fun m _ => ~~~m) c a s := rfl
theorem exec_mset : exec (.mset c a) s = execMset c a s := rfl

end

section
variable {s : State} {c : CoreId} {x : CtxId} (h : s.issues c x = true)
include h

/-- A comparison gives each lane its bit and its flags. -/
theorem writesMask_of_compare (i : Instr) (minor : BitVec 5) (f : W32 → W32 → Bool × FpFlags) (a : CoreArgs)
    (hx : exec i s = compare minor f c a s) (hf : a.finding = {})
    (hl : ({ rd := true, ra := true, rb := true, men := true, rdMask := true } : Uses).legal a = true) :
    let k := s.coreOf c.val
    s.writesMask i c a (fun l => (f (k.vreg a.ra)[l] (k.vreg a.rb)[l]).1)
      (laneFlags (k.laneMask a) (Vector.ofFn (fun l => (f (k.vreg a.ra)[l] (k.vreg a.rb)[l]).2))) := by
  intro k
  have completes := hx.trans (issue_core h 0x12 minor _ true a _ (fun _ => []) none _ hf (by simpa using hl) rfl
    (by simp) (by simp) (by simp))
  rw [Vector.map_ofFn] at completes
  exact writesMask_of_putM completes (fun l => (getLsbD_maskWord _ l).trans (by simp [k]))

theorem writesMask_of_maskOp (i : Instr) (minor : BitVec 5) (useB : Bool) (f : W64 → W64 → W64) (a : CoreArgs)
    (hx : exec i s = maskOp minor useB f c a s) (hf : a.finding = {})
    (hl : ({ rd := true, ra := true, rb := useB, men := true, rdMask := true, raMask := true, rbMask := true } :
      Uses).legal a = true) :
    s.writesMask i c a
      (fun l => (f ((s.coreOf c.val).mreg a.ra.toNat) ((s.coreOf c.val).mreg a.rb.toNat)).getLsbD l.val) 0 :=
  writesMask_of_putM_plain (hx.trans (issue_core h 0x16 minor _ true a _ (fun _ => []) none _ hf (by simpa using hl) rfl
    (by simp) (by simp) (by simp)))

theorem mset_completes (a : CoreArgs) (hf : a.finding = {})
    (hl : ({ rd := true, men := true, imm := true, rdMask := true } : Uses).legal a = true) :
    execMset c a s = s.completes c ((s.coreOf c.val).putM a (a.imm ++ a.imm)) :=
  issue_core h 0x16 8 _ true a _ (fun _ => []) none _ hf (by simpa using hl) rfl (by simp) (by simp) (by simp)

end

/-- Settles O13: the comparisons by `writesMask_of_compare`, the mask operations by `writesMask_of_maskOp`. -/
theorem comparesAndMaskOperations : Obligations.ComparesAndMaskOperations := by
  unfold Obligations.ComparesAndMaskOperations
  intro s c x rd ra rb imm men msel h hm hrd k a b i one set compares bits
  have legalCompare : ({ rd := true, ra := true, rb := true, men := true, rdMask := true } : Uses).legal i = true := by
    simpa [Uses.legal, i] using And.intro hm hrd
  have compared (op : CoreId → CoreArgs → Instr) (minor : BitVec 5) (f : W32 → W32 → Bool × FpFlags)
      (hx : exec (op c i) s = compare minor f c i s) : compares op f :=
    writesMask_of_compare h (op c i) minor f i hx rfl legalCompare
  have signedLt (m n : W32) : m.slt n = decide (m.toInt < n.toInt) := BitVec.slt_eq_decide
  refine ⟨compared _ 0 _ (exec_vceq ..), compared _ 1 _ (exec_vclt ..), compared _ 2 _ (exec_vcle ..),
    compared _ 3 _ (exec_vcun ..), compared _ 4 _ (exec_viceq ..), ?viclt, ?masks, ?mset⟩
  case viclt => simpa only [signedLt] using compared _ 5 _ (exec_viclt ..)
  case masks =>
    intro hra hrb
    have legal : ({ rd := true, ra := true, rb := true, men := true, rdMask := true, raMask := true, rbMask := true } :
        Uses).legal i = true := by simpa [Uses.legal, i] using And.intro (And.intro (And.intro hm hrd) hra) hrb
    have legalNot : ({ rd := true, ra := true, men := true, rdMask := true, raMask := true, rbMask := true } :
        Uses).legal one = true := by simpa [Uses.legal, one] using And.intro (And.intro hm hrd) hra
    exact ⟨writesMask_of_maskOp h _ 4 true _ i (exec_mand ..) rfl legal,
      writesMask_of_maskOp h _ 5 true _ i (exec_mor ..) rfl legal,
      writesMask_of_maskOp h _ 6 true _ i (exec_mxor ..) rfl legal,
      writesMask_of_maskOp h _ 7 false (fun m _ => ~~~m) one (exec_mnot ..) rfl legalNot⟩
  case mset =>
    have legalSet : ({ rd := true, men := true, imm := true, rdMask := true } : Uses).legal set = true := by
      simpa [Uses.legal, set] using And.intro hm hrd
    exact writesMask_of_putM_plain ((exec_mset ..).trans (mset_completes h set rfl legalSet))

end Sys2Proof.Machine
end

section
/-! PROOFS. The token sampler (R79, R134 to R139): SMPCFG, SMPFEED and SMPDRAW, the tokens, and the loss of the main
path. -/

set_option linter.unusedVariables false

namespace Sys2Proof.Machine

open Sys2Proof

/-! ## Events raised (R496 to R502) -/

theorem deliverEvent_frame (s : State) (cls : EventClass) (e : EventRec) (lost : Nat) :
    ∃ rings, s.deliverEvent cls e lost = { s with rings := rings } := ⟨_, rfl⟩

theorem threadPass_frame (s : State) (src dest : W16) (b : ThreadBody) :
    ∃ thread, s.threadPass src dest b = { s with thread := thread } := ⟨_, rfl⟩

/-- A controller that sends events changes the rings and the Thread alone. -/
theorem sendEvents_frame (f n : Nat) (s : State) :
    ∃ rings thread, s.sendEvents f n = { s with rings := rings, thread := thread } := by
  induction n generalizing s with
  | zero => exact ⟨_, _, rfl⟩
  | succ n ih =>
    unfold State.sendEvents
    dsimp only
    split
    · exact ⟨_, _, rfl⟩
    · obtain ⟨_, passed⟩ := threadPass_frame _ _ _ _
      obtain ⟨_, delivered⟩ := deliverEvent_frame _ _ _ _
      rw [passed, delivered]
      exact ih _

/-- An event changes the rings and the Thread alone. -/
theorem raise_frame (s : State) (cls : EventClass) (rule pos : Nat) (src : Source) (x : Option Nat) (d : List W64) :
    ∃ rings thread, s.raise cls rule pos src x d = { s with rings := rings, thread := thread } := by
  unfold State.raise
  cases src.field? with
  | none => exact ⟨_, _, rfl⟩
  | some f =>
    obtain ⟨rings, thread, sent⟩ := sendEvents_frame f _ _
    exact ⟨rings, thread, sent.trans rfl⟩

/-- R138: the NOTICE of a sampler whose path in use changed, where it did. -/
def State.notePath (s : State) (was : Bool) (q : Nat) (x : Option Nat) : State :=
  if was = (s.clusterOf q).sampler.onFallback then s else s.raise .notice 138 0 (srcCluster q) x []

theorem notePath_frame (s : State) (was : Bool) (q : Nat) (x : Option Nat) :
    ∃ rings thread, s.notePath was q x = { s with rings := rings, thread := thread } := by
  unfold State.notePath
  split
  · exact ⟨_, _, rfl⟩
  · exact raise_frame ..

/-! ## Samplers -/

@[simp] theorem modSampler_coreOf (s : State) (q : Nat) (f : Sampler → Sampler) (c : Nat) :
    (s.modSampler q f).coreOf c = s.coreOf c := rfl
@[simp] theorem modSampler_ctxOf (s : State) (q : Nat) (f : Sampler → Sampler) (x : Nat) :
    (s.modSampler q f).ctxOf x = s.ctxOf x := rfl
@[simp] theorem modSampler_clusterOf (s : State) (q : Nat) (f : Sampler → Sampler) :
    (s.modSampler q f).clusterOf q = { s.clusterOf q with sampler := f (s.clusterOf q).sampler } :=
  State.putCluster_same ..

/-- The state after a sampler instruction: its core, the sampler, and nothing else but events of the sampler. -/
def State.samplerStep (s : State) (c : CoreId) (q : Nat) (k' : Core) (p' : Sampler) (t : State) : Prop :=
  t.coreOf c.val = k' ∧ (t.clusterOf q).sampler = p' ∧
  t = { s with cores := t.cores, clusters := t.clusters, rings := t.rings, thread := t.thread }

/-- A change of one sampler is a step of it. -/
theorem samplerStep_modSampler (s : State) (c : CoreId) (q : Nat) (f : Sampler → Sampler) :
    s.samplerStep c q (s.coreOf c.val) (f (s.clusterOf q).sampler) (s.modSampler q f) :=
  ⟨rfl, congrArg Cluster.sampler (modSampler_clusterOf s q f), rfl⟩

/-- So it is with the NOTICE of its path. -/
theorem samplerStep_notePath (s : State) (c : CoreId) (q : Nat) (f : Sampler → Sampler) (was : Bool) (x : Option Nat) :
    s.samplerStep c q (s.coreOf c.val) (f (s.clusterOf q).sampler) ((s.modSampler q f).notePath was q x) := by
  obtain ⟨rings, thread, noted⟩ := notePath_frame (s.modSampler q f) was q x
  have sampler : ((s.modSampler q f).clusterOf q).sampler = f (s.clusterOf q).sampler := by rw [modSampler_clusterOf]
  rw [noted]
  exact ⟨rfl, sampler, rfl⟩

/-- R79: a sampler as SMPCFG of core k sets it; its open sequences end. -/
def Sampler.configure (p : Sampler) (k : Core) (temperature : W32) (topK : Nat) (topP : W32) (fall : Bool) : Sampler :=
  { p with
    seed := k.seed, sid := k.sid, temperature := temperature, topK := topK, topP := topP, fallback := fall, seqs := []
    configured := true }

/-- R135: a feed of a range that the sequence holds already. -/
def Sampler.ignore (p : Sampler) : Sampler := { p with ignored := p.ignored + 1 }

/-- R135: scores fed to an open sequence; those that are not finite are counted. -/
def Sampler.feed (p : Sampler) (seq : W16) (base : W64) (scores : List (Nat × W32)) : Sampler :=
  { p with
    nonFinite := p.nonFinite + (scores.filter (fun y => !isFinite32 y.2)).length
    seqs := p.seqs.map (fun z => if z.1 = seq then (z.1, z.2.feed base scores) else z) }

/-- R135, R138: scores that open their sequence. -/
def Sampler.openWith (p : Sampler) (seq : W16) (base : W64) (scores : List (Nat × W32)) : Sampler :=
  { p with
    nonFinite := p.nonFinite + (scores.filter (fun y => !isFinite32 y.2)).length
    seqs := p.seqs ++ [(seq, { ({} : SampleSeq).feed base scores with lost := !p.mainOk })] }

/-- R135: the sequence that SMPDRAW closes. -/
def Sampler.closing (p : Sampler) (c : CoreId) (word : W64) : Draw :=
  { seq := word.setWidth 16, core := c, pos := (word >>> 16).setWidth 32,
    body := ((p.seqs.find? (fun y => y.1 == word.setWidth 16)).map (·.2)).getD {} }

theorem Sampler.closing_pos (p : Sampler) (c : CoreId) (word : W64) : (p.closing c word).pos = word.extractLsb' 16 32 := by
  rw [Sampler.closing, BitVec.setWidth_ushiftRight_eq_extractLsb]

/-- A sampler whose sequence SMPDRAW has closed. -/
def Sampler.close (p : Sampler) (c : CoreId) (word : W64) : Sampler :=
  { p with seqs := p.seqs.filter (fun y => y.1 != word.setWidth 16), draws := p.draws ++ [p.closing c word] }

section
variable {s : State} {c : CoreId} {x : CtxId} (h : s.issues c x = true)
include h

/-- An instruction that completes with a change of its core and of a sampler. -/
theorem issue_sampler (major : BitVec 6) (minor : BitVec 5) (u : Uses) (defined : Bool) (a : CoreArgs)
    (body : State → Core → CtxId → Effect) (reads : Core → List Nat) (acc : Option Bool) {q : Nat} {k' : Core}
    {p' : Sampler} {t : State} (hf : a.finding = {}) (hl : (defined && u.legal a) = true)
    (hb : body s (s.coreOf c.val) x = .done t) (ht : s.samplerStep c q k' p' t)
    (hr : k'.running = (s.coreOf c.val).running) (hw : k'.waiting = (s.coreOf c.val).waiting) :
    ∃ t', (.next (issue major minor u defined c a s body reads acc) : Result) = .next t' ∧
      s.samplerStep c q { k' with pc := (s.coreOf c.val).pc + 1 } p' t' := by
  obtain ⟨-, running, waiting, -⟩ := (issues_iff s c x).mp h
  obtain ⟨rfl, hsampler, unchanged⟩ := ht
  refine ⟨_, congrArg _ (issue_legal h _ _ _ _ _ _ _ _ hf hl), ?_⟩
  rw [hb, Effect.apply, retire_running _ (hr.trans running) (hw.trans waiting)]
  refine ⟨State.putCore_same .., hsampler, ?_⟩
  conv_lhs => rw [State.putCore, unchanged]
  rfl

/-! ## SMPCFG -/

section
variable (ra rb : BitVec 5) (topP : W32) (fall : Bool)

/-- R79: SMPCFG with values that it admits. -/
theorem smpcfg_completes {q : Nat} (hq : s.samplerCluster (s.coreOf c.val).region.val = some q)
    (hok : cfgFault (((s.coreOf c.val).sreg ra).setWidth 32) (((s.coreOf c.val).sreg rb).toNat % 2048) topP = none) :
    let k := s.coreOf c.val
    ∃ t, execSmpcfg c { ra := ra, rb := rb, var := (BitVec.ofBool fall).setWidth 2, imm := topP } s = .next t ∧
      s.samplerStep c q { k with pc := k.pc + 1 }
        ((s.clusterOf q).sampler.configure k ((k.sreg ra).setWidth 32) ((k.sreg rb).toNat % 2048) topP fall) t := by
  intro k
  have fallback : ((BitVec.ofBool fall).setWidth 2 == (1 : BitVec 2)) = fall := by cases fall <;> rfl
  refine issue_sampler h 0x38 0 _ _ _ _ (fun _ => []) none rfl (by cases fall <;> simp [Uses.legal]) ?effect
    (samplerStep_notePath s c q (·.configure k ((k.sreg ra).setWidth 32) ((k.sreg rb).toNat % 2048) topP fall)
      (s.clusterOf q).sampler.onFallback (some x.val)) rfl rfl
  simp only [hok, hq, fallback]
  rfl

theorem smpcfg_refuses {m : Nat}
    (hbad : cfgFault (((s.coreOf c.val).sreg ra).setWidth 32) (((s.coreOf c.val).sreg rb).toNat % 2048) topP = some m)
    (hh : (s.coreOf c.val).handles = true) :
    execSmpcfg c { ra := ra, rb := rb, var := (BitVec.ofBool fall).setWidth 2, imm := topP } s =
      s.handles c xSAMPLER (w64 m) := by
  refine issue_raise h 0x38 0 _ _ _ _ _ none _ _ rfl (by cases fall <;> simp [Uses.legal]) ?effect hh
  simp only [hbad]

end

/-! ## SMPFEED -/

section
variable (ra rb : BitVec 5) (imm : W32) {n q : Nat} {e : Entry} {base : W64} {seq : W16} (hn : imm.toNat % 256 = n)
  (hq : s.samplerCluster (s.coreOf c.val).region.val = some q) (he : (s.coreOf c.val).entryFor x n = e)
  (hbase : (s.coreOf c.val).sreg ra = base) (hseq : ((s.coreOf c.val).sreg rb).setWidth 16 = seq)
  (hheld : e.held) (hfmt : e.fmt.toNat < 3) (haligned : base.toNat % 4096 = 0) (hrange : base.toNat + 4095 ≤ 1048575)
include hn hq he hbase hseq hheld hfmt haligned hrange

/-- R135: a range of the vocabulary that the sequence has been fed already. -/
theorem smpfeed_ignores {b : SampleSeq} (hfind : (s.clusterOf q).sampler.seqs.find? (fun y => y.1 == seq) = some (seq, b))
    (hfed : b.fed.contains base = true) :
    ∃ t, execSmpfeed c { ra := ra, rb := rb, imm := imm } s = .next t ∧
      s.samplerStep c q { s.coreOf c.val with pc := (s.coreOf c.val).pc + 1 } (s.clusterOf q).sampler.ignore t := by
  refine issue_sampler h 0x39 0 _ true _ _ _ none rfl (by simp [Uses.legal]) ?effect
    (samplerStep_modSampler s c q (·.ignore)) rfl rfl
  have fed : base ∈ b.fed := by simpa using hfed
  simp [hn, he, hbase, hseq, hheld.settled, Nat.not_le.mpr hfmt, haligned, Nat.not_lt.mpr hrange, hq, hfind, fed,
    Sampler.ignore]

variable (hshort : e.short = false)
include hshort

/-- R135: a tile of scores fed to an open sequence. -/
theorem smpfeed_feeds {b : SampleSeq} (hfind : (s.clusterOf q).sampler.seqs.find? (fun y => y.1 == seq) = some (seq, b))
    (hfed : b.fed.contains base = false) :
    ∃ t, execSmpfeed c { ra := ra, rb := rb, imm := imm } s = .next t ∧
      s.samplerStep c q { s.coreOf c.val with pc := (s.coreOf c.val).pc + 1 }
        ((s.clusterOf q).sampler.feed seq base (e.scores s.fresh base.toNat)) t := by
  refine issue_sampler h 0x39 0 _ true _ _ _ none rfl (by simp [Uses.legal]) ?effect
    (samplerStep_modSampler s c q (·.feed seq base (e.scores s.fresh base.toNat))) rfl rfl
  have fresh : base ∉ b.fed := by simpa using hfed
  simp [hn, he, hbase, hseq, hheld.settled, Nat.not_le.mpr hfmt, haligned, Nat.not_lt.mpr hrange, hq, hfind, fresh, hshort,
    Sampler.feed]

/-- R135: a tile of scores that opens its sequence. -/
theorem smpfeed_opens (hfind : (s.clusterOf q).sampler.seqs.find? (fun y => y.1 == seq) = none)
    (hroom : (s.clusterOf q).sampler.seqs.length < 64) :
    ∃ t, execSmpfeed c { ra := ra, rb := rb, imm := imm } s = .next t ∧
      s.samplerStep c q { s.coreOf c.val with pc := (s.coreOf c.val).pc + 1 }
        ((s.clusterOf q).sampler.openWith seq base (e.scores s.fresh base.toNat)) t := by
  refine issue_sampler h 0x39 0 _ true _ _ _ none rfl (by simp [Uses.legal]) ?effect
    (samplerStep_modSampler s c q (·.openWith seq base (e.scores s.fresh base.toNat))) rfl rfl
  simp [hn, he, hbase, hseq, hheld.settled, Nat.not_le.mpr hfmt, haligned, Nat.not_lt.mpr hrange, hq, hfind,
    Nat.not_le.mpr hroom, hshort, Sampler.openWith]

end

/-! ## SMPDRAW -/

section
variable (rd rb : BitVec 5) {q : Nat} (hq : s.samplerCluster (s.coreOf c.val).region.val = some q)
include hq

/-- R139: SMPDRAW of a core whose token is there. -/
theorem smpdraw_completes {d : Draw} {w : W64}
    (hfind : (s.clusterOf q).sampler.draws.find? (fun d => d.core == c) = some d) (hw : d.result = some w) :
    let k := s.coreOf c.val
    let p := (s.clusterOf q).sampler
    ∃ t, execSmpdraw c { rd := rd, ra := rb } s = .next t ∧
      s.samplerStep c q { k.setS rd w with pc := k.pc + 1 } { p with draws := p.draws.filter (fun d => d.core != c) } t := by
  intro k p
  have step : s.samplerStep c q (k.setS rd w) { p with draws := p.draws.filter (fun d => d.core != c) }
      ((s.putCore c.val (k.setS rd w)).modSampler q (fun p => { p with draws := p.draws.filter (fun d => d.core != c) })) :=
    ⟨State.putCore_same .., congrArg Cluster.sampler (modSampler_clusterOf ..), rfl⟩
  refine issue_sampler h 0x3A 0 _ true _ _ _ none rfl (by simp [Uses.legal]) ?effect step (by simp [k]) (by simp [k])
  simp only [hq, hfind, hw]
  rfl

/-- R135, R139: SMPDRAW closes its sequence and waits. -/
theorem smpdraw_waits (hfind : (s.clusterOf q).sampler.draws.find? (fun d => d.core == c) = none)
    (hhost : (s.ctxOf x.val).hostSampling = false) :
    execSmpdraw c { rd := rd, ra := rb } s =
      .next ((s.modSampler q (fun p => p.close c ((s.coreOf c.val).sreg rb))).modCore c.val (fun k =>
        { k with waiting := some ⟨assemble 0x3A 0 { rd := rd, ra := rb }, 0, true⟩ })) := by
  refine congrArg Host.Outcome.next ?_
  rw [issue_legal h 0x3A 0 _ true _ _ _ none rfl (by simp [Uses.legal])]
  simp only [hq, hfind, modSampler_ctxOf, hhost]
  rfl

end

end

/-! ## Tokens and the main path -/

/-- R138: a token whose main path was lost comes from the fallback. -/
theorem draw_of_lost {p : Sampler} {d : Draw} {v : Nat} (hlost : d.body.lost = true)
    (hv : p.fallbackToken d.seq d.pos d.body.scores = some v) : p.draw d = tokenWord v true d.body.nonFinite := by
  simp [Sampler.draw, hlost, hv]

section
variable {s : State} {r : RegionId} {seq : W16} {q : Nat} {d : Draw} (hworks : s.mode.works = true)
  (hq : s.samplerCluster r.val = some q) (hhost : (s.ctxOf (s.regionOf r.val).ctx.val).hostSampling = false)
  (hfind : (s.clusterOf q).sampler.draws.find? (fun d => d.seq == seq && d.result.isNone) = some d)
include hworks hq hhost hfind

/-- R139: the token reaches the SMPDRAW that waits for it. -/
theorem token_completes {w : Waiting} (hw : (s.coreOf d.core.val).waiting = some w) (hmajor : w.major = 0x3A) :
    let j := s.coreOf d.core.val
    execSamplerTokenReady r seq s = .next
      ((s.modSampler q (fun p => { p with draws := p.draws.filter (fun e => e != d) })).putCore d.core.val
        { j.setS w.rd ((s.clusterOf q).sampler.draw d) with pc := j.pc + 1, waiting := none }) := by
  have waits : (s.coreOf d.core.val).waitsIn 0x3A = true := by simp [Core.waitsIn, hw, hmajor]
  simp only [execSamplerTokenReady, hq, hworks, hhost, State.giveToken, hfind, waits, State.modCore, modSampler_coreOf,
    Core.completeWait, hw]
  rfl

/-- R139: the token stays until an SMPDRAW asks for it. -/
theorem token_stays (hw : (s.coreOf d.core.val).waiting = none) :
    execSamplerTokenReady r seq s = .next (s.modSampler q (fun p => { p with
      draws := p.draws.map (fun e =>
        if e = d then { e with result := some ((s.clusterOf q).sampler.draw d) } else e) })) := by
  have idle : (s.coreOf d.core.val).waitsIn 0x3A = false := by simp [Core.waitsIn, hw]
  simp only [execSamplerTokenReady, hq, hworks, hhost, State.giveToken, hfind, idle]
  rfl

end

/-- R138: an uncorrectable error in a sampler's memory. -/
theorem samplerMemoryError_next {s : State} (k : ClusterId) (hworks : s.mode.works = true) :
    ∃ t, execSamplerMemoryError k s = .next t ∧
      t = { s with clusters := t.clusters, rings := t.rings, thread := t.thread } ∧
      t.clusterOf k.val = { s.clusterOf k.val with sampler := (s.clusterOf k.val).sampler.setMain false } := by
  have lost : execSamplerMemoryError k s = .next ((s.modSampler k.val (fun p => p.setMain false)).notePath
      (s.clusterOf k.val).sampler.onFallback k.val none) := if_pos hworks
  obtain ⟨rings, thread, noted⟩ := notePath_frame (s.modSampler k.val (fun p => p.setMain false))
    (s.clusterOf k.val).sampler.onFallback k.val none
  refine ⟨_, lost, ?frame, ?cluster⟩
  case frame => rw [noted]; rfl
  case cluster => rw [noted]; exact modSampler_clusterOf s k.val (fun p => p.setMain false)

/-- Settles O25: the instructions by `issue_sampler`, the token by whether its core waits, the memory error by
`Sampler.setMain`. -/
theorem tokenSampler : Obligations.TokenSampler := by
  unfold Obligations.TokenSampler
  refine ⟨?instructions, ?events⟩
  case instructions =>
    intro s c x rd ra rb n q topP h k hq p seq e base feed scores bad with_
    refine ⟨?configures, ?feeds, ?draws⟩
    case configures =>
      exact fun fall => ⟨smpcfg_completes h ra rb topP fall hq, fun m => smpcfg_refuses h ra rb topP fall⟩
    case feeds =>
      intro hheld hshort hfmt haligned hrange
      have entry : (n.setWidth 32 : W32).toNat % 256 = n.toNat := by simp; omega
      exact ⟨fun b => smpfeed_feeds h ra rb _ entry hq rfl rfl rfl hheld hfmt haligned hrange hshort,
        fun b => smpfeed_ignores h ra rb _ entry hq rfl rfl rfl hheld hfmt haligned hrange,
        smpfeed_opens h ra rb _ entry hq rfl rfl rfl hheld hfmt haligned hrange hshort⟩
    case draws =>
      intro draw
      refine ⟨fun d w => smpdraw_completes h rd rb hq, fun hfind hhost => ?_⟩
      refine ⟨_, smpdraw_waits h rd rb hq hfind hhost, ?waits, ?seqs, p.closing c (k.sreg rb), ?drawn, rfl, rfl, rfl, ?pos,
        rfl⟩
      case waits => simp [State.modCore, draw]
      case seqs => simp [State.modCore, Sampler.close, p, seq, k]
      case drawn => simp [State.modCore, Sampler.close, p, k]
      case pos => exact p.closing_pos c _
  case events =>
    intro s r seq q k hworks p
    refine ⟨fun d v => draw_of_lost, ?tokens, ?error⟩
    case tokens =>
      exact fun hq hhost d hfind => ⟨fun w => token_completes hworks hq hhost hfind, token_stays hworks hq hhost hfind⟩
    case error =>
      obtain ⟨t, lost, frame, cluster⟩ := samplerMemoryError_next k hworks
      exact ⟨t, lost, frame, cluster, by rw [cluster]; simp [Sampler.setMain, Sampler.onFallback]⟩

end Sys2Proof.Machine
end

section
/-! PROOFS. Rounding of a magnitude (R100): an exact value is kept, and any other goes to the neighbour that its mode
chooses. -/

set_option linter.unusedVariables false

namespace Sys2Proof.Machine

open Sys2Proof

/-- R100: of a value that lies `rest`·2^-d above lo, the mode takes the upper neighbour. -/
def RMode.takesUpper (lo rest d : Nat) : RMode → Bool
  | .rne => decide (2 ^ d < 2 * rest ∨ 2 * rest = 2 ^ d ∧ lo % 2 = 1)
  | .rtz => false
  | .stochastic bits u => decide (u % 2 ^ bits < (rest * 2 ^ (bits + 1) + 2 ^ d) / 2 ^ (d + 1))

theorem RMode.takesUpper_rne (lo rest d : Nat) :
    RMode.rne.takesUpper lo rest d = true ↔ 2 ^ d < 2 * rest ∨ 2 * rest = 2 ^ d ∧ lo % 2 = 1 :=
  decide_eq_true_iff

theorem RMode.takesUpper_rtz (lo rest d : Nat) : RMode.rtz.takesUpper lo rest d = false := rfl

theorem RMode.takesUpper_stochastic (lo rest d bits u : Nat) : (RMode.stochastic bits u).takesUpper lo rest d = true ↔
    u % 2 ^ bits < (rest * 2 ^ (bits + 1) + 2 ^ d) / 2 ^ (d + 1) :=
  decide_eq_true_iff

section
variable {m d : Nat} {e q : Int} (mode : RMode) (hq : e < q) (hd : (q - e).toNat = d)
include hq hd

theorem roundMag_exact (hrest : m % 2 ^ d = 0) : roundMag mode m e q = (m / 2 ^ d, false) := by
  subst hd
  simp [roundMag, Int.not_le.mpr hq, hrest]

theorem roundMag_inexact (hrest : m % 2 ^ d ≠ 0) : roundMag mode m e q =
    (if mode.takesUpper (m / 2 ^ d) (m % 2 ^ d) d then m / 2 ^ d + 1 else m / 2 ^ d, true) := by
  subst hd
  cases mode <;> simp [roundMag, Int.not_le.mpr hq, hrest, RMode.takesUpper]

end

/-- Settles O20: an inexact value goes to the neighbour of `RMode.takesUpper`, read for each mode. -/
theorem roundingTakesANeighbour : Obligations.RoundingTakesANeighbour := by
  unfold Obligations.RoundingTakesANeighbour
  intro mode m e q hq d lo rest r
  refine ⟨roundMag_exact mode hq rfl, fun hrest => ?inexact⟩
  obtain ⟨value, inexact⟩ : r.1 = (if mode.takesUpper lo rest d then lo + 1 else lo) ∧ r.2 = true :=
    Prod.ext_iff.mp (roundMag_inexact mode hq rfl hrest)
  refine ⟨inexact, ?neighbour, ?rtz, ?rne, ?stochastic⟩
  case neighbour => rw [value]; exact (ite_eq_or_eq _ _ _).symm
  case rtz =>
    rintro rfl
    rw [value, RMode.takesUpper_rtz, if_neg Bool.false_ne_true]
  case rne =>
    rintro rfl
    rw [value]
    simp only [RMode.takesUpper_rne]
    split <;> omega
  case stochastic =>
    rintro bits u rfl
    rw [value, ← RMode.takesUpper_stochastic lo rest d]
    simp

end Sys2Proof.Machine
end

section
/-! PROOFS. FW64 addition (R109, R113): two codes by their kinds, and a sum within the range as one code of its finite
part and the SAT signs that it has met. -/

set_option linter.unusedVariables false

namespace Sys2Proof.Machine

open Sys2Proof

/-! ## Codes as integers -/

theorem eq_fwSatPos_iff (c : W64) : c = fwSatPos ↔ c.toInt = 2 ^ 63 - 1 := BitVec.toInt_inj.symm
theorem eq_fwSatNeg_iff (c : W64) : c = fwSatNeg ↔ c.toInt = -(2 ^ 63 - 1) := BitVec.toInt_inj.symm
theorem eq_fwNan_iff (c : W64) : c = fwNan ↔ c.toInt = -2 ^ 63 := BitVec.toInt_inj.symm

theorem fwSat_ne : fwSatPos ≠ fwSatNeg ∧ fwSatPos ≠ fwNan ∧ fwSatNeg ≠ fwNan := by decide

theorem fwIsMark_iff (c : W64) : fwIsMark c = true ↔ c = fwSatPos ∨ c = fwSatNeg ∨ c = fwNan := by
  simp [fwIsMark, or_assoc]

theorem ne_marks {c : W64} (hc : fwIsMark c = false) : c ≠ fwSatPos ∧ c ≠ fwSatNeg ∧ c ≠ fwNan := by
  simpa [Bool.eq_false_iff, fwIsMark_iff] using hc

/-- R107: the codes that are no mark are the integers of magnitude at most 2^63 - 2. -/
theorem fwIsMark_eq_false_iff (c : W64) : fwIsMark c = false ↔ c.toInt.natAbs ≤ 2 ^ 63 - 2 := by
  have low : -2 ^ 63 ≤ c.toInt := c.le_toInt
  have high : c.toInt < 2 ^ 63 := c.toInt_lt
  rw [Bool.eq_false_iff, ne_eq, fwIsMark_iff, eq_fwSatPos_iff, eq_fwSatNeg_iff, eq_fwNan_iff]
  omega

theorem toInt_ofInt_of_natAbs_le {n : Int} (hn : n.natAbs ≤ 2 ^ 63 - 2) : (BitVec.ofInt 64 n).toInt = n :=
  BitVec.toInt_ofInt_eq_self (by norm_num) (by norm_num; omega) (by norm_num; omega)

theorem fwIsMark_ofInt {n : Int} (hn : n.natAbs ≤ 2 ^ 63 - 2) : fwIsMark (BitVec.ofInt 64 n) = false := by
  rwa [fwIsMark_eq_false_iff, toInt_ofInt_of_natAbs_le hn]

/-! ## Two codes (R109) -/

theorem fwAdd_nan_left (a : W64) : fwAdd fwNan a = (fwNan, flagFWNAN) := by simp [fwAdd]

theorem fwAdd_satPos_satNeg : fwAdd fwSatPos fwSatNeg = (fwNan, flagFWNAN) := by decide

theorem fwAdd_satPos_left {a : W64} (hnan : a ≠ fwNan) (hneg : a ≠ fwSatNeg) : fwAdd fwSatPos a = (fwSatPos, 0) := by
  obtain ⟨notNeg, notNan, -⟩ := fwSat_ne
  simp [fwAdd, hnan, hneg, notNan, notNeg]

theorem fwAdd_satNeg_left {a : W64} (hnan : a ≠ fwNan) (hpos : a ≠ fwSatPos) : fwAdd fwSatNeg a = (fwSatNeg, 0) := by
  obtain ⟨notNeg, -, notNan⟩ := fwSat_ne
  simp [fwAdd, hnan, hpos, notNan, notNeg.symm]

theorem fwAdd_of_finite {a b : W64} (ha : fwIsMark a = false) (hb : fwIsMark b = false) :
    fwAdd a b = if fwMax < a.toInt + b.toInt then (fwSatPos, flagFWSAT)
      else if a.toInt + b.toInt < -fwMax then (fwSatNeg, flagFWSAT) else (BitVec.ofInt 64 (a.toInt + b.toInt), 0) := by
  obtain ⟨aPos, aNeg, aNan⟩ := ne_marks ha
  obtain ⟨bPos, bNeg, bNan⟩ := ne_marks hb
  simp [fwAdd, aPos, aNeg, aNan, bPos, bNeg, bNan]

section
variable {a b : W64} (ha : fwIsMark a = false) (hb : fwIsMark b = false)
include ha hb

/-- Two finite codes give their exact sum within the range. -/
theorem fwAdd_exact (hsum : (a.toInt + b.toInt).natAbs ≤ 2 ^ 63 - 2) :
    fwAdd a b = (BitVec.ofInt 64 (a.toInt + b.toInt), 0) := by
  rw [fwAdd_of_finite ha hb, if_neg (by unfold fwMax; omega), if_neg (by unfold fwMax; omega)]

theorem fwAdd_above (hsum : 2 ^ 63 - 2 < a.toInt + b.toInt) : fwAdd a b = (fwSatPos, flagFWSAT) := by
  rw [fwAdd_of_finite ha hb, if_pos (by exact hsum)]

theorem fwAdd_below (hsum : a.toInt + b.toInt < -(2 ^ 63 - 2)) : fwAdd a b = (fwSatNeg, flagFWSAT) := by
  rw [fwAdd_of_finite ha hb, if_neg (by unfold fwMax; omega), if_pos (by exact hsum)]

end

/-- Every test is symmetric but the order in which a SAT absorbs, and two SATs that are not opposite are one code. -/
theorem fwAdd_comm (a b : W64) : fwAdd a b = fwAdd b a := by
  unfold fwAdd
  rw [Int.add_comm b.toInt]
  grind

theorem fwAdd_nan_right (a : W64) : fwAdd a fwNan = (fwNan, flagFWNAN) := by rw [fwAdd_comm, fwAdd_nan_left]

/-! ## Sums of many codes (R113) -/

/-- The magnitude that a code adds to the bound of R113: 0 of a mark. -/
def fwMagnitude (c : W64) : Nat := if fwIsMark c then 0 else c.toInt.natAbs

/-- The finite part of a code: 0 of a mark. -/
def fwFinite (c : W64) : Int := if fwIsMark c then 0 else c.toInt

/-- The code has met a value above the range: +SAT, or a NaN mark. -/
def fwAbove (c : W64) : Bool := c == fwSatPos || c == fwNan

/-- The code has met a value below the range: -SAT, or a NaN mark. -/
def fwBelow (c : W64) : Bool := c == fwSatNeg || c == fwNan

/-- The code of a sum by its finite part and what it has met beyond the range on either side: a NaN mark where it has
met both. -/
def fwCode (n : Int) : (above below : Bool) → W64
  | true, true => fwNan
  | true, false => fwSatPos
  | false, true => fwSatNeg
  | false, false => BitVec.ofInt 64 n

theorem natAbs_fwFinite (c : W64) : (fwFinite c).natAbs = fwMagnitude c := by
  unfold fwFinite fwMagnitude
  split <;> rfl

theorem fwParts_of_finite {c : W64} (hc : fwIsMark c = false) :
    fwFinite c = c.toInt ∧ fwAbove c = false ∧ fwBelow c = false := by
  obtain ⟨hpos, hneg, hnan⟩ := ne_marks hc
  simp [fwFinite, fwAbove, fwBelow, hc, hpos, hneg, hnan]

/-- A code is that of its own parts. -/
theorem fwCode_parts (c : W64) : fwCode (fwFinite c) (fwAbove c) (fwBelow c) = c := by
  cases hc : fwIsMark c with
  | true => obtain rfl | rfl | rfl := (fwIsMark_iff c).mp hc <;> decide
  | false =>
    obtain ⟨value, above, below⟩ := fwParts_of_finite hc
    rw [value, above, below, fwCode, BitVec.ofInt_toInt]

/-- A mark keeps what it has met, and takes what the other code has met. -/
theorem fwAdd_fwCode_mark {a b : Bool} (mark : (a || b) = true) (m k : Int) {n : Int} (hn : n.natAbs ≤ 2 ^ 63 - 2)
    (a' b' : Bool) : (fwAdd (fwCode m a b) (fwCode n a' b')).1 = fwCode k (a || a') (b || b') := by
  obtain ⟨notPos, notNeg, notNan⟩ := ne_marks (fwIsMark_ofInt hn)
  obtain ⟨satNe, posNe, negNe⟩ := fwSat_ne
  match a, b with
  | true, true => simp [fwCode, fwAdd_nan_left]
  | true, false =>
    cases b' with
    | true => cases a' <;> simp [fwCode, fwAdd_nan_right, fwAdd_satPos_satNeg]
    | false => cases a' <;> simp [fwCode, fwAdd_satPos_left, notNan, notNeg, posNe, satNe]
  | false, true =>
    cases a' with
    | true => cases b' <;> simp [fwCode, fwAdd_nan_right, fwAdd_comm fwSatNeg fwSatPos, fwAdd_satPos_satNeg]
    | false => cases b' <;> simp [fwCode, fwAdd_satNeg_left, notNan, notPos, negNe, satNe.symm]

/-- Within the range an addition adds the finite parts, and keeps what either code has met. -/
theorem fwAdd_fwCode {m n : Int} (hm : m.natAbs ≤ 2 ^ 63 - 2) (hn : n.natAbs ≤ 2 ^ 63 - 2)
    (hsum : (m + n).natAbs ≤ 2 ^ 63 - 2) (a b a' b' : Bool) :
    (fwAdd (fwCode m a b) (fwCode n a' b')).1 = fwCode (m + n) (a || a') (b || b') := by
  by_cases left : (a || b) = true
  · exact fwAdd_fwCode_mark left m _ hn a' b'
  by_cases right : (a' || b') = true
  · rw [fwAdd_comm, Bool.or_comm a, Bool.or_comm b]
    exact fwAdd_fwCode_mark right n _ hm a b
  obtain ⟨rfl, rfl⟩ : a = false ∧ b = false := by simpa using left
  obtain ⟨rfl, rfl⟩ : a' = false ∧ b' = false := by simpa using right
  have sum := fwAdd_exact (fwIsMark_ofInt hm) (fwIsMark_ofInt hn)
  rw [toInt_ofInt_of_natAbs_le hm, toInt_ofInt_of_natAbs_le hn] at sum
  exact congrArg Prod.fst (sum hsum)

/-- The codes of a list added to a code one after another. -/
def fwSum (acc : W64) (l : List W64) : W64 := l.foldl (fun a b => (fwAdd a b).1) acc

/-- R113: within the range a sum of codes is that of the sum of their finite parts and of what any of them has met. -/
theorem fwSum_fwCode (l : List W64) (n : Int) (a b : Bool)
    (hl : n.natAbs + (l.map fwMagnitude).sum ≤ 2 ^ 63 - 2) : fwSum (fwCode n a b) l =
      fwCode (n + (l.map fwFinite).sum) (a || l.any fwAbove) (b || l.any fwBelow) := by
  induction l generalizing n a b with
  | nil => simp [fwSum]
  | cons v r ih =>
    have split : (v :: r).map fwMagnitude = (fwFinite v).natAbs :: r.map fwMagnitude := by
      rw [List.map_cons, natAbs_fwFinite]
    rw [split, List.sum_cons] at hl
    have step : (fwAdd (fwCode n a b) v).1 = fwCode (n + fwFinite v) (a || fwAbove v) (b || fwBelow v) := by
      conv_lhs => rw [← fwCode_parts v]
      exact fwAdd_fwCode (by omega) (by omega) (by omega) ..
    have rest := ih (n + fwFinite v) (a || fwAbove v) (b || fwBelow v) (by omega)
    rw [← step] at rest
    simpa [fwSum, Int.add_assoc, Bool.or_assoc] using rest

theorem fwSum_eq (acc : W64) (l : List W64) (hl : fwMagnitude acc + (l.map fwMagnitude).sum ≤ 2 ^ 63 - 2) :
    fwSum acc l =
      fwCode (fwFinite acc + (l.map fwFinite).sum) (fwAbove acc || l.any fwAbove) (fwBelow acc || l.any fwBelow) := by
  conv_lhs => rw [← fwCode_parts acc]
  exact fwSum_fwCode l _ _ _ (by rwa [natAbs_fwFinite])

theorem fwSum_append (acc : W64) (l m : List W64) : fwSum acc (l ++ m) = fwSum (fwSum acc l) m := List.foldl_append

/-- R113: the order does not matter. -/
theorem fwSum_perm {l m : List W64} (hperm : l.Perm m) (acc : W64)
    (hl : fwMagnitude acc + (l.map fwMagnitude).sum ≤ 2 ^ 63 - 2) : fwSum acc l = fwSum acc m := by
  have magnitudes : (l.map fwMagnitude).sum = (m.map fwMagnitude).sum := (hperm.map _).sum_eq
  have finites : (l.map fwFinite).sum = (m.map fwFinite).sum := (hperm.map _).sum_eq
  rw [fwSum_eq acc l hl, fwSum_eq acc m (magnitudes ▸ hl), finites, hperm.any_eq, hperm.any_eq]

theorem natAbs_sum_fwFinite_le (l : List W64) : (l.map fwFinite).sum.natAbs ≤ (l.map fwMagnitude).sum := by
  induction l with
  | nil => rfl
  | cons v r ih =>
    rw [List.map_cons, List.map_cons, List.sum_cons, List.sum_cons, ← natAbs_fwFinite]
    omega

section
variable {l m : List W64}

/-- The sum from the code 0. -/
theorem fwSum_zero (hl : (l.map fwMagnitude).sum ≤ 2 ^ 63 - 2) :
    fwSum 0 l = fwCode (l.map fwFinite).sum (l.any fwAbove) (l.any fwBelow) := by
  simpa [fwCode] using fwSum_fwCode l 0 false false (by simpa using hl)

/-- R113: the grouping does not matter. -/
theorem fwSum_zero_append (hlm : ((l ++ m).map fwMagnitude).sum ≤ 2 ^ 63 - 2) :
    fwSum 0 (l ++ m) = (fwAdd (fwSum 0 l) (fwSum 0 m)).1 := by
  have parts : (l.map fwMagnitude).sum + (m.map fwMagnitude).sum ≤ 2 ^ 63 - 2 := by simpa using hlm
  have left := natAbs_sum_fwFinite_le l
  have right := natAbs_sum_fwFinite_le m
  rw [fwSum_zero hlm, fwSum_zero (l := l) (by omega), fwSum_zero (l := m) (by omega),
    fwAdd_fwCode (by omega) (by omega) (by omega)]
  simp

/-- R113: finite codes give their exact sum. -/
theorem fwSum_zero_of_finite (hl : (l.map fwMagnitude).sum ≤ 2 ^ 63 - 2) (hfinite : ∀ v ∈ l, fwIsMark v = false) :
    fwSum 0 l = BitVec.ofInt 64 (l.map BitVec.toInt).sum := by
  have values : l.map fwFinite = l.map BitVec.toInt :=
    List.map_congr_left fun v hv => (fwParts_of_finite (hfinite v hv)).1
  have above : l.any fwAbove = false := List.any_eq_false.mpr fun v hv => by simp [fwParts_of_finite (hfinite v hv)]
  have below : l.any fwBelow = false := List.any_eq_false.mpr fun v hv => by simp [fwParts_of_finite (hfinite v hv)]
  rw [fwSum_zero hl, values, above, below, fwCode]

end

/-- Settles O19: within the range `fwSum` depends on the finite parts' sum and the marks met alone. -/
theorem fixedWindowSumOrderFree : Obligations.FixedWindowSumOrderFree := by
  unfold Obligations.FixedWindowSumOrderFree
  intro total bounded
  refine ⟨?order, ?grouping, ?exactSum⟩
  case order =>
    have zero : fwMagnitude 0 = 0 := by decide
    exact fun l m hperm hl => fwSum_perm hperm 0 (by rw [zero, Nat.zero_add]; exact hl)
  case grouping => exact fun l m hlm => fwSum_zero_append hlm
  case exactSum => exact fun l hl hfinite => fwSum_zero_of_finite hl hfinite

end Sys2Proof.Machine
end

section
/-! PROOFS. FW64 rows (R69, R107 to R110): what a write of a register pair leaves, and the rows of MAJOR 0x19. -/

set_option linter.unusedVariables false

namespace Sys2Proof.Machine

open Sys2Proof

/-! ## Register pairs -/

/-- The registers of pair r: the even one holds the low halves, the odd one the high halves. -/
def evenReg (r : BitVec 4) : BitVec 5 := r ++ (0 : BitVec 1)
def oddReg (r : BitVec 4) : BitVec 5 := r ++ (1 : BitVec 1)

theorem oddOf_evenReg (r : BitVec 4) : oddOf (evenReg r) = oddReg r := by revert r; decide
theorem evenReg_ne_oddReg (r : BitVec 4) : evenReg r ≠ oddReg r := by revert r; decide
theorem getLsbD_evenReg (r : BitVec 4) : (evenReg r).getLsbD 0 = false := by revert r; decide
theorem getLsbD_oddReg (r : BitVec 4) : (oddReg r).getLsbD 0 = true := by revert r; decide

theorem evenRegs_of_evenReg {args : CoreArgs} {d a b : BitVec 4} (hd : args.rd = evenReg d) (ha : args.ra = evenReg a)
    (hb : args.rb = evenReg b) : evenRegs args = true := by
  simp only [evenRegs, hd, ha, hb, getLsbD_evenReg]; rfl

theorem evenRegs_of_oddReg {args : CoreArgs} {d : BitVec 4} (hd : args.rd = oddReg d) : evenRegs args = false := by
  simp only [evenRegs, hd, getLsbD_oddReg]; rfl

/-- R62, R69: an instruction of one source whose registers begin pairs is legal. -/
theorem legal_evenReg (d a : BitVec 4) : (evenRegs { rd := evenReg d, ra := evenReg a } &&
    ({ rd := true, ra := true, men := true } : Uses).legal { rd := evenReg d, ra := evenReg a }) = true := by
  rw [evenRegs_of_evenReg (d := d) (a := a) (b := 0) rfl rfl rfl]
  simp [Uses.legal]

/-- A value is its halves together. -/
theorem append_halves (w : W64) : w.extractLsb' 32 32 ++ w.setWidth 32 = w := by
  rw [BitVec.setWidth_eq_extractLsb' (by omega), BitVec.extractLsb'_append_extractLsb'_eq_extractLsb' (by rfl),
    BitVec.extractLsb'_eq_self]

/-- Lane l of pair r. -/
def Core.pair (k : Core) (r : BitVec 4) (l : Fin 64) : W64 := pairLane (k.vreg (evenReg r)) (k.vreg (oddReg r)) l

@[simp] theorem Core.putPair_running (k : Core) (a : CoreArgs) (v : Vector W64 64) (p : Bool) :
    (k.putPair a v p).running = k.running := by simp [Core.putPair]
@[simp] theorem Core.putPair_waiting (k : Core) (a : CoreArgs) (v : Vector W64 64) (p : Bool) :
    (k.putPair a v p).waiting = k.waiting := by simp [Core.putPair]
@[simp] theorem Core.putPair_pc (k : Core) (a : CoreArgs) (v : Vector W64 64) (p : Bool) :
    (k.putPair a v p).pc = k.pc := by simp [Core.putPair]

/-- A pair instruction without a mask completes (R69, R70): pair d takes the results, its poison bits that of the
sources, FPSTATUS the flags; every other register is unchanged. -/
def State.writesPair (s : State) (i : Instr) (c : CoreId) (d : BitVec 4) (f : Fin 64 → W64 × FpFlags) (p : Bool) :
    Prop :=
  let k := s.coreOf c.val
  ∃ k' : Core, exec i s = s.completes c k' ∧ (∀ l, k'.pair d l = (f l).1) ∧
    k'.fpstatus = k.fpstatus ||| (laneFlags (BitVec.allOnes 64) (Vector.ofFn (fun l => (f l).2))).setWidth 64 ∧
    k'.vpois (evenReg d) = p ∧ k'.vpois (oddReg d) = p ∧
    (∀ r, r ≠ evenReg d → r ≠ oddReg d → k'.vreg r = k.vreg r) ∧
    k' = { k with v := k'.v, vpoison := k'.vpoison, fpstatus := k'.fpstatus }

section
variable {a : CoreArgs} {d : BitVec 4} (hd : a.rd = evenReg d) (hm : a.men = false)
include hm

theorem Core.laneMask_unmasked (k : Core) : k.laneMask a = BitVec.allOnes 64 := by
  simp [Core.laneMask, hm, allOnes64]

theorem Core.putV_unmasked (k : Core) (n : BitVec 5) (v : Lanes) (p : Bool) : k.putV a n v p = k.setV n v p := by
  have whole : mergeLanes (BitVec.allOnes 64) v (k.vreg n) = v := by
    ext l hl
    simp only [mergeLanes, Vector.getElem_ofFn, BitVec.getLsbD_allOnes, hl, decide_true, if_true, Fin.getElem_fin]
  rw [Core.putV, Core.laneMask_unmasked hm, whole, hm, Bool.false_and, Bool.or_false]

include hd

theorem Core.putPair_unmasked (k : Core) (v : Vector W64 64) (p : Bool) : k.putPair a v p =
    (k.setV (evenReg d) (v.map (fun w => w.setWidth 32)) p).setV (oddReg d)
      (v.map (fun w => w.extractLsb' 32 32)) p := by
  rw [Core.putPair, Core.putV_unmasked hm, Core.putV_unmasked hm, hd, oddOf_evenReg]

/-- A write of pair d with its flags is what `writesPair` says. -/
theorem writesPair_of_putPair {s : State} {i : Instr} {c : CoreId} (f : Fin 64 → W64 × FpFlags) (p : Bool)
    (hx : exec i s = s.completes c (((s.coreOf c.val).putPair a (Vector.ofFn (fun l => (f l).1)) p).addFlags
      (laneFlags ((s.coreOf c.val).laneMask a) (Vector.ofFn (fun l => (f l).2))))) : s.writesPair i c d f p := by
  rw [Core.putPair_unmasked hd hm, Core.laneMask_unmasked hm] at hx
  unfold State.writesPair
  generalize s.coreOf c.val = k at hx ⊢
  have distinct := evenReg_ne_oddReg d
  refine ⟨_, hx, ?lanes, rfl, ?even, ?odd, ?others, rfl⟩
  case lanes =>
    intro l
    simp only [Core.pair, pairLane, Core.addFlags_vreg, Core.vreg_setV_same, Core.vreg_setV_ne _ _ _ distinct]
    simp [append_halves]
  case even =>
    rw [Core.addFlags_vpois, Core.vpois_setV_ne _ _ _ distinct, Core.vpois_setV_same]
  case odd => rw [Core.addFlags_vpois, Core.vpois_setV_same]
  case others =>
    intro r even odd
    rw [Core.addFlags_vreg, Core.vreg_setV_ne _ _ _ odd, Core.vreg_setV_ne _ _ _ even]

end

/-! ## The rows of MAJOR 0x19 -/

section
variable (c : CoreId) (a : CoreArgs) (s : State)

theorem exec_vfwcv : exec (.vfwcv c a) s = execVfwcv c a s := rfl
theorem exec_vfwadd : exec (.vfwadd c a) s = execVfwadd c a s := rfl
theorem exec_vfwcf : exec (.vfwcf c a) s = execVfwcf c a s := rfl

end

section
variable {s : State} {c : CoreId} {x : CtxId} (h : s.issues c x = true) (d a b : BitVec 4)
include h

/-- A row of MAJOR 0x19 that writes a pair. -/
theorem writesPair_of_issue (i : Instr) (minor : BitVec 5) (u : Uses) (args : CoreArgs)
    (body : State → Core → CtxId → Effect) (f : Fin 64 → W64 × FpFlags) (p : Bool)
    (hx : exec i s = .next (issue 0x19 minor u (evenRegs args) c args s body)) (hf : args.finding = {})
    (hl : (evenRegs args && u.legal args) = true) (hd : args.rd = evenReg d) (hm : args.men = false)
    (hb : body s (s.coreOf c.val) x = .core s c
      (((s.coreOf c.val).putPair args (Vector.ofFn (fun l => (f l).1)) p).addFlags
        (laneFlags ((s.coreOf c.val).laneMask args) (Vector.ofFn (fun l => (f l).2))))) : s.writesPair i c d f p :=
  writesPair_of_putPair hd hm f p
    (hx.trans (issue_core h 0x19 minor u _ args body (fun _ => []) none _ hf hl hb (by simp) (by simp) (by simp)))

/-- R108: FP32 lanes into the window of FWEXP. -/
theorem vfwcv_writesPair :
    let k := s.coreOf c.val
    s.writesPair (.vfwcv c { rd := evenReg d, ra := evenReg a }) c d
      (fun l => let v := (k.vreg (evenReg a))[l]
        ((fwOfVal (fp32Val v) k.fwexp.toInt).1, (fwOfVal (fp32Val v) k.fwexp.toInt).2 ||| snanFlags [v]))
      (k.vpois (evenReg a)) := by
  refine writesPair_of_issue h d _ 0 _ _ _ _ _ (exec_vfwcv ..) rfl (legal_evenReg d a) rfl rfl ?body
  simp only [Vector.map_ofFn, Function.comp_def]
  rfl

/-- R109: the sum of two pairs. -/
theorem vfwadd_writesPair :
    let k := s.coreOf c.val
    s.writesPair (.vfwadd c { rd := evenReg d, ra := evenReg a, rb := evenReg b }) c d
      (fun l => fwAdd (k.pair a l) (k.pair b l))
      (k.vpois (evenReg a) || k.vpois (oddReg a) || k.vpois (evenReg b) || k.vpois (oddReg b)) := by
  refine writesPair_of_issue h d _ 1 _ _ _ _ _ (exec_vfwadd ..) rfl ?legal rfl rfl ?body
  case legal =>
    rw [evenRegs_of_evenReg (d := d) (a := a) (b := b) rfl rfl rfl]
    simp [Uses.legal]
  case body =>
    simp only [Vector.map_ofFn, Function.comp_def, oddOf_evenReg]
    rfl

/-- R110: a pair back to FP32 lanes. -/
theorem vfwcf_lanewise (args : CoreArgs) (hf : args.finding = {}) (ha : args.ra = evenReg a)
    (hl : (evenRegs args && ({ rd := true, ra := true, men := true } : Uses).legal args) = true) :
    let k := s.coreOf c.val
    s.lanewise (.vfwcf c args) c args (fun l => fwToFp32 (k.pair a l) k.fwexp.toInt)
      (k.vpois (evenReg a) || k.vpois (oddReg a)) := by
  intro k
  have completes := (exec_vfwcf c args s).trans (issue_putV h 0x19 2 _ _ args _ (fun _ => []) none _ _ _ hf hl rfl)
  rw [ha, oddOf_evenReg] at completes
  simpa [State.lanewise, Vector.map_ofFn, Function.comp_def, k, Core.pair, Core.window] using
    writesLanes_of_putV _ _ _ completes

/-- R69: an odd register number raises ILLEGAL. -/
theorem vfwcv_odd (hh : (s.coreOf c.val).handles = true) (args : CoreArgs) (hf : args.finding = {})
    (hodd : evenRegs args = false) : exec (.vfwcv c args) s = s.handles c xILLEGAL (assemble 0x19 0 args) := by
  rw [exec_vfwcv, execVfwcv, issue_illegal h _ _ _ _ _ _ _ _ hf (by rw [hodd, Bool.false_and])]
  exact congrArg _ (takeException_handled s c xILLEGAL _ hh)

end

/-- Settles O18: the addition by the kinds of its codes, the rows by what they leave in their registers. -/
theorem fixedWindowNumbers : Obligations.FixedWindowNumbers := by
  unfold Obligations.FixedWindowNumbers
  refine ⟨⟨fwAdd_nan_left, fwAdd_satPos_satNeg, fun a => fwAdd_satPos_left, fun a => fwAdd_satNeg_left, fwAdd_comm,
    ?finite⟩, ?rows⟩
  case finite =>
    intro a b ha hb
    refine ⟨fwAdd_exact ha hb, ?above, ?below⟩
    case above => exact fun above => fwAdd_above ha hb above
    case below => exact fun below => fwAdd_below ha hb below
  case rows =>
    intro s c x d a b h k even odd pair i one e gives
    exact ⟨vfwcv_writesPair h d a, vfwadd_writesPair h d a b, vfwcf_lanewise h a one rfl rfl (legal_evenReg d a),
      fun hh => vfwcv_odd h hh _ rfl (evenRegs_of_oddReg (d := d) rfl)⟩

end Sys2Proof.Machine
end

section
/-! PROOFS. Sums in a Tub slot (R109, R174): each element of the slot takes the codes that a packet has for it, so the
order of two packets is that of two sums. -/

set_option linter.unusedVariables false

namespace Sys2Proof.Machine

open Sys2Proof

/-- Rewriting some of the first n numbers of a table, one after another, rewrites each of them by its own old value. -/
theorem tget_foldl_range {α : Type} [DecidableEq α] (d : α) (p : Nat → Bool) (g : Nat → α → α) (t : Table α) (i n : Nat) :
    tget d ((List.range n).foldl (fun t j => if p j then tput d t j (g j (tget d t j)) else t) t) i =
      if i < n ∧ p i = true then g i (tget d t i) else tget d t i := by
  induction n with
  | zero => simp
  | succ n ih =>
    rw [List.range_succ, List.foldl_append, List.foldl_cons, List.foldl_nil]
    by_cases hi : i = n
    · subst hi
      cases hp : p i <;> simp [ih, hp]
    · have bound : i < n + 1 ↔ i < n := by omega
      cases hp : p n <;> simp [ih, hi, bound]

/-- The codes that a packet adds to an element. -/
def packetTerms (p : RedPacket) (i : Nat) : List W64 := if present p.bmap i then [RedPacketData p i] else []

theorem addBlocks_elem (sums : Table W64) (p : RedPacket) {i : Nat} (hi : i < 128) :
    tget 0 (addBlocks false sums p) i = fwSum (tget 0 sums i) (packetTerms p i) := by
  have elem := tget_foldl_range 0 (present p.bmap) (fun j v => (fwAdd v (RedPacketData p j)).1) sums i 128
  simp only [addBlocks, Bool.not_eq_true', ← Bool.not_eq_true, ite_not]
  refine elem.trans ?_
  cases hp : present p.bmap i <;> simp [packetTerms, fwSum, hi, hp]

theorem satAdd16_right_comm (a : W16) (m n : Nat) : satAdd16 (satAdd16 a m) n = satAdd16 (satAdd16 a n) m := by
  apply BitVec.eq_of_toNat_eq
  simp only [satAdd16, BitVec.toNat_ofNat, Nat.min_def]
  grind

theorem fwMagnitude_le (c : W64) : fwMagnitude c ≤ c.toInt.natAbs := by
  unfold fwMagnitude
  split <;> omega

theorem sum_packetTerms_le (p : RedPacket) (i : Nat) :
    ((packetTerms p i).map fwMagnitude).sum ≤ (RedPacketData p i).toInt.natAbs := by
  unfold packetTerms
  split
  · simpa using fwMagnitude_le (RedPacketData p i)
  · simp

section
variable {t : TubSlot} {p q : RedPacket} (hp : p.sumFp32 = false) (hq : q.sumFp32 = false) (hpw : p.wexp = t.wexp)
  (hqw : q.wexp = t.wexp)
include hp hq hpw hqw

/-- R174: a slot after two packets of its own window. -/
theorem TubSlot.add_add : (t.add p).add q = { t with
    count := satAdd16 (satAdd16 t.count p.count.toNat) q.count.toNat, bmap := t.bmap ||| p.bmap ||| q.bmap,
    poison := t.poison || p.poison || q.poison, mixed := q.mixed || (p.mixed || t.mixed),
    sums := if q.mixed || (p.mixed || t.mixed) then allNan else addBlocks false (addBlocks false t.sums p) q } := by
  cases hm : p.mixed || t.mixed <;> simp [TubSlot.add, hp, hq, hpw, hqw, hm]

/-- An element of the slot after two packets, where nothing is mixed. -/
theorem TubSlot.add_add_elem (hmixed : (q.mixed || (p.mixed || t.mixed)) = false) {i : Nat} (hi : i < 128) :
    tget 0 ((t.add p).add q).sums i = fwSum (tget 0 t.sums i) (packetTerms p i ++ packetTerms q i) := by
  rw [TubSlot.add_add hp hq hpw hqw, fwSum_append]
  simp only [hmixed, Bool.false_eq_true, if_false, addBlocks_elem _ _ hi]

end

/-- Settles O33: the fields by the laws of their operations, an element as the sum of the two packets' codes for it, whose
order `fwSum_perm` exchanges. -/
theorem tubSumOrderFree : Obligations.TubSumOrderFree := by
  unfold Obligations.TubSumOrderFree
  intro t p q hp hq hpw hqw a b
  have pThenQ : a = _ := TubSlot.add_add hp hq hpw hqw
  have qThenP : b = _ := TubSlot.add_add hq hp hqw hpw
  have mixedComm : (q.mixed || (p.mixed || t.mixed)) = (p.mixed || (q.mixed || t.mixed)) := Bool.or_left_comm ..
  refine ⟨?count, ?bmap, ?poison, ?mixed, ?sums⟩
  case count => rw [pThenQ, qThenP]; exact satAdd16_right_comm ..
  case bmap => rw [pThenQ, qThenP]; ac_rfl
  case poison => rw [pThenQ, qThenP]; exact Bool.or_right_comm ..
  case mixed => rw [pThenQ, qThenP]; exact mixedComm
  case sums =>
    intro _ i hi small
    cases hmixed : q.mixed || (p.mixed || t.mixed) with
    | true =>
      rw [pThenQ, qThenP, ← mixedComm]
      simp only [hmixed, if_true]
    | false =>
      simp only [List.forall_mem_cons] at small
      obtain ⟨⟨-, slot⟩, ⟨-, ofP⟩, ⟨-, ofQ⟩, -⟩ := small
      have inRange : fwMagnitude (tget 0 t.sums i) +
          ((packetTerms p i ++ packetTerms q i).map fwMagnitude).sum ≤ 2 ^ 63 - 2 := by
        have ofSlot := fwMagnitude_le (tget 0 t.sums i)
        have sumP := sum_packetTerms_le p i
        have sumQ := sum_packetTerms_le q i
        rw [List.map_append, List.sum_append]
        omega
      calc tget 0 a.sums i
        _ = fwSum (tget 0 t.sums i) (packetTerms p i ++ packetTerms q i) :=
          TubSlot.add_add_elem hp hq hpw hqw hmixed hi
        _ = fwSum (tget 0 t.sums i) (packetTerms q i ++ packetTerms p i) := fwSum_perm List.perm_append_comm _ inRange
        _ = tget 0 b.sums i := (TubSlot.add_add_elem hq hp hqw hpw (mixedComm ▸ hmixed) hi).symm

end Sys2Proof.Machine
end

section
/-! PROOFS. The two generators (R117 to R129): the slices of a shared draw, and the rows of MAJOR 0x34, 0x35 and 0x37. -/

set_option linter.unusedVariables false

namespace Sys2Proof.Machine

open Sys2Proof

/-! ## The shared form (R119) -/

/-- R119: element 8d + j takes the draw of d turned right by 4j bits. -/
theorem sharedDraw_eq (seed sid : W64) (d : Nat) {j : Nat} (hj : j < 8) (hd : 8 * d + 7 < 2 ^ 64) :
    sharedDraw seed sid (BitVec.ofNat 64 (8 * d + j)) =
      (pickDraw (blockDraws seed sid 0x01 0 (BitVec.ofNat 64 (d / 4))) d).rotateRight (4 * j) := by
  have whole : (8 * d + j) % 2 ^ 64 = 8 * d + j := Nat.mod_eq_of_lt (by omega)
  have draw : (8 * d + j) / 8 = d := by omega
  have slice : (8 * d + j) % 8 = j := by omega
  rw [sharedDraw, BitVec.toNat_ofNat, whole, draw, slice]

theorem rotateRight_zero (w : W32) : w.rotateRight 0 = w := by
  ext i hi
  simp [hi]

/-- The low 4 bits of a word turned right are the slice of the word at that place. -/
theorem setWidth_rotateRight (w : W32) {n : Nat} (hn : n + 4 ≤ 32) :
    (w.rotateRight n).setWidth 4 = w.extractLsb' n 4 := by
  apply BitVec.eq_of_getLsbD_eq
  intro i hi
  have turn : n % 32 = n := Nat.mod_eq_of_lt (by omega)
  have inside : i < 32 - n := by omega
  simp [BitVec.getLsbD_rotateRight, hi, turn, inside]

/-! ## The rows that write draws -/

@[simp] theorem Core.putDraws_running (k : Core) (a : CoreArgs) (v : Lanes) : (k.putDraws a v).running = k.running :=
  k.putV_running ..
@[simp] theorem Core.putDraws_waiting (k : Core) (a : CoreArgs) (v : Lanes) : (k.putDraws a v).waiting = k.waiting :=
  k.putV_waiting ..
@[simp] theorem Core.putDraws_pc (k : Core) (a : CoreArgs) (v : Lanes) : (k.putDraws a v).pc = k.pc :=
  k.putV_pc ..
@[simp] theorem Core.stepLanes_running (k : Core) (mask : W64) (f : LaneState → LaneState) :
    (k.stepLanes mask f).running = k.running := by simp only [Core.stepLanes]
@[simp] theorem Core.stepLanes_waiting (k : Core) (mask : W64) (f : LaneState → LaneState) :
    (k.stepLanes mask f).waiting = k.waiting := by simp only [Core.stepLanes]
@[simp] theorem Core.stepLanes_pc (k : Core) (mask : W64) (f : LaneState → LaneState) :
    (k.stepLanes mask f).pc = k.pc := by simp only [Core.stepLanes]
@[simp] theorem Core.stepLanes_vreg (k : Core) (mask : W64) (f : LaneState → LaneState) (r : BitVec 5) :
    (k.stepLanes mask f).vreg r = k.vreg r := by simp only [Core.stepLanes, Core.vreg]

@[simp] theorem Core.putDraws_vreg (k : Core) (a : CoreArgs) (v : Lanes) :
    (k.putDraws a v).vreg a.rd = mergeLanes (k.laneMask a) v (k.vreg a.rd) := k.vreg_setV_same ..

/-- R125, R128: the core once the lanes that the mask admits have stepped, each giving its draw to v[RD]. -/
def Core.drawStreams (k : Core) (a : CoreArgs) (f : LaneState → LaneState × W32) : Core :=
  (k.putDraws a (k.lanes.map (fun l => (f l).2))).stepLanes (k.laneMask a) (fun l => (f l).1)

theorem Core.drawStreams_lane (k : Core) (a : CoreArgs) (f : LaneState → LaneState × W32) (l : Fin 64) :
    (k.drawStreams a f).lanes[l] =
      if (k.laneMask a).getLsbD l.val then (f k.lanes[l]).1 else k.lanes[l] := by
  simp [Core.drawStreams, Core.stepLanes, Core.putDraws, Core.putV, Core.setV]

theorem Core.drawStreams_draw (k : Core) (a : CoreArgs) (f : LaneState → LaneState × W32) (l : Fin 64) :
    ((k.drawStreams a f).vreg a.rd)[l] =
      if (k.laneMask a).getLsbD l.val then (f k.lanes[l]).2 else (k.vreg a.rd)[l] := by
  simp [Core.drawStreams]

theorem Core.drawStreams_frame (k : Core) (a : CoreArgs) (f : LaneState → LaneState × W32) :
    k.drawStreams a f = { k with
      v := (k.drawStreams a f).v, vpoison := (k.drawStreams a f).vpoison, lanes := (k.drawStreams a f).lanes } := by
  simp only [Core.drawStreams, Core.stepLanes, Core.putDraws, Core.putV, Core.setV]

theorem exec_ridx (c : CoreId) (a : CoreArgs) (s : State) : exec (.ridx c a) s = execRidx c a s := rfl
theorem exec_rlane (c : CoreId) (a : CoreArgs) (s : State) : exec (.rlane c a) s = execRlane c a s := rfl
theorem exec_rnorm (c : CoreId) (a : CoreArgs) (s : State) : exec (.rnorm c a) s = execRnorm c a s := rfl

section
variable {s : State} {c : CoreId} {x : CtxId} (h : s.issues c x = true)
include h

/-- R78: a draw for each element, taken from the element's own index, is a plain masked write. -/
theorem writesLanes_of_draws {i : Instr} {major : BitVec 6} {minor : BitVec 5} {u : Uses} {defined : Bool}
    {a : CoreArgs} {body : State → Core → CtxId → Effect} (draw : W64 → W32)
    (hx : exec i s = .next (issue major minor u defined c a s body)) (hf : a.finding = {})
    (hl : (defined && u.legal a) = true)
    (hb : body s (s.coreOf c.val) x = .core s c ((s.coreOf c.val).putDraws a
      (Vector.ofFn (fun l => draw (elemIndex (s.coreOf c.val) a l))))) :
    s.writesLanes i c a (fun l => draw ((s.coreOf c.val).sreg a.ra + BitVec.ofNat 64 l.val)) 0 false := by
  have completes := hx.trans (issue_core h major minor u defined a body _ none _ hf hl hb (by simp) (by simp) (by simp))
  simpa [elemIndex] using writesLanes_of_putV_plain _ _ completes

theorem ridx_shared (a : CoreArgs) (hf : a.finding = {}) (hopt : a.opt = 0)
    (hl : ({ rd := true, ra := true, men := true } : Uses).legal a = true) :
    s.writesLanes (.ridx c a) c a (fun l => sharedDraw (s.coreOf c.val).seed (s.coreOf c.val).sid
      ((s.coreOf c.val).sreg a.ra + BitVec.ofNat 64 l.val)) 0 false :=
  writesLanes_of_draws h _ (exec_ridx c a s) hf (by simp [hopt, hl]) (by simp only [hopt, if_true])

theorem ridx_full (a : CoreArgs) (hf : a.finding = {}) (hopt : a.opt = 1)
    (hl : ({ rd := true, ra := true, men := true } : Uses).legal a = true) :
    s.writesLanes (.ridx c a) c a (fun l => fullDraw (s.coreOf c.val).seed (s.coreOf c.val).sid
      ((s.coreOf c.val).sreg a.ra + BitVec.ofNat 64 l.val)) 0 false :=
  writesLanes_of_draws h _ (exec_ridx c a s) hf (by simp [hopt, hl]) (by simp only [hopt]; rfl)

/-- R128: indexed RNORM. -/
theorem rnorm_indexed (a : CoreArgs) (hf : a.finding = {}) (hopt : a.opt = 0) (hvar : a.var.toNat < 2)
    (hl : ({ rd := true, ra := true, men := true, var := true } : Uses).legal a = true) :
    s.writesLanes (.rnorm c a) c a (fun l => indexedNormal (s.coreOf c.val).seed (s.coreOf c.val).sid (a.var == 1)
      ((s.coreOf c.val).sreg a.ra + BitVec.ofNat 64 l.val)) 0 false :=
  writesLanes_of_draws h _ (exec_rnorm c a s) hf (by simp [hopt, hvar, hl]) (by simp only [hopt, if_true])

theorem rlane_completes (a : CoreArgs) (hf : a.finding = {}) (hl : ({ rd := true, men := true } : Uses).legal a = true) :
    execRlane c a s = s.completes c ((s.coreOf c.val).drawStreams a laneStep) :=
  issue_core h 0x35 0 _ true a _ _ none _ hf (by simpa using hl) rfl (by simp [Core.drawStreams])
    (by simp [Core.drawStreams]) (by simp [Core.drawStreams])

/-- R128: RNORM of the lane streams. -/
theorem rnorm_streams (a : CoreArgs) (hf : a.finding = {}) (hopt : a.opt = 1) (hvar : a.var.toNat < 2)
    (hl : ({ rd := true, men := true, var := true } : Uses).legal a = true) :
    execRnorm c a s = s.completes c ((s.coreOf c.val).drawStreams a (laneNormal (a.var == 1))) := by
  refine issue_core h 0x37 a.opt _ _ a _ _ none _ hf ?legal ?effect (by simp [Core.drawStreams])
    (by simp [Core.drawStreams]) (by simp [Core.drawStreams])
  case legal => simpa [hopt, hvar] using hl
  case effect => exact if_neg (by simp [hopt])

end

/-- R128: VAR gives the method of RNORM. -/
theorem normalMethod (table : Bool) :
    let var : BitVec 2 := (BitVec.ofBool table).setWidth 2
    var.toNat < 2 ∧ (var == 1) = table := by
  revert table; decide

end Sys2Proof.Machine
end

section
/-! PROOFS. The record of a core (R132): what stored bytes say of the record that wrote them, and RSAVE and RLOAD by the
state of their entry. -/

set_option linter.unusedVariables false

namespace Sys2Proof.Machine

open Sys2Proof

/-! ## Stored bytes that are a given list -/

/-- The stored bytes from `off` on are those of `bs`. -/
def holdsBytes (t : Table Byte) (off : Nat) (bs : List Byte) : Prop :=
  ∀ i < bs.length, tileByte t (off + i) = bs.getD i 0

theorem holdsBytes_append {t : Table Byte} {off : Nat} {as bs : List Byte} :
    holdsBytes t off (as ++ bs) ↔ holdsBytes t off as ∧ holdsBytes t (off + as.length) bs := by
  constructor
  · intro h
    constructor
    · intro i hi
      rw [h i (by simp; omega), List.getD_append _ _ _ _ hi]
    · intro i hi
      rw [Nat.add_assoc, h (as.length + i) (by simpa using hi), List.getD_append_right _ _ _ _ (by omega),
        Nat.add_sub_cancel_left]
  · rintro ⟨ha, hb⟩ i hi
    by_cases inFirst : i < as.length
    · rw [ha i inFirst, List.getD_append _ _ _ _ inFirst]
    · have place : off + i = off + as.length + (i - as.length) := by omega
      rw [List.length_append] at hi
      rw [place, hb _ (by omega), List.getD_append_right _ _ _ _ (by omega)]

/-- Records of one length, one after another. -/
theorem holdsBytes_flatMap {α : Type} {t : Table Byte} {f : α → List Byte} {n : Nat} (hn : ∀ y, (f y).length = n)
    (l : List α) (off : Nat) (h : holdsBytes t off (l.flatMap f)) (i : Nat) (hi : i < l.length) :
    holdsBytes t (off + n * i) (f l[i]) := by
  induction l generalizing off i with
  | nil => simp at hi
  | cons y l ih =>
    rw [List.flatMap_cons, holdsBytes_append, hn] at h
    obtain ⟨first, rest⟩ := h
    cases i with
    | zero => exact first
    | succ i =>
      have place : off + n * (i + 1) = off + n + n * i := by ring
      rw [place]
      exact ih _ rest i (by simpa using hi)

theorem ofBytesLE_bytesLE {n v : Nat} (hv : v < 2 ^ (8 * n)) : ofBytesLE (bytesLE n v) = v := by
  apply Nat.eq_of_testBit_eq
  intro i
  rw [testBit_ofBytesLE]
  by_cases hi : i < 8 * n
  · rw [getD_bytesLE _ _ _ (by omega), testBit_byteLE _ _ _ (by omega), Nat.div_add_mod]
  · have beyond : (bytesLE n v).getD (i / 8) 0 = 0 := List.getD_eq_default _ _ (by rw [bytesLE_length]; omega)
    rw [beyond, Nat.testBit_lt_two_pow (hv.trans_le (Nat.pow_le_pow_right (by norm_num) (by omega)))]
    simp

/-- A little-endian value read where it is stored. -/
theorem ofBytesLE_of_holdsBytes {t : Table Byte} {off n v : Nat} (h : holdsBytes t off (bytesLE n v))
    (hv : v < 2 ^ (8 * n)) : ofBytesLE ((List.range n).map (fun i => tileByte t (off + i))) = v := by
  have same : (List.range n).map (fun i => tileByte t (off + i)) = bytesLE n v := by
    refine List.map_congr_left fun i hi => ?_
    have inside : i < n := List.mem_range.mp hi
    rw [h i (by simpa using inside), getD_bytesLE n v i inside]
  rw [same, ofBytesLE_bytesLE hv]

/-- A word read where it is stored. -/
theorem word_of_holdsBytes {t : Table Byte} {off n w : Nat} {v : BitVec w} (h : holdsBytes t off (bytesLE n v.toNat))
    (hw : w = 8 * n) : BitVec.ofNat w (ofBytesLE ((List.range n).map (fun i => tileByte t (off + i)))) = v := by
  rw [ofBytesLE_of_holdsBytes h (hw ▸ v.isLt), BitVec.ofNat_toNat, BitVec.setWidth_eq]

/-! ## The record (R132) -/

/-- The 32 bytes of a lane. -/
def laneBytes (l : LaneState) : List Byte :=
  bytesLE 8 l.a.toNat ++ bytesLE 8 l.b.toNat ++ bytesLE 4 l.buffer.toNat ++ bytesLE 1 l.nibbles.toNat ++ bytesLE 11 0

theorem laneBytes_length (l : LaneState) : (laneBytes l).length = 32 := by simp [laneBytes]

theorem recordBytes_eq (r : LaneRec) : recordBytes r =
    bytesLE 8 r.seed.toNat ++ bytesLE 8 r.sid.toNat ++ bytesLE 4 r.laneBase.toNat ++ bytesLE 4 r.laneCount.toNat ++
      bytesLE 8 r.indexBase.toNat ++ bytesLE 32 0 ++ r.lanes.toList.flatMap laneBytes := rfl

section
variable {t : Table Byte} {r : LaneRec} (h : holdsBytes t 0 (recordBytes r))
include h

/-- The words of a stored record, and its lanes. -/
theorem holdsBytes_record : holdsBytes t 0 (bytesLE 8 r.seed.toNat) ∧ holdsBytes t 8 (bytesLE 8 r.sid.toNat) ∧
    holdsBytes t 24 (bytesLE 8 r.indexBase.toNat) ∧ holdsBytes t 64 (r.lanes.toList.flatMap laneBytes) := by
  simp only [recordBytes_eq, holdsBytes_append, List.length_append, bytesLE_length] at h
  obtain ⟨⟨⟨⟨⟨⟨seed, sid⟩, -⟩, -⟩, indexBase⟩, -⟩, lanes⟩ := h
  exact ⟨seed, sid, indexBase, lanes⟩

/-- The lanes of a stored record are those of the record. -/
theorem lanesOfBytes_record : lanesOfBytes t = r.lanes := by
  obtain ⟨-, -, -, lanes⟩ := holdsBytes_record h
  apply Vector.ext
  intro i hi
  have lane : holdsBytes t (64 + 32 * i) (laneBytes r.lanes[i]) := by
    rw [← Vector.getElem_toList (xs := r.lanes) (by simpa using hi)]
    exact holdsBytes_flatMap laneBytes_length _ _ lanes i _
  simp only [laneBytes, holdsBytes_append, List.length_append, bytesLE_length] at lane
  obtain ⟨⟨⟨⟨a, b⟩, buffer⟩, nibbles⟩, -⟩ := lane
  simp only [lanesOfBytes, Vector.getElem_ofFn]
  rw [word_of_holdsBytes (off := 64 + 32 * i + 0) a rfl, word_of_holdsBytes b rfl, word_of_holdsBytes buffer rfl,
    word_of_holdsBytes nibbles rfl]

end

/-! ## RSET, RSAVE and RLOAD -/

theorem exec_rsetSeed (c : CoreId) (a : CoreArgs) (s : State) : exec (.rsetSeed c a) s = execRsetSeed c a s := rfl
theorem exec_rsetStreamId (c : CoreId) (a : CoreArgs) (s : State) :
    exec (.rsetStreamId c a) s = execRsetStreamId c a s := rfl
theorem exec_rsetIndexBase (c : CoreId) (a : CoreArgs) (s : State) :
    exec (.rsetIndexBase c a) s = execRsetIndexBase c a s := rfl
theorem exec_rsave (c : CoreId) (a : CoreArgs) (s : State) : exec (.rsave c a) s = execRsave c a s := rfl
theorem exec_rload (c : CoreId) (a : CoreArgs) (s : State) : exec (.rload c a) s = execRload c a s := rfl

/-- R74: an entry that its context holds, once it has been rewritten and is still held by it. -/
theorem Core.entryFor_putEntry (k : Core) (x : CtxId) (n : Nat) (e : Entry) (he : e.holder = x) :
    (k.putEntry n e).entryFor x n = e := by
  have entry : (k.putEntry n e).entry n = e := tget_tput_same ..
  simp [Core.entryFor, entry, he]

theorem Core.putEntry_frame (k : Core) (n : Nat) (e : Entry) :
    k.putEntry n e = { k with tiles := (k.putEntry n e).tiles } := by
  simp only [Core.putEntry]

/-- R74: a raw store leaves the bytes stored. -/
theorem holdsBytes_stored (e : Entry) (off : Nat) (bs : List Byte) (poison : Bool) :
    holdsBytes (e.stored off bs poison).bytes off bs := by
  intro i hi
  simp [Entry.stored, tileByte_writeBytes, hi]

/-- R74: what a context reads as a tile is its own. -/
theorem Core.entryFor_holder {k : Core} {x : CtxId} {n : Nat} (h : (k.entryFor x n).state ≠ .empty) :
    (k.entryFor x n).holder = x := by
  by_contra other
  refine h ?_
  unfold Core.entryFor at other ⊢
  grind

section
variable {s : State} {c : CoreId} {x : CtxId} (h : s.issues c x = true)
include h

theorem rsetSeed_completes (ra : BitVec 5) : execRsetSeed c { ra := ra } s =
    s.completes c { s.coreOf c.val with seed := (s.coreOf c.val).sreg ra } :=
  issue_core h 0x36 0 _ true _ _ _ none _ rfl (by simp [Uses.legal]) rfl rfl rfl rfl

theorem rsetIndexBase_completes (ra : BitVec 5) : execRsetIndexBase c { ra := ra } s =
    s.completes c { s.coreOf c.val with indexBase := (s.coreOf c.val).sreg ra } :=
  issue_core h 0x36 2 _ true _ _ _ none _ rfl (by simp [Uses.legal]) rfl rfl rfl rfl

/-- R121, R124: without a restored state to take, the lanes are seeded afresh. -/
theorem rsetStreamId_completes (ra : BitVec 5) (hr : (s.coreOf c.val).restored = none) :
    execRsetStreamId c { ra := ra } s = s.completes c
      { s.coreOf c.val with
        sid := (s.coreOf c.val).sreg ra
        lanes := seedLanes (s.coreOf c.val).seed ((s.coreOf c.val).sreg ra)
          (s.corePos (s.coreOf c.val).region.val c.val) } := by
  refine issue_core h 0x36 1 _ true _ _ _ none _ rfl (by simp [Uses.legal]) ?effect rfl rfl rfl
  simp only [hr]

variable {a : CoreArgs} {n : Nat} {e : Entry} (hf : a.finding = {})
  (hl : ({ imm := true } : Uses).legal a = true) (hn : a.imm.toNat % 256 = n) (he : (s.coreOf c.val).entryFor x n = e)
include hf hl hn he

theorem rsave_completes (hheld : e.held) (hw : e.writable = true) (hlen : recordLen ≤ e.header.storedLen.toNat)
    (hbusy : s.writeBusy c n = false) : execRsave c a s = s.completes c
      ((s.coreOf c.val).putEntry n (e.stored 0 (recordBytes (s.laneRecord c.val (s.coreOf c.val))) false)) := by
  refine issue_core h 0x36 3 _ true a _ _ none _ hf (by simpa using hl) ?effect (by simp) (by simp) (by simp)
  have room : ¬ (e.state ≠ .empty ∧ e.state ≠ .filling ∧ e.header.storedLen.toNat < recordLen) := by omega
  simp only [hn, he, if_neg room]
  exact rawStore_stores he 0 1 _ false hheld hbusy hw (by simpa [recordBytes_length, Nat.mod_one] using hlen)

theorem rsave_address (hempty : e.state = .empty) (hh : (s.coreOf c.val).handles = true) :
    execRsave c a s = s.handles c xADDRESS (addressInfo n 0) := by
  refine issue_raise h 0x36 3 _ true a _ _ none _ _ hf (by simpa using hl) ?effect hh
  have noTile : ¬ (e.state ≠ .empty ∧ e.state ≠ .filling ∧ e.header.storedLen.toNat < recordLen) := by simp [hempty]
  simp only [hn, he, if_neg noTile]
  exact rawStore_raises he 0 1 _ false (.inl hempty)

theorem rload_completes (hheld : e.held) (hlen : recordLen ≤ e.header.storedLen.toNat) {r : LaneRec}
    (hr : holdsBytes e.bytes 0 (recordBytes r)) : execRload c a s = s.completes c
      { s.coreOf c.val with seed := r.seed, sid := r.sid, indexBase := r.indexBase, lanes := r.lanes } := by
  obtain ⟨seed, sid, indexBase, -⟩ := holdsBytes_record hr
  refine issue_core h 0x36 4 _ true a _ _ none _ hf (by simpa using hl) ?effect rfl rfl rfl
  simp only [hn, he, hheld.settled, Nat.not_lt.mpr hlen, if_false, word_of_holdsBytes seed rfl,
    word_of_holdsBytes sid rfl, word_of_holdsBytes indexBase rfl, lanesOfBytes_record hr]

theorem rload_address (hempty : e.state = .empty) (hh : (s.coreOf c.val).handles = true) :
    execRload c a s = s.handles c xADDRESS (addressInfo n 0) := by
  refine issue_raise h 0x36 4 _ true a _ _ none _ _ hf (by simpa using hl) ?effect hh
  simp only [hn, he, hempty, if_true]

end

/-- Settles O21: the rows of draws by what they write, the record by the bytes that RSAVE stores and RLOAD reads. -/
theorem randomNumbers : Obligations.RandomNumbers := by
  unfold Obligations.RandomNumbers
  refine ⟨?slices, ?draws, ?state⟩
  case slices =>
    intro seed sid d j hd
    have whole := sharedDraw_eq seed sid d (j := 0) (by omega) hd
    have mine := sharedDraw_eq seed sid d j.isLt hd
    rw [Nat.add_zero, Nat.mul_zero, rotateRight_zero] at whole
    rw [mine, whole, setWidth_rotateRight _ (by omega)]
  case draws =>
    intro s c x rd ra table men msel h hm k i n elem lane streams
    obtain ⟨hvar, hmethod⟩ := normalMethod table
    have legalIndexed : ({ rd := true, ra := true, men := true } : Uses).legal i = true := by
      simpa [Uses.legal, i] using hm
    have streamed {op : Instr} {a : CoreArgs} {f : LaneState → LaneState × W32} (hrd : a.rd = rd)
        (hmask : k.laneMask a = k.laneMask i) (hx : exec op s = s.completes c (k.drawStreams a f)) :
        streams op a f := by
      refine ⟨_, hx, fun l => ?_, k.drawStreams_frame a f⟩
      rw [← hrd]
      simp only [lane, ← hmask]
      exact ⟨k.drawStreams_lane a f l, k.drawStreams_draw a f l⟩
    refine ⟨?shared, ?full, ?indexed, ?lanes, ?normalLanes⟩
    case shared => exact ridx_shared h i rfl rfl legalIndexed
    case full => exact ridx_full h { i with opt := 1 } rfl rfl legalIndexed
    case indexed =>
      have row := rnorm_indexed h n rfl rfl hvar (by simpa [Uses.legal, n, i] using hm)
      rwa [hmethod] at row
    case lanes =>
      exact streamed rfl rfl ((exec_rlane ..).trans (rlane_completes h _ rfl (by simpa [Uses.legal, i] using hm)))
    case normalLanes =>
      have row := rnorm_streams h { n with ra := 0, opt := 1 } rfl rfl hvar (by simpa [Uses.legal, n, i] using hm)
      rw [hmethod] at row
      exact streamed rfl rfl ((exec_rnorm ..).trans row)
  case state =>
    intro s c x ra n h k v e a t
    have entryNumber : t.imm.toNat % 256 = n.toNat := by simpa [t] using n.isLt
    have legal : ({ imm := true } : Uses).legal t = true := by simp [Uses.legal, t]
    refine ⟨(exec_rsetSeed ..).trans (rsetSeed_completes h ra), (exec_rsetIndexBase ..).trans (rsetIndexBase_completes h ra),
      fun hr => (exec_rsetStreamId ..).trans (rsetStreamId_completes h ra hr), ?save, ?load, ?noTile⟩
    case save =>
      intro hres hw hlen hbusy
      have settled : e.state ≠ .empty := by simp [hres]
      have completes := rsave_completes h rfl legal entryNumber rfl (.inl hres) hw hlen hbusy
      refine ⟨_, (exec_rsave ..).trans completes, k.putEntry_frame .., ?_⟩
      intro m hm
      rw [k.entryFor_putEntry x n.toNat (e.stored 0 (recordBytes (s.laneRecord c.val k)) false)
        (Core.entryFor_holder settled)]
      have stored := holdsBytes_stored e 0 (recordBytes (s.laneRecord c.val k)) false m
        (by simpa [recordBytes_length, recordLen] using hm)
      rwa [Nat.zero_add] at stored
    case load =>
      intro hres hlen r hr
      have stored : holdsBytes e.bytes 0 (recordBytes r) := by
        intro m hm
        rw [Nat.zero_add]
        exact hr m (by simpa [recordBytes_length, recordLen] using hm)
      exact (exec_rload ..).trans (rload_completes h rfl legal entryNumber rfl (.inl hres) hlen stored)
    case noTile =>
      intro hempty hh
      exact ⟨(exec_rsave ..).trans (rsave_address h rfl legal entryNumber rfl hempty hh),
        (exec_rload ..).trans (rload_address h rfl legal entryNumber rfl hempty hh)⟩

end Sys2Proof.Machine
end

section
/-! PROOFS. The command loop (R369 to R374): how an accepted command ends, and the first of its checks that fails. -/

set_option linter.unusedVariables false

namespace Sys2Proof.Machine

open Sys2Proof

@[simp] theorem firstBad_nil : firstBad [] = none := rfl

@[simp] theorem firstBad_check (bad : Bool) (st : Byte) (detail : Nat) (r : List (Option Bad)) :
    firstBad (check bad st detail :: r) = if bad then some (st, BitVec.ofNat 32 detail) else firstBad r := by
  cases bad <;> rfl

theorem accepts_iff (s : State) (h : Hdr) (r : CmdRow) :
    s.accepts h r = true ↔ s.takes h r.opcode = true ∧ s.rowChecks h r = none ∧ (h.rsv && r.rsvChecked) = false := by
  simp only [State.accepts, Bool.and_eq_true, Option.isNone_iff_eq_none, Bool.not_eq_true', and_assoc]

/-- R375: an accepted command finds the module in a state of its row. -/
theorem mode_of_accepts {s : State} {h : Hdr} {r : CmdRow} (ha : s.accepts h r = true) : s.mode ∈ r.states := by
  obtain ⟨-, checks, -⟩ := (accepts_iff s h r).mp ha
  by_contra elsewhere
  simp only [State.rowChecks, firstBad_check] at checks
  split at checks
  · cases checks
  · split at checks
    · cases checks
    · simp [elsewhere] at checks

/-- An accepted command that is carried out at once completes. -/
theorem hostCommand_done {s t : State} {h : Hdr} {r : CmdRow} {body : State → CmdEnd} {st : Byte} {detail : W32}
    {result : List W64} (ha : s.accepts h r = true) (hb : body s = .done t st detail result) :
    s.hostCommand h r body = t.finishes h st detail result := by
  obtain ⟨taken, checks, reserved⟩ := (accepts_iff s h r).mp ha
  simp [State.hostCommand, State.finishes, taken, checks, reserved, hb]

/-- An accepted command with a check that fails changes nothing (R374). -/
theorem hostCommand_fails {s : State} {h : Hdr} {r : CmdRow} {body : State → CmdEnd} {checks : List (Option Bad)}
    {effect : CmdEnd} {bad : Bad} (ha : s.accepts h r = true) (hb : body s = CmdEnd.checked s checks effect)
    (hbad : firstBad checks = some bad) : s.hostCommand h r body = s.finishes h bad.1 bad.2 :=
  hostCommand_done ha (by rw [hb, CmdEnd.checked, hbad]; rfl)

/-- An accepted command whose checks all pass completes with its effect. -/
theorem hostCommand_checked {s t : State} {h : Hdr} {r : CmdRow} {body : State → CmdEnd} {checks : List (Option Bad)}
    {st : Byte} {detail : W32} {result : List W64} (ha : s.accepts h r = true)
    (hb : body s = CmdEnd.checked s checks (.done t st detail result)) (hgood : firstBad checks = none) :
    s.hostCommand h r body = t.finishes h st detail result :=
  hostCommand_done ha (by rw [hb, CmdEnd.checked, hgood])

end Sys2Proof.Machine
end

section
/-! PROOFS. CTX_CREATE (R201, R304, R330, R355, R376): what a new context finds cleared, and what the command leaves. -/

set_option linter.unusedVariables false

namespace Sys2Proof.Machine

open Sys2Proof

theorem exec_ctxCreate (h : Hdr) (a : CtxCreateArgs) (s : State) : exec (.ctxCreate h a) s = execCtxCreate h a s := rfl

/-- What every step of a fold keeps holds at its end. -/
theorem each_keeps {β : Type} {P : State → Prop} {f : State → β → State} (hf : ∀ s b, P s → P (f s b)) (l : List β)
    {s : State} (hs : P s) : P (s.each l f) :=
  List.foldlRecOn l f hs (fun t ht b _ => hf t b ht)

/-! ## What a new context finds (R304, R330, R355) -/

/-- R330: a unit is fenced for a context. -/
def LinkUnit.fencedFor (k : LinkUnit) (x : Nat) : LinkUnit := { k with openCtx := k.openCtx &&& ~~~(BitVec.twoPow 8 x) }

def State.fenceUnits (s : State) (x : CtxId) (us : List Nat) : State :=
  s.each us (fun s u => s.modUnit u (fun k => k.fencedFor x.val))

def State.clearCtxCounters (s : State) (x : CtxId) : State :=
  s.each (List.range 8) (fun s i =>
    (s.clearCounter 0 (0x74000 + 64 * x.val + 8 * i)).clearCounter 0 (0x83000 + 64 * x.val + 8 * i))

theorem clearForCtx_eq (s : State) (x : CtxId) :
    s.clearForCtx x = ((s.clearCtxCounters x).fenceUnits x (List.range 128)).forgetPredictions x := rfl

@[simp] theorem forgetPredictions_unitOpen (s : State) (x : CtxId) (u y : Nat) :
    (s.forgetPredictions x).unitOpen u y = s.unitOpen u y := (rfl)

theorem clearCtxCounters_frame (s : State) (x : CtxId) : ∃ ks, s.clearCtxCounters x = { s with counters := ks } := by
  refine each_keeps (P := fun t => ∃ ks, t = { s with counters := ks }) ?_ _ ⟨_, rfl⟩
  rintro _ i ⟨ks, rfl⟩
  exact ⟨_, rfl⟩

theorem fenceUnits_frame (s : State) (x : CtxId) (us : List Nat) :
    ∃ vs, s.fenceUnits x us = { s with units := vs } := by
  refine each_keeps (P := fun t => ∃ vs, t = { s with units := vs }) ?_ _ ⟨_, rfl⟩
  rintro _ u ⟨vs, rfl⟩
  exact ⟨_, rfl⟩

/-- A unit that is fenced, or has been, does not carry the context. -/
theorem unitOpen_fenceUnits (x : CtxId) (u : Nat) (us : List Nat) (s : State)
    (hu : s.unitOpen u x.val = false ∨ u ∈ us) : (s.fenceUnits x us).unitOpen u x.val = false := by
  induction us generalizing s with
  | nil => exact hu.resolve_right List.not_mem_nil
  | cons v us ih =>
    refine ih _ ?_
    by_cases same : u = v
    · left
      simp [same, State.unitOpen, State.modUnit, LinkUnit.fencedFor]
    · have kept : (s.modUnit v (fun k => k.fencedFor x.val)).unitOpen u x.val = s.unitOpen u x.val := by
        simp [State.unitOpen, State.modUnit, same]
      rw [kept]
      exact hu.imp_right (fun hmem => (List.mem_cons.mp hmem).resolve_left same)

theorem clearForCtx_frame (s : State) (x : CtxId) :
    ∃ us ks cs, s.clearForCtx x = { s with units := us, counters := ks, clusters := cs } := by
  obtain ⟨ks, counters⟩ := clearCtxCounters_frame s x
  obtain ⟨us, units⟩ := fenceUnits_frame (s.clearCtxCounters x) x (List.range 128)
  rw [clearForCtx_eq, units, counters]
  exact ⟨us, ks, _, rfl⟩

theorem clearForCtx_mode (s : State) (x : CtxId) : (s.clearForCtx x).mode = s.mode := by
  obtain ⟨us, ks, cs, cleared⟩ := clearForCtx_frame s x
  rw [cleared]

theorem clearForCtx_ctxOf (s : State) (x : CtxId) (y : Nat) : (s.clearForCtx x).ctxOf y = s.ctxOf y := by
  obtain ⟨us, ks, cs, cleared⟩ := clearForCtx_frame s x
  rw [cleared]; rfl

/-- R330: every unit is fenced for the new context. -/
theorem unitOpen_clearForCtx (s : State) (x : CtxId) (u : UnitId) : (s.clearForCtx x).unitOpen u.val x.val = false := by
  rw [clearForCtx_eq, forgetPredictions_unitOpen]
  exact unitOpen_fenceUnits x u.val (List.range 128) _ (.inr (List.mem_range.mpr u.isLt))

/-! ## Another mode (R396) -/

/-- The module in another state, all else unchanged. -/
def State.withMode (s : State) (m : ModState) : State := { s with mode := m }

@[simp] theorem withMode_ctxOf (s : State) (m : ModState) (n : Nat) : (s.withMode m).ctxOf n = s.ctxOf n := (rfl)
@[simp] theorem withMode_coreOf (s : State) (m : ModState) (n : Nat) : (s.withMode m).coreOf n = s.coreOf n := (rfl)
@[simp] theorem withMode_unitOpen (s : State) (m : ModState) (u x : Nat) :
    (s.withMode m).unitOpen u x = s.unitOpen u x := (rfl)
@[simp] theorem withMode_regionOf (s : State) (m : ModState) (n : Nat) : (s.withMode m).regionOf n = s.regionOf n := (rfl)
@[simp] theorem withMode_pegOf (s : State) (m : ModState) (n : Nat) : (s.withMode m).pegOf n = s.pegOf n := (rfl)

/-! ## The command -/

theorem measure_ctxOf_same (s : State) (x : Nat) (op : W16) (args : List Byte) :
    (s.measure x op args).ctxOf x = { s.ctxOf x with
      measure := Config.sha384 (bytesLE 48 (s.ctxOf x).measure.toNat ++ bytesLE 2 op.toNat ++ args) } :=
  State.putCtx_same ..

/-- R376, R413: a context is made with a key pair and measured. -/
def State.addCtx (s : State) (h : Hdr) (a : CtxCreateArgs) (pair : Nat) : State :=
  let x := namedCtx h
  let t := (s.putCtx x.val (newCtx h a pair)).measure x.val 0x01 (ctxCreateBytes a)
  { t with mgmt := { t.mgmt with keyPairs := t.mgmt.keyPairs + 1 } }

section
variable (s : State) (h : Hdr) (a : CtxCreateArgs) (pair : Nat)

theorem newCtx_measure : (newCtx h a pair).measure.toNat = 0 := BitVec.toNat_zero

theorem addCtx_ctxOf_same : (s.addCtx h a pair).ctxOf (namedCtx h).val = { newCtx h a pair with
    measure := Config.sha384 (bytesLE 48 0 ++ bytesLE 2 1 ++ ctxCreateBytes a) } := by
  refine (measure_ctxOf_same ..).trans ?_
  rw [State.putCtx_same, newCtx_measure]
  rfl

theorem addCtx_ctxOf_ne {y : Nat} (hy : y ≠ (namedCtx h).val) : (s.addCtx h a pair).ctxOf y = s.ctxOf y :=
  (State.putCtx_ne _ _ hy).trans (State.putCtx_ne _ _ hy)

theorem addCtx_unitOpen (u x : Nat) : (s.addCtx h a pair).unitOpen u x = s.unitOpen u x := by
  simp only [State.addCtx, State.measure, State.modCtx, State.putCtx, State.unitOpen, State.unitOf]

theorem addCtx_mode : (s.addCtx h a pair).mode = s.mode := by
  simp only [State.addCtx, State.measure, State.modCtx, State.putCtx]

theorem addCtx_frame : s.addCtx h a pair = { s with
    ctxs := (s.addCtx h a pair).ctxs, mgmt := { s.mgmt with keyPairs := s.mgmt.keyPairs + 1 } } := by
  simp only [State.addCtx, State.measure, State.modCtx, State.putCtx]

end

/-- R376: the module once CTX_CREATE has made its context. -/
def State.createCtx (s : State) (h : Hdr) (a : CtxCreateArgs) : State :=
  ((s.clearForCtx (namedCtx h)).addCtx h a s.mgmt.keyPairs).withMode .run

/-- READY gives way to RUN, and RUN stays (R376). -/
theorem run_of_ready_or_run {s : State} (hm : s.mode = .ready ∨ s.mode = .run) :
    (if s.mode = .ready then { s with mode := .run } else s) = s.withMode .run := by
  obtain ready | run := hm
  · exact if_pos ready
  · rw [if_neg (by simp [run]), State.withMode, ← run]

/-- R376: the checks of CTX_CREATE, in their order. -/
def State.createChecks (s : State) (h : Hdr) (a : CtxCreateArgs) : List (Option Bad) :=
  [check (decide (1 < a.sumf.toNat)) stBAD_ARG 0,
   check (decide (4095 < a.tubHold.toNat)) stBAD_ARG 2,
   check (decide (32 < a.pocket.toNat)) stBAD_ARG 4,
   check (decide (184 < a.basket.toNat)) stBAD_ARG 6,
   check (decide (1424 < a.hamper.toNat)) stBAD_ARG 8,
   check (decide (8000 < a.press.toNat)) stBAD_ARG 12,
   check (s.ctxOf (namedCtx h).val).live stREFUSED,
   check (s.ctxOfJob h.job).isSome stBAD_ARG,
   check (s.quotaOver a) stNO_QUOTA]

section
variable {a : CtxCreateArgs} (s : State) (h : Hdr) (hsum : a.sumf.toNat ≤ 1) (htub : a.tubHold.toNat ≤ 4095)
include hsum htub

theorem firstBad_pocket (hpocket : 32 < a.pocket.toNat) : firstBad (s.createChecks h a) = some (stBAD_ARG, 4) := by
  simp [State.createChecks, Nat.not_lt.mpr hsum, Nat.not_lt.mpr htub, hpocket]

/-- R376: with arguments in their ranges, what the module holds decides. -/
theorem firstBad_inRange (hpocket : a.pocket.toNat ≤ 32) (hbasket : a.basket.toNat ≤ 184)
    (hhamper : a.hamper.toNat ≤ 1424) (hpress : a.press.toNat ≤ 8000) : firstBad (s.createChecks h a) =
      if (s.ctxOf (namedCtx h).val).live then some (stREFUSED, noDetail)
      else if (s.ctxOfJob h.job).isSome then some (stBAD_ARG, noDetail)
      else if s.quotaOver a then some (stNO_QUOTA, noDetail) else none := by
  simp [State.createChecks, Nat.not_lt.mpr hsum, Nat.not_lt.mpr htub, Nat.not_lt.mpr hpocket, Nat.not_lt.mpr hbasket,
    Nat.not_lt.mpr hhamper, Nat.not_lt.mpr hpress, noDetail]

end

section
variable {s : State} {h : Hdr} (ha : s.accepts h ctxCreateRow = true)
include ha

theorem ctxCreate_fails {a : CtxCreateArgs} {bad : Bad} (hbad : firstBad (s.createChecks h a) = some bad) :
    exec (.ctxCreate h a) s = s.finishes h bad.1 bad.2 :=
  (exec_ctxCreate ..).trans (hostCommand_fails ha rfl hbad)

theorem ctxCreate_creates {a : CtxCreateArgs} (hgood : firstBad (s.createChecks h a) = none) :
    exec (.ctxCreate h a) s = (s.createCtx h a).finishes h := by
  have mode : s.mode = .ready ∨ s.mode = .run := by simpa [ctxCreateRow, groupW] using mode_of_accepts ha
  have made : ((s.clearForCtx (namedCtx h)).addCtx h a s.mgmt.keyPairs).mode = s.mode :=
    (addCtx_mode ..).trans (clearForCtx_mode ..)
  rw [← made] at mode
  refine (exec_ctxCreate ..).trans (hostCommand_checked ha (checks := s.createChecks h a) ?_ hgood)
  exact congrArg (fun t => CmdEnd.checked s (s.createChecks h a) (.ok t)) (run_of_ready_or_run mode)

end

/-- R376: what CTX_CREATE changes beside the named context. -/
theorem createCtx_frame (s : State) (h : Hdr) (a : CtxCreateArgs) : s.createCtx h a = { s with
    ctxs := (s.createCtx h a).ctxs, units := (s.createCtx h a).units, clusters := (s.createCtx h a).clusters
    counters := (s.createCtx h a).counters, mode := (s.createCtx h a).mode
    mgmt := { s.mgmt with keyPairs := s.mgmt.keyPairs + 1 } } := by
  obtain ⟨us, ks, cs, cleared⟩ := clearForCtx_frame s (namedCtx h)
  rw [State.createCtx, cleared, addCtx_frame, State.withMode]

theorem createCtx_ctxOf_same (s : State) (h : Hdr) (a : CtxCreateArgs) :
    (s.createCtx h a).ctxOf (namedCtx h).val = { newCtx h a s.mgmt.keyPairs with
      measure := Config.sha384 (bytesLE 48 0 ++ bytesLE 2 1 ++ ctxCreateBytes a) } :=
  (withMode_ctxOf ..).trans (addCtx_ctxOf_same ..)

theorem createCtx_ctxOf_ne (s : State) (h : Hdr) (a : CtxCreateArgs) {y : Nat} (hy : y ≠ (namedCtx h).val) :
    (s.createCtx h a).ctxOf y = s.ctxOf y :=
  (withMode_ctxOf ..).trans ((addCtx_ctxOf_ne _ h a _ hy).trans (clearForCtx_ctxOf ..))

theorem createCtx_unitOpen (s : State) (h : Hdr) (a : CtxCreateArgs) (u : UnitId) :
    (s.createCtx h a).unitOpen u.val (namedCtx h).val = false :=
  (withMode_unitOpen ..).trans ((addCtx_unitOpen ..).trans (unitOpen_clearForCtx ..))

end Sys2Proof.Machine
end

section
/-! PROOFS. CTX_DESTROY (R377): once a context is destroyed no core runs it, and it has no regions and no Peg groups. -/

set_option linter.unusedVariables false

namespace Sys2Proof.Machine

open Sys2Proof

theorem exec_ctxDestroy (h : Hdr) (s : State) : exec (.ctxDestroy h) s = execCtxDestroy h s := rfl

/-! ## Entries of a table -/

section
variable {α : Type} [DecidableEq α] {d : α} {t : Table α} {e : Nat × α}

omit [DecidableEq α] in
theorem mem_tinsert {n : Nat} {v : α} (h : e ∈ tinsert n v t) : e = (n, v) ∨ e ∈ t := by
  induction t with
  | nil => simpa [tinsert] using h
  | cons f t ih =>
    rw [tinsert] at h
    split at h
    · simpa using h
    · obtain rfl | h := List.mem_cons.mp h
      · exact .inr List.mem_cons_self
      · exact (ih h).imp_right (List.mem_cons_of_mem _)

/-- An entry after a write is the one written, or an old one of another number. -/
theorem mem_tput {n : Nat} {v : α} (h : e ∈ tput d t n v) : e = (n, v) ∨ e ∈ t ∧ e.1 ≠ n := by
  have kept (h : e ∈ terase t n) : e ∈ t ∧ e.1 ≠ n := by simpa [terase] using h
  rw [tput] at h
  split at h
  · exact .inr (kept h)
  · exact (mem_tinsert h).imp_right kept

/-- Every entry of a table rewritten by `f` comes from an old entry. -/
theorem mem_tmap {f : Nat → α → α} (h : e ∈ tmap d f t) : ∃ v, (e.1, v) ∈ t ∧ e.2 = f e.1 v := by
  refine List.foldlRecOn (motive := fun u : Table α => ∀ e ∈ u, ∃ v, (e.1, v) ∈ t ∧ e.2 = f e.1 v) t _ (by simp) ?_ e h
  intro acc hacc b hb e he
  obtain rfl | ⟨old, -⟩ := mem_tput he
  · exact ⟨b.2, hb, rfl⟩
  · exact hacc e old

/-- What every entry of a table satisfies, and the default, every read does. -/
theorem tget_of_forall {p : α → Prop} (hd : p d) (ht : ∀ e ∈ t, p e.2) (n : Nat) : p (tget d t n) := by
  by_cases h : tget d t n = d
  · rw [h]; exact hd
  · exact ht _ (mem_of_tget_ne h)

end

/-! ## Cores that run a context -/

/-- Only cores of these numbers run the context, in any entry of the table. -/
def State.runsOnlyOn (s : State) (x : CtxId) (cs : List Nat) : Prop := ∀ e ∈ s.cores, e.2.running = some x → e.1 ∈ cs

/-- A core whose program is replaced by another than x's no longer runs it. -/
theorem runsOnlyOn_putCore {s : State} {x : CtxId} {cs : List Nat} {c : Nat} {k : Core} (h : s.runsOnlyOn x (c :: cs))
    (hk : k.running ≠ some x) : (s.putCore c k).runsOnlyOn x cs := by
  intro e he hrun
  obtain rfl | ⟨old, other⟩ := mem_tput he
  · exact absurd hrun hk
  · exact (List.mem_cons.mp (h e old hrun)).resolve_left other

theorem runsOnlyOn_of_cores {s t : State} (hc : t.cores = s.cores) {x : CtxId} {cs : List Nat}
    (h : s.runsOnlyOn x cs) : t.runsOnlyOn x cs := by
  rwa [State.runsOnlyOn, hc]

/-- A context that no entry runs is run by no core. -/
theorem coreOf_running_ne {s : State} {x : CtxId} (h : s.runsOnlyOn x []) (c : Nat) : (s.coreOf c).running ≠ some x := by
  refine tget_of_forall (p := fun k : Core => k.running ≠ some x) (by simp) (fun e he hrun => ?_) c
  exact absurd (h e he hrun) List.not_mem_nil

/-- R243: the next program that a core starts is one of its queue. -/
theorem startNext_cases (s : State) (c x : Nat) : s.startNext c x = s ∨ ∃ k, s.startNext c x = s.putCore c k ∧
    (k.running = (s.coreOf c).running ∨ ∃ y ∈ (s.coreOf c).queue, k.running = some y) := by
  unfold State.startNext
  dsimp only
  split
  · exact .inl rfl
  next i found =>
    right
    split
    · exact ⟨_, rfl, .inl rfl⟩
    · have queued := List.find?_some found
      obtain ⟨y, mem, number⟩ := List.any_eq_true.mp queued
      have same : y = ⟨(x + 1 + i) % 8, Nat.mod_lt _ (by decide)⟩ := Fin.ext (beq_iff_eq.mp number)
      exact ⟨_, rfl, .inr ⟨y, mem, congrArg some same.symm⟩⟩

/-- A core that neither runs x nor has x queued does not start it. -/
theorem runsOnlyOn_startNext {s : State} {x : CtxId} {cs : List Nat} (h : s.runsOnlyOn x cs) {c : Nat}
    (hrun : (s.coreOf c).running ≠ some x) (hqueue : x ∉ (s.coreOf c).queue) (y : Nat) :
    (s.startNext c y).runsOnlyOn x cs := by
  obtain same | ⟨k, next, running⟩ := startNext_cases s c y
  · rwa [same]
  · rw [next]
    refine runsOnlyOn_putCore (fun e he running => List.mem_cons_of_mem c (h e he running)) ?_
    obtain running | ⟨z, queued, running⟩ := running
    · rwa [running]
    · intro started
      rw [running, Option.some.injEq] at started
      exact hqueue (started ▸ queued)

/-- R91: a core whose program of x is stopped, with nothing of x left. -/
def Core.stopped (k : Core) (x : CtxId) : Core :=
  ({ k with queue := k.queue.filter (· != x) } : Core).halt.emptyEntries x (fun _ => true)

theorem stopCore_eq (s : State) (x : CtxId) (c : Nat) : s.stopCore x c =
    if (s.coreOf c).running = some x then
      (((s.putCore c ((s.coreOf c).stopped x)).discardHomes c x).leaveWaiters c x.val).startNext c x.val
    else s.putCore c { s.coreOf c with queue := (s.coreOf c).queue.filter (· != x) } := rfl

/-- A core that has stopped x's program does not run it. -/
theorem runsOnlyOn_stopCore {s : State} {x : CtxId} {c : Nat} {cs : List Nat} (h : s.runsOnlyOn x (c :: cs)) :
    (s.stopCore x c).runsOnlyOn x cs := by
  rw [stopCore_eq]
  split
  next =>
    have halted : (s.putCore c ((s.coreOf c).stopped x)).runsOnlyOn x cs := runsOnlyOn_putCore h nofun
    have core : (((s.putCore c ((s.coreOf c).stopped x)).discardHomes c x).leaveWaiters c x.val).coreOf c =
      (s.coreOf c).stopped x := State.putCore_same ..
    refine runsOnlyOn_startNext ?_ ?_ ?_ x.val
    · exact runsOnlyOn_of_cores rfl halted
    · rw [core]; nofun
    · rw [core]; simp [Core.stopped, Core.emptyEntries, Core.halt, Core.start]
  next running => exact runsOnlyOn_putCore h running

/-- R91: no core runs a context that has been stopped. -/
theorem runsOnlyOn_stopCores (s : State) (x : CtxId) : (s.stopCores x).runsOnlyOn x [] := by
  have stop (cs : List Nat) (t : State) (h : t.runsOnlyOn x cs) :
      (t.each cs (fun s c => s.stopCore x c)).runsOnlyOn x [] := by
    induction cs generalizing t with
    | nil => exact h
    | cons c cs ih => exact ih _ (runsOnlyOn_stopCore h)
  refine stop _ s (fun e he running => ?_)
  exact List.mem_map_of_mem (List.mem_filter.mpr ⟨he, by simp [running]⟩)

/-! ## What the rest of CTX_DESTROY does to cores -/

theorem each_cores {β : Type} {f : State → β → State} (hf : ∀ s b, (f s b).cores = s.cores) (l : List β) (s : State) :
    (s.each l f).cores = s.cores :=
  each_keeps (P := fun t => t.cores = s.cores) (fun t b ht => (hf t b).trans ht) l rfl

theorem freeSlots_cores (s : State) (x : CtxId) : (s.freeSlots x).cores = s.cores := (rfl)

theorem freeTubs_cores (s : State) (x : CtxId) : (s.freeTubs x).cores = s.cores := by
  refine each_cores ?_ _ _
  exact fun _ _ => rfl

theorem dropTreePasses_cores (s : State) (x : CtxId) : (s.dropTreePasses x).cores = s.cores := by
  refine each_cores ?_ _ _
  exact fun _ _ => rfl

theorem freeTiles_cores (s : State) (x : Nat) (keys : List Nat) : (s.freeTiles x keys).cores = s.cores := by
  refine each_cores (fun s key => ?_) _ _
  extract_lets t len u v
  have hu : u.cores = s.cores := by
    unfold u
    cases t.declHome with
    | pocket c e => rfl
    | hamper h q => rfl
    | basket k => rfl
    | lost => cases t.declared <;> rfl
  have hv : v.cores = u.cores := by
    unfold v
    split <;> rfl
  exact hv.trans hu

theorem freshSamplerOf_cores (s : State) (r : Nat) : (s.freshSamplerOf r).cores = s.cores := by
  unfold State.freshSamplerOf
  split <;> rfl

/-- Emptying entries leaves a core its program. -/
theorem runsOnlyOn_tmap {s t : State} {x : CtxId} {f : Nat → Core → Core} (hf : ∀ n k, (f n k).running = k.running)
    (hc : t.cores = tmap {} f s.cores) (h : s.runsOnlyOn x []) : t.runsOnlyOn x [] := by
  intro e he running
  rw [hc] at he
  obtain ⟨k, old, new⟩ := mem_tmap he
  exact h (e.1, k) old (by rw [← hf e.1 k, ← new, running])

/-- A core with nothing of x in its Pocket. -/
def Core.released (k : Core) (x : CtxId) : Core :=
  { k.emptyEntries x (fun _ => true) with
    stepCopies := tput none k.stepCopies x.val none
    space := k.space.map (fun r => if r.2.2 = some x then (r.1, r.2.1, none) else r) }

theorem releaseTiles_cores (s : State) (x : CtxId) :
    (s.releaseTiles x).cores = tmap {} (fun _ k => k.released x) s.cores := by
  have released : (s.releaseTiles x).cores = tmap {} (fun _ k => k.released x) (s.freeTiles x.val _).cores := rfl
  rw [released, freeTiles_cores]

theorem runsOnlyOn_releaseTiles {s : State} {x : CtxId} (h : s.runsOnlyOn x []) : (s.releaseTiles x).runsOnlyOn x [] :=
  runsOnlyOn_tmap (f := fun _ k => k.released x) (fun _ _ => rfl) (releaseTiles_cores s x) h

theorem runsOnlyOn_resetPegs {s : State} {x : CtxId} (h : s.runsOnlyOn x []) : (s.resetPegs x.val).runsOnlyOn x [] := by
  refine each_keeps (P := fun t => t.runsOnlyOn x []) (fun t c ht => ?_) _ (runsOnlyOn_of_cores (each_cores ?_ _ s) h)
  swap
  · exact fun _ _ => rfl
  exact runsOnlyOn_putCore (fun e he running => absurd (ht e he running) List.not_mem_nil) (coreOf_running_ne ht c)

theorem releaseRegions_cores (s : State) (x : CtxId) : (s.releaseRegions x).cores =
    ((s.each (s.regionsOf x.val) (fun s r => s.freshSamplerOf r)).resetPegs x.val).cores := by
  simp only [State.releaseRegions]

theorem runsOnlyOn_releaseRegions {s : State} {x : CtxId} (h : s.runsOnlyOn x []) :
    (s.releaseRegions x).runsOnlyOn x [] := by
  have sampled := runsOnlyOn_of_cores (each_cores freshSamplerOf_cores (s.regionsOf x.val) s) h
  exact runsOnlyOn_of_cores (releaseRegions_cores s x) (runsOnlyOn_resetPegs sampled)

/-! ## The regions and Peg groups left -/

theorem releaseRegions_owner (s : State) (x : CtxId) (n : Nat) :
    ((s.releaseRegions x).regionOf n).owned = true → ((s.releaseRegions x).regionOf n).ctx ≠ x := by
  refine tget_of_forall (p := fun g : Region => g.owned = true → g.ctx ≠ x) (fun owned => absurd owned (by decide))
    (fun e he owned mine => ?_) n
  simpa [owned, mine] using (List.mem_filter.mp he).2

theorem releaseRegions_pegOwner (s : State) (x : CtxId) (n : Nat) :
    ((s.releaseRegions x).pegOf n).configured = true → ((s.releaseRegions x).pegOf n).ctx ≠ x := by
  refine tget_of_forall (p := fun g : Peg => g.configured = true → g.ctx ≠ x) (by simp) (fun e he configured mine => ?_) n
  simpa [configured, mine] using (List.mem_filter.mp he).2

/-! ## The command -/

@[simp] theorem releaseImages_coreOf (s : State) (x : CtxId) (n : Nat) : (s.releaseImages x).coreOf n = s.coreOf n := (rfl)
@[simp] theorem releaseImages_regionOf (s : State) (x : CtxId) (n : Nat) :
    (s.releaseImages x).regionOf n = s.regionOf n := (rfl)
@[simp] theorem releaseImages_pegOf (s : State) (x : CtxId) (n : Nat) : (s.releaseImages x).pegOf n = s.pegOf n := (rfl)

/-- R377: what the context holds is given up, and the context is no more. -/
def State.vacate (s : State) (x : CtxId) : State :=
  (((s.releaseTiles x).releaseRegions x).releaseImages x).putCtx x.val {}

/-- A module that may go back to READY changes nothing else by it. -/
theorem ready_or_same (s : State) (p : Prop) [Decidable p] :
    ∃ m, (if p then { s with mode := .ready } else s) = s.withMode m := by
  by_cases h : p
  · exact ⟨.ready, if_pos h⟩
  · exact ⟨s.mode, if_neg h⟩

/-- R377: CTX_DESTROY vacates a state in which no core runs the context. -/
theorem destroyCtx_eq (s : State) (x : CtxId) (h : Option Hdr) :
    ∃ (t : State) (m : ModState), t.runsOnlyOn x [] ∧ s.destroyCtx x h = (t.vacate x).withMode m := by
  unfold State.destroyCtx
  extract_lets withdrawn aborted stopped freed left
  have idle : stopped.runsOnlyOn x [] := runsOnlyOn_stopCores _ x
  have unheld : freed.runsOnlyOn x [] :=
    runsOnlyOn_of_cores ((dropTreePasses_cores ..).trans ((freeTubs_cores ..).trans (freeSlots_cores ..))) idle
  obtain ⟨m, hm⟩ := ready_or_same left (left.mode = .run ∧ left.anyLive = false)
  exact ⟨freed, m, unheld, hm⟩

/-- R377: nothing of the context is left. -/
theorem destroyCtx_leaves_nothing (s : State) (x : CtxId) (h : Option Hdr) :
    (s.destroyCtx x h).ctxOf x.val = {} ∧ (∀ n, ((s.destroyCtx x h).coreOf n).running ≠ some x) ∧
      (∀ n, ((s.destroyCtx x h).regionOf n).owned = true → ((s.destroyCtx x h).regionOf n).ctx ≠ x) ∧
      (∀ n, ((s.destroyCtx x h).pegOf n).configured = true → ((s.destroyCtx x h).pegOf n).ctx ≠ x) := by
  obtain ⟨t, m, unheld, destroyed⟩ := destroyCtx_eq s x h
  have running := coreOf_running_ne (runsOnlyOn_releaseRegions (runsOnlyOn_releaseTiles unheld))
  simp only [destroyed, State.vacate, withMode_ctxOf, withMode_coreOf, withMode_regionOf, withMode_pegOf,
    State.putCtx_same, State.putCtx_coreOf, State.putCtx_regionOf, State.putCtx_pegOf, releaseImages_coreOf,
    releaseImages_regionOf, releaseImages_pegOf]
  exact ⟨trivial, running, releaseRegions_owner _ x, releaseRegions_pegOwner _ x⟩

end Sys2Proof.Machine
end

section
/-! PROOFS. CTX_SAVE and CTX_RESTORE (R378, R450 to R453), and the statement on the context commands. -/

set_option linter.unusedVariables false

namespace Sys2Proof.Machine

open Sys2Proof

theorem exec_ctxSave (h : Hdr) (b : BufArgs) (s : State) : exec (.ctxSave h b) s = execCtxSave h b s := rfl
theorem exec_ctxRestore (h : Hdr) (b : BufArgs) (r : Option CtxRecord) (s : State) :
    exec (.ctxRestore h b r) s = execCtxRestore h b r s := rfl

/-! ## CTX_SAVE -/

section
variable {s : State} {h : Hdr} {b : BufArgs} (ha : s.accepts h ctxSaveRow = true) (hb : b.source = 0)
include ha hb

theorem ctxSave_writes (hlen : ctxRecordLen (s.ctxRecord (namedCtx h) false) ≤ b.len.toNat) :
    exec (.ctxSave h b) s =
      State.finishes { s with hostOut := s.hostOut ++ [.record b.addr (s.ctxRecord (namedCtx h) false)] } h :=
  (exec_ctxSave ..).trans (hostCommand_done ha (by simp [CmdEnd.checked, CmdEnd.ok, hb, Nat.not_lt.mpr hlen]))

theorem ctxSave_small (hlen : b.len.toNat < ctxRecordLen (s.ctxRecord (namedCtx h) false)) :
    exec (.ctxSave h b) s =
      s.finishes h stBAD_ARG 16 [w64 (ctxRecordLen (s.ctxRecord (namedCtx h) false))] :=
  (exec_ctxSave ..).trans (hostCommand_done ha (by simp [CmdEnd.checked, hb, hlen]))

end

/-! ## CTX_RESTORE -/

section
variable {s : State} {h : Hdr} {b : BufArgs} {r : CtxRecord} (ha : s.accepts h ctxRestoreRow = true)
  (hb : b.source = 0) (hopt : h.opt &&& 3 ≠ 3) (hlen : ctxRecordLen r ≤ b.len.toNat)
include ha hb hopt hlen

/-- A record that has been read whole decides the command. -/
theorem ctxRestore_reads {t : State} {st : Byte} {detail : W32} (ht : s.restoreCtx h r = .done t st detail []) :
    exec (.ctxRestore h b (some r)) s = t.finishes h st detail := by
  have opt : ¬ h.opt &&& 3#8 = 3#8 := hopt
  exact (exec_ctxRestore ..).trans
    (hostCommand_done ha (by simp [CmdEnd.checked, hb, opt, Nat.not_lt.mpr hlen, ht]))

theorem ctxRestore_badArg (hbad : r.crcOk = false ∨ r.job ≠ h.job) :
    exec (.ctxRestore h b (some r)) s = s.finishes h stBAD_ARG := by
  refine ctxRestore_reads ha hb hopt hlen ?_
  cases crc : r.crcOk with
  | false => simp [State.restoreCtx, CmdEnd.checked, CmdEnd.fails, crc, noDetail]
  | true =>
    have job : r.job ≠ h.job := hbad.resolve_left (by simp [crc])
    simp [State.restoreCtx, CmdEnd.checked, CmdEnd.fails, crc, job, noDetail]

variable (hcrc : r.crcOk = true) (hjob : r.job = h.job)
include hcrc hjob

theorem ctxRestore_notReady (hregions : r.regions.length ≠ (s.regionsOf (namedCtx h).val).length) :
    exec (.ctxRestore h b (some r)) s = s.finishes h stNOT_READY :=
  ctxRestore_reads ha hb hopt hlen
    (by simp [State.restoreCtx, CmdEnd.checked, CmdEnd.fails, hcrc, hjob, hregions, noDetail])

/-- R453: a record without regions, for a context without any. -/
theorem ctxRestore_restores (hr : r.regions = []) (hs : s.regionsOf (namedCtx h).val = []) :
    exec (.ctxRestore h b (some r)) s =
      State.finishes (s.modCtx (namedCtx h).val (fun c => c.restore r)) h :=
  ctxRestore_reads ha hb hopt hlen
    (by simp [State.restoreCtx, State.restorePlan, State.each, CmdEnd.checked, CmdEnd.ok, hcrc, hjob, hr, hs])

end

/-- R453: a context that serves no batches takes up its slots, step and versions. -/
theorem Ctx.restore_eq (c : Ctx) (r : CtxRecord) (hr : r.serving = false) : c.restore r = { c with
    activeB := r.wslot.getLsbD 0, slotA := { tag := r.aTag, valid := r.wslot.getLsbD 1 }
    slotB := { tag := r.bTag, valid := r.wslot.getLsbD 2 }, step := r.step, version := r.version, batch := r.batch
    stepRecorded := true, freshStep := true, lastOutcome := if r.stepOpen then 5 else c.lastOutcome
    lastOutcomeStep := if r.stepOpen then r.step else c.lastOutcomeStep } := by
  cases hopen : r.stepOpen <;> simp [Ctx.restore, hr, hopen]

/-- Settles O46: CTX_CREATE and CTX_RESTORE by their first failing check, CTX_DESTROY by what is left of the context's
cores, regions and Peg groups. -/
theorem contextCommands : Obligations.ContextCommands := by
  unfold Obligations.ContextCommands
  intro s h a b r x c
  refine ⟨?create, ?destroy, ?save, ?restore⟩
  case create =>
    intro ha hsum htub
    refine ⟨fun hpocket => ctxCreate_fails ha (firstBad_pocket s h hsum htub hpocket), ?inRange⟩
    intro hpocket hbasket hhamper hpress
    have decided := firstBad_inRange s h hsum htub hpocket hbasket hhamper hpress
    refine ⟨?live, ?job, ?quota, ?made⟩
    case live => exact fun live => ctxCreate_fails ha (decided.trans (if_pos live))
    case job =>
      intro live job
      exact ctxCreate_fails ha (decided.trans ((if_neg (Bool.eq_false_iff.mp live)).trans (if_pos job)))
    case quota =>
      intro live job quota
      exact ctxCreate_fails ha (bad := (stNO_QUOTA, noDetail))
        (decided.trans ((if_neg (Bool.eq_false_iff.mp live)).trans (by simp [job, quota])))
    case made =>
      intro live job quota
      have creates := ctxCreate_creates ha (decided.trans ((if_neg (Bool.eq_false_iff.mp live)).trans
        (by simp [job, quota])))
      exact ⟨_, creates, rfl, createCtx_unitOpen s h a, fun y hy => createCtx_ctxOf_ne s h a hy, createCtx_frame s h a,
        createCtx_ctxOf_same s h a⟩
  case destroy =>
    intro ha
    exact ⟨_, (exec_ctxDestroy ..).trans (hostCommand_done ha rfl), destroyCtx_leaves_nothing s x (some h)⟩
  case save =>
    intro ha hb rec_
    exact ⟨ctxSave_writes ha hb, ctxSave_small ha hb⟩
  case restore =>
    intro ha hb hopt hlen
    refine ⟨ctxRestore_badArg ha hb hopt hlen, ctxRestore_notReady ha hb hopt hlen, ?_⟩
    intro hcrc hjob hr hs hserving
    rw [← Ctx.restore_eq c r hserving]
    exact ctxRestore_restores ha hb hopt hlen hcrc hjob hr hs

end Sys2Proof.Machine
end

section
/-! PROOFS. Counters (R156, R494), the event queues of the field controllers (R183, R502) and the class rings (R499 to
R501). -/

set_option linter.unusedVariables false

namespace Sys2Proof.Machine

open Sys2Proof

/-! ## Counters -/

theorem Counter.add_of_le {c : Counter} {n : Nat} (h : 2 ^ 48 - 1 ≤ c.count.toNat + n) :
    c.add n = { count := BitVec.allOnes 48, ovf := true } :=
  if_pos h

theorem Counter.add_of_lt {c : Counter} {n : Nat} (h : c.count.toNat + n < 2 ^ 48 - 1) :
    c.add n = { c with count := BitVec.ofNat 48 (c.count.toNat + n) } :=
  if_neg (Nat.not_le.mpr h)

/-- R156: the count stops at the maximum of 48 bits. -/
theorem Counter.add_count (c : Counter) (n : Nat) :
    (c.add n).count.toNat = Nat.min (c.count.toNat + n) (2 ^ 48 - 1) := by
  obtain above | below := le_or_gt (2 ^ 48 - 1) (c.count.toNat + n)
  · rw [Counter.add_of_le above, BitVec.toNat_allOnes]
    exact (Nat.min_eq_right above).symm
  · rw [Counter.add_of_lt below, BitVec.toNat_ofNat, Nat.mod_eq_of_lt (by omega)]
    exact (Nat.min_eq_left below.le).symm

/-- R494: OVF stays, and is set by a sum that reaches the maximum. -/
theorem Counter.add_ovf (c : Counter) (n : Nat) :
    (c.add n).ovf = true ↔ c.ovf = true ∨ 2 ^ 48 - 1 ≤ c.count.toNat + n := by
  obtain above | below := le_or_gt (2 ^ 48 - 1) (c.count.toNat + n)
  · exact iff_of_true (congrArg Counter.ovf (Counter.add_of_le above)) (.inr above)
  · simp only [Counter.add_of_lt below, Nat.not_le.mpr below, or_false]

/-! ## Changing the newest element -/

section
variable {α β : Type} {p : α → Bool} {f : α → α}

@[simp] theorem mapNewest_nil : mapNewest p f [] = [] := rfl

theorem mapNewest_append (l : List α) (a : α) :
    mapNewest p f (l ++ [a]) = if p a then l ++ [f a] else mapNewest p f l ++ [a] := by
  simp only [mapNewest, List.reverse_append, List.reverse_singleton, List.singleton_append, mapNewest.go]
  split <;> simp

/-- What the change keeps of the element, it keeps of the list. -/
theorem map_mapNewest {g : α → β} (keeps : ∀ a, g (f a) = g a) (l : List α) : (mapNewest p f l).map g = l.map g := by
  induction l using List.reverseRecOn with
  | nil => rfl
  | append_singleton l a ih =>
    rw [mapNewest_append]
    split <;> simp [keeps, ih]

@[simp] theorem mapNewest_length (l : List α) : (mapNewest p f l).length = l.length := by
  simpa using congrArg List.length (map_mapNewest (p := p) (f := f) (g := fun _ => ()) (fun _ => rfl) l)

theorem mem_mapNewest_const {b : α} {l : List α} (h : l.any p = true) : b ∈ mapNewest p (fun _ => b) l := by
  induction l using List.reverseRecOn with
  | nil => simp at h
  | append_singleton l a ih =>
    rw [mapNewest_append]
    split
    case isTrue => simp
    case isFalse unchanged =>
      have older : l.any p = true := by simpa [unchanged] using h
      exact List.mem_append_left _ (ih older)

end

/-! ## The queue of a field controller (R183, R502) -/

/-- The oldest queued event of a class. -/
def EventQueue.first (q : EventQueue) (c : EventClass) : Option (EventClass × EventRec) :=
  q.queue.find? (fun v => v.1 == c)

/-- The queued FAULT that a FAULT coalesces into in a full queue (R502). -/
def EventRec.sameFault (e : EventRec) (v : EventClass × EventRec) : Bool :=
  v.1 == .fault && v.2.code == e.code && v.2.domain == e.domain && v.2.index == e.index

theorem EventQueue.any_of_first {q : EventQueue} {c : EventClass} {v : EventClass × EventRec}
    (h : q.first c = some v) : q.queue.any (fun v => v.1 == c) = true :=
  List.isSome_find?.symm.trans (Option.isSome_of_eq_some h)

theorem EventQueue.any_of_first_none {q : EventQueue} {c : EventClass} (h : q.first c = none) :
    q.queue.any (fun v => v.1 == c) = false :=
  List.any_eq_false.mpr (List.find?_eq_none.mp h)

theorem EventQueue.discard_of_first {q : EventQueue} {c : EventClass} {v : EventClass × EventRec}
    (h : q.first c = some v) : q.discard c = { q with queue := q.queue.erase v }.dropOne c v.2.count.toNat := by
  simp only [EventQueue.first] at h
  simp only [EventQueue.discard, h]

theorem EventQueue.put_of_room {q : EventQueue} (cls : EventClass) (e : EventRec) (h : q.queue.length < 32) :
    q.put cls e = { q with queue := q.queue ++ [(cls, e)] } :=
  if_pos h

section
variable {q : EventQueue} {cls : EventClass} {e : EventRec} {v : EventClass × EventRec} (full : 32 ≤ q.queue.length)
include full

theorem EventQueue.put_of_trace (h : q.first .trace = some v) : q.put cls e = { q with
    queue := q.queue.erase v ++ [(cls, e)], dropTrace := q.dropTrace + v.2.count.toNat } := by
  simp [EventQueue.put, Nat.not_lt.mpr full, any_of_first h, discard_of_first h, EventQueue.dropOne]

variable (noTrace : q.first .trace = none)
include noTrace

theorem EventQueue.put_of_notice (h : q.first .notice = some v) : q.put cls e = { q with
    queue := q.queue.erase v ++ [(cls, e)], dropNotice := q.dropNotice + v.2.count.toNat } := by
  simp [EventQueue.put, Nat.not_lt.mpr full, any_of_first_none noTrace, any_of_first h, discard_of_first h,
    EventQueue.dropOne]

variable (noNotice : q.first .notice = none)
include noNotice

theorem EventQueue.put_fault : q.put .fault e = if q.queue.any e.sameFault then
      { q with queue := mapNewest e.sameFault (fun v => (v.1, v.2.coalesce e)) q.queue }
    else { q with dropFault := q.dropFault + 1 } :=
  (if_neg (Nat.not_lt.mpr full)).trans ((if_neg (Bool.eq_false_iff.mp (any_of_first_none noTrace))).trans
    (if_neg (Bool.eq_false_iff.mp (any_of_first_none noNotice))))

/-- R502: where no TRACE, no NOTICE and no ALARM of its code is queued, an ALARM takes the newest FAULT's place. -/
theorem EventQueue.put_alarm (fresh : q.queue.any (fun v => v.1 == .alarm && v.2.code == e.code) = false)
    (h : q.queue.reverse.find? (fun v => v.1 == .fault) = some v) : q.put .alarm e = { q with
      queue := mapNewest (fun v => v.1 == .fault) (fun _ => (.alarm, e)) q.queue
      dropFault := q.dropFault + v.2.count.toNat } := by
  simp only [EventQueue.put, Nat.not_lt.mpr full, any_of_first_none noTrace, any_of_first_none noNotice, fresh, h,
    EventQueue.dropOne, if_false, Bool.false_eq_true]

end

section
variable {q : EventQueue} {now : W64}

theorem EventQueue.next_of_alarm {v : EventClass × EventRec} (h : q.first .alarm = some v) : q.next now = some v := by
  simp only [EventQueue.first] at h
  simp only [EventQueue.next, h]

variable (noAlarm : q.first .alarm = none)
include noAlarm

theorem EventQueue.next_of_unlimited (h : q.admitted = none) : q.next now = q.queue.head? := by
  simp only [EventQueue.first] at noAlarm
  simp only [EventQueue.next, noAlarm, h]

theorem EventQueue.next_of_admitted {t : W64} (h : q.admitted = some t) :
    q.next now = if normalGap ≤ (now - t).toNat then q.queue.head? else none := by
  simp only [EventQueue.first] at noAlarm
  simp only [EventQueue.next, noAlarm, h]

end

/-! ## The class rings (R499 to R501) -/

@[simp] theorem EventRec.coalesce_seq (r e : EventRec) : (r.coalesce e).seq = r.seq := rfl

/-- Ring r is g with a new record of e under g's next SEQ, which tells of the drops before it. -/
def Ring.Enters (e : EventRec) (g r : Ring) : Prop :=
  r.next = g.next + 1 ∧ r.dropped = 0 ∧ r.dropTotal = g.dropTotal ∧
    r.unread = g.unread ++ [{ e with seq := g.next, dropped := BitVec.ofNat 32 (Nat.min g.dropped 0xFFFFFFFF) }]

/-- Ring r is g with e counted among its drops. -/
def Ring.Drops (e : EventRec) (g r : Ring) : Prop :=
  r.unread = g.unread ∧ r.next = g.next ∧ r.dropped = g.dropped + e.count.toNat ∧
    r.dropTotal = g.dropTotal.add e.count.toNat

theorem Ring.push_enters (e : EventRec) (g : Ring) : Ring.Enters e g (g.push e) := ⟨rfl, rfl, rfl, rfl⟩

theorem Ring.drop_drops (e : EventRec) (g : Ring) : Ring.Drops e g (g.drop e.count.toNat) := ⟨rfl, rfl, rfl, rfl⟩

/-- R499: the tokens never exceed 64. -/
theorem Ring.refill_tokens_le (g : Ring) (now : W64) : (g.refill now).tokens ≤ 64 := Nat.min_le_left ..

/-- The ring with e counted in RAISED, as every event that reaches it is. -/
def Ring.raise (g : Ring) (e : EventRec) : Ring := { g with raised := satAdd16 g.raised e.count.toNat }

section
variable (g : Ring) (traceOn : Bool) (now : W64) (e : EventRec)

theorem Ring.accept_notice : g.accept .notice traceOn now e =
    if 768 ≤ g.unread.length then (g.raise e).drop e.count.toNat else (g.raise e).push e := rfl

theorem Ring.accept_trace : g.accept .trace traceOn now e =
    if !traceOn || 1024 ≤ g.unread.length then (g.raise e).drop e.count.toNat else (g.raise e).push e := rfl

theorem Ring.notice_drops_or_enters :
    if 768 ≤ g.unread.length then Ring.Drops e g (g.accept .notice traceOn now e)
    else Ring.Enters e g (g.accept .notice traceOn now e) := by
  rw [Ring.accept_notice]
  split
  · exact Ring.drop_drops e (g.raise e)
  · exact Ring.push_enters e (g.raise e)

theorem Ring.trace_drops_or_enters :
    if traceOn = false ∨ 1024 ≤ g.unread.length then Ring.Drops e g (g.accept .trace traceOn now e)
    else Ring.Enters e g (g.accept .trace traceOn now e) := by
  simp only [Ring.accept_trace, Bool.or_eq_true, Bool.not_eq_true', decide_eq_true_eq]
  split
  · exact Ring.drop_drops e (g.raise e)
  · exact Ring.push_enters e (g.raise e)

section
variable {g e} (unmatched : g.unread.any (EventRec.matches · e) = false)
include unmatched

theorem Ring.alarm_enters (room : g.unread.length < 1023) : Ring.Enters e g (g.accept .alarm traceOn now e) := by
  have pushed : g.accept .alarm traceOn now e = (g.raise e).push e := by
    simp only [Ring.accept, unmatched, room, Ring.raise, if_true, if_false, Bool.false_eq_true]
  rw [pushed]
  exact Ring.push_enters e (g.raise e)

/-- R499: a FAULT that no unread record matches has none to coalesce into. -/
theorem Ring.accept_fault : g.accept .fault traceOn now e = (g.raise e).pushFault now e := by
  have none_recent : g.unread.reverse.find? (EventRec.matches · e) = none :=
    List.find?_eq_none.mpr fun r hr => List.any_eq_false.mp unmatched r (List.mem_reverse.mp hr)
  simp only [Ring.accept, none_recent, Ring.raise]

theorem Ring.fault_drops (h : (g.refill now).tokens = 0 ∨ 1024 ≤ g.unread.length) :
    Ring.Drops e g (g.accept .fault traceOn now e) := by
  have dropped : (g.raise e).pushFault now e = ((g.raise e).refill now).drop e.count.toNat := if_pos h
  rw [Ring.accept_fault traceOn now unmatched, dropped]
  exact Ring.drop_drops e ((g.raise e).refill now)

theorem Ring.fault_enters (tokens : (g.refill now).tokens ≠ 0) (room : g.unread.length < 1024) :
    Ring.Enters e g (g.accept .fault traceOn now e) ∧
      (g.accept .fault traceOn now e).tokens = (g.refill now).tokens - 1 := by
  have pushed : (g.raise e).pushFault now e =
      { (g.raise e).refill now with tokens := (g.refill now).tokens - 1 }.push e :=
    if_neg (not_or.mpr ⟨tokens, Nat.not_le.mpr room⟩)
  rw [Ring.accept_fault traceOn now unmatched, pushed]
  exact ⟨Ring.push_enters e { (g.raise e).refill now with tokens := (g.refill now).tokens - 1 }, rfl⟩

end

/-- R499: an ALARM that matches an unread record coalesces into the newest such record. -/
theorem Ring.accept_alarm_matched {g : Ring} {e : EventRec} (matched : g.unread.any (EventRec.matches · e) = true) :
    g.accept .alarm traceOn now e = { g.raise e with
      unread := mapNewest (EventRec.matches · e) (EventRec.coalesce · e) g.unread } :=
  if_pos matched

end

/-- Settles O59: the queue by what its full 32 places hold, the rings by the limit of each class. -/
theorem countersAndEventRings : Obligations.CountersAndEventRings := by
  unfold Obligations.CountersAndEventRings
  refine ⟨fun c n => ⟨c.add_count n, c.add_ovf n⟩, ?put, ?next, ?ring⟩
  case put =>
    intro q cls e r first same
    refine ⟨EventQueue.put_of_room cls e, fun full => ⟨fun v trace => ?trace, fun noTrace => ⟨fun v notice => ?notice,
      fun noNotice => ⟨?joins, ?discarded, ?alarm⟩⟩⟩⟩
    case trace =>
      have put := EventQueue.put_of_trace (cls := cls) (e := e) full trace
      exact ⟨congrArg (·.queue) put, congrArg (·.dropTrace) put⟩
    case notice =>
      have put := EventQueue.put_of_notice (cls := cls) (e := e) full noTrace notice
      exact ⟨congrArg (·.queue) put, congrArg (·.dropNotice) put⟩
    case joins =>
      rintro rfl found
      have put := (EventQueue.put_fault (e := e) full noTrace noNotice).trans (if_pos found)
      exact ⟨(congrArg (·.queue.length) put).trans (mapNewest_length _), congrArg (·.dropFault) put⟩
    case discarded =>
      rintro rfl missing
      have put := (EventQueue.put_fault (e := e) full noTrace noNotice).trans (if_neg (Bool.eq_false_iff.mp missing))
      exact ⟨congrArg (·.queue) put, congrArg (·.dropFault) put⟩
    case alarm =>
      rintro rfl fresh v fault
      have put := EventQueue.put_alarm full noTrace noNotice fresh fault
      have held : q.queue.any (fun v => v.1 == .fault) = true := by
        rw [← List.any_reverse, ← List.isSome_find?, fault, Option.isSome_some]
      refine ⟨(congrArg (·.queue.length) put).trans (mapNewest_length _), ?_, congrArg (·.dropFault) put⟩
      exact (congrArg (·.queue) put).symm ▸ mem_mapNewest_const held
  case next =>
    intro q now
    refine ⟨fun v => EventQueue.next_of_alarm, fun noAlarm => ⟨EventQueue.next_of_unlimited noAlarm, ?_, ?_⟩⟩
    · intro t admitted early
      exact (EventQueue.next_of_admitted noAlarm admitted).trans (if_neg (Nat.not_le.mpr early))
    · intro t admitted due
      exact (EventQueue.next_of_admitted noAlarm admitted).trans (if_pos due)
  case ring =>
    intro g now e traceOn enters drops fills
    refine ⟨g.notice_drops_or_enters traceOn now e, g.trace_drops_or_enters traceOn now e,
      Ring.alarm_enters traceOn now, fun matched => ?coalesces,
      fun unmatched => ⟨Ring.fault_drops traceOn now unmatched, Ring.fault_enters traceOn now unmatched⟩,
      g.refill_tokens_le now⟩
    have coalesced := Ring.accept_alarm_matched traceOn now matched
    simp only [coalesced]
    exact ⟨mapNewest_length _, rfl, rfl, map_mapNewest (EventRec.coalesce_seq · e) _⟩

end Sys2Proof.Machine
end

section
/-! PROOFS. Peg groups, fences and bank swaps (R77, R84, R184 to R187, R230): instructions that wait or that change what
lies outside their core, and the rows of MAJOR 0x30 to 0x33 and 0x2B. -/

set_option linter.unusedVariables false

namespace Sys2Proof.Machine

open Sys2Proof

/-! ## Counters raised -/

/-- A count changes the counters, and where it raises its NOTICE the rings and the Thread. -/
theorem bump_frame (s : State) (space off n : Nat) : ∃ counters rings thread,
    s.bump space off n = { s with counters := counters, rings := rings, thread := thread } := by
  unfold State.bump
  dsimp only
  split
  · obtain ⟨rings, thread, raised⟩ := raise_frame _ _ _ _ _ _ _
    exact ⟨_, rings, thread, raised⟩
  · exact ⟨_, _, _, rfl⟩

theorem routerBump_frame (s : State) (k i n : Nat) : ∃ counters rings thread,
    s.routerBump k i n = { s with counters := counters, rings := rings, thread := thread } :=
  bump_frame ..

/-! ## Instructions that wait, and effects outside the core -/

section
variable {s : State} {c : CoreId} {x : CtxId} (h : s.issues c x = true) (major : BitVec 6) (minor : BitVec 5) (u : Uses)
  (a : CoreArgs) (body : State → Core → CtxId → Effect) (hf : a.finding = {}) (hl : u.legal a = true)
include h hf hl

theorem issue_stalls {info : W16} (hb : body s (s.coreOf c.val) x = .stall info s) :
    Host.Outcome.next (issue major minor u true c a s body) = s.stalls c (assemble major minor a) info true := by
  rw [issue_legal h _ _ _ _ _ _ _ _ hf (by simpa using hl), hb]
  rfl

theorem issue_holds (hb : body s (s.coreOf c.val) x = .hold s) :
    Host.Outcome.next (issue major minor u true c a s body) = s.stalls c (assemble major minor a) 0 false := by
  rw [issue_legal h _ _ _ _ _ _ _ _ hf (by simpa using hl), hb]
  rfl

/-- An instruction that leaves its core as it is completes, the rest of the module being `t`. -/
theorem issue_outside {t : State} (hb : body s (s.coreOf c.val) x = .done t)
    (ht : t.coreOf c.val = s.coreOf c.val) :
    Host.Outcome.next (issue major minor u true c a s body) = t.completes c (s.coreOf c.val) := by
  obtain ⟨-, running, waiting, -⟩ := (issues_iff s c x).mp h
  rw [issue_legal h _ _ _ _ _ _ _ _ hf (by simpa using hl), hb, Effect.apply,
    retire_running t (ht ▸ running) (ht ▸ waiting), ht, State.completes]

/-- An instruction completes with a changed core, the rest of the module being `t`. -/
theorem issue_core_outside {t : State} {k' : Core} (hb : body s (s.coreOf c.val) x = .core t c k')
    (hr : k'.running = (s.coreOf c.val).running) (hw : k'.waiting = (s.coreOf c.val).waiting)
    (hp : k'.pc = (s.coreOf c.val).pc) :
    Host.Outcome.next (issue major minor u true c a s body) = t.completes c k' := by
  obtain ⟨-, running, waiting, -⟩ := (issues_iff s c x).mp h
  rw [issue_legal h _ _ _ _ _ _ _ _ hf (by simpa using hl), hb, Effect.core, Effect.apply, ← hp,
    retire_putCore t c x k' _ (hr.trans running) (hw.trans waiting), State.completes]

end

/-! ## Peg groups (R184, R185, R187) -/

theorem exec_pegGroupComplete (g : GroupId) (s : State) : exec (.pegGroupComplete g) s = execPegGroupComplete g s := rfl
theorem exec_pegpost (c : CoreId) (a : CoreArgs) (s : State) : exec (.pegpost c a) s = execPegpost c a s := rfl
theorem exec_pegwait (c : CoreId) (a : CoreArgs) (s : State) : exec (.pegwait c a) s = execPegwait c a s := rfl
theorem exec_pegtest (c : CoreId) (a : CoreArgs) (s : State) : exec (.pegtest c a) s = execPegtest c a s := rfl
theorem exec_fence (c : CoreId) (a : CoreArgs) (s : State) : exec (.fence c a) s = execFence c a s := rfl
theorem exec_bswap (c : CoreId) (a : CoreArgs) (s : State) : exec (.bswap c a) s = execBswap c a s := rfl

section
variable {s : State} {g : GroupId} {p : Peg} (hp : s.pegOf g.val = p)
include hp

/-- R185: a group of this module alone, no step-done group, completes one generation. -/
theorem completeGroup_of_reached (hconf : p.configured = true) (hcount : p.count.toNat ≤ p.total) (hecho : p.echo = 0)
    (hlink : p.link = none) (hdone : ¬ (g = (s.ctxOf p.ctx.val).doneGroup ∧ (s.ctxOf p.ctx.val).isOpen = true)) :
    s.completeGroup g = s.putPeg g.val
      { p with total := p.total - p.count.toNat, nan := false, completed := p.completed + 1 } := by
  subst hp
  simp [State.completeGroup, hconf, Nat.not_lt.mpr hcount, hecho, hlink, hdone]

theorem completeGroup_of_short (hcount : p.total < p.count.toNat) : s.completeGroup g = s := by
  subst hp
  simp [State.completeGroup, hcount]

end

theorem mayWait_iff {s : State} {c : CoreId} {x : CtxId} {g : Nat} : s.mayWait c x g = true ↔
    (s.pegOf g).configured = true ∧ (s.pegOf g).ctx = x ∧ s.pegScope g (c.val / 32) = true := by
  simp [State.mayWait, and_assoc]

theorem postPeg_of_mayWait {s : State} {c : CoreId} {x : CtxId} {g : Nat} (hours : s.mayWait c x g = true) :
    s.postPeg g x.val (c.val / 32) false false = s.putPeg g { s.pegOf g with total := (s.pegOf g).total + 1 } := by
  obtain ⟨hconf, hctx, hscope⟩ := mayWait_iff.mp hours
  simp [State.postPeg, hconf, hctx, hscope]

/-- R187: the arrival of a core that may not post there is counted, with a FAULT. -/
theorem postPeg_of_not_mayWait {s : State} {c : CoreId} {x : CtxId} {g : Nat} (hours : ¬ s.mayWait c x g = true) :
    s.postPeg g x.val (c.val / 32) false false = (s.routerBump (c.val / 32) 7 1).raise .fault 187 0
      (srcCluster (c.val / 32)) (some x.val) [w64 x.val, w64 g] := by
  rw [mayWait_iff] at hours
  simp only [State.postPeg, Bool.false_or, Bool.and_eq_true, beq_iff_eq, Fin.val_inj, and_assoc, if_neg hours]

theorem postPeg_coreOf (s : State) (g x k : Nat) (ext nan : Bool) (c : Nat) :
    (s.postPeg g x k ext nan).coreOf c = s.coreOf c := by
  unfold State.postPeg
  dsimp only
  split
  · rfl
  · obtain ⟨_, _, raised⟩ := raise_frame (s.routerBump k 7 1) .fault 187 0 (srcCluster k) (some x) [w64 x, w64 g]
    obtain ⟨_, _, _, bumped⟩ := routerBump_frame s k 7 1
    rw [raised, bumped]
    rfl

theorem groupOf_eq {a : CoreArgs} {g : GroupId} (himm : a.imm = BitVec.ofNat 32 g.val) : groupOf a = g.val := by
  have := g.isLt
  simp only [groupOf, himm, BitVec.toNat_ofNat]
  omega

theorem released_eq_true {s : State} {c : CoreId} {k : Core} :
    s.released c k = true ↔ k.settled = true ∧ s.openStreams c StreamDesc.writes = false := by
  simp [State.released]

theorem released_eq_false {s : State} {c : CoreId} {k : Core} :
    s.released c k = false ↔ k.settled = false ∨ s.openStreams c StreamDesc.writes = true := by
  simp only [State.released, Bool.and_eq_false_iff, Bool.not_eq_false']

/-! ## The rows of MAJOR 0x30 to 0x33 -/

section
variable {s : State} {c : CoreId} {x : CtxId} (h : s.issues c x = true) {a : CoreArgs} (hf : a.finding = {}) {g : Nat}
include h hf

section
variable (hl : ({ imm := true } : Uses).legal a = true)
include hl

theorem pegpost_posts (hreleased : s.released c (s.coreOf c.val) = true) :
    execPegpost c a s =
      (s.postPeg (groupOf a) x.val (c.val / 32) false false).completes c (s.coreOf c.val) :=
  issue_outside h 0x30 0 _ a _ hf hl (if_pos hreleased) (postPeg_coreOf ..)

theorem pegpost_holds (hreleased : s.released c (s.coreOf c.val) = false) :
    execPegpost c a s = s.stalls c (assemble 0x30 0 a) 0 false :=
  issue_holds h 0x30 0 _ a _ hf hl (if_neg (Bool.eq_false_iff.mp hreleased))

end

section
variable (hl : ({ rd := true, imm := true } : Uses).legal a = true) (hg : groupOf a = g) {seen : W32}
  (hseen : tget 0 (s.coreOf c.val).observed g = seen)
include hl hg hseen

theorem pegwait_advances (hready : (s.mayWait c x g && precedes seen (s.pegOf g).completed) = true) :
    execPegwait c a s = s.completes c
      ({ s.coreOf c.val with observed := tput 0 (s.coreOf c.val).observed g (seen + 1) }.setS a.rd
        ((seen + 1).setWidth 64)) := by
  subst hg hseen
  exact issue_core h 0x31 0 _ true a _ _ none _ hf (by simpa using hl) (if_pos hready) (Core.setS_running ..)
    (Core.setS_waiting ..) (Core.setS_pc ..)

theorem pegwait_waits (hready : (s.mayWait c x g && precedes seen (s.pegOf g).completed) = false) :
    execPegwait c a s = s.stalls c (assemble 0x31 0 a) (BitVec.ofNat 16 g) true := by
  subst hg hseen
  exact issue_stalls h 0x31 0 _ a _ hf hl (if_neg (Bool.eq_false_iff.mp hready))

end

theorem pegtest_answers (hl : ({ rd := true, ra := true, imm := true } : Uses).legal a = true) (hg : groupOf a = g) :
    execPegtest c a s = s.completes c ((s.coreOf c.val).setS a.rd (boolW (s.mayWait c x g &&
      precedes (((s.coreOf c.val).sreg a.ra).setWidth 32) (s.pegOf g).completed))) := by
  subst hg
  exact issue_setS h 0x32 0 _ a _ _ hf hl rfl

end

section
variable {s : State} {c : CoreId} {x : CtxId} (h : s.issues c x = true)
include h

theorem fence_completes (hsettled : (s.coreOf c.val).settled = true) (hended : s.openStreams c (fun _ => true) = false) :
    execFence c {} s = s.completes c (s.coreOf c.val) :=
  issue_done h 0x33 0 {} {} _ rfl (by simp [Uses.legal]) (if_pos (by simp [hsettled, hended]))

theorem fence_waits (hopen : s.openStreams c (fun _ => true) = true) :
    execFence c {} s = s.stalls c (assemble 0x33 0 {}) 0 true :=
  issue_stalls h 0x33 0 {} {} _ rfl (by simp [Uses.legal]) (if_neg (by simp [hopen]))

/-! ## BSWAP (R230) -/

section
variable (rd ra : BitVec 5) {v : W32} (hsettled : (s.coreOf c.val).settled = true)
  (hended : s.openStreams c (fun _ => true) = false) (hv : (s.coreOf c.val).sreg ra = v.setWidth 64)
include hsettled hended hv

theorem bswap_swaps {r : Nat} {role : Bool} (hr : (s.coreOf c.val).region.val = r) (hrole : (!s.roleOf r v) = role)
    (hbuf : s.bufferOf x r v ≠ none) :
    execBswap c { rd := rd, ra := ra } s =
      (s.putRegion r { s.regionOf r with roles := tput false (s.regionOf r).roles (handleNum v) role }).completes c
        ((s.coreOf c.val).setS rd (boolW role)) := by
  subst hr hrole
  refine issue_core_outside h 0x2B 0 { rd := true, ra := true } { rd := rd, ra := ra } _ rfl (by simp [Uses.legal])
    ?effect (Core.setS_running ..) (Core.setS_waiting ..) (Core.setS_pc ..)
  have handle : (v.setWidth 64).setWidth 32 = v := by simp
  simp only [hsettled, hended, hv, handle]
  exact (if_neg (by simp)).trans (if_neg (by simp [hbuf]))

theorem bswap_raises (hbuf : s.bufferOf x (s.coreOf c.val).region.val v = none)
    (hh : (s.coreOf c.val).handles = true) :
    execBswap c { rd := rd, ra := ra } s = s.handles c xADDRESS (addressInfo 0 v.toNat) := by
  refine issue_raise h 0x2B 0 { rd := true, ra := true } true { rd := rd, ra := ra } _ (fun _ => []) none _ _ rfl
    (by simp [Uses.legal]) ?effect hh
  simp [hsettled, hended, hv, hbuf]

end

end

/-- Settles O24: the groups by whether COUNT is reached, each row by whether it may go on. -/
theorem pegGroupsAndBuffers : Obligations.PegGroupsAndBuffers := by
  unfold Obligations.PegGroupsAndBuffers
  refine ⟨?groups, ?rows, ?buffers⟩
  case groups =>
    intro s g works p
    rw [exec_pegGroupComplete, execPegGroupComplete, if_pos works]
    exact ⟨fun hconf hcount hecho hlink hdone =>
        congrArg _ (completeGroup_of_reached rfl hconf hcount hecho hlink hdone),
      fun hcount => congrArg _ (completeGroup_of_short rfl hcount)⟩
  case rows =>
    intro s c x rd ra g h k a w p ours seen streams
    have group (b : CoreArgs) (himm : b.imm = a.imm) : groupOf b = g.val := groupOf_eq himm
    have may : s.mayWait c x g.val = true ↔ ours := mayWait_iff
    have ready (n : W32) : (s.mayWait c x g.val && precedes n p.completed) = true ↔
        ours ∧ precedes n p.completed = true := by rw [Bool.and_eq_true, may]
    have legalPost : ({ imm := true } : Uses).legal a = true := by simp [Uses.legal, a]
    have legalWait : ({ rd := true, imm := true } : Uses).legal w = true := by simp [Uses.legal, a, w]
    have legalTest : ({ rd := true, ra := true, imm := true } : Uses).legal { w with ra := ra } = true := by
      simp [Uses.legal, a, w]
    refine ⟨fun hsettled hended => ⟨?posts, ?stray⟩, ?holds, ?advances, ?waits, ⟨?late, ?early⟩, ?fence, ?streams⟩
    case posts =>
      intro hours
      rw [exec_pegpost, pegpost_posts h rfl legalPost (released_eq_true.mpr ⟨hsettled, hended⟩), group a rfl,
        postPeg_of_mayWait (may.mpr hours)]
    case stray =>
      intro hours
      rw [exec_pegpost, pegpost_posts h rfl legalPost (released_eq_true.mpr ⟨hsettled, hended⟩), group a rfl,
        postPeg_of_not_mayWait (may.not.mpr hours)]
    case holds => exact fun hwaits => pegpost_holds h rfl legalPost (released_eq_false.mpr hwaits)
    case advances =>
      intro hready
      exact pegwait_advances h rfl legalWait (group w rfl) rfl ((ready seen).mpr hready)
    case waits =>
      intro hready
      exact pegwait_waits h rfl legalWait (group w rfl) rfl (Bool.eq_false_iff.mpr ((ready seen).not.mpr hready))
    case late =>
      intro hlate
      rw [exec_pegtest, pegtest_answers h rfl legalTest (group _ rfl), (ready _).mpr hlate]
      rfl
    case early =>
      intro hlate
      rw [exec_pegtest, pegtest_answers h rfl legalTest (group _ rfl), Bool.eq_false_iff.mpr ((ready _).not.mpr hlate)]
      rfl
    case fence => exact fence_completes h
    case streams => exact fence_waits h
  case buffers =>
    intro s c x rd ra v h k a g role hsettled hended hv
    exact ⟨bswap_swaps h rd ra hsettled hended hv rfl rfl, bswap_raises h rd ra hsettled hended hv⟩

end Sys2Proof.Machine
end

section
/-! PROOFS. RED packets (R166 to R180): the next hop in dimension order, the order of packets between the same routers,
and what a router and its Tub do with a packet that enters. -/

set_option linter.unusedVariables false

namespace Sys2Proof.Machine

open Sys2Proof

/-! ## The next hop (R168) -/

theorem hops_source (s : State) (p : RedPacket) (k : Nat) : s.hops ⟨p, none⟩ k = true ↔ p.src = routerAddr k := by
  simp [State.hops]

theorem hops_normal {s : State} {p : RedPacket} {h : ClusterId} (hnormal : s.detours p h.val = false) (k : Nat) :
    s.hops ⟨p, some h⟩ k = true ↔ posOf h.val ≠ posAddr p.dest ∧ nextHop (posOf h.val) (posAddr p.dest) = posOf k := by
  simp [State.hops, hnormal]

/-- R168: the hop goes along x towards the column of the destination, and there along y. -/
theorem nextHop_eq_iff (x y dx dy u v : Nat) :
    ((x, y) ≠ (dx, dy) ∧ nextHop (x, y) (dx, dy) = (u, v)) ↔
      (x < dx ∧ u = x + 1 ∧ v = y) ∨ (dx < x ∧ u + 1 = x ∧ v = y) ∨
      (x = dx ∧ y < dy ∧ u = x ∧ v = y + 1) ∨ (x = dx ∧ dy < y ∧ u = x ∧ v + 1 = y) := by
  have apart : (x, y) ≠ (dx, dy) ↔ ¬ (x = dx ∧ y = dy) := by simp
  rw [apart]
  unfold nextHop
  split_ifs <;> rw [Prod.mk.injEq] <;> dsimp only at * <;> omega

/-! ## Order (R168) -/

theorem inOrder_of_findFlight {s : State} {at_ : Flight → Bool} {j : Nat} {f : Flight}
    (hfind : s.findFlight at_ = some (j, f)) : s.inOrder j f = true := by
  obtain ⟨e, hfound, he⟩ := Option.map_eq_some_iff.mp hfind
  obtain ⟨rfl, rfl⟩ := Prod.mk.injEq .. ▸ he
  have passes := List.find?_some hfound
  exact (Bool.and_eq_true_iff.mp passes).2

/-- An earlier packet between the same routers, not in a detour, is nearer to its destination. -/
theorem left_lt_of_inOrder {s : State} {i j : Nat} {e f : Flight} (horder : s.inOrder j f = true)
    (he : s.mesh[i]? = some e) (hij : i < j) (hsrc : e.packet.src = f.packet.src)
    (hdest : e.packet.dest = f.packet.dest) (hde : e.packet.detour = false) (hdf : f.packet.detour = false) :
    e.left < f.left := by
  have ahead : e ∈ s.mesh.take j := List.mem_of_getElem? ((List.getElem?_take_of_lt hij).trans he)
  simp only [State.inOrder, hdf, Bool.false_or, List.all_eq_true] at horder
  simpa [hsrc, hdest, hde] using horder e ahead

/-- Settles O32: the hop by the branches of `nextHop`, the order by `inOrder` of the packet found. -/
theorem dimensionOrder : Obligations.DimensionOrder := by
  unfold Obligations.DimensionOrder
  refine ⟨fun s p k => hops_source s p k.val, ?hop, ?order⟩
  case hop =>
    intro s p h k x y u v hnormal hh hk dx dy
    rw [hops_normal hnormal, hh, hk]
    exact nextHop_eq_iff x y dx dy u v
  case order =>
    intro s i j e f at_ he hf hij hsrc hdest hde hdf hfind
    exact left_lt_of_inOrder (inOrder_of_findFlight hfind) he hij hsrc hdest hde hdf

end Sys2Proof.Machine
end

section
/-! PROOFS. A RED packet that enters a router (R168, R169, R174 to R180): its HCHECK and destination, its Tub, and the sum
that a Tub emits. -/

set_option linter.unusedVariables false

namespace Sys2Proof.Machine

open Sys2Proof

theorem exec_tubArrival (k : ClusterId) (p : RedPacket) (free ok : Bool) (s : State) :
    exec (.tubArrival k p free ok) s = execTubArrival k p free ok s := rfl
theorem exec_tubEmit (k : ClusterId) (n : Fin 64) (hold free : Bool) (s : State) :
    exec (.tubEmit k n hold free) s = execTubEmit k n hold free s := rfl

@[simp] theorem routerBump_routerDead (s : State) (k i n j : Nat) : (s.routerBump k i n).routerDead j = s.routerDead j := by
  obtain ⟨_, _, _, bumped⟩ := routerBump_frame s k i n
  rw [bumped]
  rfl

/-! ## The Tub (R174, R177) -/

/-- The slot holds the sum that the packet belongs to. -/
def Cluster.holdsSum (c : Cluster) (p : RedPacket) (n : Nat) : Bool :=
  match c.tub n with
  | some t => t.key == RedPacket_key p
  | none => false

section
variable {s : State} {k : ClusterId} {i : Nat} {p : RedPacket}

section
variable {j : Nat} {t : TubSlot} (hslot : (List.range 64).find? ((s.clusterOf k.val).holdsSum p) = some j)
  (htub : (s.clusterOf k.val).tub j = some t)
include hslot htub

/-- R174, R177: what a packet does that meets its slot. -/
theorem meetTub_of_slot (free ok : Bool) : s.meetTub k i p free ok =
    if t.total ≠ p.total then (s.moveFlight i { p with bypass := true } k).routerBump k.val 2 1
    else
      let u := ((s.endFlight i).putTub k.val j
        (some { t.add p with poison := (t.add p).poison || !ok })).routerBump k.val 1 1
      if ok then u else ((u.routerBump k.val 3 1).tubFault k.val p).scoreRouter k.val 256 := by
  unfold State.meetTub
  dsimp only
  split
  case h_1 n found =>
    obtain rfl : n = j := Option.some.inj (found.symm.trans hslot)
    rw [htub]
  case h_2 missing => exact absurd (missing.symm.trans hslot) (by simp)

theorem meetTub_adds (free : Bool) (htotal : t.total = p.total) : s.meetTub k i p free true =
    ((s.endFlight i).putTub k.val j (some (t.add p))).routerBump k.val 1 1 := by
  simp [meetTub_of_slot hslot htub, htotal]

theorem meetTub_of_other_total (free ok : Bool) (htotal : t.total ≠ p.total) : s.meetTub k i p free ok =
    (s.moveFlight i { p with bypass := true } k).routerBump k.val 2 1 := by
  rw [meetTub_of_slot hslot htub, if_pos htotal]

end

section
variable (hnone : (List.range 64).find? ((s.clusterOf k.val).holdsSum p) = none)
include hnone

/-- R174: what a packet does that meets no slot of its own. -/
theorem meetTub_of_no_slot (free ok : Bool) : s.meetTub k i p free ok =
    if (s.ctxOf p.ctx.val).tubHold = 0 ∧ free = true then s.moveFlight i p k
    else match (List.range 64).find? (fun j => ((s.clusterOf k.val).tub j).isNone) with
      | some j => ((s.endFlight i).putTub k.val j (some (TubSlot.claim p))).routerBump k.val 0 1
      | none => (s.moveFlight i { p with bypass := true } k).routerBump k.val 2 1 := by
  unfold State.meetTub
  dsimp only
  split
  case h_1 n found => exact absurd (found.symm.trans hnone) (by simp)
  case h_2 missing => rfl

theorem meetTub_passes (ok : Bool) (hhold : (s.ctxOf p.ctx.val).tubHold = 0) :
    s.meetTub k i p true ok = s.moveFlight i p k := by
  rw [meetTub_of_no_slot hnone, if_pos ⟨hhold, rfl⟩]

theorem meetTub_claims (ok : Bool) {j : Nat}
    (hfree : (List.range 64).find? (fun j => ((s.clusterOf k.val).tub j).isNone) = some j) :
    s.meetTub k i p false ok =
      ((s.endFlight i).putTub k.val j (some (TubSlot.claim p))).routerBump k.val 0 1 := by
  rw [meetTub_of_no_slot hnone, if_neg (by simp), hfree]

theorem meetTub_of_full (ok : Bool)
    (hfull : (List.range 64).find? (fun j => ((s.clusterOf k.val).tub j).isNone) = none) :
    s.meetTub k i p false ok = (s.moveFlight i { p with bypass := true } k).routerBump k.val 2 1 := by
  rw [meetTub_of_no_slot hnone, if_neg (by simp), hfull]

end

end

/-! ## A packet enters a router (R168, R169, R179, R180) -/

/-- R179: the router that the packet leaves counts its switch to the detour channel. -/
def State.countDetour (s : State) (p : RedPacket) (f : Flight) : State :=
  if p.detour = true ∧ f.packet.detour = false then s.routerBump f.router 5 1 else s

theorem countDetour_routerDead (s : State) (p : RedPacket) (f : Flight) (j : Nat) :
    (s.countDetour p f).routerDead j = s.routerDead j := by
  unfold State.countDetour
  split
  · exact routerBump_routerDead ..
  · rfl

theorem countDetour_normal {p : RedPacket} (hnormal : p.detour = false) (s : State) (f : Flight) :
    s.countDetour p f = s :=
  if_neg (by simp [hnormal])

theorem tubArrival_illFormed {p : RedPacket} (hwf : p.wf = false) (s : State) (k : ClusterId) (free ok : Bool) :
    execTubArrival k p free ok s = .fault .illFormed := by
  simp [execTubArrival, hwf]

section
variable {s : State} {k : ClusterId} {p : RedPacket} (free ok : Bool) {i : Nat} {f : Flight} (hwf : p.wf = true)
  (hruns : s.meshRuns k.val = true) (halive : s.routerDead k.val = false)
  (hfind : s.findFlight (fun f => s.onward f == { p with hcheckOk := true } && s.hops f k.val) = some (i, f))
include hwf hruns halive hfind

/-- What the router does with the packet, the detour of which is counted. -/
theorem tubArrival_enters : execTubArrival k p free ok s =
    if !p.hcheckOk || s.routerDead (clusterAt (posAddr p.dest).1 (posAddr p.dest).2) then
      .next (((s.countDetour p f).endFlight i).routerBump k.val 6 1)
    else if p.bypass || p.notub then .next ((s.countDetour p f).moveFlight i { p with hcheckOk := true } k)
    else .next ((s.countDetour p f).meetTub k i { p with hcheckOk := true } free ok) := by
  have count : (if (p.detour && !f.packet.detour) = true then s.routerBump f.router 5 1 else s) = s.countDetour p f := by
    simp [State.countDetour]
  simp only [execTubArrival, hwf, hfind, hruns, halive, count, countDetour_routerDead]
  rfl

theorem tubArrival_discards
    (hbad : p.hcheckOk = false ∨ s.routerDead (clusterAt (posAddr p.dest).1 (posAddr p.dest).2) = true) :
    execTubArrival k p free ok s = .next (((s.countDetour p f).endFlight i).routerBump k.val 6 1) := by
  rw [tubArrival_enters free ok hwf hruns halive hfind, if_pos (by simpa using hbad)]

variable (hcheck : p.hcheckOk = true)
  (hthere : s.routerDead (clusterAt (posAddr p.dest).1 (posAddr p.dest).2) = false)
include hcheck hthere

theorem tubArrival_passes_by (hby : p.bypass = true ∨ p.notub = true) :
    execTubArrival k p free ok s = .next ((s.countDetour p f).moveFlight i p k) := by
  have good : { p with hcheckOk := true } = p := hcheck ▸ rfl
  rw [tubArrival_enters free ok hwf hruns halive hfind, if_neg (by simp [hcheck, hthere]), if_pos (by simpa using hby),
    good]

theorem tubArrival_meets (hbypass : p.bypass = false) (hnotub : p.notub = false) (hnormal : p.detour = false) :
    execTubArrival k p free ok s = .next (s.meetTub k i p free ok) := by
  have good : { p with hcheckOk := true } = p := hcheck ▸ rfl
  rw [tubArrival_enters free ok hwf hruns halive hfind, if_neg (by simp [hcheck, hthere]),
    if_neg (by simp [hbypass, hnotub]), good, countDetour_normal hnormal]

end

/-! ## A Tub emits its sum (R175) -/

theorem tubEmit_of_complete {s : State} {k : ClusterId} {n : Fin 64} {t : TubSlot}
    (htub : (s.clusterOf k.val).tub n.val = some t) (hruns : s.meshRuns k.val = true) (hcount : t.count = t.total)
    (hold free : Bool) : execTubEmit k n hold free s =
      .next { s.putTub k.val n.val none with
        mesh := (s.putTub k.val n.val none).mesh ++ [Flight.mk (t.packet k.val) (some k)] } := by
  simp [execTubEmit, htub, hruns, hcount]

/-- Settles O31: a packet that enters by its checks and then by what its Tub holds, a Tub by its count. -/
theorem tubsAddAndEmit : Obligations.TubsAddAndEmit := by
  unfold Obligations.TubsAddAndEmit
  intro s k p n hold free i f
  refine ⟨fun hwf => tubArrival_illFormed hwf s k hold free, ?enters, ?emits⟩
  case enters =>
    intro hwf hruns halive hfind u there
    refine ⟨?discards, fun hcheck hthere => ⟨?passesBy, fun hbypass hnotub hnormal => ?meets⟩⟩
    case discards =>
      intro hbad
      exact tubArrival_discards hold free hwf hruns halive hfind (hbad.imp_right (Bool.eq_true_of_not_eq_false ·))
    case passesBy => exact tubArrival_passes_by hold free hwf hruns halive hfind hcheck hthere
    case meets =>
      intro c mine
      have meets (hold free : Bool) := tubArrival_meets hold free hwf hruns halive hfind hcheck hthere hbypass hnotub hnormal
      refine ⟨?adds, ?otherTotal, fun hnone => ⟨?waits, ?stores⟩⟩
      case adds =>
        intro j t hslot htub htotal
        exact (meets hold true).trans (congrArg _ (meetTub_adds hslot htub hold htotal))
      case otherTotal =>
        intro j t hslot htub htotal
        exact (meets hold free).trans (congrArg _ (meetTub_of_other_total hslot htub hold free htotal))
      case waits =>
        rintro rfl hhold
        exact (meets true free).trans (congrArg _ (meetTub_passes hnone free hhold))
      case stores =>
        rintro rfl
        exact ⟨fun j hfree => (meets false free).trans (congrArg _ (meetTub_claims hnone free hfree)),
          fun hfull => (meets false free).trans (congrArg _ (meetTub_of_full hnone free hfull))⟩
  case emits => exact fun t htub hruns hcount => tubEmit_of_complete htub hruns hcount hold free

end Sys2Proof.Machine
end

section
/-! PROOFS. What an abort leaves alone (R29, R55, R91): every part of the module but its cores, clusters, tiles, regions, Peg
groups, contexts, units, stacks, installation, mailboxes, messages and counts. -/

set_option linter.unusedVariables false

namespace Sys2Proof.Machine

open Sys2Proof

/-- The module without the parts that an abort may change. -/
def State.spared (s : State) : State :=
  { s with
    cores := [], clusters := [], tiles := [], regions := [], pegs := [], ctxs := [], units := [], hamperStacks := [],
    press := {}, mboxes := [], hostOut := [], counters := [], rings := [], thread := {} }

theorem mesh_of_spared {s t : State} (h : t.spared = s.spared) : t.mesh = s.mesh :=
  show t.spared.mesh = s.spared.mesh from h ▸ rfl

@[simp] theorem spared_ite (c : Prop) [Decidable c] (s t : State) :
    (if c then s else t).spared = if c then s.spared else t.spared := apply_ite State.spared c s t

theorem spared_each {β : Type} (l : List β) (f : State → β → State) (h : ∀ s b, (f s b).spared = s.spared)
    (s : State) : (s.each l f).spared = s.spared :=
  each_keeps (P := fun t => t.spared = s.spared) (fun t b ht => (h t b).trans ht) l rfl

/-! ## Accessors, by `(rfl)` so that simp discharges the premise of `spared_each` with them -/

@[simp] theorem spared_modCore (s : State) (c : Nat) (f : Core → Core) : (s.modCore c f).spared = s.spared := (rfl)
@[simp] theorem spared_modCluster (s : State) (k : Nat) (f : Cluster → Cluster) :
    (s.modCluster k f).spared = s.spared := (rfl)
@[simp] theorem spared_modTile (s : State) (h : Nat) (f : Tile → Tile) : (s.modTile h f).spared = s.spared := (rfl)
@[simp] theorem spared_putRegion (s : State) (r : Nat) (g : Region) : (s.putRegion r g).spared = s.spared := (rfl)
@[simp] theorem spared_modRegion (s : State) (r : Nat) (f : Region → Region) :
    (s.modRegion r f).spared = s.spared := (rfl)
@[simp] theorem spared_putPeg (s : State) (g : Nat) (p : Peg) : (s.putPeg g p).spared = s.spared := (rfl)
@[simp] theorem spared_modPeg (s : State) (g : Nat) (f : Peg → Peg) : (s.modPeg g f).spared = s.spared := (rfl)
@[simp] theorem spared_putCtx (s : State) (x : Nat) (c : Ctx) : (s.putCtx x c).spared = s.spared := (rfl)
@[simp] theorem spared_modCtx (s : State) (x : Nat) (f : Ctx → Ctx) : (s.modCtx x f).spared = s.spared := (rfl)
@[simp] theorem spared_modUnit (s : State) (u : Nat) (f : LinkUnit → LinkUnit) : (s.modUnit u f).spared = s.spared := (rfl)
@[simp] theorem spared_dischargeBasket (s : State) (k x n : Nat) : (s.dischargeBasket k x n).spared = s.spared := (rfl)
@[simp] theorem spared_putSlot (s : State) (k n : Nat) (v : StreamSlot) : (s.putSlot k n v).spared = s.spared := (rfl)
@[simp] theorem spared_threadPass (s : State) (a b : W16) (m : ThreadBody) :
    (s.threadPass a b m).spared = s.spared := (rfl)

/-! ## Events, counters and messages -/

@[simp] theorem spared_raise (s : State) (c : EventClass) (r p : Nat) (src : Source) (x : Option Nat) (d : List W64) :
    (s.raise c r p src x d).spared = s.spared := by
  obtain ⟨_, _, raised⟩ := raise_frame s c r p src x d
  rw [raised]
  rfl

@[simp] theorem spared_bump (s : State) (a o n : Nat) : (s.bump a o n).spared = s.spared := by
  obtain ⟨_, _, _, bumped⟩ := bump_frame s a o n
  rw [bumped]
  rfl

@[simp] theorem spared_send (s : State) (x u : Nat) (m : OutMsg) : (s.send x u m).spared = s.spared := by
  simp [State.send, State.linkBump, State.transmit]

@[simp] theorem spared_sendDown (s : State) (x : Nat) (r : TreeRec) (m : OutMsg) :
    (s.sendDown x r m).spared = s.spared := by
  simp [State.sendDown, spared_each]

/-! ## Completions -/

@[simp] theorem spared_complete (s : State) (h : Hdr) (st : Byte) (d : W32) (nan : Bool) (r : List W64) :
    (s.complete h st d nan r).spared = s.spared := by
  have sends (t : State) (out : List HostOut) : ({ t with hostOut := out } : State).spared = t.spared := rfl
  have puts (m : Nat) (b : Mbox) : (s.putMbox m b).spared = s.spared := rfl
  unfold State.complete
  dsimp only
  split
  · rfl
  · exact (sends (s.putMbox h.mbox.val _) _).trans (puts h.mbox.val _)

@[simp] theorem spared_completeSome (s : State) (h : Option Hdr) (st : Byte) :
    (s.completeSome h st).spared = s.spared := by
  cases h with
  | none => rfl
  | some h => exact spared_complete ..

@[simp] theorem spared_completeBegin (s : State) (x : Nat) (code cause : Byte) (node : W16) (nan : Bool) :
    (s.completeBegin x code cause node nan).spared = s.spared := by
  unfold State.completeBegin
  dsimp only
  cases (s.ctxOf x).beginCmd with
  | none => rfl
  | some h => exact spared_complete ..

/-! ## Streams -/

@[simp] theorem spared_postPegs (s : State) (g x k n : Nat) : (s.postPegs g x k n).spared = s.spared := by
  simp [State.postPegs, State.postPeg, State.routerBump, spared_each]

@[simp] theorem spared_dropPoints (s : State) (k : ClusterId) (n : Nat) (m : Stream) :
    (s.dropPoints k n m).spared = s.spared := by
  have poisons (t : State) (key : Nat) : (t.poisonTile key).spared = t.spared := by
    unfold State.poisonTile
    dsimp only
    split <;> rfl
  simp [State.dropPoints, spared_each, poisons]

theorem spared_releaseLast (s : State) (k : ClusterId) (n : Nat) (e : BitVec 7) (c : CoreId) (x : CtxId) (b d : Bool) :
    (s.releaseLast k n e c x b d).spared = s.spared := by
  have releases : (s.releaseReserved k c n e).spared = s.spared := rfl
  simp [State.releaseLast, releases]

@[simp] theorem spared_finishStream (s : State) (k : ClusterId) (n : Nat) (e : BitVec 7) (st : Byte) :
    (s.finishStream k n e st).spared = s.spared := by
  have modifies (f : Stream → Stream) : (s.modStream k n f).spared = s.spared := by
    unfold State.modStream
    dsimp only
    split <;> rfl
  have unlocks (t : State) : (t.unlockAll k n).spared = t.spared := rfl
  unfold State.finishStream
  dsimp only
  cases (s.slotAt k n).stream with
  | none => rfl
  | some m => simp [spared_releaseLast, State.engineBump, modifies, unlocks]

@[simp] theorem spared_cancelStream (s : State) (k : ClusterId) (n : Nat) : (s.cancelStream k n).spared = s.spared := by
  unfold State.cancelStream
  dsimp only
  cases (s.slotAt k n).stream with
  | none => rfl
  | some m => simp [State.engineBump]

@[simp] theorem spared_cancelStreams (s : State) (p : Nat → Stream → Bool) : (s.cancelStreams p).spared = s.spared := by
  refine spared_each _ _ (fun s e => ?_) _
  split
  · refine spared_each _ _ (fun s v => ?_) _
    cases v.2.stream with
    | none => rfl
    | some m => simp
  · rfl

@[simp] theorem spared_freeSlots (s : State) (x : CtxId) : (s.freeSlots x).spared = s.spared := (rfl)

/-! ## Cores and what a context holds -/

@[simp] theorem spared_stopCores (s : State) (x : CtxId) : (s.stopCores x).spared = s.spared := by
  have starts (t : State) (c y : Nat) : (t.startNext c y).spared = t.spared := by
    obtain same | ⟨k, put⟩ := startNext_cases t c y
    · rw [same]
    · exact put.1 ▸ rfl
  refine spared_each _ _ (fun t c => ?_) _
  unfold State.stopCore
  dsimp only
  split
  · exact (starts ..).trans rfl
  · rfl

@[simp] theorem spared_endReadImages (s : State) (x : CtxId) : (s.endReadImages x).spared = s.spared := by
  simp [State.endReadImages, spared_each]

@[simp] theorem spared_abortSequencers (s : State) (x : Nat) : (s.abortSequencers x).spared = s.spared := by
  simp [State.abortSequencers, spared_each]

@[simp] theorem spared_dropTreePasses (s : State) (x : CtxId) : (s.dropTreePasses x).spared = s.spared := by
  simp [State.dropTreePasses, spared_each]

@[simp] theorem spared_resetPegs (s : State) (x : Nat) : (s.resetPegs x).spared = s.spared := by
  simp [State.resetPegs, spared_each]

@[simp] theorem spared_freeTubs (s : State) (x : CtxId) : (s.freeTubs x).spared = s.spared := by
  simp [State.freeTubs, spared_each]

@[simp] theorem spared_dropSequences (s : State) (x : Nat) : (s.dropSequences x).spared = s.spared := by
  refine spared_each _ _ (fun s r => ?_) _
  dsimp only
  split
  · split <;> rfl
  · rfl

@[simp] theorem spared_freeTiles (s : State) (x : Nat) (keys : List Nat) : (s.freeTiles x keys).spared = s.spared := by
  refine spared_each _ _ (fun s key => ?_) _
  extract_lets t len home direct
  have hhome : home.spared = s.spared := by
    unfold home
    cases t.declHome with
    | hamper h q => exact (rfl)
    | basket k => exact (rfl)
    | lost => simp
    | pocket c e => exact (rfl)
  have hdirect : direct.spared = home.spared := by
    unfold direct
    cases t.directAt <;> exact (rfl)
  exact hdirect.trans hhome

/-! ## Steps, fills and the abort of a context -/

@[simp] theorem spared_closeStep (s : State) (x : CtxId) (code : Fin 6) : (s.closeStep x code).spared = s.spared := by
  simp [State.closeStep]

@[simp] theorem spared_closeBatch (s : State) (x : CtxId) : (s.closeBatch x).spared = s.spared := by
  simp [State.closeBatch]

@[simp] theorem spared_decideAs (s : State) (x : CtxId) (code : Fin 6) (cause : Byte) (node : W16) :
    (s.decideAs x code cause node).spared = s.spared := by
  unfold State.decideAs
  dsimp only
  split <;> simp

@[simp] theorem spared_decideStep (s : State) (x : CtxId) (t : Trigger) : (s.decideStep x t).spared = s.spared := by
  unfold State.decideStep
  cases t with
  | done nan => cases nan <;> simp [State.treeBump]
  | report cause node => simp [State.treeBump]
  | timeout => simp [State.treeBump]

@[simp] theorem spared_report (s : State) (x : CtxId) (cause : Byte) (d : List Byte) :
    (s.report x cause d).spared = s.spared := by
  unfold State.report
  dsimp only
  split
  · rfl
  · split
    · simp
    · split <;> simp [State.treeBump, State.sendUp]

@[simp] theorem spared_abortFills (s : State) (x : Nat) : (s.abortFills x).spared = s.spared := by
  simp [State.abortFills, State.endBind]

@[simp] theorem spared_abortCommands (s : State) (x : Nat) : (s.abortCommands x).spared = s.spared := by
  simp [State.abortCommands, spared_each]

theorem spared_abortContext (s : State) (x : CtxId) (d : List Byte) : (s.abortContext x d).spared = s.spared := by
  have stops (t : State) : (t.stopInstall x).spared = t.spared := rfl
  simp [State.abortContext, State.setMark, spared_each, stops]

theorem spared_abortOver (s : State) (p : Nat → Bool) (c : Nat) : (s.abortOver p c).spared = s.spared :=
  spared_each _ _ (fun _ _ => spared_abortContext ..) _

theorem spared_staleRegions (s : State) (cause : StaleCause) (p : Nat → Bool) :
    (s.staleRegions cause p).spared = s.spared := by
  simp [State.staleRegions, spared_each]

end Sys2Proof.Machine
end

section
/-! PROOFS. Failures of the mesh (R169 to R171, R179, R180, R459, R460, R468, R483): refused flits, fields that go DARK and
return, boundary maps and the live test of their groups. -/

set_option linter.unusedVariables false

namespace Sys2Proof.Machine

open Sys2Proof

theorem exec_flitRefused (k : ClusterId) (port : MeshPort) (s : State) :
    exec (.flitRefused k port) s = execFlitRefused k port s := rfl
theorem exec_detourUpdate (s : State) : exec .detourUpdate s = execDetourUpdate s := rfl
theorem exec_fieldDark (f : FieldId) (lost : FieldLoss) (s : State) :
    exec (.fieldDark f lost) s = execFieldDark f lost s := rfl
theorem exec_fieldReturn (f : FieldId) (ok : Bool) (s : State) : exec (.fieldReturn f ok) s = execFieldReturn f ok s := rfl
theorem exec_boundaryMapApply (f : FieldId) (b : Fin 16) (s : State) :
    exec (.boundaryMapApply f b) s = execBoundaryMapApply f b s := rfl
theorem exec_hopRetryGroupTest (f : FieldId) (b : Fin 16) (bad : BitVec 68) (s : State) :
    exec (.hopRetryGroupTest f b bad) s = execHopRetryGroupTest f b bad s := rfl

/-! ## Boundary directions (R171) -/

theorem modBoundary_boundary (s : State) (f b : Nat) (g : Boundary → Boundary) :
    ((s.modBoundary f b g).fieldOf f).boundary b = g ((s.fieldOf f).boundary b) := by
  simp [State.modBoundary, State.modField, Field.boundary]

theorem modBoundary_congr {s : State} {f b : Nat} {g h : Boundary → Boundary}
    (hg : g ((s.fieldOf f).boundary b) = h ((s.fieldOf f).boundary b)) : s.modBoundary f b g = s.modBoundary f b h := by
  simp only [State.modBoundary, State.modField, hg]

@[simp] theorem routerBump_fieldOf (s : State) (k i n f : Nat) : (s.routerBump k i n).fieldOf f = s.fieldOf f := by
  obtain ⟨_, _, _, bumped⟩ := routerBump_frame s k i n
  rw [bumped]
  rfl

/-! ## Refused flits (R169, R483) -/

section
variable {s : State} {k : ClusterId} {port : MeshPort} (hruns : s.meshRuns k.val = true)
include hruns

theorem flitRefused_inside (hport : boundaryOf k.val port = none) :
    execFlitRefused k port s = .next (s.routerBump k.val 4 1) := by
  simp [execFlitRefused, hruns, hport]

/-- R483: a refused flit of a boundary link raises the score of its direction. -/
theorem flitRefused_boundary {e d : Nat} (hport : boundaryOf k.val port = some (e, d)) :
    ∃ g : Boundary → Boundary, (∀ v, (g v).score = satAdd16 v.score 1) ∧
      execFlitRefused k port s = .next ((s.routerBump k.val 4 1).modBoundary e d g) := by
  refine ⟨_, fun v => ?score, by simp only [execFlitRefused, hruns, hport]; rfl⟩
  split <;> rfl

end

/-! ## Packets that a stopping field discards (R180) -/

section
variable (s : State)

@[simp] theorem modField_mesh (f : Nat) (g : Field → Field) : (s.modField f g).mesh = s.mesh := rfl
@[simp] theorem threadPass_mesh (a b : W16) (m : ThreadBody) : (s.threadPass a b m).mesh = s.mesh := rfl
@[simp] theorem losePlaces_mesh (p : Nat → Bool) : (s.losePlaces p).mesh = s.mesh := rfl

@[simp] theorem abortOver_mesh (p : Nat → Bool) (c : Nat) : (s.abortOver p c).mesh = s.mesh :=
  mesh_of_spared (spared_abortOver s p c)

@[simp] theorem staleRegions_mesh (cause : StaleCause) (p : Nat → Bool) : (s.staleRegions cause p).mesh = s.mesh :=
  mesh_of_spared (spared_staleRegions s cause p)

@[simp] theorem stopThread_mesh (f : Nat) (all : Bool) : (s.stopThread f all).mesh = s.mesh := by
  have stops : (s.each (List.range 16) (fun t i => t.putThreadNode (clusterNode (16 * f + i)) {})).mesh = s.mesh :=
    each_keeps (P := fun t => t.mesh = s.mesh) (fun t i ht => (State.putThreadNode_mesh ..).trans ht) _ rfl
  unfold State.stopThread
  dsimp only
  split
  · simp only [State.putThreadNode_mesh, stops]
  · exact stops

@[simp] theorem breakGroups_mesh (f : Nat) (counts : List GroupId) : (s.breakGroups f counts).mesh = s.mesh :=
  mesh_of_spared (spared_each _ _ (fun _ _ => spared_abortContext ..) _)

/-- R180: no packet stays in the routers that stop. -/
@[simp] theorem strand_mesh (p : Nat → Bool) (src : Source) (core : Nat) (inside : List CtxId) :
    (s.strand p src core inside).mesh = s.mesh.filter (fun f => !p f.router) := by
  refine (mesh_of_spared (spared_each _ _ (fun t x => ?_) _)).trans ?_
  · exact (spared_abortContext ..).trans (spared_raise ..)
  · split
    · rfl
    · exact mesh_of_spared (spared_bump ..)

end

theorem mem_mesh_of_dropAddressed {s : State} {e : Flight} (he : e ∈ s.dropAddressed.mesh) : e ∈ s.mesh := by
  have counted (l : List Flight) : (s.each l (fun t f => t.routerBump f.router 6 1)).mesh = s.mesh :=
    mesh_of_spared (spared_each _ _ (fun _ _ => spared_bump ..) _)
  exact counted _ ▸ (List.mem_filter.mp he).1

theorem mem_mesh_of_detourUpdate {s : State} {e : Flight} (he : e ∈ s.detourUpdate.mesh) : e ∈ s.mesh := by
  have kept := mem_mesh_of_dropAddressed he
  dsimp only at kept
  split at kept
  · exact kept
  · simpa using kept

/-- R180: a packet that is left after a field stops was in the mesh, at a router of another field. -/
theorem mem_mesh_of_stopField {s : State} {f : Nat} {st : FieldState} {cause : StaleCause} {lost : FieldLoss} {e : Flight}
    (he : e ∈ (s.stopField f st cause lost).mesh) : e ∈ s.mesh ∧ e.router / 16 ≠ f := by
  rw [State.stopField, stopThread_mesh] at he
  simpa [State.abortField] using mem_mesh_of_detourUpdate he

theorem mem_mesh_of_goDark {s : State} {f : Nat} {lost : FieldLoss} {e : Flight} (he : e ∈ (s.goDark f lost).mesh) :
    e ∈ s.mesh ∧ e.router / 16 ≠ f := by
  rw [State.goDark] at he
  obtain ⟨mem, outside⟩ := mem_mesh_of_stopField he
  exact ⟨threadPass_mesh .. ▸ mem, outside⟩

/-! ## Fields (R459, R460) -/

theorem fieldDark_of_serving {s : State} {f : FieldId} (hworks : s.mode.works = true)
    (hserves : fieldServes (s.fieldOf f.val) = true) (lost : FieldLoss) :
    execFieldDark f lost s = .next (s.goDark f.val lost) := by
  simp [execFieldDark, hworks, hserves]

section
variable {s : State} {f : FieldId} {v : Field} (hv : s.fieldOf f.val = v) (hworks : s.mode.works = true)
  (hdark : v.state = .dark)
include hv hworks hdark

theorem fieldReturn_of_cool (hcool : v.temp.toInt ≤ 95 * 16) : execFieldReturn f true s = .next (s.putField f.val { v with
    state := .throttled, thStep := 8, osc := .locked, arithGated := false, meshGated := false }) := by
  have cool : ¬ 1520 < v.temp.toInt := Int.not_lt.mpr hcool
  simp [execFieldReturn, hv, hworks, hdark, cool]

theorem fieldReturn_of_hot (hhot : 95 * 16 < v.temp.toInt) : execFieldReturn f true s = .next s := by
  have hot : ¬ v.temp.toInt ≤ 1520 := Int.not_le.mpr hhot
  simp [execFieldReturn, hv, hworks, hdark, hot]

end

/-! ## Bad groups (R171, R468, R483) -/

/-- The groups that a test finds bad and that nothing records yet. -/
def State.freshGroups (s : State) (f b : Nat) (bad : BitVec 68) : List Nat :=
  (List.range 68).filter (fun p => bad.getLsbD p && !(s.recordedGroups f b).getLsbD p)

theorem freshGroups_of_recorded {s : State} {f b : Nat} {bad : BitVec 68}
    (hrecorded : bad &&& ~~~(s.recordedGroups f b) = 0) : s.freshGroups f b bad = [] := by
  rw [State.freshGroups, List.filter_eq_nil_iff]
  intro p hp
  have bit := congrArg (BitVec.getLsbD · p) hrecorded
  simpa [List.mem_range.mp hp] using bit

theorem freshGroups_of_one {s : State} {f b : Nat} {p : Fin 68} (hnew : (s.recordedGroups f b).getLsbD p.val = false) :
    s.freshGroups f b (BitVec.twoPow 68 p.val) = [p.val] := by
  have only (q : Nat) (hq : q ∈ List.range 68) :
      ((BitVec.twoPow 68 p.val).getLsbD q && !(s.recordedGroups f b).getLsbD q) = (q == p.val) := by
    by_cases h : q = p.val
    · subst h; rw [hnew]; simp
    · simp [h, Ne.symm h]
  rw [State.freshGroups, List.filter_congr only, List.filter_beq,
    List.count_eq_one_of_mem List.nodup_range (List.mem_range.mpr p.isLt), List.replicate_one]

theorem satAdd16_zero (a : W16) : satAdd16 a 0 = a := by
  have small : Nat.min (a.toNat + 0) 0xFFFF = a.toNat := Nat.min_eq_left (Nat.le_of_lt_succ a.isLt)
  rw [satAdd16, small, BitVec.ofNat_toNat, BitVec.setWidth_eq]

/-- R483: what the test makes of the direction. -/
def Boundary.tested (g : Boundary) (fresh : Nat) : Boundary :=
  { g with retries := 0, score := satAdd16 g.score (64 * fresh) }

theorem Boundary.tested_zero (g : Boundary) : g.tested 0 = { g with retries := 0 } := by
  simp only [Boundary.tested, Nat.mul_zero, satAdd16_zero]

/-! ## Boundary maps and the test of their groups (R170, R171) -/

section
variable {s : State} {f : FieldId} {b : Fin 16} (hworks : s.mode.works = true)
  (hserves : fieldServes (s.fieldOf f.val) = true)
include hworks hserves

theorem boundaryMapApply_of_same_width (hwidth : boundaryWidth (s.recordedGroups f.val b.val) =
    boundaryWidth ((s.fieldOf f.val).boundary b.val).bad) : execBoundaryMapApply f b s =
      .next (s.modBoundary f.val b.val (fun g => { g with bad := s.recordedGroups f.val b.val })) := by
  simp [execBoundaryMapApply, hworks, hserves, hwidth]

theorem hopRetryGroupTest_records {bad : BitVec 68} {fresh : List Nat} (hfresh : s.freshGroups f.val b.val bad = fresh)
    (hretries : 16 ≤ ((s.fieldOf f.val).boundary b.val).retries) : execHopRetryGroupTest f b bad s =
      .next ((s.modBoundary f.val b.val (·.tested fresh.length)).each fresh (fun t p => t.record
        { kind := 5, t0 := BitVec.ofNat 8 f.val, t1 := BitVec.ofNat 8 b.val, t2 := BitVec.ofNat 8 p } false
        (satAdd16 ((s.fieldOf f.val).boundary b.val).score (64 * fresh.length)))) := by
  subst hfresh
  simp only [execHopRetryGroupTest, hworks, hserves, Nat.not_lt.mpr hretries, modBoundary_boundary]
  rfl

end

/-- Settles O35: each event by its own lemma, the mesh of a DARK field by what a field that stops discards. -/
theorem meshFailures : Obligations.MeshFailures := by
  unfold Obligations.MeshFailures
  intro s k port f b lost bad hworks v g
  refine ⟨flitRefused_inside, ?boundary, if_pos hworks, ?dark, fieldReturn_of_cool rfl hworks,
    fieldReturn_of_hot rfl hworks, boundaryMapApply_of_same_width hworks, ?recorded, ?fresh⟩
  case boundary =>
    intro e d hruns hport
    obtain ⟨score, hscore, refused⟩ := flitRefused_boundary hruns hport
    refine ⟨_, refused, ?_, rfl⟩
    rw [modBoundary_boundary, hscore, routerBump_fieldOf]
  case dark => exact fun hserves => ⟨fieldDark_of_serving hworks hserves lost, fun e => mem_mesh_of_goDark⟩
  case recorded =>
    intro hserves hretries hbad
    rw [exec_hopRetryGroupTest, hopRetryGroupTest_records hworks hserves (freshGroups_of_recorded hbad) hretries]
    simp only [State.each, List.foldl_nil, List.length_nil, Boundary.tested_zero]
  case fresh =>
    intro p hserves hretries hnew score
    refine (hopRetryGroupTest_records hworks hserves (freshGroups_of_one hnew) hretries).trans (congrArg _ ?_)
    exact congrArg (State.record · _ _ _) (modBoundary_congr rfl)

end Sys2Proof.Machine
end

section
/-! PROOFS. Deadlines, locks and reclaim (R194, R208, R226, R232, R235, R236, R272, R275): requests that pass their
deadline, the lock of a tile, its old homes, and the transfer slots of cancelled streams. -/

set_option linter.unusedVariables false

namespace Sys2Proof.Machine

open Sys2Proof

/-! ## Tables rewritten by a function -/

section
variable {α : Type} [DecidableEq α] {d : α}

/-- The numbers of a canonical table rise, so its rest lies above its first. -/
theorem lt_of_tableWfFrom {t : Table α} {lo : Nat} (h : tableWfFrom d (some lo) t = true) : ∀ e ∈ t, lo < e.1 := by
  induction t generalizing lo with
  | nil => simp
  | cons e t ih =>
    obtain ⟨k, v⟩ := e
    simp only [tableWfFrom, Bool.and_eq_true, decide_eq_true_eq] at h
    obtain ⟨⟨hlo, -⟩, hrest⟩ := h
    exact List.forall_mem_cons.mpr ⟨hlo, fun e he => hlo.trans (ih hrest e he)⟩

/-- Applies `f` to every listed value, writing the results over `acc`. -/
def tmapOver (d : α) (f : Nat → α → α) (acc t : Table α) : Table α :=
  t.foldl (fun acc e => tput d acc e.1 (f e.1 e.2)) acc

theorem tget_tmapOver_of_absent (f : Nat → α → α) (acc : Table α) {t : Table α} {n : Nat} (h : ∀ e ∈ t, e.1 ≠ n) :
    tget d (tmapOver d f acc t) n = tget d acc n :=
  List.foldlRecOn (motive := fun u => tget d u n = tget d acc n) t _ rfl
    fun u hu e he => (tget_tput_ne d u _ (h e he).symm).trans hu

theorem tget_tmapOver {f : Nat → α → α} {n : Nat} (hf : f n d = d) {acc t : Table α} {lo : Option Nat}
    (hwf : tableWfFrom d lo t = true) (hacc : tget d acc n = d) : tget d (tmapOver d f acc t) n = f n (tget d t n) := by
  induction t generalizing acc lo with
  | nil => exact hacc.trans hf.symm
  | cons e t ih =>
    obtain ⟨k, v⟩ := e
    simp only [tableWfFrom, Bool.and_eq_true] at hwf
    by_cases hk : k = n
    · subst hk
      have absent : ∀ e ∈ t, e.1 ≠ k := fun e he => (lt_of_tableWfFrom hwf.2 e he).ne'
      simpa [tmapOver, tget] using tget_tmapOver_of_absent (d := d) f (tput d acc k (f k v)) absent
    · have kept : tget d (tput d acc k (f k v)) n = d := by rw [tget_tput_ne _ _ _ (Ne.symm hk), hacc]
      simpa [tmapOver, tget, hk] using ih hwf.2 kept

/-- A read of a canonical table after `f` has been applied to every listed value. -/
theorem tget_tmap {f : Nat → α → α} {t : Table α} {n : Nat} (hf : f n d = d) (hwf : tableWf d t = true) :
    tget d (tmap d f t) n = f n (tget d t n) :=
  tget_tmapOver hf hwf rfl

end

/-! ## What leaves the clusters alone -/

theorem clusterOf_of_clusters {s t : State} (h : t.clusters = s.clusters) (k : Nat) : t.clusterOf k = s.clusterOf k :=
  congrArg (tget ({} : Cluster) · k) h

theorem each_clusters {β : Type} {f : State → β → State} (hf : ∀ s b, (f s b).clusters = s.clusters) (l : List β)
    (s : State) : (s.each l f).clusters = s.clusters :=
  each_keeps (P := fun t => t.clusters = s.clusters) (fun t b ht => (hf t b).trans ht) l rfl

@[simp] theorem raise_clusters (s : State) (c : EventClass) (r p : Nat) (src : Source) (x : Option Nat) (d : List W64) :
    (s.raise c r p src x d).clusters = s.clusters := by
  obtain ⟨_, _, raised⟩ := raise_frame s c r p src x d
  rw [raised]

@[simp] theorem bump_clusters (s : State) (a o n : Nat) : (s.bump a o n).clusters = s.clusters := by
  obtain ⟨_, _, _, bumped⟩ := bump_frame s a o n
  rw [bumped]

theorem send_clusters (s : State) (x u : Nat) (m : OutMsg) : (s.send x u m).clusters = s.clusters := by
  unfold State.send
  split
  · exact bump_clusters ..
  · split
    · rfl
    · dsimp only
      split <;> rfl

theorem sendAsks_clusters (s : State) (x : Nat) (number : W32) (object : W64) (version : W32) (base : Nat)
    (l : List (UnitId × Nat × Nat)) : (s.sendAsks x number object version base l).clusters = s.clusters :=
  each_clusters (fun _ _ => send_clusters ..) l s

theorem pumpFill_clusters (s : State) (x : Nat) (f : Fill) : (s.pumpFill x f).clusters = s.clusters :=
  sendAsks_clusters ..

theorem pumpInstall_clusters (s : State) : s.pumpInstall.clusters = s.clusters := by
  unfold State.pumpInstall
  cases s.press.install with
  | none => rfl
  | some i => exact sendAsks_clusters ..

theorem pump_clusters (s : State) : s.pump.clusters = s.clusters :=
  (pumpInstall_clusters _).trans (each_clusters (fun _ _ => each_clusters (fun _ _ => pumpFill_clusters ..) _ _) _ s)

theorem endReads_clusters (s : State) (b : Xfer) : (s.endReads b).clusters = s.clusters := by
  refine each_clusters ?_ b.reads s
  exact fun _ _ => rfl

theorem releaseLast_clusters (s : State) (k : ClusterId) (n : Nat) (e : BitVec 7) (c : CoreId) (x : CtxId)
    (b d : Bool) : (s.releaseLast k n e c x b d).clusters = s.clusters := by
  unfold State.releaseLast
  split
  · rfl
  · dsimp only
    split <;> rfl

theorem countLate_clusters (s : State) (t : Tier) (deadline : Bool) :
    (s.countLate t deadline).clusters = s.clusters := by
  unfold State.countLate
  split
  · cases deadline <;> exact bump_clusters ..
  · cases deadline <;> exact bump_clusters ..
  · rfl

/-! ## Transfer slots (R232) -/

/-- R208, R232: the slot of a request that passed its deadline, and what its tier counts. -/
def State.expireXfer (s : State) (k : ClusterId) (n : Nat) (b : Xfer) : State :=
  (s.freeXferSlot k n (some b)).countLate b.tier true

theorem expireXfer_clusters (s : State) (k : ClusterId) (n : Nat) (b : Xfer) :
    (s.expireXfer k n b).clusters = (s.freeXferSlot k n (some b)).clusters :=
  countLate_clusters ..

theorem slotAt_expireXfer (s : State) (k : ClusterId) (n : Nat) (b : Xfer) (m : Nat) :
    (s.expireXfer k n b).slotAt k m = s.slotAt k m := by
  rw [State.slotAt, clusterOf_of_clusters (expireXfer_clusters s k n b), State.freeXferSlot, State.modCluster,
    State.putCluster_same, State.slotAt]

theorem xferSlot_expireXfer (s : State) (k : ClusterId) (n : Nat) (b : Xfer) :
    xferSlot ((s.expireXfer k n b).clusterOf k) n =
      { xferSlot (s.clusterOf k) n with busy := none, expired := some b } := by
  rw [clusterOf_of_clusters (expireXfer_clusters s k n b), State.freeXferSlot, State.modCluster, State.putCluster_same,
    xferSlot, tget_tput_same]

/-! ## The deadline of a request (R208, R272) -/

/-- R296: the transfer of a gradient record. -/
def Xfer.ofRecord (b : Xfer) : Prop := ∃ q, b.kind = .grad q

section
variable {s : State} {k : ClusterId} {slot : Fin 512}

theorem requestDeadline_of_free (hfree : (xferSlot (s.clusterOf k.val) slot.val).busy = none) :
    execRequestDeadline k slot none s = .next s := by
  simp only [execRequestDeadline, hfree]

variable {b : Xfer} (hbusy : (xferSlot (s.clusterOf k.val) slot.val).busy = some b)
include hbusy

theorem requestDeadline_of_record (hrecord : b.ofRecord) : execRequestDeadline k slot none s = .next s := by
  obtain ⟨q, hkind⟩ := hrecord
  simp only [execRequestDeadline, hbusy, hkind, Bool.or_true, if_true]

theorem requestDeadline_ends (hruns : s.meshRuns k.val = true) (hrecord : ¬ b.ofRecord) :
    let v := s.slotAt k b.slot
    let ended := (s.expireXfer k slot b).endReads b
    (v.epoch ≠ b.epoch → execRequestDeadline k slot none s =
      .next (ended.releaseLast k b.slot b.epoch b.core b.ctx b.slotB b.bound).pump) ∧
    (∀ m : Stream, v.epoch = b.epoch → v.stream = some m → execRequestDeadline k slot none s =
      .next ((ended.markTimeout k b.slot).takeXfer k b m .bytes).pump) := by
  intro v ended
  simp only [execRequestDeadline, hbusy]
  rw [if_neg ?ends, ← State.expireXfer, slotAt_expireXfer]
  case ends =>
    rw [hruns]
    split
    · exact absurd ⟨_, ‹_›⟩ hrecord
    · exact Bool.false_ne_true
  refine ⟨fun hgone => ?_, fun m hepoch hstream => ?_⟩
  · rw [decide_eq_false hgone]
    cases (s.slotAt k b.slot).stream <;> rfl
  · rw [decide_eq_true hepoch, hstream]

end

section
variable {s : State} {x : CtxId} {t : W32} (k : ClusterId) (slot : Fin 512) (hworks : s.mode.works = true)
include hworks

section
variable {n : Fin 16} {f : Fill} (hfill : (s.ctxOf x.val).fills.find? (fun f => f.binding == n.val) = some f)
  (hwants : s.fillWants x.val n.val t = true)
include hfill hwants

theorem requestDeadline_of_asked (himage : f.image = none) (hasked : f.asks.pending t = true) :
    execRequestDeadline k slot (some (x, some n, t)) s = .next (s.failFill x.val stTIMEOUT) := by
  simp [execRequestDeadline, hfill, hworks, hwants, himage, hasked]

theorem requestDeadline_of_image (himage : f.image ≠ none) :
    execRequestDeadline k slot (some (x, some n, t)) s =
      .next ((s.countLate .press true).failFill x.val stTIMEOUT) := by
  have image : f.image.isSome = true := Option.isSome_iff_ne_none.mpr himage
  simp [execRequestDeadline, hfill, hworks, hwants, image]

end

theorem requestDeadline_of_install {i : Install} (hinstall : s.press.install = some i) (hctx : i.ctx = x)
    (hwants : s.installWants i t = true) (hasked : i.asks.pending t = true) :
    execRequestDeadline k slot (some (x, none, t)) s = .next (s.endInstall stTIMEOUT) := by
  simp [execRequestDeadline, hinstall, hworks, hctx, hwants, hasked]

end

theorem requestDeadline_of_no_install {s : State} (hnone : s.press.install = none) (k : ClusterId) (slot : Fin 512)
    (x : CtxId) (t : W32) : execRequestDeadline k slot (some (x, none, t)) s = .next s := by
  simp only [execRequestDeadline, hnone]

/-! ## Reclaim (R235, R236) -/

/-- R235: the slot of a transfer that is reclaimed is held out. -/
def State.holdOut (s : State) (k n : Nat) : State :=
  s.modCluster k (fun c => { c with xfers := tput {} c.xfers n { busy := none, expired := none, heldOut := true } })

theorem xferSlot_holdOut (s : State) (k n : Nat) :
    xferSlot ((s.holdOut k n).clusterOf k) n = { busy := none, expired := none, heldOut := true } := by
  rw [State.holdOut, State.modCluster, State.putCluster_same, xferSlot, tget_tput_same]

section
variable {s : State} {k : ClusterId} {slot : Fin 512}

theorem cancelForced_of_empty (hbusy : (xferSlot (s.clusterOf k.val) slot.val).busy = none)
    (hexpired : (xferSlot (s.clusterOf k.val) slot.val).expired = none) : execCancelForced k slot s = .next s := by
  simp only [execCancelForced, hbusy, hexpired, Option.or_none]

theorem cancelForced_reclaims {b : Xfer} (hbusy : (xferSlot (s.clusterOf k.val) slot.val).busy = some b)
    (hruns : s.meshRuns k.val = true) (hgone : (s.slotAt k b.slot).epoch ≠ b.epoch) :
    ∃ t, execCancelForced k slot s = .next t ∧ t.clusters = (s.holdOut k slot).clusters := by
  simp only [execCancelForced, hbusy, hruns, Option.some_or]
  rw [if_neg (by simpa using hgone)]
  refine ⟨_, rfl, ?_⟩
  rw [pump_clusters, if_pos Option.isSome_some, releaseLast_clusters, endReads_clusters, raise_clusters]
  exact bump_clusters ..

end

theorem reclaimHoldEnd_frees (s : State) (k : ClusterId) (slot : Fin 512) :
    ∃ t, exec (.reclaimHoldEnd k slot) s = .next t ∧ t = { s with clusters := t.clusters } ∧
    xferSlot (t.clusterOf k.val) slot.val = { xferSlot (s.clusterOf k.val) slot.val with heldOut := false } := by
  refine ⟨_, rfl, rfl, ?_⟩
  rw [State.modCluster, State.putCluster_same, xferSlot, tget_tput_same]

/-! ## Write locks and old homes (R194, R226) -/

theorem writeLockGrant_passes {s : State} (hwf : tableWf {} s.tiles = true) (h : W32) :
    ∃ t, exec (.writeLockGrant h) s = .next t ∧ t = { s with tiles := t.tiles } ∧
      ∀ key, let o := s.tileOf key
        t.tileOf key = if key % 2 ^ 32 = h.toNat ∧ o.lock = none ∧ o.lockQueue ≠ [] then
          { o with lock := o.lockQueue.head?, lockQueue := o.lockQueue.tail } else o := by
  refine ⟨_, rfl, rfl, fun key => ?_⟩
  dsimp only [State.tileOf]
  rw [tget_tmap ?unlisted hwf]
  case unlisted => exact ite_self _
  cases (tget {} s.tiles key).lockQueue <;> simp

theorem oldHomeRelease_frees {s : State} (hwf : tableWf {} s.tiles = true) (h : W32) :
    ∃ t, exec (.oldHomeRelease h) s = .next t ∧ t = { s with tiles := t.tiles } ∧
      ∀ key, let o := s.tileOf key
        t.tileOf key = if key % 2 ^ 32 = h.toNat then
          { o with oldHomes := o.oldHomes.filter (fun e => e.reads != 0) } else o := by
  refine ⟨_, rfl, rfl, fun key => ?_⟩
  dsimp only [State.tileOf]
  rw [tget_tmap ?unlisted hwf]
  case unlisted => exact ite_self _

/-- Settles O30: each event by its own lemma, a request that ends by what its transfer slot and its stream hold. -/
theorem deadlinesLocksAndReclaim : Obligations.DeadlinesLocksAndReclaim := by
  unfold Obligations.DeadlinesLocksAndReclaim
  intro s k slot h x
  refine ⟨?busy, ?free, ?asked, reclaimHoldEnd_frees s k slot,
    fun hwf => ⟨writeLockGrant_passes hwf h, oldHomeRelease_frees hwf h⟩⟩
  case busy =>
    intro b hbusy hruns v freed record
    refine ⟨requestDeadline_of_record hbusy,
      fun hrecord => (requestDeadline_ends hbusy hruns hrecord).1,
      fun m hrecord => (requestDeadline_ends hbusy hruns hrecord).2 m,
      xferSlot_expireXfer s k slot b, fun hgone => ?_⟩
    obtain ⟨t, reclaimed, clusters⟩ := cancelForced_reclaims hbusy hruns hgone
    refine ⟨t, reclaimed, ?_, fun d hd => ?_⟩
    · rw [clusterOf_of_clusters clusters, xferSlot_holdOut]
    · rw [clusterOf_of_clusters clusters]
      exact State.putCluster_ne s _ hd
  case free => exact fun hfree => ⟨requestDeadline_of_free hfree, cancelForced_of_empty hfree⟩
  case asked =>
    intro y n i w f hworks
    refine ⟨fun hfill hwants => ⟨requestDeadline_of_asked k slot hworks hfill hwants,
        requestDeadline_of_image k slot hworks hfill hwants⟩,
      requestDeadline_of_install k slot hworks, fun hnone => requestDeadline_of_no_install hnone k slot y i⟩

end Sys2Proof.Machine
end

section
/-! PROOFS. The memory tiers (R206, R207, R209, R214, R215, R470, R486, R530): scrub, SUSPECT stacks, FAILED channels,
and the blocks of the Press. -/

set_option linter.unusedVariables false

namespace Sys2Proof.Machine

open Sys2Proof

/-! ## Scrub (R207, R486) -/

section
variable {s : State} (hscrub : s.scrubRuns = true)
include hscrub

section
variable {k : ClusterId} (hruns : s.meshRuns k.val = true) (tile : Option W32) (bank : Fin 32)
include hruns

theorem scrub_basket_clean : execScrub (.basket k tile bank) .clean s = .next s :=
  (if_neg (by simp [hscrub, hruns])).trans rfl

theorem scrub_basket_corrected (marks : BitVec 2) :
    execScrub (.basket k tile bank) (.corrected marks) s = .next (s.scoreBasket k.val 1) :=
  (if_neg (by simp [hscrub, hruns])).trans rfl

/-- R207: a word of a Basket with no tile's content, beyond correction. -/
theorem scrub_basket_lost (marks : BitVec 2) : execScrub (.basket k none bank) (.uncorrectable marks) s =
    .next ((s.scoreBasket k.val 64).raise .fault 207 0 (srcCluster k.val) none [1, w64 k.val, w64 bank.val, 0]) :=
  (if_neg (by simp [hscrub, hruns])).trans rfl

/-- R207: a word of a tile in a Basket, beyond correction. -/
theorem scrub_basket_finds (h : W32) (marks : BitVec 2) :
    execScrub (.basket k (some h) bank) (.uncorrectable marks) s =
      .next (((s.scoreBasket k.val 64).each (s.tilesAt h (.home (.basket k))) State.poisonTile).raise .fault 207 0
        (srcCluster k.val) (some (handleCtx h)) [1, w64 k.val, w64 bank.val, w64 h.toNat]) :=
  (if_neg (by simp [hscrub, hruns])).trans rfl

end

theorem scrub_hamper_corrected {h : StackId} (hserves : (s.stackOf h.val).retired = false) (q : Fin 15)
    (tile : Option W32) (marks : BitVec 2) : execScrub (.hamper h q tile) (.corrected marks) s = .next
      (((s.hamperBump h.val 3 1).each (s.implicated h.val q.val marks) (fun s p => s.scoreChannel p 1)).hamperBump
        h.val 7 1) :=
  (if_neg (by simp [hscrub, hserves])).trans rfl

end

/-! ## Tiles that a scrub poisons (R207) -/

theorem poisonTile_tileOf (s : State) (key : Nat) : (s.poisonTile key).tileOf = (s.modTile key Tile.poison).tileOf := by
  unfold State.poisonTile
  dsimp only
  split <;> rfl

theorem tileOf_poisonTile_same (s : State) (key : Nat) : ((s.poisonTile key).tileOf key).homePoisoned = true := by
  rw [poisonTile_tileOf, State.modTile, State.putTile_same, Tile.poison]

theorem homePoisoned_poisonTile {s : State} {key : Nat} (h : (s.tileOf key).homePoisoned = true) (other : Nat) :
    ((s.poisonTile other).tileOf key).homePoisoned = true := by
  by_cases hk : key = other
  · rw [hk, tileOf_poisonTile_same]
  · rw [poisonTile_tileOf, State.modTile, State.putTile_ne _ _ hk, h]

theorem homePoisoned_of_poisoned {keys : List Nat} {key : Nat} (hkey : key ∈ keys) (s : State) :
    ((s.each keys State.poisonTile).tileOf key).homePoisoned = true := by
  induction keys generalizing s with
  | nil => exact absurd hkey List.not_mem_nil
  | cons other keys ih =>
    obtain rfl | hkey := List.mem_cons.mp hkey
    · exact each_keeps (P := fun t => (t.tileOf key).homePoisoned = true)
        (fun _ _ ht => homePoisoned_poisonTile ht _) keys (tileOf_poisonTile_same s key)
    · exact ih hkey _

/-- A tile with a home is among those of its handle at that home. -/
theorem mem_tilesAt {s : State} {h : W32} {key : Nat} {home : Home} (hhandle : key % 2 ^ 32 = h.toNat)
    (hhome : (s.tileOf key).home = home) (hplaced : home ≠ .lost) : key ∈ s.tilesAt h (.home home) := by
  have listed : (key, s.tileOf key) ∈ s.tiles := mem_of_tget_ne fun unlisted => hplaced <| by
    rw [← hhome, State.tileOf, unlisted]
  have placed : (key, s.tileOf key) ∈ s.tiles.filter (fun e => e.1 % 2 ^ 32 == h.toNat) :=
    List.mem_filter.mpr ⟨listed, beq_iff_eq.mpr hhandle⟩
  exact List.mem_map.mpr ⟨(key, s.tileOf key), List.mem_filter.mpr ⟨placed, by simp [hhome]⟩, rfl⟩

theorem raise_tileOf (s : State) (c : EventClass) (r p : Nat) (src : Source) (x : Option Nat) (d : List W64) :
    (s.raise c r p src x d).tileOf = s.tileOf := by
  obtain ⟨_, _, raised⟩ := raise_frame s c r p src x d
  rw [raised]
  rfl

/-- R207: a scrub that finds a word of a tile in a Basket beyond correction poisons the tile where it is at home
there. -/
theorem scrub_basket_poisons {s : State} {k : ClusterId} (hscrub : s.scrubRuns = true) (hruns : s.meshRuns k.val = true)
    (bank : Fin 32) (marks : BitVec 2) (h : W32) :
    ∃ t, execScrub (.basket k (some h) bank) (.uncorrectable marks) s = .next t ∧
      ∀ key, key % 2 ^ 32 = h.toNat → (s.tileOf key).home = .basket k → (t.tileOf key).homePoisoned = true := by
  refine ⟨_, scrub_basket_finds hscrub hruns bank h marks, fun key hhandle hhome => ?_⟩
  rw [raise_tileOf]
  exact homePoisoned_of_poisoned (mem_tilesAt hhandle hhome nofun) _

/-! ## Stacks and channels (R209, R470) -/

theorem hamperSuspect_of_serving {s : State} {h : StackId} (hworks : s.mode.works = true)
    (hfresh : (s.stackOf h.val).suspect = false) (hserves : (s.stackOf h.val).retired = false) :
    execHamperSuspect h s = .next ((s.putStack h.val { s.stackOf h.val with
      suspect := true, score := satAdd16 (s.stackOf h.val).score 1024 }).raise .alarm 209 0 (srcStack h.val) none
        [w64 h.val]) := by
  simp [execHamperSuspect, hworks, hfresh, hserves, State.scoreStack, State.modStack]

theorem hamperChannelFailed_of_good {s : State} {h : StackId} {ch : Fin 32} (hworks : s.mode.works = true)
    (hgood : (s.channelOf (32 * h.val + ch.val)).failed = false) (hspare : s.badChannel h.val ch.val = false) :
    let t := s.putChannel (32 * h.val + ch.val) { s.channelOf (32 * h.val + ch.val) with failed := true }
    execHamperChannelFailed h ch s = .next (({ t with darn := { t.darn with
      pendingParts := t.darn.pendingParts ++ [channelPart h.val ch.val] } } : State).autoDrain) :=
  (if_neg (by simp [hworks, hgood, hspare])).trans rfl

/-! ## Blocks of the Press (R214, R215) -/

/-- R215: what makes a block due for a refresh. -/
theorem refreshDue_iff (s : State) (block : Nat) : s.refreshDue block = true ↔
    (s.press.block block).inUse = true ∧ (s.press.block block).retired = false ∧
      ((s.press.block block).softDecode = true ∨ 200000 ≤ (s.press.block block).reads ∨
        ms (60 * 86400000) ≤ s.since (s.press.block block).programmed) := by
  simp [State.refreshDue, and_assoc, or_assoc]

theorem pressRefresh_of_due {s : State} {block : Nat} (hworks : s.mode.works = true) (hdue : s.refreshDue block = true)
    (readable : Bool) (copy : BlockCopy) : execPressRefresh block readable copy s =
      .next (if readable then (s.copyBlock block readable copy).pressBump 4 1
        else ((s.copyBlock block readable copy).pressBump 4 1).pressBump 2 1) := by
  simp [execPressRefresh, hworks, hdue]

theorem pressRefresh_of_not_due {s : State} {block : Nat} (hdue : ¬ s.refreshDue block = true) (readable : Bool)
    (copy : BlockCopy) : execPressRefresh block readable copy s = .next s := by
  simp [execPressRefresh, hdue]

theorem pressWearMove_of_leastWorn {s : State} {m : BlockMove} (hworks : s.mode.works = true)
    (hleast : s.press.leastWorn m.block = true) : execPressWearMove m s = .next (s.copyBlock m.block true m.copy) := by
  simp [execPressWearMove, hworks, hleast]

theorem pressWearMove_of_other {s : State} {m : BlockMove} (hother : s.press.leastWorn m.block = false) :
    execPressWearMove m s = .next s := by
  simp [execPressWearMove, hother]

theorem Press.inUse_of_leastWorn {p : Press} {b : Nat} (h : p.leastWorn b = true) : (p.block b).inUse = true := by
  simp only [Press.leastWorn, Bool.and_eq_true] at h
  exact h.1.1

/-- A block in use is listed, so it lies below the first block never used. -/
theorem Press.lt_unused_of_inUse {p : Press} {b : Nat} (h : (p.block b).inUse = true) :
    b < (p.blocks.map (·.1)).foldl Nat.max 0 + 1 := by
  have listed : (b, p.block b) ∈ p.blocks := mem_of_tget_ne fun unlisted => by
    rw [Press.block, unlisted] at h
    exact Bool.false_ne_true h
  have below : b ≤ (p.blocks.map (·.1)).foldr max 0 := List.le_max_of_le' 0 (List.mem_map_of_mem listed) le_rfl
  rw [← List.foldl_eq_foldr] at below
  exact Nat.lt_succ_of_le below

/-- R214: new data go to no block in use. -/
theorem Press.freshBlock_ne {p : Press} {b : Nat} (h : (p.block b).inUse = true) : p.freshBlock ≠ b := by
  have taken : p.taken b = true := by rw [Press.taken, h, Bool.true_or]
  refine List.foldlRecOn (motive := fun best => best ≠ b) _ _ (Press.lt_unused_of_inUse h).ne' fun best hbest c hc => ?_
  split
  · rintro rfl
    simp [taken] at hc
  · exact hbest

section
variable {s : State} {b : Nat} (hused : (s.press.block b).inUse = true)
include hused

theorem programBlock_block (logical : Nat) : (s.programBlock logical).press.block b = s.press.block b :=
  tget_tput_ne _ _ _ (Press.freshBlock_ne hused).symm

/-- R215: programming other blocks leaves a block in use as it is. -/
theorem programBlocks_block (logicals : List Nat) :
    (logicals.foldl State.programBlock s).press.block b = s.press.block b :=
  List.foldlRecOn (motive := fun t : State => t.press.block b = s.press.block b) logicals _ rfl
    fun _ ht l _ => (programBlock_block (ht ▸ hused) l).trans ht

theorem copyBlock_done : (s.copyBlock b true .done).press.block b = { erases := (s.press.block b).erases + 1 } := by
  rw [← programBlocks_block hused (s.press.heldBy b), State.copyBlock, State.eraseBlock, if_pos rfl, State.putBlock,
    Press.block, tget_tput_same]

theorem copyBlock_interrupted (readable : Bool) :
    (s.copyBlock b readable .copyInterrupted).press.block b = s.press.block b :=
  tget_tput_ne _ _ _ (Press.freshBlock_ne hused).symm

end

theorem programBlocks_frame (s : State) (logicals : List Nat) :
    ∃ press, logicals.foldl State.programBlock s = { s with press := press } := by
  refine List.foldlRecOn (motive := fun t => ∃ press, t = { s with press := press }) logicals _ ⟨s.press, rfl⟩ ?_
  rintro _ ⟨press, rfl⟩ l -
  exact ⟨_, rfl⟩

theorem copyBlock_done_frame (s : State) (b : Nat) :
    s.copyBlock b true .done = { s with press := (s.copyBlock b true .done).press } := by
  obtain ⟨press, programmed⟩ := programBlocks_frame s (s.press.heldBy b)
  simp only [State.copyBlock, programmed]
  rfl

/-- Settles O36: each event by its own lemma; new data go to no block in use, so a block keeps its state until its
erase. -/
theorem memoryTierEvents : Obligations.MemoryTierEvents := by
  unfold Obligations.MemoryTierEvents
  intro s k h q ch tile marks block bank hworks
  refine ⟨?basket, fun hscrub hruns => scrub_basket_poisons hscrub hruns bank marks, ?hamper,
    hamperSuspect_of_serving hworks, hamperChannelFailed_of_good hworks, rfl, ?blocks, ?moved⟩
  case basket =>
    exact fun hscrub hruns => ⟨scrub_basket_clean hscrub hruns tile bank,
      scrub_basket_corrected hscrub hruns tile bank marks, scrub_basket_lost hscrub hruns bank marks⟩
  case hamper => exact fun hscrub hserves => scrub_hamper_corrected hscrub hserves q tile marks
  case blocks =>
    intro copy b due
    have hdue : due ↔ s.refreshDue block = true := (refreshDue_iff s block).symm
    rw [hdue]
    exact ⟨fun hdue => ⟨pressRefresh_of_due hworks hdue true copy, pressRefresh_of_due hworks hdue false copy⟩,
      fun hdue => pressRefresh_of_not_due hdue true copy,
      pressWearMove_of_leastWorn (m := ⟨block, copy⟩) hworks, pressWearMove_of_other (m := ⟨block, copy⟩)⟩
  case moved =>
    intro hleast
    have hused := Press.inUse_of_leastWorn hleast
    exact ⟨⟨_, pressWearMove_of_leastWorn hworks hleast, copyBlock_done_frame s block, copyBlock_done hused⟩,
      _, pressWearMove_of_leastWorn hworks hleast, rfl, rfl, copyBlock_interrupted hused true⟩

end Sys2Proof.Machine
end

section
/-! PROOFS. Stream instructions (R75, R76, R222, R227, R232 to R234): what a stream that ends leaves in its slot,
and the rows of MAJOR 0x28, 0x29 and 0x2C. -/

set_option linter.unusedVariables false

namespace Sys2Proof.Machine

open Sys2Proof

theorem exec_sissue (c : CoreId) (a : CoreArgs) (s : State) : exec (.sissue c a) s = execSissue c a s := rfl

/-! ## Stream slots -/

@[simp] theorem slotAt_putSlot (s : State) (k n : Nat) (v : StreamSlot) : (s.putSlot k n v).slotAt k n = v := by
  simp [State.putSlot, State.slotAt, State.modCluster]

theorem slotAt_of_clusters {s t : State} (h : t.clusters = s.clusters) (k n : Nat) : t.slotAt k n = s.slotAt k n := by
  rw [State.slotAt, clusterOf_of_clusters h, State.slotAt]

/-! ## What the end of a stream leaves alone -/

@[simp] theorem clusters_ite (c : Prop) [Decidable c] (s t : State) :
    (if c then s else t).clusters = if c then s.clusters else t.clusters := apply_ite State.clusters c s t

@[simp] theorem engineBump_clusters (s : State) (k i n : Nat) : (s.engineBump k i n).clusters = s.clusters :=
  bump_clusters ..

@[simp] theorem modCore_clusters (s : State) (c : Nat) (f : Core → Core) : (s.modCore c f).clusters = s.clusters :=
  rfl
@[simp] theorem modTile_clusters (s : State) (h : Nat) (f : Tile → Tile) : (s.modTile h f).clusters = s.clusters :=
  rfl
@[simp] theorem unlockAll_clusters (s : State) (k : ClusterId) (n : Nat) : (s.unlockAll k n).clusters = s.clusters :=
  rfl

@[simp] theorem postPegs_clusters (s : State) (g x k n : Nat) : (s.postPegs g x k n).clusters = s.clusters :=
  each_clusters (fun t _ => by simp [State.postPeg, State.routerBump]) _ s

@[simp] theorem poisonTile_clusters (s : State) (key : Nat) : (s.poisonTile key).clusters = s.clusters := by
  unfold State.poisonTile
  dsimp only
  split <;> rfl

@[simp] theorem dropPoints_clusters (s : State) (k : ClusterId) (n : Nat) (m : Stream) :
    (s.dropPoints k n m).clusters = s.clusters :=
  each_clusters (fun t i => by simp) _ s

/-! ## The end of a stream (R227, R233) -/

/-- R227: a stream as it has ended. -/
def Stream.endedWith (m : Stream) (st : Byte) : Stream := { m with ended := some st, live := [] }

section
variable {s : State} {k : ClusterId} {n : Nat} {v : StreamSlot} {m : Stream}

section
variable (hslot : s.slotAt k n = v) (hstream : v.stream = some m)
include hslot hstream

theorem modStream_eq (f : Stream → Stream) : s.modStream k n f = s.putSlot k n { v with stream := some (f m) } := by
  simp only [State.modStream, hslot, hstream]

variable (hopen : m.ended = none) (e : BitVec 7) (st : Byte)
include hopen

/-- R75: a stream that the program waits for stays in its slot as it ended. -/
theorem slotAt_finishStream_awaited (hnowait : m.nowait = false) :
    (s.finishStream k n e st).slotAt k n = { v with stream := some (m.endedWith st) } := by
  have kept : (s.finishStream k n e st).clusters =
      (s.putSlot k n { v with stream := some (m.endedWith st) }).clusters := by
    simp [State.finishStream, hslot, hstream, hopen, hnowait, modStream_eq hslot hstream, releaseLast_clusters,
      Stream.endedWith]
  rw [slotAt_of_clusters kept, slotAt_putSlot]

/-- R227: a stream that nothing waits for leaves its slot. -/
theorem slotAt_finishStream_unawaited (hnowait : m.nowait = true) :
    (s.finishStream k n e st).slotAt k n = v.free := by
  have frees : ∃ t : State, t.clusters = (s.putSlot k n { v with stream := some (m.endedWith st) }).clusters ∧
      s.finishStream k n e st = t.putSlot k n (t.slotAt k n).free := by
    simp only [State.finishStream, hslot, hstream, hopen, hnowait, modStream_eq hslot hstream]
    exact ⟨_, by simp [releaseLast_clusters, hnowait, Stream.endedWith], rfl⟩
  obtain ⟨t, kept, freed⟩ := frees
  rw [freed, slotAt_putSlot, slotAt_of_clusters kept, slotAt_putSlot]
  rfl

end

/-- R233: a stream that is cancelled ends with ABORTED under the epoch that it had, which its slot leaves. -/
theorem cancelStream_finishes (hslot : s.slotAt k n = v) (hstream : v.stream = some m) (hopen : m.ended = none) :
    ∃ t : State, t.slotAt k n = { v with epoch := v.epoch + 1, stream := some { m with cancelled := true } } ∧
      s.cancelStream k n = t.finishStream k n v.epoch stABORTED := by
  simp only [State.cancelStream, hslot, hstream, hopen]
  refine ⟨_, ?_, rfl⟩
  rw [slotAt_of_clusters ((engineBump_clusters ..).trans (dropPoints_clusters ..)), slotAt_putSlot]

theorem slotAt_cancelStream_awaited (hslot : s.slotAt k n = v) (hstream : v.stream = some m) (hopen : m.ended = none)
    (hnowait : m.nowait = false) : (s.cancelStream k n).slotAt k n =
      { v with epoch := v.epoch + 1, stream := some (Stream.endedWith { m with cancelled := true } stABORTED) } := by
  obtain ⟨t, hcancelled, finishes⟩ := cancelStream_finishes hslot hstream hopen
  rw [finishes]
  exact slotAt_finishStream_awaited hcancelled rfl hopen _ _ hnowait

theorem slotAt_cancelStream_unawaited (hslot : s.slotAt k n = v) (hstream : v.stream = some m) (hopen : m.ended = none)
    (hnowait : m.nowait = true) : (s.cancelStream k n).slotAt k n = { v.free with epoch := v.epoch + 1 } := by
  obtain ⟨t, hcancelled, finishes⟩ := cancelStream_finishes hslot hstream hopen
  rw [finishes]
  exact slotAt_finishStream_unawaited hcancelled rfl hopen _ _ hnowait

theorem cancelStream_of_ended (hstream : (s.slotAt k n).stream = some m) {st : Byte} (hended : m.ended = some st) :
    s.cancelStream k n = s := by
  simp [State.cancelStream, hstream, hended]

end

/-! ## Legal words -/

/-- A legal word takes the effect that its meaning gives. -/
theorem issue_effect {s : State} {c : CoreId} {x : CtxId} (h : s.issues c x = true) (major : BitVec 6)
    (minor : BitVec 5) (u : Uses) (defined : Bool) (a : CoreArgs) (body : State → Core → CtxId → Effect)
    (reads : Core → List Nat) (acc : Option Bool) (hf : a.finding = {}) (hl : (defined && u.legal a) = true)
    {e : Effect} (hb : body s (s.coreOf c.val) x = e) :
    (.next (issue major minor u defined c a s body reads acc) : Result) =
      .next (e.apply s c x (assemble major minor a)) := by
  rw [issue_legal h _ _ _ _ _ _ _ _ hf hl, hb]

/-! ## SISSUE (R75, R76) -/

theorem Uses.legal_sissue (nowait : Bool) (rd ra : BitVec 5) (n : Byte) :
    let a : CoreArgs := { opt := (BitVec.ofBool nowait).setWidth 5, rd := rd, ra := ra, imm := n.setWidth 32 }
    (decide (a.opt.toNat < 2) && ({ rd := true, ra := true, imm := true } : Uses).legal a) = true := by
  cases nowait <;> simp [Uses.legal]

theorem ticketOf_eq (q : Nat) (gen : BitVec 12) : ticketOf q gen = BitVec.ofNat 64 (16 * gen.toNat + q) := by
  rw [ticketOf, w64, Nat.mul_comm]

section
variable {s : State} {c : CoreId} {x : CtxId} (h : s.issues c x = true) {a : CoreArgs} (hf : a.finding = {})
  (hl : (decide (a.opt.toNat < 2) && ({ rd := true, ra := true, imm := true } : Uses).legal a) = true)
include h hf hl

theorem sissue_waits (hfull : s.freeQueueSlot c = none) : execSissue c a s =
    s.stalls c (assemble 0x28 a.opt a) (BitVec.ofNat 16 (a.imm.toNat % 256)) true :=
  issue_effect h 0x28 a.opt _ _ a _ _ none hf hl (e := .stall _ s) (by simp only [hfull])

variable {e : Entry} (he : (s.coreOf c.val).entryFor x (a.imm.toNat % 256) = e) (hfilling : e.state ≠ .filling)
  {q : Nat} (hfree : s.freeQueueSlot c = some q)
include he hfilling hfree

theorem sissue_raises (hh : (s.coreOf c.val).handles = true)
    (hrefused : e.descriptor ((s.coreOf c.val).sreg a.ra).toNat = none ∨
      ∃ b, e.descriptor ((s.coreOf c.val).sreg a.ra).toNat = some b ∧
        (b.ok = false ∨ s.descAllowed c (s.coreOf c.val) x b.desc = false)) :
    execSissue c a s = s.handles c xSTREAM (w64 (a.imm.toNat % 256)) := by
  refine issue_raise h 0x28 a.opt _ _ a _ _ none _ _ hf hl ?_ hh
  obtain hnone | ⟨b, hb, hbad | hbarred⟩ := hrefused
  · simp only [hfree, he, hfilling, hnone, if_false]
  · simp only [hfree, he, hfilling, hb, hbad, Bool.not_false, if_true, if_false]
  · simp only [hfree, he, hfilling, hb, hbarred, Bool.not_false, if_true, if_false, ite_self]

/-- R75, R76, R222: nothing that a descriptor names refuses it or holds it up. -/
theorem sissue_accepts {b : DescBytes} (hb : e.descriptor ((s.coreOf c.val).sreg a.ra).toNat = some b)
    (hok : b.ok = true) (hallowed : s.descAllowed c (s.coreOf c.val) x b.desc = true)
    (hbinding : s.streamBinding x b.desc = none) (hfailing : s.failingEntry (s.coreOf c.val) x b.desc = none)
    (hready : ∀ m ∈ b.desc.srcEntries ++ b.desc.dstEntries, ((s.coreOf c.val).entry m).state ≠ .filling)
    (hidle : ∀ m ∈ b.desc.dstEntries, s.writeBusy c m = false) :
    let k := s.coreOf c.val
    let ticket := ticketOf q (s.slotAt (c.val / 32) (slotOf c.val q)).gen
    execSissue c a s = .next
      (((s.putCore c.val (k.setS a.rd ticket)).acceptStream c x q b.desc (a.opt.getLsbD 0)).retire c x (k.pc + 1)) := by
  intro k ticket
  have waits : (b.desc.srcEntries ++ b.desc.dstEntries).filter (fun e =>
      (k.entry e).state == .filling && (k.entry e).holder == x) = [] :=
    List.filter_eq_nil_iff.mpr fun m hm => by simp [k, hready m hm]
  have idle : b.desc.dstEntries.any (fun e => s.writeBusy c e) = false := by simpa using hidle
  refine issue_effect h 0x28 a.opt _ _ a _ _ none hf hl (e := .done _) ?_
  simp only [hfree, he, hfilling, hb, hok, hallowed, hbinding, hfailing, waits, k, idle]
  rfl

end

/-! ## SWAIT, STEST and SCANCEL (R75, R233) -/

section
variable {s : State} {c : CoreId} {x : CtxId} (h : s.issues c x = true) (rd ra : BitVec 5)

/-- A ticket that names no stream of the core. -/
theorem ticketSlot_of_stray {t : W64} {v : StreamSlot} (hv : s.slotAt (c.val / 32) (slotOf c.val (t.toNat % 16)) = v)
    (hstray : v.gen.toNat ≠ t.toNat / 16 % 4096 ∨ v.stream = none) : s.ticketSlot c t = none := by
  subst hv
  obtain hgen | hnone := hstray
  · exact if_neg hgen
  · simp only [State.ticketSlot, hnone, Option.map_none, ite_self]

theorem ticketSlot_of_stream {t : W64} {v : StreamSlot} (hv : s.slotAt (c.val / 32) (slotOf c.val (t.toNat % 16)) = v)
    (hgen : v.gen.toNat = t.toNat / 16 % 4096) {m : Stream} (hstream : v.stream = some m) :
    s.ticketSlot c t = some (slotOf c.val (t.toNat % 16), m) := by
  simp only [State.ticketSlot, hv, hgen, hstream, if_true, Option.map_some]

include h

section
variable (hnone : s.ticketSlot c ((s.coreOf c.val).sreg ra) = none)
include hnone

theorem swait_of_stray :
    execSwait c { rd := rd, ra := ra } s = s.completes c ((s.coreOf c.val).setS rd (stBAD_ARG.setWidth 64)) :=
  issue_setS h 0x29 0 _ _ _ _ rfl (by simp [Uses.legal]) (by simp only [hnone])

theorem stest_of_stray :
    execStest c { rd := rd, ra := ra } s = s.completes c ((s.coreOf c.val).setS rd (stBAD_ARG.setWidth 64)) :=
  issue_setS h 0x29 1 _ _ _ _ rfl (by simp [Uses.legal]) (by simp only [hnone])

theorem scancel_of_stray : execScancel c { ra := ra } s = s.completes c (s.coreOf c.val) :=
  issue_done h 0x2C 0 _ _ _ rfl (by simp [Uses.legal]) (by simp only [hnone])

end

section
variable {n : Nat} {m : Stream} (hticket : s.ticketSlot c ((s.coreOf c.val).sreg ra) = some (n, m))
include hticket

section
variable {st : Byte} (hended : m.ended = some st)
include hended

theorem swait_reports : execSwait c { rd := rd, ra := ra } s =
    (s.putSlot (c.val / 32) n (s.slotAt (c.val / 32) n).free).completes c ((s.coreOf c.val).setS rd (st.setWidth 64)) :=
  issue_core_outside h 0x29 0 _ _ _ rfl (by simp [Uses.legal]) (by simp only [hticket, hended]; rfl)
    (Core.setS_running ..) (Core.setS_waiting ..) (Core.setS_pc ..)

theorem stest_reports : execStest c { rd := rd, ra := ra } s =
    (s.putSlot (c.val / 32) n (s.slotAt (c.val / 32) n).free).completes c ((s.coreOf c.val).setS rd (st.setWidth 64)) :=
  issue_core_outside h 0x29 1 _ _ _ rfl (by simp [Uses.legal]) (by simp only [hticket, hended]; rfl)
    (Core.setS_running ..) (Core.setS_waiting ..) (Core.setS_pc ..)

end

section
variable (hopen : m.ended = none)
include hopen

theorem swait_waits : execSwait c { rd := rd, ra := ra } s =
    s.stalls c (assemble 0x29 0 { rd := rd, ra := ra }) (((s.coreOf c.val).sreg ra).setWidth 16) true :=
  issue_stalls h 0x29 0 _ _ _ rfl (by simp [Uses.legal]) (by simp only [hticket, hopen])

theorem stest_pending :
    execStest c { rd := rd, ra := ra } s = s.completes c ((s.coreOf c.val).setS rd (stPENDING.setWidth 64)) :=
  issue_setS h 0x29 1 _ _ _ _ rfl (by simp [Uses.legal]) (by simp only [hticket, hopen])

end

theorem scancel_of_kept (hkept : s.cancelStream (clusterOfCore c) n = s) :
    execScancel c { ra := ra } s = s.completes c (s.coreOf c.val) :=
  issue_done h 0x2C 0 _ _ _ rfl (by simp [Uses.legal]) (by simp only [hticket, hkept])

theorem scancel_cancels : execScancel c { ra := ra } s =
    .next ((s.cancelStream (clusterOfCore c) n).retire c x ((s.coreOf c.val).pc + 1)) :=
  issue_effect h 0x2C 0 _ true _ _ (fun _ => []) none rfl (by simp [Uses.legal]) (e := .done _) (by simp only [hticket])

end

end

/-- Settles O23: a cancel by what a stream that ends leaves in its slot, SISSUE by the checks of its descriptor, the
other rows by what their ticket names. -/
theorem streamInstructions : Obligations.StreamInstructions := by
  unfold Obligations.StreamInstructions
  refine ⟨?cancel, ?issue, ?tickets⟩
  case cancel =>
    intro s k n m hstream hopen v w
    cases hnowait : m.nowait with
    | false =>
      rw [show w = _ from slotAt_cancelStream_awaited rfl hstream hopen hnowait]
      exact ⟨rfl, fun _ => ⟨rfl, _, rfl, rfl⟩, nofun⟩
    | true =>
      rw [show w = _ from slotAt_cancelStream_unawaited rfl hstream hopen hnowait]
      exact ⟨rfl, nofun, fun _ => ⟨rfl, rfl⟩⟩
  case issue =>
    intro s c x rd ra n nowait h k a e
    have legal := Uses.legal_sissue nowait rd ra n
    have entryNo : a.imm.toNat % 256 = n.toNat := by
      have := n.isLt
      simp only [a, BitVec.toNat_setWidth]
      omega
    have read : k.entryFor x (a.imm.toNat % 256) = e := congrArg (k.entryFor x) entryNo
    refine ⟨fun q b hfree hfilling hb hok hallowed hbinding hfailing hready hidle => ?accepts, fun hfull => ?waits,
      fun hfree hfilling hh hrefused => ?raises⟩
    case accepts =>
      have bit : a.opt.getLsbD 0 = nowait := by simp [a]
      rw [exec_sissue, sissue_accepts h rfl legal read hfilling hfree hb hok hallowed hbinding hfailing hready hidle,
        ticketOf_eq, bit]
    case waits =>
      rw [exec_sissue, sissue_waits h rfl legal hfull, entryNo, BitVec.ofNat_toNat]
    case raises =>
      obtain ⟨q, hq⟩ := Option.ne_none_iff_exists'.mp hfree
      rw [exec_sissue, sissue_raises h rfl legal read hfilling hq hh hrefused, entryNo, w64, BitVec.ofNat_toNat]
      rfl
  case tickets =>
    intro s c x rd ra h k a ticket slot v stray
    refine ⟨fun hstray => ?stray, fun m hnamed hstream => ?named⟩
    case stray =>
      have hnone := ticketSlot_of_stray rfl hstray
      exact ⟨swait_of_stray h rd ra hnone, stest_of_stray h rd ra hnone, scancel_of_stray h ra hnone⟩
    case named =>
      have hgen : v.gen.toNat = ticket.toNat / 16 % 4096 := not_not.mp (not_or.mp hnamed).1
      have hticket := ticketSlot_of_stream rfl hgen hstream
      exact ⟨fun st hended => ⟨swait_reports h rd ra hticket hended, stest_reports h rd ra hticket hended,
          scancel_of_kept h ra hticket (cancelStream_of_ended (k := clusterOfCore c) hstream hended)⟩,
        fun hopen => ⟨swait_waits h rd ra hticket hopen, stest_pending h rd ra hticket hopen,
          scancel_cancels h ra hticket⟩⟩

end Sys2Proof.Machine
end

section
/-! PROOFS. Replies of transfers (R169, R225, R232): what a router discards is no reply. -/

set_option linter.unusedVariables false

namespace Sys2Proof.Machine

open Sys2Proof

theorem exec_xferReply (k : ClusterId) (slot : Fin 512) (ep : BitVec 7) (reply : TaggedReply) (s : State) :
    exec (.xferReply k slot ep reply) s = execXferReply k slot ep reply s := rfl

/-- R169: a request or reply that a router discards counts there. -/
theorem xferReply_dropped {s : State} {r : ClusterId} (hruns : s.meshRuns r.val = true) (k : ClusterId) (slot : Fin 512)
    (ep : BitVec 7) (fill : Option (CtxId × Fin 16 × W32)) :
    execXferReply k slot ep ⟨.dropped r, fill⟩ s = .next (s.routerBump r.val 6 1) :=
  if_pos hruns

/-- The routers of field 0 run, and no transfer is out. -/
def quietMesh : State :=
  { State.reset with
    mode := .run
    fields := [(0, { state := .online, fcOk := true, osc := .locked, meshGated := false })] }

/-- Refutes O29: a reply that a router discards is no reply (R169), and counts at that router, where the statement has
whatever arrives at a free transfer slot count as stale at the engine. -/
theorem not_engineTransfersAndReplies : ¬ Obligations.EngineTransfersAndReplies := by
  unfold Obligations.EngineTransfersAndReplies
  rintro ⟨-, replies⟩
  have running : quietMesh.meshRuns (0 : ClusterId).val = true := by decide +kernel
  obtain ⟨stale, -⟩ := replies quietMesh 0 0 0 (.dropped 0) running
  have same : quietMesh.routerBump 0 6 1 = quietMesh.engineBump 0 5 1 :=
    Host.Outcome.next.inj ((xferReply_dropped running 0 0 0 none).symm.trans (stale rfl rfl))
  have discarded : (quietMesh.routerBump 0 6 1).counterOf (counterKey 1 0x31030) =
      (quietMesh.engineBump 0 5 1).counterOf (counterKey 1 0x31030) := by rw [same]
  exact absurd discarded (by decide +kernel)

end Sys2Proof.Machine
end

section
/-! PROOFS. Weight records (R226, R232, R267 to R270): who expects a record, its checks at a WRECV point and
at an installation, and the deadline of a point. -/

set_option linter.unusedVariables false

namespace Sys2Proof.Machine

open Sys2Proof

theorem exec_weightRecord (u : UnitId) (w : WeightRecord) (s : State) :
    exec (.weightRecord u w) s = execWeightRecord u w s := rfl

/-! ## Who expects the record (R267, R268) -/

section
variable {s : State} {u : UnitId} {w : WeightRecord} {x : CtxId} (hadmitted : s.admitted u 0x11 w.job = some x)
  {t : State} (htaken : (s.answerAsks x w).brimBump (brimOf u.val) 0 1 = t) (htree : t.recordTree x w.object = none)
include hadmitted htaken htree

theorem weightRecord_unexpected (hexpects : t.expects x w = none) (hstale : t.staleXfer x w = none) :
    execWeightRecord u w s = .next (t.brimBump (brimOf u.val) 2 1).pump := by
  simp only [execWeightRecord, hadmitted, htaken, htree, hexpects, hstale]

theorem weightRecord_stale {k : ClusterId} {n : Nat} {b : Xfer} (hexpects : t.expects x w = none)
    (hstale : t.staleXfer x w = some (k, n, b)) : execWeightRecord u w s = .next (t.dropStale k n b).pump := by
  simp only [execWeightRecord, hadmitted, htaken, htree, hexpects, hstale]

section
variable {k : ClusterId} {n i : Nat} (hexpects : t.expects x w = some (.point k n i))
include hexpects

theorem weightRecord_held (hwaits : t.recordWaits k n i = true) : execWeightRecord u w s = .next s := by
  simp only [execWeightRecord, hadmitted, htaken, htree, hexpects, hwaits, if_true]

/-- A WRECV point forwards nothing. -/
theorem weightRecord_at_point (hwaits : t.recordWaits k n i = false) {m : Stream}
    (hstream : (t.slotAt k n).stream = some m) (hop : m.desc.op = 0x12) :
    execWeightRecord u w s = .next (t.recordAtPoint u x w k n i).pump := by
  simp only [execWeightRecord, hadmitted, htaken, htree, hexpects, hwaits, hstream, hop, bne_self_eq_false,
    Bool.false_and, Bool.false_eq_true, if_false]

end

theorem weightRecord_at_install {i : Install} (hexpects : t.expects x w = some (.install i)) :
    execWeightRecord u w s = .next (t.recordAtInstall u x w i).pump := by
  simp only [execWeightRecord, hadmitted, htaken, htree, hexpects]

end

/-! ## The checks (R268) -/

section
variable {s : State} {k : ClusterId} {n i : Nat} {m : Stream} (hstream : (s.slotAt k n).stream = some m) (u : UnitId)
  (x : CtxId) {w : WeightRecord}
include hstream

theorem recordAtPoint_places (htag : w.tagOk = true) {h : TileHeader} {b : Table Byte}
    (hgood : WeightRecord.finding w = .good h b) :
    let key := s.streamKey m (m.desc.point i).2
    let direct := if isServerPort u.val then m.desc.dstCluster else none
    s.recordAtPoint u x w k n i =
      (((s.placeTile key h b w.version direct).modTile key (fun q =>
        { q with mangledIn := w.header.fmt.getLsbD 6 })).closePoint k n i).pointEnds k n i (h.fmt.getLsbD 5) true := by
  simp only [State.recordAtPoint, hstream, htag, hgood, Bool.not_true, Bool.false_eq_true, if_false]

theorem recordAtPoint_of_bad (htag : w.tagOk = true) (hbad : ∀ h b, WeightRecord.finding w ≠ .good h b) :
    s.recordAtPoint u x w k n i =
      (s.failPoint k n i).countFinding x (brimOf u.val) k.val w (WeightRecord.finding w) := by
  cases hfinding : WeightRecord.finding w with
  | good h b => exact absurd hfinding (hbad h b)
  | _ => simp only [State.recordAtPoint, hstream, htag, hfinding, Bool.not_true, Bool.false_eq_true, if_false]

theorem recordAtPoint_of_forged (htag : w.tagOk = false) (hport : s.pointPort k.val n i = none) :
    s.recordAtPoint u x w k n i = (s.brimBump (brimOf u.val) 4 1).failPoint k n i := by
  simp only [State.recordAtPoint, hstream, htag, hport, Bool.not_false, if_true]

end

theorem recordAtInstall_arrives (s : State) (u : UnitId) (x : CtxId) {w : WeightRecord} (i : Install)
    (htag : w.tagOk = true) {h : TileHeader} {b : Table Byte} (hgood : WeightRecord.finding w = .good h b)
    (hsound : h.fmt.getLsbD 5 = false) :
    s.recordAtInstall u x w i = { s with press := { s.press with install := some { i with
      arrived := tput none i.arrived w.tile.toNat (some { header := h, bytes := b }) } } } := by
  simp only [State.recordAtInstall, htag, hgood, hsound, Bool.not_true, Bool.false_eq_true, if_false]

/-! ## The deadline of a point (R270) -/

theorem wrecvPointDeadline_ends {s : State} {k : ClusterId} {n : Fin 512} {i : Nat} {m : Stream}
    (hworks : s.mode.works = true) (hstream : (s.slotAt k.val n.val).stream = some m) (hop : m.desc.op = 0x12)
    (hopen : m.ended = none) (hpoint : m.pointAt i ≠ none) :
    execWrecvPointDeadline k n i s = .next ((s.markTimeout k n.val).failPoint k n.val i) := by
  simp [execWrecvPointDeadline, hworks, hstream, hop, hopen, hpoint]

/-- Settles O38: the record by who expects it, a point's record by its checks, the deadline by its own lemma. -/
theorem weightRecordsPlaced : Obligations.WeightRecordsPlaced := by
  unfold Obligations.WeightRecordsPlaced
  intro s u w x hadmitted brim t htree
  refine ⟨fun hexpects => ⟨weightRecord_unexpected hadmitted rfl htree hexpects,
      fun k n b => weightRecord_stale hadmitted rfl htree hexpects⟩,
    fun k n i _ hexpects => weightRecord_held hadmitted rfl htree hexpects, ?point, ?install,
    fun k n i m => wrecvPointDeadline_ends⟩
  case point =>
    intro k n i m hexpects hwaits hstream hop direct
    rw [exec_weightRecord, weightRecord_at_point hadmitted rfl htree hexpects hwaits hstream hop]
    refine ⟨fun htag h b hgood => ?_, ?_, fun htag hport => ?_⟩
    · rw [recordAtPoint_places hstream u x htag hgood]
    · rintro htag _ rfl hbad
      rw [recordAtPoint_of_bad hstream u x htag hbad]
    · rw [recordAtPoint_of_forged hstream u x htag hport]
  case install =>
    intro i h b hexpects htag hgood hsound
    rw [exec_weightRecord, weightRecord_at_install hadmitted rfl htree hexpects,
      recordAtInstall_arrives _ u x i htag hgood hsound]

end Sys2Proof.Machine
end

section
/-! PROOFS. Sequencers and tiles (R80, R243, R247 to R252): leases, tiles handed out and counted, TILENEXT, TILEDONE
and END. -/

set_option linter.unusedVariables false

namespace Sys2Proof.Machine

open Sys2Proof

/-! ## Counts beside a changed region -/

theorem sendEvents_putRegion (f n : Nat) (s : State) (r : Nat) (g : Region) :
    (s.putRegion r g).sendEvents f n = (s.sendEvents f n).putRegion r g := by
  induction n generalizing s with
  | zero => rfl
  | succ n ih =>
    simp only [State.sendEvents, State.putRegion_thread, State.putRegion_time]
    split
    · rfl
    · refine Eq.trans ?_ (ih _)
      rfl

theorem raise_putRegion (s : State) (cls : EventClass) (rule pos : Nat) (src : Source) (x : Option Nat) (d : List W64)
    (r : Nat) (g : Region) : (s.putRegion r g).raise cls rule pos src x d = (s.raise cls rule pos src x d).putRegion r g := by
  unfold State.raise
  cases src.field? with
  | none => rfl
  | some f =>
    refine Eq.trans ?_ (sendEvents_putRegion f _ _ r g)
    rfl

/-- A count neither reads a region nor changes one. -/
theorem bump_putRegion (s : State) (space off n r : Nat) (g : Region) :
    (s.putRegion r g).bump space off n = (s.bump space off n).putRegion r g := by
  have puts (k : Nat) (v : Counter) : (s.putRegion r g).putCounter k v = (s.putCounter k v).putRegion r g := rfl
  simp only [State.bump, State.putRegion_counterOf, puts, raise_putRegion, ← apply_ite (State.putRegion · r g)]

@[simp] theorem bump_coreOf (s : State) (space off n c : Nat) : (s.bump space off n).coreOf c = s.coreOf c := by
  obtain ⟨_, _, _, bumped⟩ := bump_frame s space off n
  rw [bumped]
  rfl

@[simp] theorem bump_ctxOf (s : State) (space off n x : Nat) : (s.bump space off n).ctxOf x = s.ctxOf x := by
  obtain ⟨_, _, _, bumped⟩ := bump_frame s space off n
  rw [bumped]
  rfl

/-! ## TILENEXT (R80, R249) -/

/-- R249: a core in the line of its cluster for the next tile; one that stands there stays. -/
def SeqInst.joinedBy (i : SeqInst) (c : CoreId) : SeqInst :=
  { i with waiters := if i.waiters.contains c then i.waiters else i.waiters ++ [c] }

theorem SeqInst.mem_joinedBy (i : SeqInst) (c : CoreId) : c ∈ (i.joinedBy c).waiters := by
  by_cases h : c ∈ i.waiters <;> simp [SeqInst.joinedBy, h]

/-- The cluster of a core that has gone into TILENEXT. -/
def Cluster.lineUp (q : Cluster) (c : CoreId) (x : CtxId) : Cluster :=
  let i := tget {} q.seqs x.val
  if i.waiters.contains c then q else { q with seqs := tput {} q.seqs x.val { i with waiters := i.waiters ++ [c] } }

theorem Cluster.seqs_lineUp (q : Cluster) (c : CoreId) (x : CtxId) :
    tget {} (q.lineUp c x).seqs x.val = (tget {} q.seqs x.val).joinedBy c := by
  unfold Cluster.lineUp SeqInst.joinedBy
  dsimp only
  split
  · rfl
  · exact tget_tput_same ..

/-- The state of a core that waits in TILENEXT. -/
def State.waitsForTile (s : State) (c : CoreId) (x : CtxId) (word : W64) : State :=
  (s.modCluster (c.val / 32) (fun q => q.lineUp c x)).modCore c.val (fun k => { k with waiting := some ⟨word, 0, true⟩ })

theorem seqInst_waitsForTile (s : State) (c : CoreId) (x : CtxId) (word : W64) :
    (s.waitsForTile c x word).seqInst (clusterOfCore c) x = (s.seqInst (clusterOfCore c) x).joinedBy c := by
  refine Eq.trans ?_ (Cluster.seqs_lineUp (s.clusterOf (c.val / 32)) c x)
  exact congrArg (fun q : Cluster => tget {} q.seqs x.val) (State.putCluster_same ..)

section
variable {s : State} {c : CoreId} {x : CtxId} (h : s.issues c x = true)
include h

theorem tilenext_ends (rd : BitVec 5) (hall : (s.regionOf (s.coreOf c.val).region.val).allHanded = true) :
    execTilenext c { rd := rd } s = s.completes c ((s.coreOf c.val).setS rd allOnes64) :=
  issue_setS h 0x3C 0 _ _ _ _ rfl (by simp [Uses.legal]) (if_pos hall)

theorem tilenext_waits (rd : BitVec 5) (hleft : (s.regionOf (s.coreOf c.val).region.val).allHanded = false) :
    execTilenext c { rd := rd } s = .next (s.waitsForTile c x (assemble 0x3C 0 { rd := rd })) :=
  issue_effect h 0x3C 0 _ _ _ _ _ none rfl (by simp [Uses.legal]) (e := .stall 0 _) (if_neg (by simp [hleft]))

end

/-! ## TILEDONE (R249, R252) -/

/-- R249: a region whose tile t is done on core c. -/
def Region.tileCounted (g : Region) (t : W32) (c : CoreId) : Region :=
  { g with outstanding := g.outstanding.erase (t, c), finished := g.finished ++ [t], doneTiles := g.doneTiles + 1 }

section
variable {s : State} {r : Nat} {g : Region} (hg : s.regionOf r = g)
include hg

/-- R249: an outstanding tile is counted. -/
theorem tileDone_counts {c : CoreId} {t : W32} (x : CtxId) (hseq : g.seq = .running ∨ g.seq = .draining)
    (hout : (t, c) ∈ g.outstanding) : s.tileDone c x r (t.setWidth 64) =
      ((s.regionBump r 0 1).putRegion r (g.tileCounted t c)).stageDone x r := by
  subst hg
  have live : ¬ ((s.regionOf r).seq = .idle ∨ (s.regionOf r).seq = .aborted ∨
      ((s.regionOf r).seq = .armed ∧ (s.coreOf c.val).queue.contains x = true)) := by
    obtain running | draining := hseq <;> simp [*]
  have narrow : (t.setWidth 64).setWidth 32 = t := by simp
  unfold State.tileDone
  dsimp only
  rw [if_neg live, narrow, if_pos ⟨rfl, List.contains_iff_mem.mpr hout⟩, State.regionBump, bump_putRegion]
  rfl

/-- The stage goes on while tiles of the step are not done. -/
theorem stageDone_of_undone (x : CtxId) (hleft : g.allDone = false) : s.stageDone x r = s := by
  subst hg
  exact if_neg (by simp [hleft])

/-- R252: with the last tile of the step the stage is DONE. -/
theorem stageDone_of_allDone {x : CtxId} (hseq : g.seq = .draining) (hall : g.allDone = true)
    (hpeg : g.stage.donePeg = 0) (hserving : (s.ctxOf x.val).serving = false) :
    s.stageDone x r = s.putRegion r { g with seq := .done } := by
  subst hg
  have stays : (s.putRegion r { s.regionOf r with seq := .done }).closeBatch x =
      s.putRegion r { s.regionOf r with seq := .done } := if_pos (by simp [hserving])
  unfold State.stageDone
  dsimp only
  rw [if_pos ⟨hseq, hall⟩, hpeg, if_neg (by simp), stays]

end

section
variable {s : State} {c : CoreId} {x : CtxId} (h : s.issues c x = true) {ra : BitVec 5}
include h

theorem tiledone_completes {t : State} (hreleased : s.released c (s.coreOf c.val) = true)
    (hdone : s.tileDone c x (s.coreOf c.val).region.val ((s.coreOf c.val).sreg ra) = t)
    (hcore : t.coreOf c.val = s.coreOf c.val) : execTiledone c { ra := ra } s = t.completes c (s.coreOf c.val) :=
  issue_outside h 0x3C 1 _ _ _ rfl (by simp [Uses.legal]) (by rw [if_pos hreleased, hdone]) hcore

theorem tiledone_holds (hbusy : (s.coreOf c.val).settled = false) :
    execTiledone c { ra := ra } s = s.stalls c (assemble 0x3C 1 { ra := ra }) 0 false :=
  issue_holds h 0x3C 1 _ _ _ rfl (by simp [Uses.legal]) (if_neg (by simp [State.released, hbusy]))

end

/-! ## END (R80, R243) -/

theorem endProgram_holds {s : State} {c : CoreId} {x : CtxId} (h : s.issues c x = true)
    (hbusy : (s.coreOf c.val).settled = false) : execEndProgram c {} s = s.stalls c (assemble 0x3F 0 {}) 0 false :=
  issue_holds h 0x3F 0 _ _ _ rfl (by simp [Uses.legal]) (if_pos (by simp [hbusy]))

/-- A core with no program queued starts none. -/
theorem startNext_of_empty {s : State} {c : Nat} (x : Nat) (hqueue : (s.coreOf c).queue = []) : s.startNext c x = s := by
  have idle : (List.range 8).find? (fun i => (s.coreOf c).queue.any (fun q => q.val == (x + 1 + i) % 8)) = none := by
    simp [hqueue]
  simp only [State.startNext, idle]

/-- A core that has stopped x's program has no next PC of it. -/
theorem retire_stopped (s : State) (c : CoreId) {x : CtxId} {k : Core} (pc : Nat) (hstopped : k.running ≠ some x) :
    (s.putCore c.val k).retire c x pc = s.putCore c.val k := by
  simp [State.retire, State.modCore, hstopped]

/-- R80: END of a settled core with no tile outstanding and no program queued stops the program. -/
theorem endProgram_stops {s : State} {c : CoreId} {x : CtxId} (h : s.issues c x = true)
    (hsettled : (s.coreOf c.val).settled = true)
    (hnone : (s.regionOf (s.coreOf c.val).region.val).outstanding.find? (fun e => e.2 == c) = none)
    (hqueue : (s.coreOf c.val).queue = []) : execEndProgram c {} s =
      .next (s.putCore c.val { s.coreOf c.val with running := none, waiting := none, inHandler := false }) := by
  refine (issue_effect h 0x3F 0 _ _ _ _ _ none rfl (by simp [Uses.legal]) (e := .jump 0 _) ?_).trans
    (congrArg _ (retire_stopped s c 0 nofun))
  simp only [hsettled, hnone, Bool.not_true, Bool.false_eq_true, if_false]
  exact congrArg _ (startNext_of_empty x.val (by simpa using hqueue))

/-! ## Leases (R247) -/

section
variable {s : State} {k : ClusterId} {x : CtxId} {r : Nat} (hregion : s.handingRegion k x = some r)
include hregion

theorem leaseRequest_asks (hdynamic : (s.regionOf r).staticDist = false) (hunasked : (s.seqInst k x).requested = false)
    (hlow : 2 * (s.seqInst k x).reserve.length ≤ (s.seqInst k x).lastLease) : execLeaseRequest k x s =
      .next ((s.putRegion r { s.regionOf r with
        leases := (s.regionOf r).leases ++ [(k, (s.servingCores k.val).length)] }).putSeqInst k x
          { s.seqInst k x with requested := true }) := by
  simp only [execLeaseRequest, hregion, hdynamic, hunasked, Nat.not_lt.mpr hlow, decide_false, Bool.or_self,
    Bool.false_eq_true, if_false]
  rfl

/-- R247: the lead grants to the cluster whose request came first, and to no other. -/
theorem leaseGrant_grants {q : ClusterId} {w n : Nat} {rest : List (ClusterId × Nat)}
    (hleases : (s.regionOf r).leases = (q, w) :: rest) (hn : (s.regionOf r).leaseOf w = some n) : execLeaseGrant k x s =
      if q = k then
        let g := s.regionOf r
        let i := s.seqInst k x
        .next ((s.putRegion r { g with nextTile := g.nextTile + BitVec.ofNat 32 n, leases := rest }).putSeqInst k x { i with
          requested := false, lastLease := n,
          reserve := i.reserve ++ (List.range n).map (fun j => g.nextTile + BitVec.ofNat 32 j) })
      else .next s := by
  simp only [execLeaseGrant, hregion, hleases, hn, ne_eq, ite_not]

end

/-- R247: a lease of a stage whose number of tiles is known ends with the last of them. -/
theorem Region.leaseOf_total {g : Region} {total : W32} (htotal : g.tileTotal = some total) (w : Nat) :
    g.leaseOf w = some (Nat.min (g.lease * w) (total.toNat - g.nextTile.toNat)) := by
  simp only [Region.leaseOf, htotal]

/-! ## Tiles handed out (R247, R250) -/

/-- R247: a cluster that has handed its next tile to core c. -/
def SeqInst.handed (i : SeqInst) (static : Bool) (c : CoreId) : SeqInst :=
  { i with
    reserve := if static then i.reserve else i.reserve.drop 1
    staticNext := i.staticNext + 1, waiters := i.waiters.filter (· != c) }

/-- R249, R250: a region of `total` tiles that has handed t to core c. -/
def Region.tileHanded (g : Region) (total t : W32) (c : CoreId) : Region :=
  { g with
    handed := g.handed + 1, outstanding := g.outstanding ++ [(t, c)]
    seq := if total.toNat ≤ g.handed.toNat + 1 then .draining else .running }

/-- R247, R250: the state once core c, waiting in `w`, has tile t. -/
def State.tileGiven (s : State) (k : ClusterId) (x : CtxId) (r : Nat) (total t : W32) (c : CoreId) (w : Waiting) : State :=
  let g := s.regionOf r
  let q := s.coreOf c.val
  ((s.putSeqInst k x ((s.seqInst k x).handed g.staticDist c)).putRegion r (g.tileHanded total t c)).putCore c.val
    { q.setS w.rd (t.setWidth 64) with pc := q.pc + 1, waiting := none }

theorem tileHand_gives {s : State} {k : ClusterId} {x : CtxId} {r : Nat} {c : CoreId} {t total : W32} {w : Waiting}
    (hregion : s.handingRegion k x = some r) (hnext : s.nextOf k x r = some t)
    (hfirst : (s.seqInst k x).waiters.find? (fun d =>
      (s.coreOf d.val).waitsIn 0x3C && (s.coreOf d.val).running == some x) = some c)
    (hready : s.tileReady x r t = true) (hclock : s.coreClocked c.val = true)
    (hcount : (s.regionOf r).stage.tileCount ≠ 0) (hwaiting : (s.coreOf c.val).waiting = some w)
    (htotal : (s.regionOf r).tileTotal = some total) :
    execTileHand k x s = .next (s.tileGiven k x r total t c w) := by
  have bundle (t' : State) : t'.deliverBundle x (s.regionOf r) c t = t' := if_pos hcount
  simp only [execTileHand, hregion, hnext, hfirst, hready, hclock, htotal, bundle, Bool.not_true, Bool.or_self,
    Bool.false_eq_true, if_false, decide_eq_true_eq]
  have core : ((s.coreOf c.val).completeWait (t.setWidth 64)) = { (s.coreOf c.val).setS w.rd (t.setWidth 64) with
      pc := (s.coreOf c.val).pc + 1, waiting := none } := by
    simp only [Core.completeWait, hwaiting]
  exact congrArg (fun q => Host.Outcome.next (State.putCore _ c.val q)) core

section
variable (s : State) (k : ClusterId) (x : CtxId) (r : Nat) (total t : W32) (c : CoreId) (w : Waiting)

theorem tileGiven_frame : s.tileGiven k x r total t c w = { s with
    cores := (s.tileGiven k x r total t c w).cores, clusters := (s.tileGiven k x r total t c w).clusters
    regions := (s.tileGiven k x r total t c w).regions } := rfl

theorem tileGiven_coreOf : (s.tileGiven k x r total t c w).coreOf c.val = { (s.coreOf c.val).setS w.rd (t.setWidth 64) with
    pc := (s.coreOf c.val).pc + 1, waiting := none } :=
  State.putCore_same ..

theorem tileGiven_regionOf : (s.tileGiven k x r total t c w).regionOf r = (s.regionOf r).tileHanded total t c :=
  (State.putCore_regionOf ..).trans (State.putRegion_same ..)

theorem tileGiven_seqInst :
    (s.tileGiven k x r total t c w).seqInst k x = (s.seqInst k x).handed (s.regionOf r).staticDist c := by
  have cluster : (s.tileGiven k x r total t c w).clusterOf k.val = { s.clusterOf k.val with
      seqs := tput {} (s.clusterOf k.val).seqs x.val ((s.seqInst k x).handed (s.regionOf r).staticDist c) } :=
    State.putCluster_same ..
  rw [State.seqInst, cluster, tget_tput_same]

end

/-- Settles O26: TILENEXT, TILEDONE and END by what holds them up, leases and tiles by the lemmas of their events. -/
theorem sequencersAndTiles : Obligations.SequencersAndTiles := by
  unfold Obligations.SequencersAndTiles
  refine ⟨?tiles, ?programs⟩
  case tiles =>
    intro s c x rd k cl r g i next
    refine ⟨fun h => tilenext_ends h rd, fun h hleft => ?waits, leaseRequest_asks, ?grant, ?hand⟩
    case waits =>
      have joined := seqInst_waitsForTile s c x (assemble 0x3C 0 next)
      refine ⟨_, tilenext_waits h rd hleft, rfl, State.putCore_same .., ?_, ?_⟩
      · rw [joined]
        exact SeqInst.mem_joinedBy i c
      · rw [joined]
        rfl
    case grant =>
      intro total q w rest hregion htotal hleases n
      have grants := leaseGrant_grants hregion hleases (Region.leaseOf_total htotal w)
      exact ⟨fun other => grants.trans (if_neg other), fun same => grants.trans (if_pos same)⟩
    case hand =>
      intro t total w hregion hnext hfirst hready hclock hcount hwaiting htotal
      refine ⟨_, tileHand_gives hregion hnext hfirst hready hclock hcount hwaiting htotal, tileGiven_frame ..,
        tileGiven_coreOf .., tileGiven_regionOf .., ?_⟩
      rw [tileGiven_seqInst]
      simp [SeqInst.handed]
  case programs =>
    intro s c x ra t h k r g done g'
    refine ⟨fun hsettled hstreams htile hseq hout => ?counted,
      fun hbusy => ⟨tiledone_holds h hbusy, endProgram_holds h hbusy⟩, endProgram_stops h⟩
    have released : s.released c k = true := by simp [State.released, hsettled, hstreams]
    have counted : s.tileDone c x r (k.sreg ra) = ((s.regionBump r 0 1).putRegion r g').stageDone x r := by
      rw [htile, tileDone_counts rfl x hseq hout]
      rfl
    have region : ((s.regionBump r 0 1).putRegion r g').regionOf r = g' := State.putRegion_same ..
    refine ⟨fun hleft => ?goesOn, fun hall hdraining hpeg hserving => ?done⟩
    case goesOn =>
      exact tiledone_completes h released (counted.trans (stageDone_of_undone region x hleft)) (bump_coreOf ..)
    case done =>
      refine tiledone_completes h released (counted.trans ?_) (bump_coreOf ..)
      rw [stageDone_of_allDone region hdraining hall hpeg ((congrArg Ctx.serving (bump_ctxOf ..)).trans hserving),
        State.putRegion_again]

end Sys2Proof.Machine
end

section
/-! PROOFS. Regions, trees, steps and streams by command (R242, R251, R336 to R339, R347, R350, R379 to R381, R383). -/

set_option linter.unusedVariables false

namespace Sys2Proof.Machine

open Sys2Proof

/-! ## What an accepted command does (R369 to R374) -/

/-- How an accepted command goes on: it completes, waits for its end, or is held back. -/
def CmdEnd.answer (e : CmdEnd) (s : State) (h : Hdr) : Result :=
  match e with
  | .done t st detail result => t.finishes h st detail result
  | .waits t => t.awaits h
  | .later => s.holdsBack h

/-- An accepted command goes on as its own rule ends. -/
theorem hostCommand_answers {s : State} {h : Hdr} {r : CmdRow} (ha : s.accepts h r = true) (body : State → CmdEnd) :
    s.hostCommand h r body = (body s).answer s h := by
  cases hb : body s with
  | done t st detail result => exact hostCommand_done ha hb
  | waits t =>
    obtain ⟨taken, checks, reserved⟩ := (accepts_iff s h r).mp ha
    simp [State.hostCommand, CmdEnd.answer, State.awaits, taken, checks, reserved, hb]
  | later =>
    obtain ⟨taken, checks, reserved⟩ := (accepts_iff s h r).mp ha
    simp [State.hostCommand, CmdEnd.answer, State.holdsBack, taken, checks, reserved, hb]

/-- An accepted command whose checks all pass goes on with its effect. -/
theorem hostCommand_passes {s : State} {h : Hdr} {r : CmdRow} {body : State → CmdEnd} {checks : List (Option Bad)}
    {effect : CmdEnd} (ha : s.accepts h r = true) (hb : body s = CmdEnd.checked s checks effect)
    (hgood : firstBad checks = none) : s.hostCommand h r body = effect.answer s h := by
  rw [hostCommand_answers ha, hb, CmdEnd.checked, hgood]

@[simp] theorem firstBad_none (l : List (Option Bad)) : firstBad (none :: l) = firstBad l := rfl

@[simp] theorem firstBad_some (b : Bad) (l : List (Option Bad)) : firstBad (some b :: l) = some b := rfl

/-- Checks that pass leave the decision to those after them. -/
theorem firstBad_append {l : List (Option Bad)} (hl : firstBad l = none) (r : List (Option Bad)) :
    firstBad (l ++ r) = firstBad r := by
  induction l with
  | nil => rfl
  | cons b l ih =>
    cases b with
    | none => exact ih hl
    | some b => cases hl

/-- A check that fails decides, whatever comes after it. -/
theorem firstBad_append_some {l : List (Option Bad)} {b : Bad} (hl : firstBad l = some b) (r : List (Option Bad)) :
    firstBad (l ++ r) = some b := by
  induction l with
  | nil => cases hl
  | cons c l ih =>
    cases c with
    | none => exact ih hl
    | some c => exact hl

/-! ## BROADCAST (R350, R379) -/

section
variable {s : State} {x : CtxId} {h : Hdr}

theorem broadcastable_unsent (hunsent : ¬ h.opt.getLsbD 0 = true) : s.broadcastable x h = none := if_neg hunsent

theorem broadcastable_worker (hsent : h.opt.getLsbD 0 = true) (hworker : s.isManager x.val = false) :
    s.broadcastable x h = some (stREFUSED, noDetail) := by
  simp [State.broadcastable, hsent, hworker, noDetail]

theorem broadcastable_manager (hmanager : s.isManager x.val = true) (hidle : (s.ctxOf x.val).bcast = none) :
    s.broadcastable x h = none := by
  simp [State.broadcastable, hmanager, hidle]

variable (n : Nat) (cmd : BcastCmd) (t : State)

theorem endLoad_unsent (hunsent : ¬ h.opt.getLsbD 0 = true) : endLoad x h n cmd t = .ok t := if_neg hunsent

theorem endLoad_sent (hsent : h.opt.getLsbD 0 = true) : endLoad x h n cmd t = .waits (t.broadcast x h n cmd) :=
  if_pos hsent

end

theorem CmdEnd.of_bad {r : State × Option Bad} {e : Bad} (he : r.2 = some e) (f : State → CmdEnd) :
    CmdEnd.of r f = .fails r.1 e := by
  rw [CmdEnd.of, he]

theorem CmdEnd.of_good {r : State × Option Bad} (he : r.2 = none) (f : State → CmdEnd) : CmdEnd.of r f = f r.1 := by
  rw [CmdEnd.of, he]

/-! ## REGION_MAP (R242) -/

/-- A failing check of REGION_MAP changes nothing. -/
theorem mapRegions_of_bad {s : State} {x : CtxId} {recs : List RegionRec} {e : Bad}
    (hbad : (s.mapRegions x recs).2 = some e) : (s.mapRegions x recs).1 = s := by
  cases checks : s.readmit.badRegionMap x recs <;> simp [State.mapRegions, checks] at hbad ⊢

section
variable {s : State} {h : Hdr} {recs : List RegionRec} (ha : s.accepts h regionMapRow = true)
include ha

theorem regionMap_of_none (hunsent : ¬ h.opt.getLsbD 0 = true) : execRegionMap h [] s = s.finishes h stBAD_ARG :=
  hostCommand_fails ha rfl (bad := (stBAD_ARG, noDetail)) (by simp [broadcastable_unsent hunsent, noDetail])

theorem regionMap_at_worker (hsent : h.opt.getLsbD 0 = true) (hworker : s.isManager (namedCtx h).val = false) :
    execRegionMap h recs s = s.finishes h stREFUSED :=
  hostCommand_fails ha rfl (bad := (stREFUSED, noDetail)) (by rw [broadcastable_worker hsent hworker, firstBad_some])

section
variable (hrecs : recs ≠ []) (hlen : recs.length ≤ 256)
include hrecs hlen

/-- R242: with records in number, their own checks decide. -/
theorem regionMap_answers (hfree : s.broadcastable (namedCtx h) h = none) : execRegionMap h recs s =
    (CmdEnd.of (s.mapRegions (namedCtx h) recs) (endLoad (namedCtx h) h (16 * recs.length) (.regionMap recs))).answer s h :=
  hostCommand_passes ha rfl (by simp [hfree, hrecs, Nat.not_lt.mpr hlen])

theorem regionMap_refuses (hunsent : ¬ h.opt.getLsbD 0 = true) {e : Bad}
    (hbad : (s.mapRegions (namedCtx h) recs).2 = some e) : execRegionMap h recs s = s.finishes h e.1 e.2 := by
  rw [regionMap_answers ha hrecs hlen (broadcastable_unsent hunsent), CmdEnd.of_bad hbad, mapRegions_of_bad hbad]
  rfl

variable (hgood : (s.mapRegions (namedCtx h) recs).2 = none)
include hgood

theorem regionMap_maps (hunsent : ¬ h.opt.getLsbD 0 = true) :
    execRegionMap h recs s = (s.mapRegions (namedCtx h) recs).1.finishes h := by
  rw [regionMap_answers ha hrecs hlen (broadcastable_unsent hunsent), CmdEnd.of_good hgood, endLoad_unsent _ _ _ hunsent]
  rfl

theorem regionMap_broadcasts (hsent : h.opt.getLsbD 0 = true) (hmanager : s.isManager (namedCtx h).val = true)
    (hidle : (s.ctxOf (namedCtx h).val).bcast = none) : execRegionMap h recs s =
      ((s.mapRegions (namedCtx h) recs).1.broadcast (namedCtx h) h (16 * recs.length) (.regionMap recs)).awaits h := by
  rw [regionMap_answers ha hrecs hlen (broadcastable_manager hmanager hidle), CmdEnd.of_good hgood,
    endLoad_sent _ _ _ hsent]
  rfl

end

end

/-! ## PROGRAM_LOAD (R379) -/

theorem loadProgram_of_bad {s : State} {x : CtxId} {a : ProgramArgs} {e : Bad} (hbad : s.badLoad x a = some e) :
    s.loadProgram x a = (s, some e) := by
  unfold State.loadProgram
  split
  next b fails => rw [hbad] at fails; cases fails; rfl
  next passes => rw [hbad] at passes; cases passes

theorem fillBuffers_regionOf (s : State) (x : CtxId) (r n : Nat) : (s.fillBuffers x r).regionOf n = s.regionOf n := by
  refine each_keeps (P := fun t => t.regionOf n = s.regionOf n) ?_ _ rfl
  exact fun _ _ kept => kept

theorem measure_regionOf (s : State) (x : Nat) (op : W16) (args : List Byte) (n : Nat) :
    (s.measure x op args).regionOf n = s.regionOf n := rfl

/-- A region with a stage and code just loaded. -/
def Region.loadedWith (g : Region) (a : ProgramArgs) : Region :=
  { g with
    state := .loaded, cause := .none, stage := a.stage, code := a.code, seq := .idle, shown := none, leases := []
    roles := [], nextTile := 0, pegBases := [], outstanding := [], finished := [], cutCount := none, cut := [] }

/-- R379, R413: the module once a load has passed its checks. -/
def State.loadedWith (s : State) (x : CtxId) (a : ProgramArgs) : State :=
  (((s.stageLoad x a).modRegion a.region.val (·.loadedWith a)).fillBuffers x a.region.val).measure x.val 0x11
    (programBytes a)

theorem loadProgram_of_good {s : State} {x : CtxId} {a : ProgramArgs} (hgood : s.badLoad x a = none) :
    s.loadProgram x a = (s.loadedWith x a, none) := by
  unfold State.loadProgram
  split
  next b fails => rw [hgood] at fails; cases fails
  next passes => rfl

/-- R379: a load that passes its checks leaves its region LOADED, with its stage and its code. -/
theorem loadedWith_regionOf (s : State) (x : CtxId) (a : ProgramArgs) :
    (s.loadedWith x a).regionOf a.region.val = ((s.stageLoad x a).regionOf a.region.val).loadedWith a := by
  rw [State.loadedWith, measure_regionOf, fillBuffers_regionOf, State.modRegion, State.putRegion_same]

section
variable {s : State} {h : Hdr} {a : ProgramArgs} (ha : s.accepts h programLoadRow = true)
include ha

theorem programLoad_at_worker (hsent : h.opt.getLsbD 0 = true) (hworker : s.isManager (namedCtx h).val = false) :
    execProgramLoad h a s = s.finishes h stREFUSED :=
  hostCommand_fails ha rfl (bad := (stREFUSED, noDetail)) (by rw [broadcastable_worker hsent hworker, firstBad_some])

variable (hunsent : ¬ h.opt.getLsbD 0 = true)
include hunsent

theorem programLoad_answers : execProgramLoad h a s =
    (CmdEnd.of (s.loadProgram (namedCtx h) a) (endLoad (namedCtx h) h a.len.toNat (.programLoad a))).answer s h :=
  hostCommand_passes ha rfl (by simp [broadcastable_unsent hunsent])

theorem programLoad_refuses {e : Bad} (hbad : s.badLoad (namedCtx h) a = some e) :
    execProgramLoad h a s = s.finishes h e.1 e.2 := by
  rw [programLoad_answers ha hunsent, loadProgram_of_bad hbad]
  rfl

theorem programLoad_loads (hgood : s.badLoad (namedCtx h) a = none) :
    execProgramLoad h a s = (s.loadedWith (namedCtx h) a).finishes h := by
  rw [programLoad_answers ha hunsent, loadProgram_of_good hgood, CmdEnd.of, endLoad_unsent _ _ _ hunsent]
  rfl

end

/-! ## TREE_SET (R336, R337, R339) -/

/-- R337: the tree table that TREE_SET names. -/
def treeSetJob (b : TreeSetArgs) : JobRec :=
  { node := b.node, nodes := b.nodes, manager := b.manager, ctrlTree := b.ctrlTree.setWidth 6, stepLimit := b.stepLimit
    trees := b.trees }

theorem treeSetBad_of_no_nodes {x : CtxId} {b : TreeSetArgs} (hnodes : b.nodes = 0) (hctx : b.ctx.toNat = x.val)
    (hflags : b.flags &&& 0xFE = 0) : firstBad (treeSetBad x b) = some (stBAD_ARG, 4) := by
  simp only [treeSetBad, firstBad_check, hnodes, hctx, hflags, bne_self_eq_false, beq_self_eq_true, Bool.false_eq_true,
    if_false, if_true]
  rfl

/-- R339, R413: a table that is installed and measured. -/
theorem treeSet_installed (s : State) (x : CtxId) (b : TreeSetArgs) :
    (s.modCtx x.val (fun c => { c with jobRec := some (treeSetJob b) })).measure x.val 0x12 (treeSetBytes b) =
      s.putCtx x.val { s.ctxOf x.val with
        jobRec := some (treeSetJob b)
        measure := Config.sha384 (bytesLE 48 (s.ctxOf x.val).measure.toNat ++ bytesLE 2 0x12 ++ treeSetBytes b) } := by
  simp only [State.measure, State.modCtx, State.putCtx_same, State.putCtx_again]
  rfl

section
variable {s : State} {h : Hdr} {b : TreeSetArgs} (ha : s.accepts h treeSetRow = true)
include ha

theorem treeSet_refuses {e : Bad} (hbad : firstBad (treeSetBad (namedCtx h) b) = some e) :
    execTreeSet h b s = s.finishes h e.1 e.2 :=
  hostCommand_fails ha rfl (firstBad_append_some hbad _)

variable (hgood : firstBad (treeSetBad (namedCtx h) b) = none) (hjob : (s.ctxOf (namedCtx h).val).job ≠ 0)
include hgood hjob

theorem treeSet_busy (hopen : (s.ctxOf (namedCtx h).val).isOpen = true) (hflag : b.flags.getLsbD 0 = false) :
    execTreeSet h b s = s.finishes h stBUSY :=
  hostCommand_fails ha rfl (bad := (stBUSY, noDetail)) (by
    rw [firstBad_append hgood]
    simp only [firstBad_check, beq_eq_false_iff_ne.mpr hjob, hopen, hflag, Bool.not_false, Bool.and_self,
      Bool.false_eq_true, if_false, if_true]
    rfl)

theorem treeSet_installs (hclosed : (s.ctxOf (namedCtx h).val).isOpen = false) : execTreeSet h b s =
    State.finishes (s.putCtx (namedCtx h).val { s.ctxOf (namedCtx h).val with
      jobRec := some (treeSetJob b)
      measure := Config.sha384 (bytesLE 48 (s.ctxOf (namedCtx h).val).measure.toNat ++ bytesLE 2 0x12 ++
        treeSetBytes b) }) h := by
  refine (hostCommand_passes ha rfl ?_).trans ?_
  · rw [firstBad_append hgood]
    simp only [firstBad_check, beq_eq_false_iff_ne.mpr hjob, hclosed, Bool.false_and, Bool.false_eq_true, if_false,
      firstBad_nil]
  · rw [← treeSet_installed, hclosed]
    rfl

end

/-! ## What opening a step leaves of the contexts (R251, R380) -/

theorem each_ctxs {β : Type} {f : State → β → State} (hf : ∀ s b, (f s b).ctxs = s.ctxs) (l : List β) (s : State) :
    (s.each l f).ctxs = s.ctxs :=
  each_keeps (P := fun t => t.ctxs = s.ctxs) (fun t b ht => (hf t b).trans ht) l rfl

theorem ctxOf_of_ctxs {s t : State} (h : t.ctxs = s.ctxs) (x : Nat) : t.ctxOf x = s.ctxOf x :=
  congrArg (tget ({} : Ctx) · x) h

theorem dropTreePasses_ctxs (s : State) (x : CtxId) : (s.dropTreePasses x).ctxs = s.ctxs := by
  refine each_ctxs ?_ _ _
  exact fun _ _ => rfl

theorem takeCopies_ctxs (s : State) (x : Nat) : (s.takeCopies x).ctxs = s.ctxs := by
  refine each_ctxs (fun s r => each_ctxs (fun s c => ?_) _ s) _ s
  unfold State.stepCopy
  dsimp only
  split <;> rfl

theorem passTiles_ctxs (s : State) (x : CtxId) (toB : Bool) : (s.passTiles x toB).ctxs = s.ctxs := by
  unfold State.passTiles
  refine each_ctxs ?_ _ s
  exact fun _ _ => rfl

theorem clearPlaced_ctxs (s : State) (x : CtxId) : (s.clearPlaced x).ctxs = s.ctxs := by
  refine each_ctxs (fun s e => ?_) _ s
  cases e.2 with
  | none => rfl
  | some b =>
    dsimp only
    split
    · rfl
    · refine each_ctxs ?_ _ s
      exact fun _ _ => rfl

theorem armRegion_ctxs (s : State) (x : CtxId) (r : Nat) : (s.armRegion x r).ctxs = s.ctxs := by
  have queues (t : State) (c : Nat) : (t.queueProgram x r c).ctxs = t.ctxs := by
    unfold State.queueProgram
    dsimp only
    split
    · rfl
    · split <;> rfl
  unfold State.armRegion
  refine (each_ctxs queues _ _).trans (each_ctxs ?_ _ _)
  exact fun _ _ => rfl

theorem complete_ctxs (s : State) (h : Hdr) (st : Byte) (d : W32) (nan : Bool) (r : List W64) :
    (s.complete h st d nan r).ctxs = s.ctxs := by
  unfold State.complete
  dsimp only
  split <;> rfl

theorem endReadImages_ctxs (s : State) (x : CtxId) : (s.endReadImages x).ctxs = s.ctxs := by
  refine each_ctxs ?_ _ _
  exact fun _ _ => rfl

/-- R21: a slot that is activated leaves the tree table. -/
theorem activate_jobRec (s : State) (x : CtxId) (version : W32) :
    ((s.activate x version).ctxOf x.val).jobRec = (s.ctxOf x.val).jobRec := by
  have passes (toB : Bool) :
      ((if toB = (s.ctxOf x.val).activeB then s else s.passTiles x toB).ctxOf x.val).jobRec = (s.ctxOf x.val).jobRec := by
    split
    · rfl
    · exact congrArg Ctx.jobRec (ctxOf_of_ctxs (passTiles_ctxs ..) x.val)
  unfold State.activate
  dsimp only
  split
  · rfl
  · exact (congrArg Ctx.jobRec (State.putCtx_same ..)).trans (passes _)

/-- R251, R380: a context whose step or batch has just opened. -/
def Ctx.opened (c : Ctx) (b : BeginArgs) (cmd : Option Hdr) : Ctx :=
  { c with
    step := b.step, version := if c.serving then 0 else b.version, stepRecorded := true, freshStep := false
    isOpen := true, reloadLanes := false, batch := b.batch, doneGroup := Fin.ofNat 1024 b.doneGroup.toNat
    outstanding := 0, marks := {}, reported := [], doneSent := false, heldDone := none, grads := []
    decided := false, heldNan := false, beginCmd := cmd, batchOnOld := false, canInvalid := c.previousAvailable }

theorem dropLinked_ctxOf (s : State) (x : CtxId) : (s.dropLinked x).ctxOf x.val = { s.ctxOf x.val with linked := [] } := by
  have pegs (t : State) (l : List Nat) : (t.each l (fun t g => t.modPeg g (fun p => { p with linkGen := 0 }))).ctxs =
      t.ctxs := by
    refine each_ctxs ?_ _ _
    exact fun _ _ => rfl
  exact (ctxOf_of_ctxs (pegs ..) x.val).trans (State.putCtx_same ..)

/-- R21, R131, R264: the module just before a step opens, with its copies taken and its slots set. -/
def State.preparedFor (s : State) (x : CtxId) (b : BeginArgs) : State :=
  (((s.dropTreePasses x).takeCopies x.val).activate x b.version).clearPlaced x

theorem preparedFor_jobRec (s : State) (x : CtxId) (b : BeginArgs) :
    ((s.preparedFor x b).ctxOf x.val).jobRec = (s.ctxOf x.val).jobRec := by
  have copied : ((s.dropTreePasses x).takeCopies x.val).ctxs = s.ctxs :=
    (takeCopies_ctxs ..).trans (dropTreePasses_ctxs ..)
  rw [State.preparedFor, ctxOf_of_ctxs (clearPlaced_ctxs ..), activate_jobRec, ctxOf_of_ctxs copied]

/-- R251, R343: the step opens, then the regions of the context are armed. -/
theorem openStep_eq (s : State) (x : CtxId) (b : BeginArgs) (cmd : Option Hdr) :
    let t := ((s.preparedFor x b).modCtx x.val (·.opened b cmd)).dropLinked x
    s.openStep x b cmd = t.each (t.regionsOf x.val) (fun t r => t.armRegion x r) := rfl

theorem openStep_ctxOf (s : State) (x : CtxId) (b : BeginArgs) (cmd : Option Hdr) :
    (s.openStep x b cmd).ctxOf x.val = { ((s.preparedFor x b).ctxOf x.val).opened b cmd with linked := [] } := by
  rw [openStep_eq, ctxOf_of_ctxs (each_ctxs (fun t r => armRegion_ctxs t x r) _ _), dropLinked_ctxOf, State.modCtx,
    State.putCtx_same]

theorem openStep_jobRec (s : State) (x : CtxId) (b : BeginArgs) (cmd : Option Hdr) :
    ((s.openStep x b cmd).ctxOf x.val).jobRec = (s.ctxOf x.val).jobRec := by
  have opened (c : Ctx) : ({ c.opened b cmd with linked := [] } : Ctx).jobRec = c.jobRec := rfl
  rw [openStep_ctxOf, opened, preparedFor_jobRec]

theorem completeBegin_jobRec (s : State) (x : Nat) (code cause : Byte) (node : W16) (nan : Bool) :
    ((s.completeBegin x code cause node nan).ctxOf x).jobRec = (s.ctxOf x).jobRec := by
  unfold State.completeBegin
  dsimp only
  split
  · rfl
  · rw [ctxOf_of_ctxs (complete_ctxs ..), State.putCtx_same]

/-- R279: a batch that closes leaves the tree table. -/
theorem closeBatch_jobRec (s : State) (x : CtxId) : ((s.closeBatch x).ctxOf x.val).jobRec = (s.ctxOf x.val).jobRec := by
  unfold State.closeBatch
  dsimp only
  split
  · rfl
  · rw [ctxOf_of_ctxs (endReadImages_ctxs ..), completeBegin_jobRec, State.putCtx_same]
    rfl

theorem ctrlTree_of_jobRec {s t : State} {x : Nat} (h : (t.ctxOf x).jobRec = (s.ctxOf x).jobRec) :
    t.ctrlTree x = s.ctrlTree x := by
  rw [State.ctrlTree, h, State.ctrlTree]

/-! ## STEP_BEGIN (R22, R251, R280, R380) -/

section
variable {s : State} {x : CtxId} {b : BeginArgs} (cmd : Option Hdr)

theorem beginStep_of_bad {e : Bad} (hbad : s.badBegin x b = some e) : s.beginStep x b cmd = (s, some e) := by
  unfold State.beginStep
  rw [hbad]

theorem beginStep_of_good (hgood : s.badBegin x b = none) :
    s.beginStep x b cmd = ((s.openStep x b cmd).closeBatch x, none) := by
  unfold State.beginStep
  rw [hgood]

end

section
variable {s : State} {h : Hdr} {b : BeginArgs} (ha : s.accepts h stepBeginRow = true)
include ha

theorem stepBegin_at_worker (hworker : s.isManager (namedCtx h).val = false) (hnodes : 1 < s.nodesOf (namedCtx h).val) :
    execStepBegin h b s = s.finishes h stREFUSED :=
  hostCommand_fails ha rfl (bad := (stREFUSED, noDetail)) (by simp [hworker, hnodes, noDetail])

variable (hmanager : s.isManager (namedCtx h).val = true)
include hmanager

theorem stepBegin_held (hchanges : s.changesSlot (namedCtx h) = true) : execStepBegin h b s = s.holdsBack h := by
  refine (hostCommand_passes ha rfl (by simp [hmanager])).trans ?_
  rw [if_pos hchanges]
  rfl

variable (hsettled : s.changesSlot (namedCtx h) = false)
include hsettled

theorem stepBegin_refuses {e : Bad} (hbad : s.badBegin (namedCtx h) b = some e) :
    execStepBegin h b s = s.finishes h e.1 e.2 := by
  refine (hostCommand_passes ha rfl (by simp [hmanager])).trans ?_
  rw [hsettled, beginStep_of_bad _ hbad]
  rfl

/-- R380: without a tree the step is the module's own. -/
theorem stepBegin_opens (hgood : s.badBegin (namedCtx h) b = none) (hlocal : s.ctrlTree (namedCtx h).val = none) :
    execStepBegin h b s = ((s.openStep (namedCtx h) b (some h)).closeBatch (namedCtx h)).awaits h := by
  have table : (((s.openStep (namedCtx h) b (some h)).closeBatch (namedCtx h)).ctxOf (namedCtx h).val).jobRec =
      (s.ctxOf (namedCtx h).val).jobRec := by
    rw [closeBatch_jobRec, openStep_jobRec]
  have still := (ctrlTree_of_jobRec table).trans hlocal
  refine (hostCommand_passes ha rfl (by simp [hmanager])).trans ?_
  rw [hsettled, beginStep_of_good _ hgood]
  generalize (s.openStep (namedCtx h) b (some h)).closeBatch (namedCtx h) = t at still
  simp only [CmdEnd.of, still, Bool.false_eq_true, if_false]
  rfl

end

/-! ## STEP_COMMIT and STEP_ABANDON (R347, R381) -/

theorem heldStep_iff (s : State) (x : CtxId) (step : W32) : s.heldStep x step = true ↔
    s.isManager x.val = true ∧ (s.ctxOf x.val).isOpen = true ∧ (s.ctxOf x.val).heldNan = true ∧
      (s.ctxOf x.val).step = step := by
  simp [State.heldStep, and_assoc]

section
variable {s : State} {h : Hdr} {step : W32}

section
variable (ha : s.accepts h stepCommitRow = true)
include ha

theorem stepCommit_decides (hopt : h.opt.getLsbD 0 = true) (hheld : s.heldStep (namedCtx h) step = true) :
    execStepCommit h step s = (s.decideAs (namedCtx h) 2 0 0xFFFF).finishes h :=
  hostCommand_checked ha rfl (by simp [hopt, hheld])

theorem stepCommit_refuses (hnot : h.opt.getLsbD 0 = false ∨ ¬ s.heldStep (namedCtx h) step = true) :
    execStepCommit h step s = s.finishes h stREFUSED :=
  hostCommand_fails ha rfl (bad := (stREFUSED, noDetail)) (by
    obtain hopt | hfree := hnot
    · simp only [firstBad_check, hopt, Bool.not_false, Bool.true_or, if_true]
      rfl
    · simp [hfree, noDetail])

end

section
variable (ha : s.accepts h stepAbandonRow = true)
include ha

theorem stepAbandon_decides (hheld : s.heldStep (namedCtx h) step = true) :
    execStepAbandon h step s = (s.decideAs (namedCtx h) 3 0 0xFFFF).finishes h :=
  hostCommand_checked ha rfl (by simp [hheld])

theorem stepAbandon_refuses (hfree : ¬ s.heldStep (namedCtx h) step = true) :
    execStepAbandon h step s = s.finishes h stREFUSED :=
  hostCommand_fails ha rfl (bad := (stREFUSED, noDetail)) (by simp [noDetail, hfree])

end

end

/-! ## STREAM_CANCEL (R233, R383) -/

section
variable {s : State} {h : Hdr} {a : CancelArgs} (ha : s.accepts h streamCancelRow = true)
include ha

theorem streamCancel_of_bad_scope (hscope : 2 < a.scope.toNat) : execStreamCancel h a s = s.finishes h stBAD_ARG 0 :=
  hostCommand_fails ha rfl (bad := (stBAD_ARG, 0)) (by simp [hscope])

theorem streamCancel_of_context (hscope : a.scope = 0) : execStreamCancel h a s =
    (s.cancelStreams (fun _ m => m.ctx == namedCtx h)).finishes h :=
  (hostCommand_checked ha rfl (by simp [hscope])).trans (by simp [State.cancelNamed, hscope])

theorem streamCancel_of_region (hscope : a.scope = 1) : execStreamCancel h a s =
    (s.cancelStreams (fun _ m => m.ctx == namedCtx h && m.region == a.region)).finishes h :=
  (hostCommand_checked ha rfl (by simp [hscope])).trans (by simp [State.cancelNamed, hscope])

section
variable (hscope : a.scope = 2) {c : CoreId} (hcore : a.lcore.toNat = c.val)
include hscope hcore

theorem streamCancel_of_ticket (hcurrent : s.ticketCurrent (namedCtx h) c.val a.ticket = true) : execStreamCancel h a s =
    (s.cancelStream (clusterOfCore c) (slotOf c.val (a.ticket.toNat % 16))).finishes h := by
  have cluster : c.val / 32 < 1600 := (clusterOfCore c).isLt
  have named : s.cancelNamed (namedCtx h) a = s.cancelStream (clusterOfCore c) (slotOf c.val (a.ticket.toNat % 16)) := by
    simp only [State.cancelNamed, hscope, hcore, if_true, dif_pos cluster]
    rfl
  exact named ▸ hostCommand_checked ha rfl (by simp [hscope, hcore, hcurrent, Nat.not_le.mpr c.isLt])

theorem streamCancel_of_stray (hstray : s.ticketCurrent (namedCtx h) c.val a.ticket = false) :
    execStreamCancel h a s = s.finishes h stBAD_ARG 8 :=
  hostCommand_fails ha rfl (bad := (stBAD_ARG, 8)) (by simp [hscope, hcore, hstray, Nat.not_le.mpr c.isLt])

end

end

/-- Settles O47: each command by the checks that end it and by its effect where they pass. -/
theorem regionStepAndStreamCommands : Obligations.RegionStepAndStreamCommands := by
  unfold Obligations.RegionStepAndStreamCommands
  refine ⟨?loads, ?steps⟩
  case loads =>
    intro s h recs a b x c sent
    refine ⟨fun ha => ⟨?noRecords, fun hrecs hlen hunsent =>
          ⟨fun e => regionMap_refuses ha hrecs hlen hunsent, fun hgood => regionMap_maps ha hrecs hlen hgood hunsent⟩,
        regionMap_at_worker ha,
        fun hsent hmanager hidle hrecs hlen hgood => regionMap_broadcasts ha hrecs hlen hgood hsent hmanager hidle⟩,
      fun ha => ⟨fun hunsent => ⟨fun e => programLoad_refuses ha hunsent, ?loaded⟩, programLoad_at_worker ha⟩,
      fun ha => ⟨fun hnodes hctx hflags => treeSet_refuses ha (treeSetBad_of_no_nodes hnodes hctx hflags),
        fun hgood hjob => ⟨treeSet_busy ha hgood hjob, treeSet_installs ha hgood hjob⟩⟩⟩
    case noRecords =>
      rintro rfl hunsent
      exact regionMap_of_none ha hunsent
    case loaded =>
      intro hgood
      refine ⟨_, programLoad_loads ha hunsent hgood, ?_⟩
      rw [loadedWith_regionOf]
      exact ⟨rfl, rfl, rfl, rfl⟩
  case steps =>
    intro s h b step a x c held
    have heldStep : s.heldStep x step = true ↔ held := heldStep_iff s x step
    refine ⟨fun ha => ⟨stepBegin_at_worker ha, ?changing, ?begins⟩, fun ha => ⟨?commit, ?uncommitted⟩,
      fun ha => ⟨fun hheld => stepAbandon_decides ha (heldStep.mpr hheld),
        fun hfree => stepAbandon_refuses ha (mt heldStep.mp hfree)⟩,
      fun ha => ⟨streamCancel_of_bad_scope ha, streamCancel_of_context ha, streamCancel_of_region ha,
        fun hscope d hcore => ⟨streamCancel_of_ticket ha hscope hcore, streamCancel_of_stray ha hscope hcore⟩⟩⟩
    case changing =>
      intro hmanager hswap hclosed
      exact stepBegin_held ha hmanager (by simp [State.changesSlot, c, x, *])
    case begins =>
      intro hmanager hswap
      have settled : s.changesSlot x = false := by
        obtain hswap | hopen := hswap <;> simp [State.changesSlot, c, x, *]
      refine ⟨fun e => stepBegin_refuses ha hmanager settled,
        fun hgood hlocal => ⟨stepBegin_opens ha hmanager settled hgood hlocal, ?_⟩⟩
      rw [openStep_ctxOf]
      exact ⟨rfl, rfl, rfl, rfl, rfl⟩
    case commit =>
      exact fun hopt hheld => stepCommit_decides ha hopt (heldStep.mpr hheld)
    case uncommitted =>
      exact fun hnot => stepCommit_refuses ha (hnot.imp_right (mt heldStep.mp))

end Sys2Proof.Machine
end

section
/-! PROOFS. Images and weight slots (R202, R214, R274 to R277, R280): the next extent of an installation, the erasure of a
slot, and the switch of weight slots. -/

set_option linter.unusedVariables false

namespace Sys2Proof.Machine

open Sys2Proof

/-- The end of a command changes its mailbox and what the host is given, and nothing else. -/
theorem complete_frame (s : State) (h : Hdr) (st : Byte) (d : W32) (nan : Bool) (r : List W64) :
    ∃ mboxes out, s.complete h st d nan r = { s with mboxes := mboxes, hostOut := out } := by
  unfold State.complete
  dsimp only
  split <;> exact ⟨_, _, rfl⟩

theorem completeSome_frame (s : State) (h : Option Hdr) (st : Byte) :
    ∃ mboxes out, s.completeSome h st = { s with mboxes := mboxes, hostOut := out } := by
  cases h with
  | none => exact ⟨_, _, rfl⟩
  | some h => exact complete_frame ..

/-! ## Image slots -/

@[simp] theorem putImage_imageOf (s : State) (n : Nat) (i : ImageSlot) : (s.putImage n i).imageOf n = i :=
  tget_tput_same ..

/-- The end of an installation takes it from the Press and completes its command. -/
theorem endInstall_frame (s : State) (st : Byte) : ∃ mboxes out, s.endInstall st =
    { s with press := { s.press with install := none }, mboxes := mboxes, hostOut := out } := by
  unfold State.endInstall
  split
  · next hnone => exact ⟨s.mboxes, s.hostOut, by rw [← hnone]⟩
  · exact complete_frame ..

theorem endInstall_press (s : State) (st : Byte) : (s.endInstall st).press = { s.press with install := none } := by
  obtain ⟨_, _, ended⟩ := endInstall_frame s st
  rw [ended]

theorem endInstall_ctxOf (s : State) (st : Byte) (x : Nat) : (s.endInstall st).ctxOf x = s.ctxOf x := by
  obtain ⟨_, _, ended⟩ := endInstall_frame s st
  rw [ended]
  rfl

theorem endInstall_imageOf (s : State) (st : Byte) (n : Nat) : (s.endInstall st).imageOf n = s.imageOf n := by
  rw [State.imageOf, endInstall_press, State.imageOf]

/-! ## The next extent (R276) -/

/-- R276: the tiles `l`, up to tile `last`, are the next extent of the installation `w` under way, in the slot that reads
as `i`. -/
structure State.ClosesExtent (s : State) (w : Install) (i : ImageSlot) (last : W32) (l : List (Nat × ImageTile)) :
    Prop where
  works : s.mode.works = true
  installs : s.press.install = some w
  image : s.imageOf w.slot.val = i
  arrived : extentTiles i w.arrived i.nextTile.toNat last.toNat = some l
  incomplete : i.state = .incomplete
  first_le : i.nextTile.toNat ≤ last.toNat
  last_lt : last.toNat < i.tileCount.toNat
  fits : extentStored i l ≤ 2 ^ 30
  closes : extentCloses i w.arrived last.toNat (extentStored i l) = true

/-- The logical blocks of the next extent of an installation. -/
def Install.blocks (w : Install) (i : ImageSlot) (l : List (Nat × ImageTile)) : List Nat :=
  extentBlocks w.slot.val i.extents.toNat (extentStored i l)

/-- R214, R276: an extent has been written to fresh blocks, some others having failed to program. -/
def State.writeExtent (s : State) (blocks : List Nat) (bad : Nat) : State :=
  blocks.foldl State.programBlock ((List.range bad).foldl (fun s _ => s.failProgram) s)

/-- R276: the slot with the tiles of one more extent committed. -/
def ImageSlot.committed (i : ImageSlot) (last : W32) (l : List (Nat × ImageTile)) : ImageSlot :=
  { i with extents := satAdd16 i.extents 1, nextTile := last + 1, stored := i.stored + extentStored i l,
           tiles := l.foldl (fun t e => tput none t e.1 (some e.2)) i.tiles }

/-- R202, R276: the slot with its last extent committed; its charge is its stored length from now on. -/
def ImageSlot.completed (i : ImageSlot) : ImageSlot :=
  { i with state := .complete, held := false, extentsTotal := i.extents }

/-- The installation goes on with the tiles beyond a committed extent. -/
def State.keepArrived (s : State) (w : Install) (last : W32) : State :=
  { s with press := { s.press with install := some { w with
    retried := false, arrived := w.arrived.filter (fun e => last.toNat < e.1) } } }

/-- R276: an extent that fails its check for the first time is to be written again. -/
def State.retryExtent (s : State) (w : Install) : State :=
  { s with press := { s.press with install := some { w with retried := true } } }

/-- R202: the charge of a context for an image changes with the image. -/
def State.recharge (s : State) (x : CtxId) (i j : ImageSlot) : State :=
  s.modCtx x.val (fun c => { c with pressUsed := c.pressUsed - imageCharge i + imageCharge j })

/-- R214: a block that is retired charges no context. -/
theorem retireBlock_ctxs (s : State) (b : Nat) : (s.retireBlock b).ctxs = s.ctxs := by
  unfold State.retireBlock
  extract_lets _ t _ p low u
  have counted : u.ctxs = s.ctxs := by
    obtain ⟨_, _, _, bumped⟩ := bump_frame { t with press := { p with lowNoticed := p.lowNoticed || low } }
      0 (0x50800 + 8 * 5) 1
    exact (congrArg State.ctxs bumped).trans rfl
  split
  · obtain ⟨_, _, raised⟩ := raise_frame u .notice 214 0 srcPress none [w64 p.reserveRetired]
    exact (congrArg State.ctxs raised).trans counted
  · exact counted

theorem writeExtent_ctxs (s : State) (blocks : List Nat) (bad : Nat) : (s.writeExtent blocks bad).ctxs = s.ctxs := by
  obtain ⟨_, programmed⟩ := programBlocks_frame ((List.range bad).foldl (fun s _ => s.failProgram) s) blocks
  rw [State.writeExtent, programmed]
  exact each_ctxs (fun t _ => retireBlock_ctxs t _) (List.range bad) s

section
variable {s : State} {w : Install} {i : ImageSlot} {last : W32} {l : List (Nat × ImageTile)}
  (h : s.ClosesExtent w i last l) (bad : Nat)
include h

/-- R276: what the next extent does, by whether it reads back and whether it is the last one. -/
theorem pressExtentCommit_closes (ok : Bool) {whole : Bool} (hwhole : whole = decide (last.toNat + 1 = i.tileCount.toNat)) :
    let t := s.writeExtent (w.blocks i l) bad
    let v := t.eraseLogical (w.blocks i l).contains []
    execPressExtentCommit i.nextTile last ⟨extentStored i l, bad⟩ ok whole s = .next (
      if !ok then
        if w.retried then (v.putImage w.slot.val { i with state := .erasing }).endInstall stPOISONED else v.retryExtent w
      else if whole then
        (((t.keepArrived w last).recharge w.ctx i (i.committed last l).completed).putImage w.slot.val
          (i.committed last l).completed).endInstall stOK
      else (t.keepArrived w last).putImage w.slot.val (i.committed last l)) := by
  have closing := h.closes
  have small : extentStored i l ≤ extentBytes := h.fits
  unfold execPressExtentCommit
  simp only [h.installs, h.image, h.arrived]
  rw [if_neg (by simp [h.works, h.incomplete, h.first_le, h.last_lt, small, closing, hwhole])]
  cases ok with
  | false => cases hretried : w.retried <;> rfl
  | true => cases whole <;> rfl

/-- R202: the last extent ends the installation with the slot COMPLETE. -/
theorem pressExtentCommit_completes (hlast : last.toNat + 1 = i.tileCount.toNat) :
    ∃ u, execPressExtentCommit i.nextTile last ⟨extentStored i l, bad⟩ true true s = .next u ∧
      u.press.install = none ∧ u.press.map = (s.writeExtent (w.blocks i l) bad).press.map ∧
      u.imageOf w.slot.val = (i.committed last l).completed ∧
      (u.ctxOf w.ctx.val).pressUsed =
        (s.ctxOf w.ctx.val).pressUsed - imageCharge i + imageCharge (i.committed last l).completed := by
  have charged : ((((s.writeExtent (w.blocks i l) bad).keepArrived w last).recharge w.ctx i
      (i.committed last l).completed).ctxOf w.ctx.val).pressUsed =
        (s.ctxOf w.ctx.val).pressUsed - imageCharge i + imageCharge (i.committed last l).completed := by
    rw [← ctxOf_of_ctxs (writeExtent_ctxs s (w.blocks i l) bad)]
    exact congrArg Ctx.pressUsed (State.putCtx_same ..)
  refine ⟨_, pressExtentCommit_closes h bad true (by simp [hlast]), ?_⟩
  simp only [Bool.not_true, Bool.false_eq_true, if_false, if_true, endInstall_press, endInstall_imageOf, endInstall_ctxOf]
  exact ⟨trivial, rfl, putImage_imageOf .., charged⟩

/-- R276: an extent that fails its check a second time leaves the slot ERASING. -/
theorem pressExtentCommit_gives_up {whole : Bool} (hwhole : whole = decide (last.toNat + 1 = i.tileCount.toNat))
    (hretried : w.retried = true) :
    ∃ u, execPressExtentCommit i.nextTile last ⟨extentStored i l, bad⟩ false whole s = .next u ∧
      u.press.install = none ∧ u.imageOf w.slot.val = { i with state := .erasing } := by
  refine ⟨_, pressExtentCommit_closes h bad false hwhole, ?_⟩
  simp only [Bool.not_false, if_true, hretried, endInstall_press, endInstall_imageOf]
  exact ⟨trivial, putImage_imageOf ..⟩

end

/-! ## The erasure of a slot (R274, R277) -/

theorem incompleteSlotErase_erases {s : State} {n : Fin 32} (hworks : s.mode.works = true)
    (hincomplete : (s.imageOf n.val).state = .incomplete) (hheld : (s.imageOf n.val).held = false)
    (hidle : s.press.install = none) :
    execIncompleteSlotErase n s = .next (s.putImage n.val { s.imageOf n.val with state := .erasing }) := by
  simp [execIncompleteSlotErase, hworks, hincomplete, hheld, hidle]

theorem dischargeImage_of_uncharged {s : State} {n : Nat} (huncharged : (s.imageOf n).charged = none) :
    s.dischargeImage n = s := by
  simp [State.dischargeImage, huncharged]

theorem imageSlotErased_empties {s : State} {n : Fin 32} (hworks : s.mode.works = true)
    (herasing : (s.imageOf n.val).state = .erasing) (huncharged : (s.imageOf n.val).charged = none) (failed : List Nat) :
    execImageSlotErased ⟨n, failed⟩ s =
      .next ((s.eraseLogical (fun l => l / 2 ^ 48 == n.val) failed).putImage n.val {}) := by
  simp [execImageSlotErased, hworks, herasing, dischargeImage_of_uncharged huncharged]

/-! ## Weight slots (R280) -/

/-- R280: a batch boundary makes the filled slot ACTIVE, and completes the WEIGHT_SWAP. -/
theorem switchSlots_frame (s : State) (x : CtxId) : ∃ mboxes out bindings, s.switchSlots x =
    { s.putCtx x.val { s.ctxOf x.val with
        activeB := !(s.ctxOf x.val).activeB, swap := .freeing, swapObjects := [], swapCmd := none,
        refs := s.slotReferences x (s.ctxOf x.val).activeB, bindings := bindings } with
      mboxes := mboxes, hostOut := out } := by
  obtain ⟨mboxes, out, completed⟩ := completeSome_frame _ (s.ctxOf x.val).swapCmd stOK
  exact ⟨mboxes, out, _, completed⟩

theorem slotSwitch_switches {s : State} {x : CtxId} (hworks : s.mode.works = true)
    (hwaiting : (s.ctxOf x.val).swap = .waiting) (hclosed : (s.ctxOf x.val).isOpen = false) :
    execSlotSwitch x s = .next (s.switchSlots x) := by
  simp [execSlotSwitch, State.changesSlot, hworks, hwaiting, hclosed]

/-- R202: a context whose tiles are freed holds less Hamper, and is otherwise as it was. -/
theorem freeTiles_ctxOf (s : State) (x : Nat) (keys : List Nat) :
    ∃ used, (s.freeTiles x keys).ctxOf x = { s.ctxOf x with hamperUsed := used } := by
  refine each_keeps (P := fun t => ∃ used, t.ctxOf x = { s.ctxOf x with hamperUsed := used }) (fun u key hu => ?_) keys
    ⟨_, rfl⟩
  obtain ⟨used, hu⟩ := hu
  extract_lets t len home direct
  have hhome : ∃ used, home.ctxOf x = { s.ctxOf x with hamperUsed := used } := by
    have discharged (v : State) (hv : v.ctxOf x = u.ctxOf x) :
        (v.modCtx x (fun c => { c with hamperUsed := c.hamperUsed - len })).ctxOf x =
          { s.ctxOf x with hamperUsed := used - len } := by
      rw [State.modCtx, State.putCtx_same, hv, hu]
    unfold home
    cases t.declHome with
    | hamper h q => exact ⟨_, discharged _ rfl⟩
    | basket k => exact ⟨_, hu⟩
    | lost =>
      dsimp only
      split
      · exact ⟨_, discharged u rfl⟩
      · exact ⟨_, hu⟩
    | pocket c e => exact ⟨_, hu⟩
  have hdirect : direct.ctxOf x = home.ctxOf x := by
    unfold direct
    cases t.directAt <;> rfl
  exact hhome.imp fun _ held => hdirect.trans held

/-- A tile that is freed is EMPTY, and no other tile changes. -/
theorem freeTile_tiles (s : State) (x key : Nat) : (s.freeTiles x [key]).tiles = tput {} s.tiles key {} := by
  unfold State.freeTiles State.each
  rw [List.foldl_cons]
  extract_lets t len home direct
  have hhome : home.tiles = s.tiles := by
    unfold home
    cases t.declHome with
    | lost => dsimp only; split <;> rfl
    | _ => rfl
  have hdirect : direct.tiles = home.tiles := by
    unfold direct
    cases t.directAt <;> rfl
  exact congrArg (tput {} · key {}) (hdirect.trans hhome)

theorem freeTiles_tileOf {keys : List Nat} {key : Nat} (hkey : key ∈ keys) (s : State) (x : Nat) :
    (s.freeTiles x keys).tileOf key = {} := by
  have frees (s : State) : (s.freeTiles x [key]).tileOf key = {} := by
    rw [State.tileOf, freeTile_tiles, tget_tput_same]
  have keeps (s : State) (other : Nat) (h : s.tileOf key = {}) : (s.freeTiles x [other]).tileOf key = {} := by
    obtain rfl | hne := eq_or_ne key other
    · exact frees s
    · rw [State.tileOf, freeTile_tiles, tget_tput_ne _ _ _ hne, ← State.tileOf, h]
  induction keys generalizing s with
  | nil => exact absurd hkey List.not_mem_nil
  | cons other keys ih =>
    obtain rfl | hkey := List.mem_cons.mp hkey
    · exact each_keeps (P := fun t => t.tileOf key = {}) (fun t o ht => keeps t o ht) keys (frees s)
    · exact ih hkey _

/-- The slot that is not ACTIVE is free, and the change of slots has ended. -/
def Ctx.freed (c : Ctx) : Ctx :=
  { c with
    swap := .none
    slotA := if c.activeB then { c.slotA with valid := false } else c.slotA
    slotB := if c.activeB then c.slotB else { c.slotB with valid := false } }

theorem oldCopyFree_frees {s : State} {x : CtxId} (hworks : s.mode.works = true)
    (hfreeing : (s.ctxOf x.val).swap = .freeing) (hrefs : (s.ctxOf x.val).refs = 0) :
    execOldCopyFree x s = .next
      ((s.freeTiles x.val (s.slotKeys x.val (!(s.ctxOf x.val).activeB))).modCtx x.val Ctx.freed) :=
  (if_neg (by simp [hworks, hfreeing, hrefs])).trans rfl

/-- Settles O37: the four ends of an extent, the two of an erasure, and the two steps of the change of slots. -/
theorem imagesAndWeightSlots : Obligations.ImagesAndWeightSlots := by
  unfold Obligations.ImagesAndWeightSlots
  intro s w last n x failed hworks
  refine ⟨?extent, incompleteSlotErase_erases hworks, fun herasing huncharged =>
    imageSlotErased_empties hworks herasing huncharged failed, ?switch, ?free⟩
  case extent =>
    intro hinstall i whole l bad hl bytes hincomplete hfirst hlast hfits hcloses blocks t next
    have closes : s.ClosesExtent w i last l := ⟨hworks, hinstall, rfl, hl, hincomplete, hfirst, hlast, hfits, hcloses⟩
    refine ⟨fun hwhole => ?commits, fun hwhole => ?completes, fun hfirstTry => ?retries,
      pressExtentCommit_gives_up closes bad rfl⟩
    case commits => exact (pressExtentCommit_closes closes bad true hwhole.symm).trans rfl
    case completes => exact pressExtentCommit_completes closes bad (of_decide_eq_true hwhole)
    case retries =>
      refine (pressExtentCommit_closes closes bad false rfl).trans ?_
      simp only [hfirstTry]
      rfl
  case switch =>
    intro c hwaiting hclosed
    obtain ⟨mboxes, out, bindings, switched⟩ := switchSlots_frame s x
    refine ⟨_, slotSwitch_switches hworks hwaiting hclosed, ?_⟩
    rw [switched]
    refine ⟨rfl, congrArg Ctx.activeB (State.putCtx_same ..), congrArg Ctx.swap (State.putCtx_same ..),
      congrArg Ctx.refs (State.putCtx_same ..), fun y hy => State.putCtx_ne _ _ (Fin.val_ne_of_ne hy)⟩
  case free =>
    intro c hfreeing hrefs
    obtain ⟨used, freed⟩ := freeTiles_ctxOf s x.val (s.slotKeys x.val (!c.activeB))
    refine ⟨_, oldCopyFree_frees hworks hfreeing hrefs, ?_⟩
    have left : (((s.freeTiles x.val (s.slotKeys x.val (!c.activeB))).modCtx x.val Ctx.freed).ctxOf x.val) =
        { c with hamperUsed := used }.freed := by
      rw [State.modCtx, State.putCtx_same, freed]
    rw [left]
    refine ⟨rfl, rfl, fun hB => ?_, fun hA => ?_, fun key hkey => freeTiles_tileOf hkey s x.val⟩
    · simp [Ctx.freed, hB]
    · simp [Ctx.freed, hA]

end Sys2Proof.Machine
end

section
/-! PROOFS. WEIGHT_BIND, WEIGHT_SWAP, PRESS_WRITE and PRESS_RESUME (R260, R275 to R277, R280, R382, R410). -/

set_option linter.unusedVariables false

namespace Sys2Proof.Machine

open Sys2Proof

/-! ## WEIGHT_BIND (R260, R279) -/

/-- Records within their ranges leave the decision to the checks after theirs. -/
theorem firstBad_bindRecs {s : State} {x : Nat} {recs : List BindRec} (hrecs : recs ≠ []) (hlen : recs.length ≤ 16)
    (hgood : ∀ e ∈ recs.zipIdx, s.badBindRec x recs e.2 e.1 = false) (r : List (Option Bad)) : firstBad
    (check (recs.isEmpty || decide (16 < recs.length)) stBAD_ARG ::
      (recs.zipIdx.find? (fun e => s.badBindRec x recs e.2 e.1)).map
        (fun e => (stBAD_ARG, BitVec.ofNat 32 e.2)) :: r) = firstBad r := by
  have counted : (recs.isEmpty || decide (16 < recs.length)) = false := by simp [hrecs, hlen]
  have inRange : recs.zipIdx.find? (fun e => s.badBindRec x recs e.2 e.1) = none :=
    List.find?_eq_none.mpr fun e he => by simp [hgood e he]
  rw [firstBad_check, counted, inRange]
  rfl

section
variable {s : State} {h : Hdr} {recs : List BindRec} (ha : s.accepts h weightBindRow = true)
include ha

theorem weightBind_of_bad_count (hcount : recs = [] ∨ 16 < recs.length) :
    execWeightBind h recs s = s.finishes h stBAD_ARG := by
  have bad : (recs.isEmpty || decide (16 < recs.length)) = true := by simpa using hcount
  exact hostCommand_fails ha rfl (bad := (stBAD_ARG, noDetail)) (by rw [firstBad_check, if_pos bad]; rfl)

variable (hrecs : recs ≠ []) (hlen : recs.length ≤ 16)
  (hgood : ∀ e ∈ recs.zipIdx, s.badBindRec (namedCtx h).val recs e.2 e.1 = false)
include hrecs hlen hgood

theorem weightBind_busy (hopen : (s.ctxOf (namedCtx h).val).isOpen = true) :
    execWeightBind h recs s = s.finishes h stBUSY :=
  hostCommand_fails ha rfl (bad := (stBUSY, noDetail)) (by
    rw [firstBad_bindRecs hrecs hlen hgood, firstBad_check, hopen]
    rfl)

/-- R260: bindings that are made; those of RESIDENT tiles wait for their fills (R279). -/
theorem weightBind_binds (hclosed : (s.ctxOf (namedCtx h).val).isOpen = false)
    (hfills : (s.ctxOf (namedCtx h).val).fills = []) (hswap : (s.ctxOf (namedCtx h).val).swap = .none)
    (hready : ∀ b ∈ recs, s.bindNotReady recs b = false)
    (hquota : (s.bindAll (namedCtx h).val recs).hamperOver (namedCtx h).val = false) :
    let t := (s.bindAll (namedCtx h).val recs).measure (namedCtx h).val 0x20 (recs.flatMap bindRecBytes)
    execWeightBind h recs s = if recs.any BindRec_resident then (t.fillBindings (namedCtx h).val recs h).awaits h
      else t.finishes h := by
  have ready : recs.findIdx? (s.bindNotReady recs) = none := List.findIdx?_eq_none_iff.mpr hready
  refine (hostCommand_passes ha rfl ?_).trans ?_
  · rw [firstBad_bindRecs hrecs hlen hgood]
    simp [hclosed, hfills, hswap, checkRecords, ready, hquota]
  · split <;> rfl

end

/-! ## WEIGHT_SWAP (R280, R382) -/

section
variable {s : State} {h : Hdr} {a : SwapArgs} (ha : s.accepts h weightSwapRow = true)
include ha

theorem weightSwap_refuses (hidle : (s.ctxOf (namedCtx h).val).serving = false) :
    execWeightSwap h a s = s.finishes h stREFUSED :=
  hostCommand_fails ha rfl (bad := (stREFUSED, noDetail)) (by rw [firstBad_check, hidle]; rfl)

variable (hserving : (s.ctxOf (namedCtx h).val).serving = true)
include hserving

theorem weightSwap_of_active_tag (htag : a.version = (s.ctxOf (namedCtx h).val).activeTag) :
    execWeightSwap h a s = s.finishes h stBAD_ARG 0 :=
  hostCommand_fails ha rfl (bad := (stBAD_ARG, 0)) (by simp [hserving, htag])

/-- R280: a swap to which no image belongs declares the new copy, and waits until its tiles are filled. -/
theorem weightSwap_fills (htag : a.version ≠ (s.ctxOf (namedCtx h).val).activeTag) (hpairs : a.pairs = [])
    (hswap : (s.ctxOf (namedCtx h).val).swap = .none) (hvalid : (s.ctxOf (namedCtx h).val).anyValid = true)
    (hfills : (s.ctxOf (namedCtx h).val).fills = [])
    (himages : (s.ctxOf (namedCtx h).val).residents.any (fun e => e.2.source == 1) = false)
    (hkeys : ∀ e ∈ (s.ctxOf (namedCtx h).val).residents,
      (s.keyOf e.2.key).counter + (s.ctxOf (namedCtx h).val).residents.length ≤ 2 ^ 32)
    (hquota : (s.declareSwap (namedCtx h).val).hamperOver (namedCtx h).val = false) :
    execWeightSwap h a s = (((s.declareSwap (namedCtx h).val).measure (namedCtx h).val 0x21 (swapBytes a)).startSwap
      (namedCtx h).val h a).awaits h := by
  have complete (bad : Nat × Binding → Bool) :
      (s.ctxOf (namedCtx h).val).residents.any (fun e => e.2.source == 1 && bad e) = false :=
    List.any_eq_false.mpr fun e he => by
      have image := List.any_eq_false.mp himages e he
      simp only [Bool.and_eq_true]
      exact fun both => image both.1
  have unspent : (s.ctxOf (namedCtx h).val).residents.any (fun e => s.keySpent e.2.key
      ((s.ctxOf (namedCtx h).val).residents.filter (fun r => r.2.key == e.2.key)).length) = false := by
    refine List.any_eq_false.mpr fun e he => ?_
    have own := List.length_filter_le (fun r : Nat × Binding => r.2.key == e.2.key)
      (s.ctxOf (namedCtx h).val).residents
    have total := hkeys e he
    simp only [State.keySpent, decide_eq_true_eq]
    omega
  refine (hostCommand_passes ha rfl ?_).trans rfl
  simp only [firstBad_check, complete, unspent]
  simp [hserving, htag, hpairs, hswap, hvalid, hfills, hquota]

end

/-! ## Installations (R275, R277) -/

section
variable {s : State} {x : CtxId} {slot ctx : Byte} {key : W16} (hslot : slot.toNat < 32) (hkey : key.toNat < 256)
  (hports : s.portsFor x.val ≠ [])
include hslot hkey hports

/-- A slot that is not as the command needs it decides. -/
theorem firstBad_installChecks_own {own : List (Option Bad)} {bad : Bad} (hown : firstBad own = some bad) (charge : Nat) :
    firstBad (s.installChecks x slot ctx key own charge) = some bad := by
  have ranges : firstBad [check (decide (32 ≤ slot.toNat)) stBAD_ARG 0, check (decide (256 ≤ key.toNat)) stBAD_ARG,
      check (s.portsFor x.val == []) stBAD_ARG] = none := by
    simp [Nat.not_le.mpr hslot, Nat.not_le.mpr hkey, hports]
  rw [State.installChecks, firstBad_append_some ((firstBad_append ranges own).trans hown)]

/-- R275: an installation may begin where the reserve lasts, none is under way, the key can number its stream and the
quota has room for its charge. -/
theorem firstBad_installChecks_none {own : List (Option Bad)} {charge : Nat} (hown : firstBad own = none)
    (hreserve : s.press.reserveBelow 100 = false) (hidle : s.press.install = none)
    (hfilled : (s.keyOf key.toNat).filled = true) (hcounter : (s.keyOf key.toNat).counter < 2 ^ 32)
    (hquota : (s.ctxOf x.val).pressUsed + charge ≤ (s.ctxOf x.val).pressQuota * 1000000000) :
    firstBad (s.installChecks x slot ctx key own charge) = none := by
  have ranges : firstBad [check (decide (32 ≤ slot.toNat)) stBAD_ARG 0, check (decide (256 ≤ key.toNat)) stBAD_ARG,
      check (s.portsFor x.val == []) stBAD_ARG] = none := by
    simp [Nat.not_le.mpr hslot, Nat.not_le.mpr hkey, hports]
  have unspent : s.keySpent key.toNat 1 = false := decide_eq_false (by omega)
  rw [State.installChecks, firstBad_append ((firstBad_append ranges own).trans hown)]
  simp [hreserve, hidle, hfilled, unspent, Nat.not_lt.mpr hquota]

end

/-- R275 to R277: the installation that a command begins in a slot, before it asks for tiles. -/
def newInstall (s : State) (x : CtxId) (n : Nat) (i : ImageSlot) (key : W16) (h : Hdr) (op : W16) : Install :=
  { slot := Fin.ofNat 32 n, ctx := x, key := key.toNat, cmd := h, opcode := op
    number := BitVec.ofNat 32 (s.keyOf key.toNat).counter, first := i.nextTile.toNat
    asks := { next := i.nextTile.toNat, last := i.tileCount.toNat } }

/-- R275: the module as an installation begins, before it asks for tiles. -/
def State.installing (s : State) (x : CtxId) (n : Nat) (i : ImageSlot) (key : W16) (h : Hdr) (op : W16) (charge : Nat) :
    State :=
  let t := ((s.modCtx x.val (fun c => { c with pressUsed := c.pressUsed + charge })).modKey key.toNat (fun k =>
    { k with counter := k.counter + 1 })).putImage n { i with charged := some x }
  { t with press := { t.press with install := some (newInstall s x n i key h op) } }

section
variable (s : State) (x : CtxId) (n : Nat) (i : ImageSlot) (key : W16) (h : Hdr) (op : W16) (charge : Nat)

theorem beginInstall_eq : s.beginInstall x n i key h op charge = (s.installing x n i key h op charge).pump := rfl

theorem installing_counter : ((s.installing x n i key h op charge).keyOf key.toNat).counter =
    (s.keyOf key.toNat).counter + 1 := congrArg KeySlot.counter (tget_tput_same ..)

theorem installing_imageOf : (s.installing x n i key h op charge).imageOf n = { i with charged := some x } :=
  tget_tput_same ..

theorem installing_ctxOf : (s.installing x n i key h op charge).ctxOf x.val =
    { s.ctxOf x.val with pressUsed := (s.ctxOf x.val).pressUsed + charge } := tget_tput_same ..

end

/-! ## PRESS_WRITE (R275, R410) -/

/-- R205, R410: the media key-encryption key exists, and one more key pair has been made. -/
def State.newMediaPair (s : State) : State :=
  { s with mgmt := { s.mgmt with keyEncryptionKey := true, keyPairs := s.mgmt.keyPairs + 1 } }

section
variable {x : CtxId} {p : PressArgs} (hctx : p.ctx.toNat = x.val) (hflags : p.flags &&& 0xFE = 0)
include hctx hflags

theorem firstBad_pressNames : firstBad [check (p.ctx.toNat != x.val) stBAD_ARG 2,
    check (p.flags &&& 0xFE != 0) stBAD_ARG 3] = none := by
  simp only [firstBad_check, hctx, hflags, bne_self_eq_false, Bool.false_eq_true, if_false, firstBad_nil]

/-- Arguments within their ranges leave the decision to the checks of an installation. -/
theorem firstBad_pressArgs (htiles : p.tileCount ≠ 0) (hfmt : p.fmt.toNat < 15) (r : List (Option Bad)) : firstBad ([
    check (p.ctx.toNat != x.val) stBAD_ARG 2, check (p.flags &&& 0xFE != 0) stBAD_ARG 3,
    check (p.tileCount == 0) stBAD_ARG 16, check (decide (15 ≤ p.fmt.toNat)) stBAD_ARG 20] ++ r) = firstBad r := by
  refine firstBad_append ((firstBad_append (firstBad_pressNames hctx hflags) _).trans ?_) r
  simp only [firstBad_check, beq_eq_false_iff_ne.mpr htiles, Nat.not_le.mpr hfmt, decide_false, Bool.false_eq_true,
    if_false, firstBad_nil]

/-- An erase of a slot by its context is left to what names the slot, and to what the Press is doing. -/
theorem firstBad_eraseArgs (hslot : p.slot.toNat < 32) (r : List (Option Bad)) : firstBad (
    check (decide (32 ≤ p.slot.toNat)) stBAD_ARG 0 :: check (p.ctx.toNat != x.val) stBAD_ARG 2 ::
    check (p.flags &&& 0xFE != 0) stBAD_ARG 3 :: r) = firstBad r := by
  rw [firstBad_check, decide_eq_false (Nat.not_le.mpr hslot)]
  exact firstBad_append (firstBad_pressNames hctx hflags) r

end

section
variable {s : State} {h : Hdr} {p : PressArgs} (ha : s.accepts h pressWriteRow = true)
  (hctx : p.ctx.toNat = (namedCtx h).val) (hflags : p.flags &&& 0xFE = 0) (hslot : p.slot.toNat < 32)
include ha hctx hflags hslot

section
variable (htiles : p.tileCount ≠ 0) (hfmt : p.fmt.toNat < 15) (hkey : p.key.toNat < 256)
  (hports : s.portsFor (namedCtx h).val ≠ [])
include htiles hfmt hkey hports

theorem pressWriteInstall_refuses (hheld : (s.imageOf p.slot.toNat).state ≠ .empty) :
    execPressWriteInstall h p s = s.finishes h stREFUSED :=
  hostCommand_fails ha rfl (bad := (stREFUSED, noDetail)) (by
    rw [firstBad_pressArgs hctx hflags htiles hfmt]
    exact firstBad_installChecks_own hslot hkey hports (by simp [hheld, noDetail]) _)

theorem pressWriteInstall_installs (hempty : (s.imageOf p.slot.toNat).state = .empty)
    (hreserve : s.press.reserveBelow 100 = false) (hidle : s.press.install = none)
    (hfilled : (s.keyOf p.key.toNat).filled = true) (hcounter : (s.keyOf p.key.toNat).counter < 2 ^ 32)
    (hquota : (s.ctxOf (namedCtx h).val).pressUsed + imageCharge (newImage p s.mgmt.keyPairs) ≤
      (s.ctxOf (namedCtx h).val).pressQuota * 1000000000) :
    execPressWriteInstall h p s = (s.newMediaPair.installing (namedCtx h) p.slot.toNat (newImage p s.mgmt.keyPairs) p.key h
      0x40 (imageCharge (newImage p s.mgmt.keyPairs))).pump.awaits h := by
  refine (hostCommand_passes ha rfl ?_).trans rfl
  rw [firstBad_pressArgs hctx hflags htiles hfmt]
  exact firstBad_installChecks_none hslot hkey hports (by simp [hempty]) hreserve hidle hfilled hcounter hquota

end

theorem pressWriteErase_refuses (hnamed : s.slotNamed p.slot.toNat = true) :
    execPressWriteErase h p s = s.finishes h stREFUSED :=
  hostCommand_fails ha rfl (bad := (stREFUSED, noDetail)) (by
    rw [firstBad_eraseArgs hctx hflags hslot, firstBad_check, hnamed]
    rfl)

theorem pressWriteErase_erases (hfree : s.slotNamed p.slot.toNat = false) (hreserve : s.press.reserveBelow 100 = false)
    (hidle : s.press.install = none) : execPressWriteErase h p s =
      State.finishes (s.putImage p.slot.toNat { s.imageOf p.slot.toNat with state := .erasing, held := false }) h :=
  hostCommand_checked ha rfl (by
    rw [firstBad_eraseArgs hctx hflags hslot, firstBad_check, firstBad_check, hfree, hreserve, hidle]
    rfl)

end

/-! ## PRESS_RESUME (R277) -/

section
variable {s : State} {h : Hdr} {slot ctx : Byte} {key : W16} (ha : s.accepts h pressResumeRow = true)
  (hctx : ctx.toNat = (namedCtx h).val) (hslot : slot.toNat < 32) (hkey : key.toNat < 256)
  (hports : s.portsFor (namedCtx h).val ≠ [])
include ha hctx hslot hkey hports

theorem pressResume_of_not_held (hnot : (s.imageOf slot.toNat).state ≠ .incomplete ∨ (s.imageOf slot.toNat).held = false) :
    execPressResume h slot ctx key s = s.finishes h stBAD_ARG 0 := by
  have lost : ((s.imageOf slot.toNat).state != .incomplete || !(s.imageOf slot.toNat).held) = true :=
    (Bool.or_eq_true ..).mpr (hnot.imp bne_iff_ne.mpr (Bool.not_eq_true' _).mpr)
  refine hostCommand_fails ha rfl (bad := (stBAD_ARG, 0)) ?_
  rw [firstBad_append (by simp [hctx])]
  exact firstBad_installChecks_own hslot hkey hports (by rw [firstBad_check, if_pos lost]; rfl) _

/-- R277: a slot held by its own context goes on at no further charge. -/
theorem pressResume_resumes (hincomplete : (s.imageOf slot.toNat).state = .incomplete)
    (hheld : (s.imageOf slot.toNat).held = true) (hcharged : (s.imageOf slot.toNat).charged = some (namedCtx h))
    (hreserve : s.press.reserveBelow 100 = false) (hidle : s.press.install = none)
    (hfilled : (s.keyOf key.toNat).filled = true) (hcounter : (s.keyOf key.toNat).counter < 2 ^ 32)
    (hquota : (s.ctxOf (namedCtx h).val).pressUsed ≤ (s.ctxOf (namedCtx h).val).pressQuota * 1000000000) :
    execPressResume h slot ctx key s = (s.installing (namedCtx h) slot.toNat { s.imageOf slot.toNat with resumed := true }
      key h 0x41 0).pump.awaits h := by
  have own : s.dischargeOther (namedCtx h) slot.toNat = s := if_pos hcharged
  refine (hostCommand_passes ha rfl ?_).trans ?_
  · rw [firstBad_append (by simp [hctx]), if_pos hcharged]
    exact firstBad_installChecks_none hslot hkey hports (by simp [hincomplete, hheld]) hreserve hidle hfilled hcounter
      hquota
  · rw [own, if_pos hcharged]
    rfl

end

/-- Settles O48: each command by the checks that end it and by its effect where they pass. -/
theorem weightAndImageCommands : Obligations.WeightAndImageCommands := by
  unfold Obligations.WeightAndImageCommands
  intro s h recs a p slot ctx key x c
  refine ⟨fun ha => ⟨weightBind_of_bad_count ha, fun hrecs hlen hgood => ⟨weightBind_busy ha hrecs hlen hgood, ?binds⟩⟩,
    fun ha => ⟨weightSwap_refuses ha, weightSwap_of_active_tag ha, weightSwap_fills ha⟩,
    fun ha hctx hflags hslot => ⟨fun htiles hfmt hkey hports =>
        ⟨pressWriteInstall_refuses ha hctx hflags hslot htiles hfmt hkey hports, ?installs⟩,
      pressWriteErase_erases ha hctx hflags hslot, pressWriteErase_refuses ha hctx hflags hslot⟩,
    fun ha hctx hslot hkey hports => ⟨pressResume_of_not_held ha hctx hslot hkey hports, ?resumes⟩⟩
  case binds =>
    intro hclosed hfills hswap hready hquota t
    have bound := weightBind_binds ha hrecs hlen hgood hclosed hfills hswap hready hquota
    exact ⟨fun hstreamed => bound.trans (if_neg (by simp [hstreamed])), fun hresident => bound.trans (if_pos hresident)⟩
  case installs =>
    intro hempty hreserve hidle hfilled hcounter hquota number
    exact ⟨_, pressWriteInstall_installs ha hctx hflags hslot htiles hfmt hkey hports hempty hreserve hidle hfilled hcounter
      hquota, rfl, installing_counter .., installing_imageOf .., rfl, installing_ctxOf ..⟩
  case resumes =>
    intro hincomplete hheld hcharged hreserve hidle hfilled hcounter hquota number first
    refine ⟨_, pressResume_resumes ha hctx hslot hkey hports hincomplete hheld hcharged hreserve hidle hfilled hcounter
      hquota, rfl, (installing_imageOf ..).trans ?_⟩
    rw [← hcharged]

end Sys2Proof.Machine
end

section
/-! PROOFS. Routes and rings (R179, R180, R398, R400, R473): what a change of routes leaves alone, the test of a field, and
the batches of a ring. -/

set_option linter.unusedVariables false

namespace Sys2Proof.Machine

open Sys2Proof

/-! ## What a change of routes leaves alone -/

/-- The module without the parts that new routes, the aborts they bring and the records of a repair may change. -/
def State.besideRoutes (s : State) : State := { s.spared with mesh := [], darn := {} }

theorem besideRoutes_of_spared {s t : State} (h : t.spared = s.spared) : t.besideRoutes = s.besideRoutes :=
  congrArg (fun u : State => { u with mesh := [], darn := {} }) h

theorem besideRoutes_each {β : Type} {f : State → β → State} (hf : ∀ s b, (f s b).besideRoutes = s.besideRoutes)
    (l : List β) (s : State) : (s.each l f).besideRoutes = s.besideRoutes :=
  each_keeps (P := fun t => t.besideRoutes = s.besideRoutes) (fun t b ht => (hf t b).trans ht) l rfl

section
variable {s t : State} (h : t.besideRoutes = s.besideRoutes)
include h

theorem fieldOf_of_besideRoutes (f : Nat) : t.fieldOf f = s.fieldOf f :=
  show t.besideRoutes.fieldOf f = s.besideRoutes.fieldOf f from h ▸ rfl

theorem ring_of_besideRoutes : t.ring = s.ring := show t.besideRoutes.ring = s.besideRoutes.ring from h ▸ rfl

theorem hamperUp_of_besideRoutes : t.hamperUp = s.hamperUp :=
  show t.besideRoutes.hamperUp = s.besideRoutes.hamperUp from h ▸ rfl

theorem holdArea_of_besideRoutes : t.holdArea = s.holdArea :=
  show t.besideRoutes.holdArea = s.besideRoutes.holdArea from h ▸ rfl

end

theorem besideRoutes_raise (s : State) (c : EventClass) (r p : Nat) (src : Source) (x : Option Nat) (d : List W64) :
    (s.raise c r p src x d).besideRoutes = s.besideRoutes := besideRoutes_of_spared (spared_raise ..)

theorem besideRoutes_mesh (s : State) (mesh : List Flight) :
    ({ s with mesh := mesh } : State).besideRoutes = s.besideRoutes := rfl

theorem besideRoutes_darn (s : State) (darn : Darn) : ({ s with darn := darn } : State).besideRoutes = s.besideRoutes := rfl

theorem besideRoutes_thread (s : State) (thread : Thread) :
    ({ s with thread := thread } : State).besideRoutes = s.besideRoutes := rfl

theorem besideRoutes_dropAddressed (s : State) : s.dropAddressed.besideRoutes = s.besideRoutes :=
  (besideRoutes_mesh _ _).trans (besideRoutes_each (fun _ _ => besideRoutes_of_spared (spared_bump ..)) _ s)

/-- R179: new routes abort contexts and make regions STALE; the fields stay as they are. -/
theorem besideRoutes_detourUpdate (s : State) : s.detourUpdate.besideRoutes = s.besideRoutes := by
  refine (besideRoutes_dropAddressed _).trans ?_
  split
  · rfl
  · exact (besideRoutes_darn _ _).trans (besideRoutes_of_spared ((spared_staleRegions ..).trans (spared_abortOver ..)))

theorem besideRoutes_strand (s : State) (p : Nat → Bool) (src : Source) (core : Nat) (inside : List CtxId) :
    (s.strand p src core inside).besideRoutes = s.besideRoutes := by
  unfold State.strand
  extract_lets lost t u
  have emptied : t.besideRoutes = s.besideRoutes := rfl
  have counted : u.besideRoutes = t.besideRoutes := by
    unfold u
    split
    · rfl
    · exact besideRoutes_of_spared (spared_bump ..)
  exact (besideRoutes_each (fun _ _ => besideRoutes_of_spared ((spared_abortContext ..).trans (spared_raise ..))) _ u).trans
    (counted.trans emptied)

theorem besideRoutes_breakGroups (s : State) (f : Nat) (counts : List GroupId) :
    (s.breakGroups f counts).besideRoutes = s.besideRoutes :=
  besideRoutes_each (fun _ _ => besideRoutes_of_spared (spared_abortContext ..)) _ s

theorem besideRoutes_stopThread (s : State) (f : Nat) (all : Bool) :
    (s.stopThread f all).besideRoutes = s.besideRoutes := by
  have stops : (s.each (List.range 16) (fun t i => t.putThreadNode (clusterNode (16 * f + i)) {})).besideRoutes =
      s.besideRoutes := by
    refine besideRoutes_each ?_ _ s
    exact fun _ _ => rfl
  unfold State.stopThread
  dsimp only
  split
  · exact (besideRoutes_thread _ _).trans ((besideRoutes_thread _ _).trans stops)
  · exact stops

theorem besideRoutes_record (s : State) (p : Part) (host : Bool) (score : W16) :
    (s.record p host score).besideRoutes = s.besideRoutes := by
  unfold State.record
  split
  · rfl
  · split
    · rfl
    · exact (besideRoutes_raise ..).trans (besideRoutes_darn _ _)

theorem besideRoutes_losePlaces (s : State) (p : Nat → Bool) : (s.losePlaces p).besideRoutes = s.besideRoutes := rfl

/-- R398: a field that stops is in the state given. -/
theorem stopField_state (s : State) (f : Nat) (st : FieldState) (cause : StaleCause) (lost : FieldLoss) :
    ((s.stopField f st cause lost).fieldOf f).state = st := by
  unfold State.stopField
  extract_lets t u
  have stopped : (t.fieldOf f).state = st := congrArg Field.state (State.putField_same ..)
  have left : u.besideRoutes = t.besideRoutes :=
    (besideRoutes_losePlaces ..).trans (besideRoutes_of_spared (spared_staleRegions ..))
  have rest : (((u.strand (fun k => k / 16 == f) (srcField f) (512 * f) lost.inside).breakGroups f
      lost.counts).detourUpdate.stopThread f (st != .dark)).besideRoutes = u.besideRoutes :=
    (besideRoutes_stopThread ..).trans ((besideRoutes_detourUpdate _).trans ((besideRoutes_breakGroups ..).trans
      (besideRoutes_strand ..)))
  rw [fieldOf_of_besideRoutes (rest.trans left), stopped]

theorem retireField_state (s : State) (f : Nat) : ((s.retireField f).fieldOf f).state = .retired := by
  rw [State.retireField, fieldOf_of_besideRoutes (besideRoutes_record ..), stopField_state]

/-! ## The test of a field (R398, R400, R473) -/

theorem besideRoutes_repairRouter (s : State) (k : Nat) (host : Bool) :
    (s.repairRouter k host).besideRoutes = s.besideRoutes := by
  unfold State.repairRouter
  split
  · rfl
  · exact (besideRoutes_detourUpdate _).trans ((besideRoutes_strand ..).trans ((besideRoutes_of_spared
      (spared_staleRegions ..)).trans ((besideRoutes_raise ..).trans (besideRoutes_record ..))))

/-- What decides the result of a field's test beside the test itself: its tests so far; and the ring in progress. -/
def State.ringTests (s : State) (f : Nat) : Nat × BitVec 2 := (s.ring, (s.fieldOf f).tests)

theorem ringTests_of_besideRoutes {s t : State} (h : t.besideRoutes = s.besideRoutes) (f : Nat) :
    t.ringTests f = s.ringTests f := by
  rw [State.ringTests, ring_of_besideRoutes h, fieldOf_of_besideRoutes h, State.ringTests]

theorem ringTests_modField {g : Field → Field} (hg : ∀ v, (g v).tests = v.tests) (s : State) (e f : Nat) :
    (s.modField e g).ringTests f = s.ringTests f := by
  refine Prod.ext rfl ?_
  obtain rfl | hne := eq_or_ne f e
  · exact (congrArg Field.tests (State.putField_same ..)).trans (hg _)
  · exact congrArg Field.tests (State.putField_ne _ _ hne)

theorem ringTests_repairGroup (s : State) (p : Part) (host : Bool) (f : Nat) :
    (s.repairGroup p host).ringTests f = s.ringTests f := by
  have applied (t : State) (e b : Nat) : (t.applyBoundary e b).ringTests f = t.ringTests f := by
    unfold State.applyBoundary
    extract_lets old new u
    have mapped : u.ringTests f = t.ringTests f := ringTests_modField (by exact fun _ => rfl) t e f
    split
    · exact mapped
    · exact (ringTests_of_besideRoutes (besideRoutes_detourUpdate u) f).trans mapped
  have repaired := (applied _ p.t0.toNat p.t1.toNat).trans (ringTests_of_besideRoutes
    (besideRoutes_record s p host ((s.fieldOf p.t0.toNat).boundary p.t1.toNat).score) f)
  unfold State.repairGroup
  dsimp only
  split
  · exact (ringTests_of_besideRoutes (besideRoutes_raise ..) f).trans repaired
  · exact repaired

section
variable {t : FieldTest} (hcores : t.failedCores = []) (hunits : t.failedUnits = []) (s : State)
include hcores hunits

/-- R473: the repair of routers and boundary groups leaves the tests of a field. -/
theorem ringTests_repairTested (f : Nat) : (s.repairTested t).ringTests f = s.ringTests f := by
  unfold State.repairTested
  rw [hcores, hunits]
  refine (each_keeps (P := fun u => u.ringTests f = (s.each t.failedRouters _).ringTests f) (fun u g hu => ?_)
    t.failedGroups rfl).trans (each_keeps (P := fun u => u.ringTests f = s.ringTests f) (fun u c hu => ?_)
      t.failedRouters rfl)
  · exact (ringTests_repairGroup ..).trans ((ringTests_modField (by exact fun _ => rfl) ..).trans hu)
  · exact (ringTests_of_besideRoutes ((besideRoutes_repairRouter ..).trans rfl) f).trans hu

/-- R398, R425: a field that passes its test is ONLINE, its oscillator locked and its gates open. -/
theorem fieldTested_passes (hpass : t.pass = true) (himage : t.imageOk = true) :
    (s.fieldTested t).ring = s.ring ∧ ((s.fieldTested t).fieldOf t.field.val).state = .online ∧
      ((s.fieldTested t).fieldOf t.field.val).arithGated = false ∧
      ((s.fieldTested t).fieldOf t.field.val).meshGated = false ∧
      ((s.fieldTested t).fieldOf t.field.val).osc = .locked := by
  have up : s.fieldTested t = (s.repairTested t).fieldUp t.field.val t.failedSamplers := by
    rw [State.fieldTested, hpass, himage]
    rfl
  have sampled (u : State) : (u.samplersTested t.field.val t.failedSamplers).besideRoutes = u.besideRoutes := by
    refine besideRoutes_each (fun v c => ?_) _ u
    unfold State.setMainPath
    dsimp only
    split
    · rfl
    · exact (besideRoutes_raise ..).trans rfl
  rw [up, State.fieldUp, ring_of_besideRoutes (sampled _), samplersTested_fieldOf, State.modField, State.putField_same]
  exact ⟨congrArg Prod.fst (ringTests_repairTested hcores hunits s t.field.val), rfl, rfl, rfl, rfl⟩

variable (hfail : t.pass = false)
include hfail

/-- R400: a first failure puts the field into TEST. -/
theorem fieldTested_fails_first (hfirst : (s.fieldOf t.field.val).tests = 0) :
    (s.fieldTested t).ring = s.ring ∧ ((s.fieldTested t).fieldOf t.field.val).state = .test ∧
      ((s.fieldTested t).fieldOf t.field.val).tests = 1 := by
  have kept := ringTests_repairTested hcores hunits s t.field.val
  have tests : ((s.repairTested t).fieldOf t.field.val).tests = 0 := (congrArg Prod.snd kept).trans hfirst
  have tested : s.fieldTested t =
      (s.repairTested t).modField t.field.val (fun v => { v with state := .test, tests := 1, fcOk := true }) := by
    simp [State.fieldTested, hfail, tests]
  rw [tested, State.modField, State.putField_same]
  exact ⟨congrArg Prod.fst kept, rfl, rfl⟩

/-- R398, R400: a second failure retires the field. -/
theorem fieldTested_fails_again (hagain : (s.fieldOf t.field.val).tests = 1) :
    ((s.fieldTested t).fieldOf t.field.val).state = .retired := by
  have tests : ((s.repairTested t).fieldOf t.field.val).tests = 1 :=
    (congrArg Prod.snd (ringTests_repairTested hcores hunits s t.field.val)).trans hagain
  have tested : s.fieldTested t = ((s.repairTested t).modField t.field.val (fun v =>
      { v with tests := 2, fcOk := true })).retireField t.field.val := by
    simp [State.fieldTested, hfail, tests]
  rw [tested, retireField_state]

end

/-! ## Batches of a ring (R399, R400) -/

theorem besideRoutes_trainUnits (s : State) : s.trainUnits.besideRoutes = s.besideRoutes := by
  refine besideRoutes_each (fun u n => ?_) _ s
  dsimp only
  split
  · exact besideRoutes_of_spared (spared_modUnit ..)
  · rfl

theorem closeRing_fieldOf (s : State) (f : Nat) : s.closeRing.fieldOf f = s.fieldOf f := by
  unfold State.closeRing
  dsimp only
  split <;> rfl

theorem closeRing_ring (s : State) : s.closeRing.ring = s.ring ∨ s.closeRing.ring = s.ring + 1 := by
  unfold State.closeRing
  dsimp only
  split
  · exact .inr rfl
  · exact .inl rfl

/-- R400: a ring goes on while one of its fields is in TEST. -/
theorem closeRing_of_tested {s : State} {f : FieldId} (hring : s.ring = ringOfField f.val + 1)
    (htest : (s.fieldOf f.val).state = .test) : s.closeRing = s := by
  refine if_neg fun up => ?_
  have member : f.val ∈ ringFields (s.ring - 1) :=
    List.mem_filter.mpr ⟨List.mem_range.mpr f.isLt, by simp [hring]⟩
  have settled := List.all_eq_true.mp up f.val member
  simp [fieldServes, htest] at settled

/-- R400: a batch of one field tests it, and then closes the ring where it can. -/
theorem ringBatch_tests {s : State} {t : FieldTest} (hmode : s.mode = .bringup)
    (hring : s.ring = ringOfField t.field.val + 1)
    (hstate : (s.fieldOf t.field.val).state = .off ∨
      (s.fieldOf t.field.val).state = .test ∧ (s.fieldOf t.field.val).tests = 1)
    (hbatch : s.batchOf [t.field.val] = true) :
    ∃ v : State, execRingBatch [t] s = .next v.closeRing ∧ v.besideRoutes = (s.fieldTested t).besideRoutes := by
  have testable : s.testable t.field.val = true := by simpa [State.testable, hring] using hstate
  have batch : execRingBatch [t] s = .next (if (s.fieldTested t).rebuildRoutes.ring = 1 then
      (s.fieldTested t).rebuildRoutes.trainUnits.closeRing else (s.fieldTested t).rebuildRoutes.closeRing) :=
    (if_neg (by simp [hmode, hring, testable, hbatch])).trans rfl
  have routed : (s.fieldTested t).rebuildRoutes.besideRoutes = (s.fieldTested t).besideRoutes :=
    (besideRoutes_detourUpdate _).trans (besideRoutes_darn _ _)
  by_cases hfirst : (s.fieldTested t).rebuildRoutes.ring = 1
  · exact ⟨_, by rw [batch, if_pos hfirst], (besideRoutes_trainUnits _).trans routed⟩
  · exact ⟨_, by rw [batch, if_neg hfirst], routed⟩

end Sys2Proof.Machine
end

section
/-! PROOFS. Bring-up, READY and module resets (R277, R399, R401, R403, R405, R406, R430, R437). -/

set_option linter.unusedVariables false

namespace Sys2Proof.Machine

open Sys2Proof

/-! ## Bring-up (R399, R403, R405, R430) -/

section
variable {s : State} {b : BootFindings} (hmode : s.mode = .bringup) (hring : s.ring = 0) (hlow : s.resetLow = false)
include hmode hring hlow

theorem bringup_waits (ha : s.clocks.a ≠ .good) (hb : s.clocks.b ≠ .good) :
    execBringup b s = .next (s.raise .alarm 430 1 srcModule none []) := by
  have same : ({ s with mode := .bringup } : State) = s := by rw [← hmode]
  have unselected : s.clocks.select = none := by simp [Clocks.select, ha, hb]
  refine (if_neg (by simp [hmode, hring, hlow])).trans ?_
  rw [unselected, same]

theorem bringup_boots (ha : s.clocks.a = .good) : execBringup b s = .next (s.boot b false) := by
  simp [execBringup, Clocks.select, hmode, hring, hlow, ha]

end

/-- What bring-up decides before the rings: the state, the ring, the clocks, the supply and the management. -/
def State.bootView (s : State) : ModState × Nat × Clocks × Power × Mgmt := (s.mode, s.ring, s.clocks, s.power, s.mgmt)

theorem bootView_each {β : Type} {f : State → β → State} (hf : ∀ s b, (f s b).bootView = s.bootView) (l : List β)
    (s : State) : (s.each l f).bootView = s.bootView :=
  each_keeps (P := fun t => t.bootView = s.bootView) (fun t b ht => (hf t b).trans ht) l rfl

theorem bootView_raise (s : State) (c : EventClass) (r p : Nat) (src : Source) (x : Option Nat) (d : List W64) :
    (s.raise c r p src x d).bootView = s.bootView := by
  obtain ⟨_, _, raised⟩ := raise_frame s c r p src x d
  rw [raised]
  rfl

@[simp] theorem bootView_modPhys (s : State) (p : Nat) (f : Phys → Phys) : (s.modPhys p f).bootView = s.bootView := (rfl)
@[simp] theorem bootView_modCluster (s : State) (k : Nat) (f : Cluster → Cluster) :
    (s.modCluster k f).bootView = s.bootView := (rfl)
@[simp] theorem bootView_modUnit (s : State) (u : Nat) (f : LinkUnit → LinkUnit) :
    (s.modUnit u f).bootView = s.bootView := (rfl)
@[simp] theorem bootView_modStack (s : State) (h : Nat) (f : Stack → Stack) : (s.modStack h f).bootView = s.bootView := (rfl)
@[simp] theorem bootView_modChannel (s : State) (p : Nat) (f : Channel → Channel) :
    (s.modChannel p f).bootView = s.bootView := (rfl)
@[simp] theorem bootView_modField (s : State) (n : Nat) (f : Field → Field) : (s.modField n f).bootView = s.bootView := (rfl)

/-- R484: scores that are read back change nothing that bring-up decides. -/
theorem bootView_restoreScores (s : State) : s.restoreScores.bootView = s.bootView := by
  have scored (t : State) (press : Press) : ({ t with press := press } : State).bootView = t.bootView := (rfl)
  simp [State.restoreScores, bootView_each, scored]

/-- R415: the management tile with the system area taken up. -/
def Mgmt.loaded (m : Mgmt) : Mgmt := { m with hssNext := m.nextIndex, moduleKeys := m.moduleKeys + 1 }

theorem bootView_loadSystemArea (s : State) (b : BootFindings) :
    (s.loadSystemArea b).bootView = (s.mode, s.ring, s.clocks, s.power, s.mgmt.loaded) := by
  have retires (t : State) (f : Nat) : (if t.badParts.contains (fieldPart f) then
      t.modField f (fun v => { v with state := .retired }) else t).bootView = t.bootView := by
    split <;> rfl
  unfold State.loadSystemArea
  refine (bootView_each ?_ _ _).trans ((bootView_each retires _ _).trans ((bootView_restoreScores _).trans rfl))
  exact fun _ _ => rfl

theorem bootView_bootAlarms (s : State) (other : Bool) : (s.bootAlarms other).bootView = s.bootView := by
  unfold State.bootAlarms
  extract_lets t newer
  have first : t.bootView = s.bootView := by
    unfold t
    split
    · exact bootView_raise ..
    · rfl
  split
  · exact (bootView_raise ..).trans first
  · exact first

/-- R394, R399: the management of a bring-up that has begun, with what it found of the two tiles. -/
def Mgmt.begun (m : Mgmt) (b : BootFindings) (en : Bool) : Mgmt :=
  { m with
    bringups := m.bringups + 1, standbyServes := !b.primaryOk, standbyOk := b.primaryOk && b.standbyOk
    gloved := m.gloved || !en }

/-- R399: bring-up has begun, with a reference selected. -/
def State.begun (s : State) (b : BootFindings) (ref : Bool) : State :=
  { s with
    mode := .bringup, ring := 1, pfWarnLow := false
    clocks := { s.clocks with selB := ref, noneSelected := false }
    power := { s.power with convOk := 8 }
    mgmt := s.mgmt.begun b s.tack.en }

section
variable {s : State} {b : BootFindings} (ref : Bool)

/-- R394, R396: a module whose fuses fail, or with no management tile, is FAULTED. -/
theorem boot_faults (hbad : b.fusesOk = false ∨ b.primaryOk = false ∧ b.standbyOk = false) :
    s.boot b ref = (s.begun b ref).enterFaulted :=
  (if_pos (by obtain hfuses | ⟨hprimary, hstandby⟩ := hbad <;> simp [*])).trans rfl

variable (hfuses : b.fusesOk = true) (hprimary : b.primaryOk = true)
include hfuses hprimary

/-- R405: with no image that verifies, the module is in MAINT, in recovery. -/
theorem boot_recovers (hnone : s.mgmt.chooseSlot b = none) : s.boot b ref = { s.begun b ref with
    mode := .maint, ring := 0
    mgmt := { (s.begun b ref).mgmt with recovery := true, trialPointer := none } } := by
  have chosen : (s.begun b ref).mgmt.chooseSlot b = none := hnone
  refine (if_neg (by simp [hfuses, hprimary])).trans ?_
  split
  · rfl
  · next found => cases chosen.symm.trans found

/-- R399, R403, R406: with an image that verifies and a system area, the first ring follows. -/
theorem boot_starts (hsystem : b.systemAreaOk = true) (hconnected : b.connected = true) (hkept : s.mgmt.zeroise = false)
    {slotB : Bool} (hchosen : s.mgmt.chooseSlot b = some slotB) : (s.boot b ref).bootView =
      (.bringup, 1, { s.clocks with selB := ref, noneSelected := false }, { s.power with convOk := 8 },
        ((s.mgmt.begun b s.tack.en).run slotB).loaded) := by
  have chosen : (s.begun b ref).mgmt.chooseSlot b = some slotB := hchosen
  have kept : ((s.mgmt.begun b s.tack.en).run slotB).zeroise = false := by cases slotB <;> exact hkept
  have started : s.boot b ref = (({ s.begun b ref with mgmt := (s.begun b ref).mgmt.run slotB } : State).loadSystemArea
      b).bootAlarms (slotB != s.mgmt.trialPointer.getD s.mgmt.bootB) := by
    refine (if_neg (by simp [hfuses, hprimary])).trans ?_
    split
    · next found => cases chosen.symm.trans found
    · next found =>
      cases chosen.symm.trans found
      refine ((if_neg (by simp [hsystem])).trans (if_pos hconnected)).trans ?_
      exact congrArg (fun u : State => (u.loadSystemArea b).bootAlarms (slotB != s.mgmt.trialPointer.getD s.mgmt.bootB))
        (if_neg (ne_true_of_eq_false kept))
  rw [started, bootView_bootAlarms, bootView_loadSystemArea]
  rfl

end

/-! ## READY (R399, R401) -/

theorem besideRoutes_readyEvents (s : State) : s.readyEvents.besideRoutes = s.besideRoutes := by
  unfold State.readyEvents
  refine (besideRoutes_each ?_ _ _).trans ((besideRoutes_each ?_ _ _).trans (besideRoutes_each ?_ _ s))
  all_goals exact fun _ _ => besideRoutes_raise ..

theorem HoldArea.eraseOther_freeErased (a : HoldArea) : a.eraseOther.freeErased = true := by
  unfold HoldArea.eraseOther
  split <;> rfl

theorem withMode_hamperUp (s : State) (m : ModState) : (s.withMode m).hamperUp = s.hamperUp := rfl
theorem withMode_holdArea (s : State) (m : ModState) : (s.withMode m).holdArea = s.holdArea := rfl

/-- R399, R450: the Hamper is up, and the free half of the HOLD area is erased. -/
def State.cameUp (s : State) : State := { s with hamperUp := true, holdArea := s.holdArea.eraseOther }

/-- R399, R401, R450: the module that has come up is READY, its Hamper up and the free half of the HOLD area erased. -/
theorem bringupComplete_readies {s : State} (hmode : s.mode = .bringup) (hring : s.ring = 6) :
    ∃ u, execBringupComplete [] s = .next u ∧ u.mode = .ready ∧ u.hamperUp = true ∧ u.holdArea.freeErased = true := by
  have kept : s.cameUp.detourUpdate.readyEvents.besideRoutes = s.cameUp.besideRoutes :=
    (besideRoutes_readyEvents _).trans (besideRoutes_detourUpdate _)
  have noneFailed : ({ s.cameUp with darn := { s.darn with pendingParts := s.darn.pendingParts ++ [] } } : State) =
      s.cameUp := by
    rw [List.append_nil]
    rfl
  have ready : execBringupComplete [] s = .next (s.cameUp.detourUpdate.readyEvents.withMode .ready) :=
    (if_neg (by simp [hmode, hring])).trans
      (congrArg (fun u : State => Host.Outcome.next (u.detourUpdate.readyEvents.withMode .ready)) noneFailed)
  refine ⟨_, ready, rfl, ?_⟩
  rw [withMode_hamperUp, hamperUp_of_besideRoutes kept, withMode_holdArea, holdArea_of_besideRoutes kept]
  exact ⟨rfl, HoldArea.eraseOther_freeErased _⟩

/-! ## Module resets (R437) -/

section
variable {s : State} (hoff : s.mode ≠ .off) (hhold : s.mode ≠ .hold)
include hoff hhold

theorem modReset_resets : execModReset true s = .next ({ s with resetLow := true } : State).moduleReset :=
  (if_neg (by simp [hoff, hhold])).trans rfl

theorem modReset_high (hidle : s.mgmt.resetPending = false) : execModReset false s = .next { s with resetLow := false } := by
  simp [execModReset, hoff, hhold, hidle]

end

/-- Settles O53: bring-up by what it finds, a batch by the result of its test, and a reset by what the module keeps. -/
theorem bringupAndReset : Obligations.BringupAndReset := by
  unfold Obligations.BringupAndReset
  intro s b t m f v
  refine ⟨fun hmode hring hlow => ⟨bringup_waits hmode hring hlow, fun ha => ?boots⟩,
    fun hmode hring hstate hbatch hcores hunits => ?batch, bringupComplete_readies,
    fun hoff hhold => ⟨⟨_, modReset_resets hoff hhold, rfl, rfl, rfl, rfl, rfl, rfl, rfl, rfl, rfl, rfl, rfl, rfl, rfl, rfl,
      rfl, rfl⟩, modReset_high hoff hhold⟩, fun hhold => if_pos (.inr hhold)⟩
  case boots =>
    have boots := bringup_boots (b := b) hmode hring hlow ha
    refine ⟨fun hfuses hprimary hsystem hconnected hkept slotB hchosen => ⟨_, boots, ?_⟩,
      fun hfuses hprimary hnone => ⟨_, boots, ?_⟩, fun hbad => ⟨_, boots, ?_⟩⟩
    · have started := boot_starts false hfuses hprimary hsystem hconnected hkept hchosen
      simp only [State.bootView, Prod.mk.injEq] at started
      obtain ⟨started, first, clocks, power, mgmt⟩ := started
      rw [started, first, clocks, power, mgmt]
      cases slotB <;> simp [Mgmt.loaded, Mgmt.run, Mgmt.begun, Mgmt.nextIndex, hprimary, m]
    · rw [boot_recovers false hfuses hprimary hnone]
      exact ⟨rfl, rfl⟩
    · rw [boot_faults false hbad]
      rfl
  case batch =>
    obtain ⟨u, tested, left⟩ := ringBatch_tests hmode hring hstate hbatch
    have field : u.closeRing.fieldOf f = (s.fieldTested t).fieldOf f :=
      (closeRing_fieldOf u f).trans (fieldOf_of_besideRoutes left f)
    have ring : u.ring = (s.fieldTested t).ring := ring_of_besideRoutes left
    refine ⟨fun hpass himage => ⟨_, tested, ?_⟩, fun hfail hfirst => ⟨_, tested, ?_⟩, fun hfail hagain => ⟨_, tested, ?_⟩⟩
    · obtain ⟨same, online, arith, mesh, locked⟩ := fieldTested_passes hcores hunits s hpass himage
      rw [field]
      exact ⟨online, arith, mesh, locked, (ring.trans same) ▸ closeRing_ring u⟩
    · obtain ⟨same, test, once⟩ := fieldTested_fails_first hcores hunits s hfail hfirst
      have inTest : (u.fieldOf f).state = .test := (congrArg Field.state (fieldOf_of_besideRoutes left f)).trans test
      have stays : u.closeRing = u := closeRing_of_tested ((ring.trans same).trans hring) inTest
      rw [field, stays]
      exact ⟨test, once, ring.trans same⟩
    · rw [field]
      exact fieldTested_fails_again hcores hunits s hfail hagain

end Sys2Proof.Machine
end

section
/-! PROOFS. A RED packet at its destination (R289 to R291): whether it is for a declared destination of its context's job,
whether its step is older than the fragment's, and the fragment that it is added into. -/

set_option linter.unusedVariables false

namespace Sys2Proof.Machine

open Sys2Proof

theorem exec_redArrival (p : RedPacket) (s : State) : exec (.redArrival p) s = execRedArrival p s := rfl

@[simp] theorem endFlight_ctxOf (s : State) (i x : Nat) : (s.endFlight i).ctxOf x = s.ctxOf x := rfl
@[simp] theorem endFlight_tileOf (s : State) (i key : Nat) : (s.endFlight i).tileOf key = s.tileOf key := rfl
@[simp] theorem endFlight_tileKey (s : State) (i : Nat) (h : W32) : (s.endFlight i).tileKey h = s.tileKey h := rfl

/-- R289 step 1: the packet names a declared destination of its context, which is live and has the packet's job. -/
def State.awaitsRed (s : State) (p : RedPacket) : Prop :=
  handleCtx p.handle = p.ctx.val ∧ (s.ctxOf p.ctx.val).live = true ∧ (s.ctxOf p.ctx.val).job = p.job ∧
    (s.tileOf (s.tileKey p.handle)).declared = true

/-- R289 step 2: the fragment was written under a step that the packet's precedes, or has no order with. -/
def Frag.outdates (f : Frag) (p : RedPacket) : Prop :=
  f.written = true ∧ (precedes p.step f.step = true ∨ unordered p.step f.step = true)

section
variable {s : State} {p : RedPacket} {i : Nat} {e : Flight} (hwf : p.wf = true) (hcheck : p.hcheckOk = true)
  (hworks : s.mode.works = true)
  (hfind : s.findFlight (fun f => f.packet == p &&
    f.here.any (fun k => k.val == clusterAt (posAddr p.dest).1 (posAddr p.dest).2)) = some (i, e))
include hwf hcheck hworks hfind

theorem redArrival_drops (hours : ¬ s.awaitsRed p) : execRedArrival p s =
    .next ((s.endFlight i).routerBump (clusterAt (posAddr p.dest).1 (posAddr p.dest).2) 6 1) := by
  have good : { p with hcheckOk := true } = p := hcheck ▸ rfl
  have stray : handleCtx p.handle ≠ p.ctx.val ∨ (s.ctxOf p.ctx.val).live = false ∨ (s.ctxOf p.ctx.val).job ≠ p.job ∨
      (s.tileOf (s.tileKey p.handle)).declared = false := by
    simpa [State.awaitsRed, imp_iff_not_or] using hours
  simp [execRedArrival, hwf, hcheck, hworks, good, hfind, stray]

variable (hours : s.awaitsRed p)
include hours

/-- What a packet does at a destination that awaits it. -/
theorem redArrival_lands : execRedArrival p s =
    let key := s.tileKey p.handle
    let t := s.tileOf key
    let f := t.frag p.frag.val
    let gone := s.endFlight i
    if f.written ∧ (precedes p.step f.step = true ∨ unordered p.step f.step = true) then
      .next (gone.gradBump p.ctx.val 4 1)
    else if f.written = true ∧ f.step = p.step then .next (gone.addRed key p)
    else .next ((gone.putTile key (t.putFrag p.frag.val (t.restart p))).addRed key p) := by
  obtain ⟨hctx, hlive, hjob, hdeclared⟩ := hours
  have good : { p with hcheckOk := true } = p := hcheck ▸ rfl
  simp only [execRedArrival, hwf, hcheck, hworks, good, hfind, hctx, hlive, hjob, hdeclared, endFlight_ctxOf,
    endFlight_tileOf, endFlight_tileKey, Bool.and_eq_true, beq_iff_eq, Bool.not_true, Bool.false_eq_true, ne_eq,
    not_true_eq_false, or_self, if_false]
  split_ifs <;> rfl

theorem redArrival_late (holder : ((s.tileOf (s.tileKey p.handle)).frag p.frag.val).outdates p) :
    execRedArrival p s = .next ((s.endFlight i).gradBump p.ctx.val 4 1) :=
  (redArrival_lands hwf hcheck hworks hfind hours).trans (if_pos holder)

variable (hnew : ¬ ((s.tileOf (s.tileKey p.handle)).frag p.frag.val).outdates p)
include hnew

theorem redArrival_joins (hwritten : ((s.tileOf (s.tileKey p.handle)).frag p.frag.val).written = true)
    (hstep : ((s.tileOf (s.tileKey p.handle)).frag p.frag.val).step = p.step) :
    execRedArrival p s = .next ((s.endFlight i).addRed (s.tileKey p.handle) p) :=
  (redArrival_lands hwf hcheck hworks hfind hours).trans ((if_neg hnew).trans (if_pos ⟨hwritten, hstep⟩))

theorem redArrival_restarts (hfirst : ¬ (((s.tileOf (s.tileKey p.handle)).frag p.frag.val).written = true ∧
      ((s.tileOf (s.tileKey p.handle)).frag p.frag.val).step = p.step)) :
    let key := s.tileKey p.handle
    let t := s.tileOf key
    execRedArrival p s = .next (((s.endFlight i).putTile key (t.putFrag p.frag.val (t.restart p))).addRed key p) :=
  (redArrival_lands hwf hcheck hworks hfind hours).trans ((if_neg hnew).trans (if_neg hfirst))

end

/-- Settles O34: a packet that no destination awaits, one of an older step, one of the fragment's step, and the first of
a step. -/
theorem reductionDestination : Obligations.ReductionDestination := by
  unfold Obligations.ReductionDestination
  intro s p i e hwf hcheck hworks router hfind
  rw [exec_redArrival]
  exact ⟨redArrival_drops hwf hcheck hworks hfind, redArrival_late hwf hcheck hworks hfind,
    redArrival_joins hwf hcheck hworks hfind, redArrival_restarts hwf hcheck hworks hfind⟩

end Sys2Proof.Machine
end

section
/-! PROOFS. Gradient egress (R293 to R301): the two records of a point, acknowledgements and deadlines, the step-done post,
and gradient records that arrive. -/

set_option linter.unusedVariables false

namespace Sys2Proof.Machine

open Sys2Proof

theorem exec_raccPointSend (k : ClusterId) (n : Fin 512) (i : Nat) (s : State) :
    exec (.raccPointSend k n i) s = execRaccPointSend k n i s := rfl
theorem exec_gack (u : UnitId) (a : GradAck) (s : State) : exec (.gack u a) s = execGack u a s := rfl
theorem exec_gradientRecordDeadline (x : CtxId) (stream : W32) (seq : BitVec 46) (s : State) :
    exec (.gradientRecordDeadline x stream seq) s = execGradientRecordDeadline x stream seq s := rfl
theorem exec_raccCompletionDeadline (k : ClusterId) (n : Fin 512) (i : Nat) (s : State) :
    exec (.raccCompletionDeadline k n i) s = execRaccCompletionDeadline k n i s := rfl
theorem exec_stepDoneRelease (x : CtxId) (s : State) : exec (.stepDoneRelease x) s = .next (s.releaseDone x) := rfl
theorem exec_grecDrop (u : UnitId) (s : State) : exec (.grecDrop u) s = execGrecDrop u s := rfl

/-! ## The records of a point (R293, R294) -/

/-- R294: the 32 bits of its source's bitmap that a record carries. -/
theorem recordBitmap_eq (map : W64) (j : Nat) : BitVec.ofNat 32 (map.toNat / 2 ^ j) = map.extractLsb' j 32 := by
  rw [← Nat.shiftRight_eq_div_pow]
  rfl

section
variable (s : State) (k : ClusterId) (n : Fin 512) (i : Nat) (m : Stream) (p : Point) (b : Binding) (port : UnitId)
  (form : WireForm) (map : W64) (count : Fin 2 → W32) (wexp : Fin 2 → W16) (codes : Fin 2 → List W64) (nan : Fin 2 → Bool)

/-- R293, R294: the record of a chunk of point i, whose source is ready, at the one port of its context. -/
def State.raccRecord (chunk : Fin 2) : GradRec :=
  let c := s.ctxOf m.ctx.val
  let bits : W32 := map.extractLsb' (32 * chunk.val) 32
  { cluster := k, slot := n.val, stream := m.number, node := s.nodeOf m.ctx.val,
    seq := BitVec.ofNat 46 (2 * i + chunk.val), object := b.object, tile := BitVec.ofNat 32 p.dst,
    chunk := chunk.val == 1, form := form, nan := nan chunk, step := c.step,
    version := if c.activeB then c.slotB.tag else c.slotA.tag, count := count chunk, wexp := wexp chunk,
    bitmap := bits, data := codes chunk, crc := gradCrc form bits (codes chunk), port := port, key := b.key }

variable {s k n i m p b port form map count wexp codes nan}

theorem raccPointSend_sends {slot : Nat} (hworks : s.mode.works = true) (hstream : (s.slotAt k.val n.val).stream = some m)
    (hop : m.desc.op = 0x18 ∨ m.desc.op = 0x19) (hopen : m.ended = none) (hpoint : m.pointAt i = some p)
    (hidle : p.outstanding = 0) (hbinding : s.streamBinding m.ctx m.desc = some (slot, b))
    (hports : s.portsFor m.ctx.val = [port]) (hload : s.portLoad port < 1023) (hroom : 2 ≤ s.freeXfers k)
    (hlock : m.desc.op = 0x18 → (s.tileOf (s.streamKey m p.src)).lock = none)
    (hsource : s.raccSource m i = .ready form map count wexp codes nan) :
    let r := s.raccRecord k n i m p b port form map count wexp codes nan
    execRaccPointSend k n i s = .next (((s.modPoint k n.val i (fun p => { p with outstanding := 2 })).sendGrad m.ctx m
      (r 0)).sendGrad m.ctx m (r 1)) := by
  have racc : (m.desc.op == 0x18 || m.desc.op == 0x19) = true := by simpa using hop
  have unlocked : (m.desc.op == 0x18 && (s.tileOf (s.streamKey m p.src)).lock.isSome) = false := by
    simpa using hlock
  have free : ¬ s.freeXfers k < 2 := Nat.not_lt.mpr hroom
  have fits : ¬ 1024 < s.portLoad port + 2 := by omega
  have onePort (q : Nat) : [port].getD (q % 1) port = port := by rw [Nat.mod_one]; rfl
  simp only [execRaccPointSend, hworks, hstream, racc, hopen, hpoint, hidle, hbinding, hports, unlocked, hsource, onePort,
    free, fits, recordBitmap_eq, List.length_nil, Nat.zero_add, if_true, or_self, if_false]
  rfl

end

/-! ## Acknowledgements (R295, R296) -/

section
variable {s : State} {u : UnitId} {a : GradAck} {x : CtxId} (hadmitted : s.admitted u 0x13 a.job = some x)
include hadmitted

theorem gack_of_no_record (hnone : (s.ctxOf x.val).grads.find? (fun g =>
      g.stream == a.stream && g.node == a.node && g.seq == a.seq.setWidth 46) = none) :
    ∃ clusters, execGack u a s = .next { s.gradBump x.val 3 1 with clusters := clusters } := by
  simp only [execGack, hadmitted, hnone]
  exact ⟨_, rfl⟩

theorem gack_ends_record {g : GradRec} (hfound : (s.ctxOf x.val).grads.find? (fun g =>
      g.stream == a.stream && g.node == a.node && g.seq == a.seq.setWidth 46) = some g) (htag : a.tagOk = true)
    (hack : a.seq.getLsbD 47 = true) (hfirst : a.seq.getLsbD 46 = false) (hok : a.status = 0)
    (hruns : s.gradStream x g ≠ none) : execGack u a s = .next ((s.gradBump x.val 1 1).gradDone x g) := by
  have running : (s.gradStream x g).isNone = false := Option.isNone_eq_false_iff.mpr (Option.ne_none_iff_isSome.mp hruns)
  simp only [execGack, hadmitted, hfound, htag, hack, hfirst, hok, running]
  rfl

end

/-! ## Deadlines (R293, R297, R301) -/

theorem retryGrad_first {g : GradRec} (hfirst : g.second = false) (s : State) (x : CtxId) (status : Byte) :
    s.retryGrad x g status = s.resendGrad x g :=
  if_neg (by simp [hfirst])

theorem retryGrad_second {g : GradRec} (hsecond : g.second = true) (s : State) (x : CtxId) (status : Byte) :
    s.retryGrad x g status = s.gradFails x g status :=
  if_pos hsecond

section
variable {s : State} (hworks : s.mode.works = true)
include hworks

/-- R297: what a record does that its stream still waits for. -/
theorem gradientRecordDeadline_retries {x : CtxId} {g : GradRec}
    (hfound : (s.ctxOf x.val).grads.find? (fun e => e.stream == g.stream && e.seq == g.seq) = some g)
    (hruns : s.gradStream x g ≠ none) :
    execGradientRecordDeadline x g.stream g.seq s = .next (s.retryGrad x g 0xFF) := by
  simp [execGradientRecordDeadline, hfound, hworks, hruns]

theorem raccCompletionDeadline_ends {k : ClusterId} {n : Fin 512} {i : Nat} {m : Stream} {p : Point}
    (hstream : (s.slotAt k.val n.val).stream = some m) (hpoint : m.pointAt i = some p) (hop : m.desc.op = 0x18)
    (hopen : m.ended = none) (hidle : p.outstanding = 0)
    (hpartial : (s.tileOf (s.streamKey m p.src)).reduced (s.ctxOf m.ctx.val).step = false) :
    ∃ rest, execRaccCompletionDeadline k n i s = .next
      (((s.markTimeout k n.val).pointEnds k n.val i false true).setMark m.ctx .short
        (bytesLE 4 (m.handle p.src).toNat ++ rest)) := by
  simp only [execRaccCompletionDeadline, hstream, hpoint, hworks, hop, hopen, hidle, hpartial, List.append_assoc]
  exact ⟨_, rfl⟩

end

/-! ## The step-done post (R301) -/

theorem releaseDone_of_not_held {s : State} {x : CtxId} (hnone : (s.ctxOf x.val).heldDone = none) :
    s.releaseDone x = s := by
  simp only [State.releaseDone, hnone]

theorem releaseDone_decides {s : State} (hworks : s.mode.works = true) {x : CtxId} {nan : Bool}
    (hheld : (s.ctxOf x.val).heldDone = some nan) (hopen : (s.ctxOf x.val).isOpen = true)
    (hnone : (s.ctxOf x.val).outstanding = 0) (hlocal : (s.ctxOf x.val).jobRec = none) :
    s.releaseDone x = (s.putCtx x.val { s.ctxOf x.val with heldDone := none, doneSent := true }).decideStep x
      (.done (nan || (s.ctxOf x.val).marks.nan)) := by
  simp [State.releaseDone, hheld, hopen, hnone, hlocal, hworks]

/-! ## Gradient records that arrive (R299) -/

theorem grecDrop_counts {s : State} (hworks : s.mode.works = true) {u : UnitId}
    (hactive : (s.unitOf u.val).state = .active) :
    ∃ f, execGrecDrop u s = .next ((s.modUnit (s.gangLead u.val) f).brimBump (brimOf u.val) 2 1) := by
  simp only [execGrecDrop, hworks, hactive]
  exact ⟨_, rfl⟩

/-- A count of the management tile changes the counters, and where it raises its NOTICE the rings. -/
theorem bump_module_frame (s : State) (off n : Nat) : ∃ counters rings,
    s.bump 0 off n = { s with counters := counters, rings := rings } := by
  unfold State.bump
  dsimp only
  split <;> exact ⟨_, _, rfl⟩

@[simp] theorem raise_counterOf (s : State) (cls : EventClass) (rule pos : Nat) (src : Source) (x : Option Nat)
    (d : List W64) (key : Nat) : (s.raise cls rule pos src x d).counterOf key = s.counterOf key := by
  obtain ⟨_, _, raised⟩ := raise_frame s cls rule pos src x d
  rw [raised]
  rfl

theorem brimBump_modUnit_frame (s : State) (l i j n : Nat) (f : LinkUnit → LinkUnit) :
    let t := (s.modUnit l f).brimBump i j n
    t = { s with units := t.units, counters := t.counters, rings := t.rings } := by
  obtain ⟨_, _, bumped⟩ := bump_module_frame (s.modUnit l f) (0x70000 + 64 * i + 8 * j) n
  rw [State.brimBump, bumped]
  rfl

theorem bump_counterOf_same (s : State) (space off n : Nat) :
    (s.bump space off n).counterOf (counterKey space off) = (s.counterOf (counterKey space off)).add n := by
  unfold State.bump
  dsimp only
  split <;> simp

/-- Settles O39: the two records of a point, an acknowledgement by the record it finds, a deadline by whether its record
was sent again, an incomplete source, the held post, and the count of a record dropped. -/
theorem gradientRecords : Obligations.GradientRecords := by
  unfold Obligations.GradientRecords
  intro s k n i x u a g hworks c
  refine ⟨?sends, ?acknowledged, ?deadline, ?incomplete, ?notHeld, ?released, ?dropped⟩
  case sends =>
    rintro m p ⟨slot, b⟩ port form map count wexp codes nan hstream rfl hop hopen hpoint hidle hbinding hports hload hroom
      hlock hsource
    have sends := raccPointSend_sends hworks hstream hop hopen hpoint hidle hbinding hports hload hroom hlock hsource
    have low : map.extractLsb' 0 32 = map.setWidth 32 := (BitVec.setWidth_eq_extractLsb' (by omega)).symm
    exact ⟨_, _, (exec_raccPointSend k n i s).trans sends, by simp [State.raccRecord, c], rfl, rfl, rfl, rfl, low, rfl,
      rfl, rfl, rfl, rfl, rfl, rfl⟩
  case acknowledged =>
    intro hadmitted
    rw [exec_gack]
    exact ⟨gack_of_no_record hadmitted, gack_ends_record hadmitted⟩
  case deadline =>
    intro hfound hruns
    rw [exec_gradientRecordDeadline, gradientRecordDeadline_retries hworks hfound hruns]
    exact ⟨fun hfirst => congrArg _ (retryGrad_first hfirst ..), fun hsecond => congrArg _ (retryGrad_second hsecond ..)⟩
  case incomplete =>
    intro m p hstream hpoint hop hopen hidle hpartial
    obtain ⟨rest, ended⟩ := raccCompletionDeadline_ends hworks hstream hpoint hop hopen hidle hpartial
    exact ⟨_, (exec_raccCompletionDeadline k n i s).trans ended, List.take_left' (bytesLE_length 4 _)⟩
  case notHeld =>
    intro hnone
    rw [exec_stepDoneRelease, releaseDone_of_not_held hnone]
  case released =>
    intro nan hheld hopen hnone hlocal
    rw [exec_stepDoneRelease, releaseDone_decides hworks hheld hopen hnone hlocal]
  case dropped =>
    intro hactive
    obtain ⟨f, dropped⟩ := grecDrop_counts hworks hactive
    exact ⟨_, (exec_grecDrop u s).trans dropped, brimBump_modUnit_frame .., bump_counterOf_same ..⟩

end Sys2Proof.Machine
end

section
namespace Sys2Proof.Machine
open Sys2Proof

/-! ### The queue and the canonical form -/

/-- Every numbered collection is in canonical form, one field for each. -/
structure TablesCanonical
    (cores : Table Core) (phys : Table Phys) (clusters : Table Cluster) (tiles : Table Tile) (fields : Table Field)
    (regions : Table Region) (pegs : Table Peg) (ctxs : Table Ctx) (keys : Table KeySlot) (units : Table LinkUnit)
    (channels : Table Channel) (hamperStacks : Table Stack) (mboxes : Table Mbox) (counters : Table Counter)
    (rings : Table Ring) (nodes : Table ThreadNode) (queues : Table EventQueue) :
    Prop where
  cores : tableWf {} cores = true
  phys : tableWf {} phys = true
  clusters : tableWf {} clusters = true
  tiles : tableWf {} tiles = true
  fields : tableWf {} fields = true
  regions : tableWf {} regions = true
  pegs : tableWf {} pegs = true
  ctxs : tableWf {} ctxs = true
  keys : tableWf {} keys = true
  units : tableWf {} units = true
  channels : tableWf {} channels = true
  hamperStacks : tableWf {} hamperStacks = true
  mboxes : tableWf {} mboxes = true
  counters : tableWf {} counters = true
  rings : tableWf {} rings = true
  nodes : tableWf {} nodes = true
  queues : tableWf {} queues = true

/-- The collections of the state are in canonical form. -/
abbrev State.Canonical (s : State) : Prop :=
  TablesCanonical s.cores s.phys s.clusters s.tiles s.fields s.regions s.pegs s.ctxs s.keys s.units s.channels
                  s.hamperStacks s.mboxes s.counters s.rings s.thread.nodes s.thread.queues

theorem State.canonical_iff (s : State) : s.Canonical ↔ s.wf = true := by
  simp only [State.wf, Bool.and_eq_true, and_assoc]
  exact ⟨fun ⟨h0, h1, h2, h3, h4, h5, h6, h7, h8, h9, h10, h11, h12, h13, h14, h15, h16⟩ =>
      ⟨h0, h1, h2, h3, h4, h5, h6, h7, h8, h9, h10, h11, h12, h13, h14, h15, h16⟩,
    fun ⟨h0, h1, h2, h3, h4, h5, h6, h7, h8, h9, h10, h11, h12, h13, h14, h15, h16⟩ =>
      ⟨h0, h1, h2, h3, h4, h5, h6, h7, h8, h9, h10, h11, h12, h13, h14, h15, h16⟩⟩

/-- From `s₀` to `s` the queue is kept, and so is the canonical form of the collections. -/
structure State.Keeps (o s : State) : Prop where
  pending : s.pending = o.pending
  wf : o.Canonical → s.Canonical

/-- A meaning that answers a next state keeps the queue and the canonical form of `s₀`. -/
def State.Answers (o : State) : Result → Prop
  | .next t => o.Keeps t
  | _ => True

/-- What an effect of an instruction leaves keeps the queue and the canonical form of `s₀`. -/
def State.Allows (o : State) : Effect → Prop
  | .done t | .jump _ t | .stall _ t | .hold t => o.Keeps t
  | .raise _ _ => True

/-- What a host command leaves keeps the queue and the canonical form of `s₀`. -/
def State.Ends (o : State) : CmdEnd → Prop
  | .done t _ _ _ | .waits t => o.Keeps t
  | .later => True

theorem tfilter_wfFrom {α : Type} [DecidableEq α] (d : α) (p : Nat × α → Bool) (t : Table α) (lo : Option Nat)
    (h : tableWfFrom d lo t = true) : tableWfFrom d lo (t.filter p) = true := by
  induction t generalizing lo with
  | nil => exact h
  | cons e r ih =>
    obtain ⟨k, w⟩ := e
    simp only [tableWfFrom, Bool.and_eq_true, decide_eq_true_eq] at h
    obtain ⟨⟨hlo, hw⟩, hr⟩ := h
    by_cases hp : p (k, w) = true
    · simpa [List.filter_cons, hp, tableWfFrom, hw] using ⟨hlo, ih _ hr⟩
    · rw [List.filter_cons_of_neg hp]
      cases lo with
      | none => exact tableWfFrom_none d _ k (ih _ hr)
      | some l => exact tableWfFrom_weaken d _ (Nat.le_of_lt (by simpa using hlo)) (ih _ hr)

/-- Numbers taken off a table leave it in canonical form. -/
theorem tfilter_wf {α : Type} [DecidableEq α] {d : α} {p : Nat × α → Bool} {t : Table α}
    (h : tableWf d t = true) : tableWf d (t.filter p) = true := tfilter_wfFrom d p t none h

theorem State.Answers.next {s₀ t : State} (h : s₀.Keeps t) : s₀.Answers (.next t) := h
theorem State.Allows.done {s₀ t : State} (h : s₀.Keeps t) : s₀.Allows (.done t) := h
theorem State.Allows.jump {s₀ t : State} {pc : Nat} (h : s₀.Keeps t) : s₀.Allows (.jump pc t) := h
theorem State.Allows.stall {s₀ t : State} {info : W16} (h : s₀.Keeps t) : s₀.Allows (.stall info t) := h
theorem State.Allows.hold {s₀ t : State} (h : s₀.Keeps t) : s₀.Allows (.hold t) := h
theorem State.Ends.done {s₀ t : State} {st d res} (h : s₀.Keeps t) : s₀.Ends (.done t st d res) := h
theorem State.Ends.waits {s₀ t : State} (h : s₀.Keeps t) : s₀.Ends (.waits t) := h

section
variable {s₀ : State} {c : Prop} {_ : Decidable c}

theorem State.Answers.ite {r r' : Result} (hr : s₀.Answers r) (hr' : s₀.Answers r') :
    s₀.Answers (if c then r else r') := by
  split
  · exact hr
  · exact hr'

theorem State.Allows.ite {e e' : Effect} (he : s₀.Allows e) (he' : s₀.Allows e') :
    s₀.Allows (if c then e else e') := by
  split
  · exact he
  · exact he'

theorem State.Ends.ite {e e' : CmdEnd} (he : s₀.Ends e) (he' : s₀.Ends e') : s₀.Ends (if c then e else e') := by
  split
  · exact he
  · exact he'

end

namespace State.Keeps

variable {s₀ s t : State}

theorem refl (s : State) : s.Keeps s := ⟨rfl, id⟩

theorem ite {c : Prop} {_ : Decidable c} (hs : s₀.Keeps s) (ht : s₀.Keeps t) : s₀.Keeps (if c then s else t) := by
  split
  · exact hs
  · exact ht

theorem each (h : s₀.Keeps s) {β : Type} {l : List β} {f : State → β → State}
    (hf : ∀ t b, s₀.Keeps t → s₀.Keeps (f t b)) : s₀.Keeps (s.each l f) := by
  unfold State.each
  induction l generalizing s with
  | nil => exact h
  | cons b l ih => exact ih (hf s b h)

theorem foldl (h : s₀.Keeps s) {β : Type} {l : List β} {f : State → β → State}
    (hf : ∀ t b, s₀.Keeps t → s₀.Keeps (f t b)) : s₀.Keeps (l.foldl f s) := h.each hf

theorem foldlFst {β γ : Type} {r : State × γ} (h : s₀.Keeps r.1) {l : List β} {f : State × γ → β → State × γ}
    (hf : ∀ r b, s₀.Keeps r.1 → s₀.Keeps (f r b).1) : s₀.Keeps (l.foldl f r).1 := by
  induction l generalizing r with
  | nil => exact h
  | cons b l ih => exact ih (hf r b h)

/-- An update of the state that keeps the queue, and the canonical form of the collections. -/
theorem tables (h : s₀.Keeps s)
    {fresh : Nat} {mode resumeMode : ModState} {ring : Nat} {pfWarnLow resetLow pfSeen hamperUp : Bool} {time : W64}
    {timeStatus : TimeStatus} {cores : Table Core} {phys : Table Phys} {clusters : Table Cluster}
    {tiles : Table Tile} {mesh : List Flight} {fields : Table Field} {regions : Table Region} {pegs : Table Peg}
    {ctxs : Table Ctx} {keys : Table KeySlot} {units : Table LinkUnit} {channels : Table Channel}
    {hamperStacks : Table Stack} {press : Press} {holdArea : HoldArea} {mgmt : Mgmt} {clocks : Clocks}
    {power : Power} {darn : Darn} {tack : Tack} {portA portB : Bool} {mirror : Mirror} {mirrorSeq : W32}
    {mmpOk : Bool} {mboxes : Table Mbox} {waits : List HostWait} {requests : List HostReq} {nextRequest : W32}
    {hostOut : List HostOut} {counters : Table Counter} {rings : Table Ring} {nodes : Table ThreadNode}
    {queues : Table EventQueue} {traceMask : W64} {telemSample : TelemSample}
    (hw : s.Canonical →
      TablesCanonical cores phys clusters tiles fields regions pegs ctxs keys units channels hamperStacks mboxes
      counters rings nodes queues) :
    s₀.Keeps { s with
      fresh := fresh, mode := mode, resumeMode := resumeMode, ring := ring, pfWarnLow := pfWarnLow,
      resetLow := resetLow, pfSeen := pfSeen, hamperUp := hamperUp, time := time, timeStatus := timeStatus,
      cores := cores, phys := phys, clusters := clusters, tiles := tiles, mesh := mesh, fields := fields,
      regions := regions, pegs := pegs, ctxs := ctxs, keys := keys, units := units, channels := channels,
      hamperStacks := hamperStacks, press := press, holdArea := holdArea, mgmt := mgmt, clocks := clocks,
      power := power, darn := darn, tack := tack, portA := portA, portB := portB, mirror := mirror,
      mirrorSeq := mirrorSeq, mmpOk := mmpOk, mboxes := mboxes, waits := waits, requests := requests,
      nextRequest := nextRequest, hostOut := hostOut, counters := counters, rings := rings,
      thread := { nodes := nodes, queues := queues }, traceMask := traceMask, telemSample := telemSample } :=
  ⟨h.pending, fun ho => hw (h.wf ho)⟩

/-- An update of the parts of the state that are neither the queue nor a collection. -/
theorem update (h : s₀.Keeps s)
    {fresh : Nat} {mode resumeMode : ModState} {ring : Nat} {pfWarnLow resetLow pfSeen hamperUp : Bool} {time : W64}
    {timeStatus : TimeStatus} {mesh : List Flight} {press : Press} {holdArea : HoldArea} {mgmt : Mgmt}
    {clocks : Clocks} {power : Power} {darn : Darn} {tack : Tack} {portA portB : Bool} {mirror : Mirror}
    {mirrorSeq : W32} {mmpOk : Bool} {waits : List HostWait} {requests : List HostReq} {nextRequest : W32}
    {hostOut : List HostOut} {traceMask : W64} {telemSample : TelemSample} :
    s₀.Keeps { s with
      fresh := fresh, mode := mode, resumeMode := resumeMode, ring := ring, pfWarnLow := pfWarnLow,
      resetLow := resetLow, pfSeen := pfSeen, hamperUp := hamperUp, time := time, timeStatus := timeStatus,
      mesh := mesh, press := press, holdArea := holdArea, mgmt := mgmt, clocks := clocks, power := power,
      darn := darn, tack := tack, portA := portA, portB := portB, mirror := mirror, mirrorSeq := mirrorSeq,
      mmpOk := mmpOk, waits := waits, requests := requests, nextRequest := nextRequest, hostOut := hostOut,
      traceMask := traceMask, telemSample := telemSample } :=
  h.tables id

/-! One number of a collection is written. -/

theorem putCore (h : s₀.Keeps s) {n : Nat} {v : Core} : s₀.Keeps (s.putCore n v) :=
  h.tables fun w => { w with cores := tput_wf _ _ _ _ w.cores }
theorem modCore (h : s₀.Keeps s) {n : Nat} {f : Core → Core} : s₀.Keeps (s.modCore n f) := h.putCore
theorem putPhys (h : s₀.Keeps s) {n : Nat} {v : Phys} : s₀.Keeps (s.putPhys n v) :=
  h.tables fun w => { w with phys := tput_wf _ _ _ _ w.phys }
theorem modPhys (h : s₀.Keeps s) {n : Nat} {f : Phys → Phys} : s₀.Keeps (s.modPhys n f) := h.putPhys
theorem putCluster (h : s₀.Keeps s) {n : Nat} {v : Cluster} : s₀.Keeps (s.putCluster n v) :=
  h.tables fun w => { w with clusters := tput_wf _ _ _ _ w.clusters }
theorem modCluster (h : s₀.Keeps s) {n : Nat} {f : Cluster → Cluster} : s₀.Keeps (s.modCluster n f) := h.putCluster
theorem putTile (h : s₀.Keeps s) {n : Nat} {v : Tile} : s₀.Keeps (s.putTile n v) :=
  h.tables fun w => { w with tiles := tput_wf _ _ _ _ w.tiles }
theorem modTile (h : s₀.Keeps s) {n : Nat} {f : Tile → Tile} : s₀.Keeps (s.modTile n f) := h.putTile
theorem putField (h : s₀.Keeps s) {n : Nat} {v : Field} : s₀.Keeps (s.putField n v) :=
  h.tables fun w => { w with fields := tput_wf _ _ _ _ w.fields }
theorem modField (h : s₀.Keeps s) {n : Nat} {f : Field → Field} : s₀.Keeps (s.modField n f) := h.putField
theorem putRegion (h : s₀.Keeps s) {n : Nat} {v : Region} : s₀.Keeps (s.putRegion n v) :=
  h.tables fun w => { w with regions := tput_wf _ _ _ _ w.regions }
theorem modRegion (h : s₀.Keeps s) {n : Nat} {f : Region → Region} : s₀.Keeps (s.modRegion n f) := h.putRegion
theorem putPeg (h : s₀.Keeps s) {n : Nat} {v : Peg} : s₀.Keeps (s.putPeg n v) :=
  h.tables fun w => { w with pegs := tput_wf _ _ _ _ w.pegs }
theorem modPeg (h : s₀.Keeps s) {n : Nat} {f : Peg → Peg} : s₀.Keeps (s.modPeg n f) := h.putPeg
theorem putCtx (h : s₀.Keeps s) {n : Nat} {v : Ctx} : s₀.Keeps (s.putCtx n v) :=
  h.tables fun w => { w with ctxs := tput_wf _ _ _ _ w.ctxs }
theorem modCtx (h : s₀.Keeps s) {n : Nat} {f : Ctx → Ctx} : s₀.Keeps (s.modCtx n f) := h.putCtx
theorem putKey (h : s₀.Keeps s) {n : Nat} {v : KeySlot} : s₀.Keeps (s.putKey n v) :=
  h.tables fun w => { w with keys := tput_wf _ _ _ _ w.keys }
theorem modKey (h : s₀.Keeps s) {n : Nat} {f : KeySlot → KeySlot} : s₀.Keeps (s.modKey n f) := h.putKey
theorem putUnit (h : s₀.Keeps s) {n : Nat} {v : LinkUnit} : s₀.Keeps (s.putUnit n v) :=
  h.tables fun w => { w with units := tput_wf _ _ _ _ w.units }
theorem modUnit (h : s₀.Keeps s) {n : Nat} {f : LinkUnit → LinkUnit} : s₀.Keeps (s.modUnit n f) := h.putUnit
theorem putChannel (h : s₀.Keeps s) {n : Nat} {v : Channel} : s₀.Keeps (s.putChannel n v) :=
  h.tables fun w => { w with channels := tput_wf _ _ _ _ w.channels }
theorem modChannel (h : s₀.Keeps s) {n : Nat} {f : Channel → Channel} : s₀.Keeps (s.modChannel n f) := h.putChannel
theorem putStack (h : s₀.Keeps s) {n : Nat} {v : Stack} : s₀.Keeps (s.putStack n v) :=
  h.tables fun w => { w with hamperStacks := tput_wf _ _ _ _ w.hamperStacks }
theorem modStack (h : s₀.Keeps s) {n : Nat} {f : Stack → Stack} : s₀.Keeps (s.modStack n f) := h.putStack
theorem putMbox (h : s₀.Keeps s) {n : Nat} {v : Mbox} : s₀.Keeps (s.putMbox n v) :=
  h.tables fun w => { w with mboxes := tput_wf _ _ _ _ w.mboxes }
theorem modMbox (h : s₀.Keeps s) {n : Nat} {f : Mbox → Mbox} : s₀.Keeps (s.modMbox n f) := h.putMbox
theorem putCounter (h : s₀.Keeps s) {n : Nat} {v : Counter} : s₀.Keeps (s.putCounter n v) :=
  h.tables fun w => { w with counters := tput_wf _ _ _ _ w.counters }
theorem putRing (h : s₀.Keeps s) {n : Nat} {v : Ring} : s₀.Keeps (s.putRing n v) :=
  h.tables fun w => { w with rings := tput_wf _ _ _ _ w.rings }
theorem modRing (h : s₀.Keeps s) {n : Nat} {f : Ring → Ring} : s₀.Keeps (s.modRing n f) := h.putRing

/-! #### Machine/Ops -/

theorem useFrees (h : s₀.Keeps s) {n : ℕ} : s₀.Keeps (s.useFrees n) := h.update
theorem useFree (h : s₀.Keeps s) : s₀.Keeps s.useFree := h.useFrees

theorem putThreadNode (h : s₀.Keeps s) {a : W16} {n : ThreadNode} : s₀.Keeps (s.putThreadNode a n) :=
  h.tables fun w => { w with nodes := tput_wf _ _ _ _ w.nodes }

theorem threadWait (h : s₀.Keeps s) {m : ThreadMsg} : s₀.Keeps (s.threadWait m) := h.putThreadNode

theorem threadPass (h : s₀.Keeps s) {src dest : W16} {b : ThreadBody} : s₀.Keeps (s.threadPass src dest b) :=
  h.putThreadNode

theorem deliverEvent (h : s₀.Keeps s) {cls : EventClass} {e : EventRec} {lost : ℕ} :
    s₀.Keeps (s.deliverEvent cls e lost) :=
  h.modRing

theorem putQueue (h : s₀.Keeps s) {f : ℕ} {q : EventQueue} :
    s₀.Keeps { s with thread := { s.thread with queues := tput {} s.thread.queues f q } } :=
  h.tables fun w => { w with queues := tput_wf _ _ _ _ w.queues }

theorem sendEvents (h : s₀.Keeps s) {f n : Nat} : s₀.Keeps (s.sendEvents f n) := by
  induction n generalizing s with
  | zero => exact h
  | succ n ih =>
    unfold State.sendEvents
    dsimp only
    split
    · exact h
    · exact ih h.putQueue.threadPass.deliverEvent

theorem sendAllEvents (h : s₀.Keeps s) : s₀.Keeps s.sendAllEvents := h.foldl fun _ _ h1 => h1.sendEvents

theorem raise (h : s₀.Keeps s) {cls : EventClass} {rule pos : ℕ} {src : Source} {x : Option ℕ} {detail : List W64} :
    s₀.Keeps (s.raise cls rule pos src x detail) := by
  dsimp only [State.raise]
  split
  · exact h.deliverEvent
  · exact (h.tables fun w => { w with queues := tput_wf _ _ _ _ w.queues }).sendEvents

theorem bump (h : s₀.Keeps s) {space off n : ℕ} : s₀.Keeps (s.bump space off n) :=
  .ite h.putCounter.raise h.putCounter

theorem clearCounter (h : s₀.Keeps s) {space off : ℕ} : s₀.Keeps (s.clearCounter space off) := h.putCounter
theorem sparsityBump (h : s₀.Keeps s) {k i n : ℕ} : s₀.Keeps (s.sparsityBump k i n) := h.bump
theorem engineBump (h : s₀.Keeps s) {k i n : ℕ} : s₀.Keeps (s.engineBump k i n) := h.bump
theorem routerBump (h : s₀.Keeps s) {k i n : ℕ} : s₀.Keeps (s.routerBump k i n) := h.bump
theorem hamperBump (hs : s₀.Keeps s) {h i n : ℕ} : s₀.Keeps (s.hamperBump h i n) := hs.bump
theorem pressBump (h : s₀.Keeps s) {i n : ℕ} : s₀.Keeps (s.pressBump i n) := h.bump
theorem regionBump (h : s₀.Keeps s) {r i n : ℕ} : s₀.Keeps (s.regionBump r i n) := h.bump
theorem brimBump (h : s₀.Keeps s) {i k n : ℕ} : s₀.Keeps (s.brimBump i k n) := h.bump
theorem gradBump (h : s₀.Keeps s) {x k n : ℕ} : s₀.Keeps (s.gradBump x k n) := h.bump
theorem linkBump (h : s₀.Keeps s) {u k n : ℕ} : s₀.Keeps (s.linkBump u k n) := h.bump
theorem treeBump (h : s₀.Keeps s) {x k n : ℕ} : s₀.Keeps (s.treeBump x k n) := h.bump
theorem winErr (h : s₀.Keeps s) : s₀.Keeps s.winErr := h.bump
theorem scorePhys (h : s₀.Keeps s) {p n : ℕ} : s₀.Keeps (s.scorePhys p n) := h.modPhys
theorem scoreRouter (h : s₀.Keeps s) {k n : ℕ} : s₀.Keeps (s.scoreRouter k n) := h.modCluster
theorem scoreBasket (h : s₀.Keeps s) {k n : ℕ} : s₀.Keeps (s.scoreBasket k n) := h.modCluster
theorem scoreStack (hs : s₀.Keeps s) {h n : ℕ} : s₀.Keeps (s.scoreStack h n) := hs.modStack
theorem scoreChannel (h : s₀.Keeps s) {p n : ℕ} : s₀.Keeps (s.scoreChannel p n) := h.modChannel
theorem scoreUnit (h : s₀.Keeps s) {u n : ℕ} : s₀.Keeps (s.scoreUnit u n) := h.modUnit

/-! #### Machine/ArgBytes -/

theorem measure (h : s₀.Keeps s) {x : ℕ} {op : W16} {args : List Byte} : s₀.Keeps (s.measure x op args) := h.modCtx

/-! #### Machine/SeamMessages -/

theorem transmit (h : s₀.Keeps s) {u : ℕ} {job : W16} {m : OutMsg} : s₀.Keeps (s.transmit u job m) := by
  unfold State.transmit
  exact h.modUnit.modUnit

/-! #### Machine/StreamOps -/

theorem postPeg (h : s₀.Keeps s) {g x k : ℕ} {ext nan : Bool} : s₀.Keeps (s.postPeg g x k ext nan) :=
  .ite h.putPeg h.routerBump.raise

theorem postPegs (h : s₀.Keeps s) {g x k n : ℕ} : s₀.Keeps (s.postPegs g x k n) := h.each fun _ _ h1 => h1.postPeg

theorem resetPegs (h : s₀.Keeps s) {x : ℕ} : s₀.Keeps (s.resetPegs x) :=
  (h.each fun _ _ h1 => h1.modPeg).each fun _ _ h1 => h1.modCore

theorem putSlot (h : s₀.Keeps s) {k n : ℕ} {v : StreamSlot} : s₀.Keeps (s.putSlot k n v) := h.modCluster

theorem modStream (h : s₀.Keeps s) {k n : ℕ} {f : Stream → Stream} : s₀.Keeps (s.modStream k n f) := by
  dsimp only [State.modStream]
  split
  · exact h.putSlot
  · exact h

theorem releaseReserved (h : s₀.Keeps s) {k : ClusterId} {c n : ℕ} {e : BitVec 7} :
    s₀.Keeps (s.releaseReserved k c n e) :=
  h.modCore.tables fun w => { w with tiles := tmap_wf _ _ _ }

theorem modEntry (h : s₀.Keeps s) {c n : ℕ} {f : Entry → Entry} : s₀.Keeps (s.modEntry c n f) := h.modCore

theorem unlockAll (h : s₀.Keeps s) {k : ClusterId} {n : ℕ} : s₀.Keeps (s.unlockAll k n) :=
  h.tables fun w => { w with tiles := tmap_wf _ _ _ }

theorem emptyEntry (h : s₀.Keeps s) {c : CoreId} {n : ℕ} : s₀.Keeps (s.emptyEntry c n) :=
  h.modCore.tables fun w => { w with tiles := tmap_wf _ _ _ }

theorem poisonTile (h : s₀.Keeps s) {key : ℕ} : s₀.Keeps (s.poisonTile key) := by
  dsimp only [State.poisonTile]
  split
  · exact h.modTile.modEntry
  · exact h.modTile

theorem dropPoints (h : s₀.Keeps s) {k : ClusterId} {slot : ℕ} {m : Stream} : s₀.Keeps (s.dropPoints k slot m) := by
  unfold State.dropPoints
  refine h.each (fun _ _ h1 => ?_)
  refine .ite ?_ ?_
  · exact .ite h1.modCore.modTile h1.modCore
  · exact .ite h1 (.ite h1.poisonTile (.ite h1.poisonTile (.ite h1.modTile h1)))

theorem releaseLast (h : s₀.Keeps s) {k : ClusterId} {n : ℕ} {e : BitVec 7} {core : CoreId} {x : CtxId}
    {slotB bound : Bool} :
    s₀.Keeps (s.releaseLast k n e core x slotB bound) :=
  .ite h (.ite h.releaseReserved.putCtx h.releaseReserved)

theorem finishStream (h : s₀.Keeps s) {k : ClusterId} {n : ℕ} {e : BitVec 7} {st : Byte} :
    s₀.Keeps (s.finishStream k n e st) := by
  dsimp only [State.finishStream]
  split
  · exact h
  · refine .ite h ?_
    refine .ite ?_ ?_
    · refine .putSlot ?_
      refine .ite ?_ ?_
      · refine .releaseLast ?_
        refine .ite ?_ ?_
        · exact h.modStream.unlockAll.postPegs
        · exact .ite (.ite h.modStream.unlockAll.postPegs h.modStream.unlockAll.engineBump.raise)
              h.modStream.unlockAll
      · refine .modCore (.releaseLast ?_)
        refine .ite ?_ ?_
        · exact h.modStream.unlockAll.postPegs
        · exact .ite (.ite h.modStream.unlockAll.postPegs h.modStream.unlockAll.engineBump.raise)
              h.modStream.unlockAll
    · refine .releaseLast ?_
      refine .ite ?_ ?_
      · exact h.modStream.unlockAll.postPegs
      · exact .ite (.ite h.modStream.unlockAll.postPegs h.modStream.unlockAll.engineBump.raise) h.modStream.unlockAll

theorem cancelStream (h : s₀.Keeps s) {k : ClusterId} {n : ℕ} : s₀.Keeps (s.cancelStream k n) := by
  dsimp only [State.cancelStream]
  split
  · exact h
  · exact .ite h h.putSlot.dropPoints.engineBump.finishStream

theorem stopStream (h : s₀.Keeps s) {k : ClusterId} {n : ℕ} {st : Byte} : s₀.Keeps (s.stopStream k n st) := by
  dsimp only [State.stopStream]
  split
  · exact h
  · exact .ite h h.putSlot.dropPoints.finishStream

theorem cancelStreams (h : s₀.Keeps s) {p : ℕ → Stream → Bool} : s₀.Keeps (s.cancelStreams p) := by
  unfold State.cancelStreams
  refine h.each (fun _ _ h1 => ?_)
  split
  · refine h1.each (fun _ _ h2 => ?_)
    split
    · exact .ite h2.cancelStream h2
    · exact h2
  · exact h1

/-! #### Machine/StepOps -/

theorem complete (hs : s₀.Keeps s) {h : Hdr} {st : Byte} {detail : W32} {nan : Bool} {result : List W64} :
    s₀.Keeps (s.complete h st detail nan result) := by
  dsimp only [State.complete]
  split
  · exact hs
  · exact hs.putMbox.update

theorem completeSome (hs : s₀.Keeps s) {h : Option Hdr} {st : Byte} : s₀.Keeps (s.completeSome h st) := by
  unfold State.completeSome
  split
  · exact hs.complete
  · exact hs

theorem markWaiting (hs : s₀.Keeps s) {h : Hdr} : s₀.Keeps (s.markWaiting h) := hs.modMbox

theorem send (h : s₀.Keeps s) {x u : ℕ} {m : OutMsg} : s₀.Keeps (s.send x u m) :=
  .ite h.linkBump (.ite h (.ite h.transmit h))

theorem sendDown (h : s₀.Keeps s) {x : ℕ} {r : TreeRec} {m : OutMsg} : s₀.Keeps (s.sendDown x r m) :=
  h.each fun _ _ h1 => h1.send

theorem sendUp (h : s₀.Keeps s) {x : ℕ} {r : TreeRec} {m : OutMsg} : s₀.Keeps (s.sendUp x r m) := .ite h h.send

theorem startNext (h : s₀.Keeps s) {c x : ℕ} : s₀.Keeps (s.startNext c x) := by
  dsimp only [State.startNext]
  split
  · exact h
  · split
    · exact h.putCore
    · exact h.putCore

theorem leaveWaiters (h : s₀.Keeps s) {c x : ℕ} : s₀.Keeps (s.leaveWaiters c x) := h.modCluster

theorem discardHomes (h : s₀.Keeps s) {c : ℕ} {x : CtxId} : s₀.Keeps (s.discardHomes c x) :=
  h.tables fun w => { w with tiles := tmap_wf _ _ _ }

theorem stopCore (h : s₀.Keeps s) {x : CtxId} {c : ℕ} : s₀.Keeps (s.stopCore x c) :=
  .ite h.putCore.discardHomes.leaveWaiters.startNext h.putCore

theorem stopCores (h : s₀.Keeps s) {x : CtxId} : s₀.Keeps (s.stopCores x) := h.each fun _ _ h1 => h1.stopCore
theorem endReadImages (h : s₀.Keeps s) {x : CtxId} : s₀.Keeps (s.endReadImages x) := h.each fun _ _ h1 => h1.modCore

theorem abortSequencers (h : s₀.Keeps s) {x : ℕ} : s₀.Keeps (s.abortSequencers x) :=
  (h.each fun _ _ h1 => h1.modRegion).each fun _ _ h1 => h1.modCluster

theorem freeSlots (h : s₀.Keeps s) {x : CtxId} : s₀.Keeps (s.freeSlots x) :=
  h.tables fun w => { w with clusters := tmap_wf _ _ _ }

theorem chargeBasket (h : s₀.Keeps s) {k x n : ℕ} : s₀.Keeps (s.chargeBasket k x n) := h.modCluster
theorem dischargeBasket (h : s₀.Keeps s) {k x n : ℕ} : s₀.Keeps (s.dischargeBasket k x n) := h.modCluster

theorem dropTreePasses (h : s₀.Keeps s) {x : CtxId} : s₀.Keeps (s.dropTreePasses x) :=
  h.each fun _ _ h1 => h1.modCluster.dischargeBasket

theorem completeBegin (h : s₀.Keeps s) {x : ℕ} {code cause : Byte} {node : W16} {nan : Bool} :
    s₀.Keeps (s.completeBegin x code cause node nan) := by
  dsimp only [State.completeBegin]
  split
  · exact h
  · exact h.putCtx.complete

theorem closeStep (h : s₀.Keeps s) {x : CtxId} {code : Fin 6} : s₀.Keeps (s.closeStep x code) := by
  unfold State.closeStep
  refine .ite h ?_
  refine .endReadImages ?_
  refine .ite ?_ ?_
  · exact h.dropTreePasses.putCtx.completeBegin.stopCores.cancelStreams.freeSlots.abortSequencers
  · exact h.dropTreePasses.putCtx.completeBegin

theorem closeBatch (h : s₀.Keeps s) {x : CtxId} : s₀.Keeps (s.closeBatch x) :=
  .ite h h.dropTreePasses.putCtx.completeBegin.endReadImages

theorem decideAs (h : s₀.Keeps s) {x : CtxId} {code : Fin 6} {cause : Byte} {node : W16} :
    s₀.Keeps (s.decideAs x code cause node) := by
  unfold State.decideAs
  refine .closeStep (.completeBegin ?_)
  split
  · exact h.modCtx.sendDown
  · exact h.modCtx

theorem decideStep (h : s₀.Keeps s) {x : CtxId} {t : Trigger} : s₀.Keeps (s.decideStep x t) := by
  unfold State.decideStep
  refine .ite h ?_
  refine .ite h.treeBump.raise ?_
  split
  · exact h.decideAs
  · exact h.putCtx.completeBegin
  · exact .ite h.decideAs h.decideAs
  · exact h.decideAs

theorem report (h : s₀.Keeps s) {x : CtxId} {cause : Byte} {detail : List Byte} :
    s₀.Keeps (s.report x cause detail) := by
  unfold State.report
  refine .ite h ?_
  refine .ite h.putCtx.decideStep ?_
  split
  · exact h.putCtx
  · exact h.putCtx.treeBump.sendUp

theorem setMark (h : s₀.Keeps s) {x : CtxId} {k : Mark} {detail : List Byte} : s₀.Keeps (s.setMark x k detail) :=
  h.modCtx.report

theorem freeTubs (h : s₀.Keeps s) {x : CtxId} : s₀.Keeps (s.freeTubs x) := h.each fun _ _ h1 => h1.modCluster

theorem dropSequences (h : s₀.Keeps s) {x : ℕ} : s₀.Keeps (s.dropSequences x) := by
  unfold State.dropSequences
  refine h.each (fun _ _ h1 => ?_)
  refine .ite ?_ h1
  split
  · exact h1.modCluster
  · exact h1

theorem freeTiles (h : s₀.Keeps s) {x : ℕ} {keys : List ℕ} : s₀.Keeps (s.freeTiles x keys) := by
  refine h.each fun t key ht => ?_
  extract_lets tile _ discharged freed
  have kept : s₀.Keeps discharged := by
    dsimp only [discharged]
    cases tile.declHome with
    | pocket c n => exact ht
    | basket k => exact ht.dischargeBasket
    | hamper g q => exact ht.modStack.modCtx
    | lost => exact .ite ht.modCtx ht
  have given : s₀.Keeps freed := by
    dsimp only [freed]
    cases tile.directAt with
    | none => exact kept
    | some k => exact kept.dischargeBasket
  exact given.tables fun w => { w with tiles := tput_wf _ _ _ _ w.tiles }

theorem endBind (h : s₀.Keeps s) {x : ℕ} {st : Byte} : s₀.Keeps (s.endBind x st) :=
  .ite h.putCtx.completeSome h.freeTiles.modCtx.completeSome

theorem stopInstall (h : s₀.Keeps s) {x : CtxId} : s₀.Keeps (s.stopInstall x) := h.update
theorem abortFills (h : s₀.Keeps s) {x : ℕ} : s₀.Keeps (s.abortFills x) := .ite h h.endBind

theorem abortCommands (h : s₀.Keeps s) {x : ℕ} : s₀.Keeps (s.abortCommands x) :=
  h.each fun _ _ h1 => h1.each fun _ _ h2 => h2.complete

theorem abortContext (h : s₀.Keeps s) {x : CtxId} {detail : List Byte} : s₀.Keeps (s.abortContext x detail) := by
  unfold State.abortContext
  refine .ite h (.closeBatch (.setMark (.abortCommands (.abortFills (.stopInstall ?_)))))
  exact (h.threadPass.stopCores.cancelStreams.freeSlots.endReadImages.abortSequencers.each fun _ _ h1 =>
    h1.modRegion).resetPegs.freeTubs.dropTreePasses.dropSequences.modCtx

theorem endStream (h : s₀.Keeps s) {k : ClusterId} {n : ℕ} {st : Byte} : s₀.Keeps (s.endStream k n st) := by
  unfold State.endStream
  split
  · exact h
  · exact .ite (ite h.stopStream h.finishStream).abortContext (.ite h.stopStream h.finishStream)

/-! #### Machine/HealthOps -/

theorem abortOver (h : s₀.Keeps s) {p : ℕ → Bool} {core : ℕ} : s₀.Keeps (s.abortOver p core) :=
  h.each fun _ _ h1 => h1.abortContext

theorem snapshotScores (h : s₀.Keeps s) : s₀.Keeps s.snapshotScores := by
  unfold State.snapshotScores
  exact h.update.modRing.modRing

theorem autoDrain (h : s₀.Keeps s) : s₀.Keeps s.autoDrain := .ite h.update.snapshotScores h
theorem coreFault (h : s₀.Keeps s) {p bit weight : ℕ} : s₀.Keeps (s.coreFault p bit weight) := h.modPhys
theorem startBeats (h : s₀.Keeps s) {p : ℕ} : s₀.Keeps (s.startBeats p) := h.modPhys.putThreadNode

theorem pocketFault (h : s₀.Keeps s) {p bit weight off : ℕ} : s₀.Keeps (s.pocketFault p bit weight off) :=
  h.modPhys.coreFault

theorem suspectCore (h : s₀.Keeps s) {p : ℕ} : s₀.Keeps (s.suspectCore p) := by
  dsimp only [State.suspectCore]
  split
  · exact h.modPhys
  · exact h.modPhys.abortOver.autoDrain

theorem declareDead (h : s₀.Keeps s) {p bit : ℕ} : s₀.Keeps (s.declareDead p bit) := h.coreFault.suspectCore
theorem abortField (h : s₀.Keeps s) {f : ℕ} : s₀.Keeps (s.abortField f) := h.abortOver

/-! #### Machine/TierOps -/

theorem channelUe (h : s₀.Keeps s) {p : ℕ} : s₀.Keeps (s.channelUe p) := h.modChannel

theorem countCorrected (h : s₀.Keeps s) {t : Tier} {marks : BitVec 2} {soft : Bool} {off : ℕ} :
    s₀.Keeps (s.countCorrected t marks soft off) := by
  cases t with
  | home p =>
    cases p with
    | pocket c n =>
      dsimp only [State.countCorrected]
      split
      · exact h.pocketFault
      · exact h
    | basket k => exact h.scoreBasket
    | hamper g q => exact h.hamperBump.each fun _ _ h1 => h1.scoreChannel
    | lost => exact h
  | press => exact h.pressBump
  | port u => exact h

theorem scorePress (h : s₀.Keeps s) {n : ℕ} : s₀.Keeps (s.scorePress n) := h.update

theorem countUncorrectable (h : s₀.Keeps s) {t : Tier} {marks : BitVec 2} {off : ℕ} :
    s₀.Keeps (s.countUncorrectable t marks off) := by
  cases t with
  | home p =>
    cases p with
    | pocket c n =>
      unfold State.countUncorrectable
      dsimp only
      split
      · split
        · exact h.pocketFault.modEntry
        · exact h.pocketFault
      · exact h
    | basket k => exact h.scoreBasket
    | hamper g q => exact h.hamperBump.scoreStack.each fun _ _ h1 => h1.channelUe
    | lost => exact h
  | press => exact h.pressBump.scorePress
  | port u => exact h

theorem countLate (h : s₀.Keeps s) {t : Tier} {deadline : Bool} : s₀.Keeps (s.countLate t deadline) := by
  unfold State.countLate
  split
  · exact .ite h.hamperBump.scoreStack h.hamperBump
  · exact .ite h.pressBump.scorePress h.pressBump
  · exact h

theorem countDense (h : s₀.Keeps s) {home : Home} {tooLong : Bool} : s₀.Keeps (s.countDense home tooLong) := by
  unfold State.countDense
  split
  · exact .ite h.hamperBump h
  · exact h

theorem storeTile (hs : s₀.Keeps s) {key : ℕ} {step : W32} {h : TileHeader} {bytes : Table Byte} {poison : Bool} :
    s₀.Keeps (s.storeTile key step h bytes poison) := by
  dsimp only [State.storeTile]
  split
  · exact hs.putTile.countDense.modEntry
  · exact hs.putTile.countDense

theorem moveHome (hs : s₀.Keeps s) {key : ℕ} {new : Home} {h : TileHeader} {bytes : Table Byte} {poison : Bool} :
    s₀.Keeps (s.moveHome key new h bytes poison) := by
  dsimp only [State.moveHome]
  split
  · refine .ite ?_ ?_
    · split
      · exact hs.putTile.countDense.dischargeBasket
      · exact hs.putTile.countDense
    · refine .emptyEntry ?_
      split
      · exact hs.putTile.countDense.dischargeBasket
      · exact hs.putTile.countDense
  · split
    · exact hs.putTile.countDense.dischargeBasket
    · exact hs.putTile.countDense

/-! #### Machine/FieldOps -/

theorem staleRegions (h : s₀.Keeps s) {cause : StaleCause} {p : ℕ → Bool} : s₀.Keeps (s.staleRegions cause p) :=
  h.each fun _ _ h1 => .ite h1.putRegion h1

theorem dropAddressed (h : s₀.Keeps s) : s₀.Keeps s.dropAddressed := (h.each fun _ _ h1 => h1.routerBump).update

theorem strand (h : s₀.Keeps s) {p : ℕ → Bool} {src : Source} {core : ℕ} {inside : List CtxId} :
    s₀.Keeps (s.strand p src core inside) := by
  unfold State.strand
  refine .each ?_ fun _ _ h1 => h1.raise.abortContext
  refine .ite ?_ ?_
  · exact h.tables fun w => { w with clusters := tmap_wf _ _ _ }
  · exact (h.tables fun w => { w with clusters := tmap_wf _ _ _ }).bump

theorem breakGroups (h : s₀.Keeps s) {f : ℕ} {counts : List GroupId} : s₀.Keeps (s.breakGroups f counts) :=
  h.each fun _ _ h1 => h1.abortContext

theorem detourUpdate (h : s₀.Keeps s) : s₀.Keeps s.detourUpdate :=
  (ite h h.abortOver.staleRegions.update).dropAddressed

theorem readmit (h : s₀.Keeps s) : s₀.Keeps s.readmit := h.update

theorem losePlaces (h : s₀.Keeps s) {p : ℕ → Bool} : s₀.Keeps (s.losePlaces p) :=
  (h.tables fun w => { w with tiles := tmap_wf _ _ _ }).tables fun w => { w with cores := tmap_wf _ _ _ }

theorem stopThread (h : s₀.Keeps s) {f : ℕ} {all : Bool} : s₀.Keeps (s.stopThread f all) := by
  have stopped : s₀.Keeps (s.each (List.range 16) fun s i => s.putThreadNode (clusterNode (16 * f + i)) {}) :=
    h.each fun _ _ h => h.putThreadNode
  exact .ite stopped.putThreadNode.putQueue stopped

theorem stopField (h : s₀.Keeps s) {f : ℕ} {st : FieldState} {cause : StaleCause} {lost : FieldLoss} :
    s₀.Keeps (s.stopField f st cause lost) :=
  h.abortField.modField.staleRegions.losePlaces.strand.breakGroups.detourUpdate.stopThread

theorem goDark (h : s₀.Keeps s) {f : ℕ} {lost : FieldLoss} : s₀.Keeps (s.goDark f lost) := h.threadPass.stopField

theorem record (h : s₀.Keeps s) {p : Part} {host : Bool} {score : W16} : s₀.Keeps (s.record p host score) :=
  .ite h (.ite h.update h.update.raise)

theorem retireField (h : s₀.Keeps s) {f : ℕ} : s₀.Keeps (s.retireField f) := h.stopField.record

theorem resetField (h : s₀.Keeps s) {f : ℕ} : s₀.Keeps (s.resetField f) := by
  unfold State.resetField
  refine .each ?_ fun _ _ h => h.startBeats
  exact h.tables fun w => { w with cores := tmap_wf _ _ _, clusters := tmap_wf _ _ _ }

theorem controllerFails (h : s₀.Keeps s) {f : ℕ} {lost : FieldLoss} : s₀.Keeps (s.controllerFails f lost) := by
  unfold State.controllerFails
  refine .ite ?_ ?_
  · exact (ite h.stopThread.goDark h.stopThread).retireField.raise
  · exact (ite h.stopThread.goDark h.stopThread).resetField.modField

/-! #### Machine/Index -/

theorem writeRaw (h : s₀.Keeps s) {key off : ℕ} {bs : List Byte} : s₀.Keeps (s.writeRaw key off bs) := by
  dsimp only [State.writeRaw]
  split
  · exact h.putTile.modEntry
  · exact h.putTile

theorem indexFault (h : s₀.Keeps s) {k : ClusterId} {n : ℕ} {m : Stream} {input at_ : ℕ} :
    s₀.Keeps (s.indexFault k n m input at_) :=
  h.sparsityBump.raise

theorem touchTile (h : s₀.Keeps s) {m : Stream} {key : ℕ} {poison : Bool} : s₀.Keeps (s.touchTile m key poison) :=
  .ite h.modTile.poisonTile h.modTile

theorem doMerge (h : s₀.Keeps s) {k : ClusterId} {n : ℕ} {m : Stream} {reads : List (ℕ × ℕ)} {poison : Bool} :
    s₀.Keeps (s.doMerge k n m reads poison) := by
  dsimp only [State.doMerge]
  split
  · exact h.writeRaw.writeRaw.indexFault.endStream
  · refine .ite ?_ ?_
    · exact h.writeRaw.writeRaw.endStream
    · exact (ite h.writeRaw.writeRaw.touchTile.touchTile.engineBump h.writeRaw.writeRaw.touchTile.touchTile).endStream

theorem doCut (h : s₀.Keeps s) {k : ClusterId} {n : ℕ} {m : Stream} {reads : List (ℕ × ℕ)} {poison : Bool} :
    s₀.Keeps (s.doCut k n m reads poison) := by
  unfold State.doCut
  refine .ite ?_ ?_
  · split
    · exact h.indexFault.endStream
    · exact h.modRegion.endStream
  · refine .ite h.endStream ?_
    refine .ite ?_ ?_
    · exact (ite (ite h.modRegion.postPegs h.modRegion).engineBump (.ite h.modRegion.postPegs h.modRegion)).modStream
    · exact (ite (ite h.modRegion.postPegs h.modRegion).engineBump
          (.ite h.modRegion.postPegs h.modRegion)).modStream.modRegion.endStream

theorem openTree (h : s₀.Keeps s) {k : ClusterId} {x : CtxId} : ∀ t ∈ s.openTree k x, s₀.Keeps t := by
  unfold State.openTree
  intro t ht
  split at ht
  · exact Option.some.inj ht ▸ h
  · dsimp only at ht
    split at ht
    · cases ht
    · exact Option.some.inj ht ▸ h.useFree.chargeBasket.modCluster

theorem putRun (h : s₀.Keeps s) {k : ClusterId} {p : TreePass} {r : TreeRun} : s₀.Keeps (s.putRun k p r) :=
  h.modCluster.sparsityBump

theorem treeTake (h : s₀.Keeps s) {k : ClusterId} {e : IndexEntry} : s₀.Keeps (s.treeTake k e) := by
  unfold State.treeTake
  split
  · exact h
  · exact .ite (ite h.useFree h).modCluster.putRun (ite h.useFree h).modCluster

theorem closeTree (h : s₀.Keeps s) {k : ClusterId} : s₀.Keeps (s.closeTree k) := by
  unfold State.closeTree
  split
  · exact h
  · exact h.putRun.modCluster.dischargeBasket

theorem doTreeSend (h : s₀.Keeps s) {k : ClusterId} {n : ℕ} {m : Stream} {poison : Bool} :
    s₀.Keeps (s.doTreeSend k n m poison) := by
  unfold State.doTreeSend
  dsimp only
  split
  · exact h.closeTree.endStream
  · split
    · exact h.endStream
    · next t ht =>
      have taken : ∀ {l : List IndexEntry} {f : IndexEntry → IndexEntry},
          s₀.Keeps (t.each l (fun s x => s.treeTake k (f x))) := (h.openTree t ht).each fun _ _ h => h.treeTake
      split
      · exact taken.indexFault.endStream
      · exact taken.endStream

theorem doIndex (h : s₀.Keeps s) {k : ClusterId} {n : ℕ} {m : Stream} {reads : List (ℕ × ℕ)} {poison : Bool} :
    s₀.Keeps (s.doIndex k n m reads poison) :=
  .ite h.doMerge (.ite h.doCut h.doTreeSend)

/-! #### Machine/Place -/

theorem pointEnds (h : s₀.Keeps s) {k : ClusterId} {n idx : ℕ} {poison tile : Bool} :
    s₀.Keeps (s.pointEnds k n idx poison tile) := by
  dsimp only [State.pointEnds]
  split
  · exact h
  · split
    · exact .ite (ite h.modStream.engineBump h.modStream).postPegs (.ite h.modStream.engineBump h.modStream)
    · refine .ite ?_ ?_
      · exact (ite (ite h.modStream.engineBump h.modStream).postPegs
            (.ite h.modStream.engineBump h.modStream)).endStream
      · exact .ite (ite h.modStream.engineBump h.modStream).postPegs (.ite h.modStream.engineBump h.modStream)

theorem markTimeout (h : s₀.Keeps s) {k : ClusterId} {n : ℕ} : s₀.Keeps (s.markTimeout k n) := h.modStream

theorem directPlace (h : s₀.Keeps s) {key : ℕ} {dst : Option ClusterId} : s₀.Keeps (s.directPlace key dst) := by
  dsimp only [State.directPlace]
  split
  · exact .ite h.chargeBasket.hamperBump.putTile h
  · exact h

theorem placeTile (hs : s₀.Keeps s) {key : ℕ} {h : TileHeader} {bytes : Table Byte} {version : W32}
    {dst : Option ClusterId} :
    s₀.Keeps (s.placeTile key h bytes version dst) := by
  unfold State.placeTile
  exact hs.directPlace.storeTile.modTile

theorem failTile (h : s₀.Keeps s) {key : ℕ} {fmt : BitVec 4} : s₀.Keeps (s.failTile key fmt) := h.storeTile.modTile

theorem readBlock (h : s₀.Keeps s) {n t : ℕ} {soft : Bool} : s₀.Keeps (s.readBlock n t soft) := by
  unfold State.readBlock
  split
  · exact h
  · split
    · exact h
    · exact h.update

theorem usePress (h : s₀.Keeps s) {n t : ℕ} : s₀.Keeps (s.usePress n t) := .ite h.readBlock h.useFrees
theorem failSwap (h : s₀.Keeps s) {x : ℕ} {st : Byte} : s₀.Keeps (s.failSwap x st) := h.freeTiles.modCtx.completeSome
theorem failFill (h : s₀.Keeps s) {x : ℕ} {st : Byte} : s₀.Keeps (s.failFill x st) := .ite h.failSwap h.endBind
theorem settleFills (h : s₀.Keeps s) {x : ℕ} : s₀.Keeps (s.settleFills x) := .ite h (.ite h (.ite h.putCtx h.endBind))

/-! #### Machine/Load -/

theorem propose (h : s₀.Keeps s) {x : CtxId} {recs : List RegionRec} : s₀.Keeps (s.propose x recs) :=
  h.each fun _ _ h1 => h1.modRegion

theorem moveHot (h : s₀.Keeps s) {x r : ℕ} : s₀.Keeps (s.moveHot x r) := by
  unfold State.moveHot
  dsimp only
  refine .ite h (h.each fun _ _ h => .ite h (h.each fun _ _ h => .ite h (.putTile (.chargeBasket ?_))))
  split
  · exact h.dischargeBasket
  · exact h

theorem dropCopies (h : s₀.Keeps s) {x : ℕ} {ks : List ℕ} : s₀.Keeps (s.dropCopies x ks) :=
  h.each fun _ _ h1 => h1.each fun _ _ h2 => .ite h2.modCore.dischargeBasket h2

theorem resetRegionGroups (h : s₀.Keeps s) {x r : ℕ} : s₀.Keeps (s.resetRegionGroups x r) :=
  (h.each fun _ _ h1 => h1.modPeg).each fun _ _ h1 => h1.modCore

theorem forgetPredictions (h : s₀.Keeps s) {x : CtxId} : s₀.Keeps (s.forgetPredictions x) :=
  h.tables fun w => { w with clusters := tmap_wf _ _ _ }

theorem seedRegion (h : s₀.Keeps s) {r : ℕ} : s₀.Keeps (s.seedRegion r) := h.each fun _ _ h1 => h1.modCore
theorem freshSampler (h : s₀.Keeps s) {k : ℕ} : s₀.Keeps (s.freshSampler k) := h.modCluster

theorem freshSamplerOf (h : s₀.Keeps s) {r : ℕ} : s₀.Keeps (s.freshSamplerOf r) := by
  unfold State.freshSamplerOf
  split
  · exact h.freshSampler
  · exact h

theorem remapRegion (h : s₀.Keeps s) {x : CtxId} {m : RegionRec} : s₀.Keeps (s.remapRegion x m) := by
  unfold State.remapRegion
  refine .ite ?_ ?_
  · exact ((ite h.freshSamplerOf.dropCopies h.freshSamplerOf).each fun _ _ h1 =>
        h1.modCluster).putRegion.forgetPredictions.each fun _ _ h1 => h1.clearCounter
  · exact (((ite h.freshSamplerOf.dropCopies h.freshSamplerOf).each fun _ _ h1 =>
        h1.modCluster).putRegion.forgetPredictions.each fun _ _ h1 =>
        h1.clearCounter).resetRegionGroups.moveHot.freshSamplerOf.seedRegion

theorem mapRegions (h : s₀.Keeps s) {x : CtxId} {recs : List RegionRec} : s₀.Keeps (s.mapRegions x recs).1 := by
  dsimp only [State.mapRegions]
  split
  · dsimp only
    exact h
  · dsimp only
    exact (h.readmit.each fun _ _ h1 => h1.remapRegion).measure

theorem declareTile (h : s₀.Keeps s) {x key : ℕ} {fmt : Fmt} {flags : W16} {region : Option RegionId} {n : ℕ}
    {home : Home} : s₀.Keeps (s.declareTile x key fmt flags region n home) := by
  unfold State.declareTile
  cases home with
  | pocket c e => exact h.putTile
  | basket k => exact h.putTile.chargeBasket
  | hamper g q => exact h.putTile.modStack.modCtx
  | lost => exact h.putTile.modCtx

theorem configurePegs (h : s₀.Keeps s) {x : CtxId} {r : RegionId} {ps : List PegRec} :
    s₀.Keeps (s.configurePegs x r ps) := by
  unfold State.configurePegs
  exact ((h.each fun _ _ h1 => .ite h1 h1.putPeg).each fun _ _ h1 => .ite h1 h1.putPeg).modRegion

theorem releaseDecls (h : s₀.Keeps s) {x r : ℕ} : s₀.Keeps (s.releaseDecls x r) := by
  unfold State.releaseDecls
  exact h.freeTiles.modRegion

theorem makeDecls (h : s₀.Keeps s) {x : ℕ} {r : RegionId} {ds : List Decl} : s₀.Keeps (s.makeDecls x r ds) := by
  unfold State.makeDecls
  exact (h.each fun _ _ h1 => h1.each fun _ _ h2 => h2.declareTile).modRegion

theorem declareColls (h : s₀.Keeps s) {x : ℕ} {r : RegionId} {cs : List CollRec} : s₀.Keeps (s.declareColls x r cs) :=
  h.modCtx.each fun _ _ h1 => h1.modCtx

theorem stageLoad (h : s₀.Keeps s) {x : CtxId} {a : ProgramArgs} : s₀.Keeps (s.stageLoad x a) :=
  h.releaseDecls.makeDecls.configurePegs.declareColls

theorem fillBuffers (h : s₀.Keeps s) {x : CtxId} {r : ℕ} : s₀.Keeps (s.fillBuffers x r) :=
  h.each fun _ _ h1 => h1.modCore

theorem loadProgram (h : s₀.Keeps s) {x : CtxId} {a : ProgramArgs} : s₀.Keeps (s.loadProgram x a).1 := by
  unfold State.loadProgram
  split
  · dsimp only
    exact h
  · dsimp only
    exact h.stageLoad.modRegion.fillBuffers.measure

/-! #### Machine/Issue -/

theorem takeException (h : s₀.Keeps s) {c : CoreId} {cause info : W64} : s₀.Keeps (s.takeException c cause info) := by
  unfold State.takeException
  refine .ite h.putCore ?_
  split
  · exact h
  · exact h.raise.abortContext

theorem retire (h : s₀.Keeps s) {c : CoreId} {x : CtxId} {pc : ℕ} : s₀.Keeps (s.retire c x pc) := h.modCore

theorem applyEffect (h : s₀.Keeps s) {e : Effect} (he : s₀.Allows e) {c : CoreId} {x : CtxId} {word : W64} :
    s₀.Keeps (e.apply s c x word) := by
  cases e with
  | done t => exact State.Keeps.retire (s := t) he
  | jump pc t => exact State.Keeps.retire (s := t) he
  | raise cause info => exact h.takeException
  | stall info t =>
    have ht : s₀.Keeps t := he
    unfold Effect.apply
    exact ht.modCore
  | hold t =>
    have ht : s₀.Keeps t := he
    unfold Effect.apply
    exact ht.modCore

theorem meetsFetch (h : s₀.Keeps s) {c : CoreId} {f : Ecc} : s₀.Keeps (s.meetsFetch c f) := by
  unfold State.meetsFetch
  split
  · exact h.coreFault
  · exact h

theorem losesFetch (h : s₀.Keeps s) {c : CoreId} {x : CtxId} : s₀.Keeps (s.losesFetch c x) := by
  unfold State.losesFetch
  split
  · exact h
  · exact h.coreFault.abortOver.modCore

theorem meetsWords (h : s₀.Keeps s) {c : CoreId} {f : CoreFinding} {reads : List ℕ} {acc : Option Bool} :
    s₀.Keeps (s.meetsWords c f reads acc) := by
  dsimp only [State.meetsWords]
  split
  · exact h
  · split
    · refine .modCore (.coreFault ?_)
      split
      · exact h.pocketFault
      · exact h.pocketFault.modEntry
      · exact h
    · split
      · exact h.pocketFault
      · exact h.pocketFault.modEntry
      · exact h

theorem issue (h : s₀.Keeps s) {major : BitVec 6} {minor : BitVec 5} {u : Uses} {defined : Bool} {c : CoreId}
    {a : CoreArgs} {body : State → Core → CtxId → Effect} {reads : Core → List ℕ} {acc : Option Bool}
    (hb : ∀ t k x, s₀.Keeps t → s₀.Allows (body t k x)) :
    s₀.Keeps (issue major minor u defined c a s body reads acc) := by
  unfold Machine.issue
  dsimp only
  refine .ite ?_ h
  split
  · exact h
  · have met : s₀.Keeps (if (s.coreOf c.val).waiting.isNone then s.meetsFetch c a.finding.fetch else s) :=
      .ite h.meetsFetch h
    exact .ite h.takeException (.ite h.losesFetch (.ite met.takeException
      (.ite (.ite (met.meetsWords.applyEffect (hb _ _ _ met.meetsWords)) (met.applyEffect (hb _ _ _ met)))
        met.takeException)))

theorem coreEffect (h : s₀.Keeps s) {c : CoreId} {k : Core} : s₀.Allows (Effect.core s c k) := h.putCore

/-! #### Machine/Scalar -/

theorem alu (h : s₀.Keeps s) {minor : BitVec 5} {op : W64 → W64 → W64} {c : CoreId} {a : CoreArgs} :
    s₀.Answers (alu minor op c a s) :=
  h.issue fun _ _ _ h1 => h1.coreEffect

theorem execAdd (h : s₀.Keeps s) {c : CoreId} {a : CoreArgs} : s₀.Answers (execAdd c a s) := h.alu
theorem execSub (h : s₀.Keeps s) {c : CoreId} {a : CoreArgs} : s₀.Answers (execSub c a s) := h.alu
theorem execAnd (h : s₀.Keeps s) {c : CoreId} {a : CoreArgs} : s₀.Answers (execAnd c a s) := h.alu
theorem execOr (h : s₀.Keeps s) {c : CoreId} {a : CoreArgs} : s₀.Answers (execOr c a s) := h.alu
theorem execXor (h : s₀.Keeps s) {c : CoreId} {a : CoreArgs} : s₀.Answers (execXor c a s) := h.alu
theorem execSll (h : s₀.Keeps s) {c : CoreId} {a : CoreArgs} : s₀.Answers (execSll c a s) := h.alu
theorem execSrl (h : s₀.Keeps s) {c : CoreId} {a : CoreArgs} : s₀.Answers (execSrl c a s) := h.alu
theorem execSra (h : s₀.Keeps s) {c : CoreId} {a : CoreArgs} : s₀.Answers (execSra c a s) := h.alu
theorem execSlt (h : s₀.Keeps s) {c : CoreId} {a : CoreArgs} : s₀.Answers (execSlt c a s) := h.alu
theorem execSltu (h : s₀.Keeps s) {c : CoreId} {a : CoreArgs} : s₀.Answers (execSltu c a s) := h.alu
theorem execMin (h : s₀.Keeps s) {c : CoreId} {a : CoreArgs} : s₀.Answers (execMin c a s) := h.alu
theorem execMax (h : s₀.Keeps s) {c : CoreId} {a : CoreArgs} : s₀.Answers (execMax c a s) := h.alu
theorem execMinu (h : s₀.Keeps s) {c : CoreId} {a : CoreArgs} : s₀.Answers (execMinu c a s) := h.alu
theorem execMaxu (h : s₀.Keeps s) {c : CoreId} {a : CoreArgs} : s₀.Answers (execMaxu c a s) := h.alu

theorem execLi (h : s₀.Keeps s) {c : CoreId} {a : CoreArgs} : s₀.Answers (execLi c a s) :=
  h.issue fun _ _ _ h1 => h1.coreEffect

theorem execLui (h : s₀.Keeps s) {c : CoreId} {a : CoreArgs} : s₀.Answers (execLui c a s) :=
  h.issue fun _ _ _ h1 => h1.coreEffect

theorem muldiv (h : s₀.Keeps s) {minor : BitVec 5} {op : W64 → W64 → W64} {c : CoreId} {a : CoreArgs} :
    s₀.Answers (muldiv minor op c a s) :=
  h.issue fun _ _ _ h1 => h1.coreEffect

theorem execMul (h : s₀.Keeps s) {c : CoreId} {a : CoreArgs} : s₀.Answers (execMul c a s) := h.muldiv
theorem execMulh (h : s₀.Keeps s) {c : CoreId} {a : CoreArgs} : s₀.Answers (execMulh c a s) := h.muldiv
theorem execMulhu (h : s₀.Keeps s) {c : CoreId} {a : CoreArgs} : s₀.Answers (execMulhu c a s) := h.muldiv
theorem execDiv (h : s₀.Keeps s) {c : CoreId} {a : CoreArgs} : s₀.Answers (execDiv c a s) := h.muldiv
theorem execDivu (h : s₀.Keeps s) {c : CoreId} {a : CoreArgs} : s₀.Answers (execDivu c a s) := h.muldiv
theorem execRem (h : s₀.Keeps s) {c : CoreId} {a : CoreArgs} : s₀.Answers (execRem c a s) := h.muldiv
theorem execRemu (h : s₀.Keeps s) {c : CoreId} {a : CoreArgs} : s₀.Answers (execRemu c a s) := h.muldiv

theorem execLd (h : s₀.Keeps s) {c : CoreId} {a : CoreArgs} : s₀.Answers (execLd c a s) :=
  h.issue fun _ _ _ h1 => .ite trivial (.ite h1 (.ite trivial (.ite trivial h1.coreEffect)))

theorem rawStore (h : s₀.Keeps s) {c : CoreId} {k : Core} {x : CtxId} {n off align : ℕ} {bs : List Byte}
    {poison : Bool} :
    s₀.Allows (rawStore s c k x n off align bs poison) :=
  .ite trivial (.ite h (.ite h (.ite trivial h.coreEffect)))

theorem execSt (h : s₀.Keeps s) {c : CoreId} {a : CoreArgs} : s₀.Answers (execSt c a s) :=
  h.issue fun _ _ _ h1 => h1.rawStore

theorem goto (ht : s₀.Keeps t) {s : State} {c : CoreId} {k : Core} {target : ℤ} : s₀.Allows (goto s t c k target) :=
    by
  unfold Machine.goto
  split
  · exact ht
  · trivial

theorem branch (h : s₀.Keeps s) {minor : BitVec 5} {cond : W64 → W64 → Bool} {c : CoreId} {a : CoreArgs} :
    s₀.Answers (branch minor cond c a s) :=
  h.issue fun _ _ _ h1 => .ite h1.goto h1

theorem execBeq (h : s₀.Keeps s) {c : CoreId} {a : CoreArgs} : s₀.Answers (execBeq c a s) := h.branch
theorem execBne (h : s₀.Keeps s) {c : CoreId} {a : CoreArgs} : s₀.Answers (execBne c a s) := h.branch
theorem execBlt (h : s₀.Keeps s) {c : CoreId} {a : CoreArgs} : s₀.Answers (execBlt c a s) := h.branch
theorem execBge (h : s₀.Keeps s) {c : CoreId} {a : CoreArgs} : s₀.Answers (execBge c a s) := h.branch
theorem execBltu (h : s₀.Keeps s) {c : CoreId} {a : CoreArgs} : s₀.Answers (execBltu c a s) := h.branch
theorem execBgeu (h : s₀.Keeps s) {c : CoreId} {a : CoreArgs} : s₀.Answers (execBgeu c a s) := h.branch

theorem execDbnz (h : s₀.Keeps s) {c : CoreId} {a : CoreArgs} : s₀.Answers (execDbnz c a s) :=
  h.issue fun _ _ _ h1 => .ite h1.putCore.goto h1.putCore

theorem execJ (h : s₀.Keeps s) {c : CoreId} {a : CoreArgs} : s₀.Answers (execJ c a s) :=
  h.issue fun _ _ _ h1 => h1.goto

theorem execJal (h : s₀.Keeps s) {c : CoreId} {a : CoreArgs} : s₀.Answers (execJal c a s) :=
  h.issue fun _ _ _ h1 => h1.putCore.goto

theorem execJr (h : s₀.Keeps s) {c : CoreId} {a : CoreArgs} : s₀.Answers (execJr c a s) :=
  h.issue fun _ _ _ h1 => h1.goto

/-! #### Machine/Vector -/

theorem laneOp (h : s₀.Keeps s) {major : BitVec 6} {minor : BitVec 5} {useB useD : Bool}
    {f : W32 → W32 → W32 → W32 × FpFlags} {c : CoreId} {a : CoreArgs} {defined : Bool} :
    s₀.Answers (laneOp major minor useB useD f c a s defined) :=
  h.issue fun _ _ _ h1 => h1.coreEffect

theorem floatOp2 (h : s₀.Keeps s) {minor : BitVec 5} {f : W32 → W32 → W32 × FpFlags} {c : CoreId} {a : CoreArgs} :
    s₀.Answers (floatOp2 minor f c a s) :=
  h.laneOp

theorem floatOp1 (h : s₀.Keeps s) {minor : BitVec 5} {f : W32 → W32 × FpFlags} {c : CoreId} {a : CoreArgs} :
    s₀.Answers (floatOp1 minor f c a s) :=
  h.laneOp

theorem execVadd (h : s₀.Keeps s) {c : CoreId} {a : CoreArgs} : s₀.Answers (execVadd c a s) := h.floatOp2
theorem execVsub (h : s₀.Keeps s) {c : CoreId} {a : CoreArgs} : s₀.Answers (execVsub c a s) := h.floatOp2
theorem execVmul (h : s₀.Keeps s) {c : CoreId} {a : CoreArgs} : s₀.Answers (execVmul c a s) := h.floatOp2
theorem execVfma (h : s₀.Keeps s) {c : CoreId} {a : CoreArgs} : s₀.Answers (execVfma c a s) := h.laneOp
theorem execVfms (h : s₀.Keeps s) {c : CoreId} {a : CoreArgs} : s₀.Answers (execVfms c a s) := h.laneOp
theorem execVmin (h : s₀.Keeps s) {c : CoreId} {a : CoreArgs} : s₀.Answers (execVmin c a s) := h.floatOp2
theorem execVmax (h : s₀.Keeps s) {c : CoreId} {a : CoreArgs} : s₀.Answers (execVmax c a s) := h.floatOp2
theorem execVabs (h : s₀.Keeps s) {c : CoreId} {a : CoreArgs} : s₀.Answers (execVabs c a s) := h.floatOp1
theorem execVneg (h : s₀.Keeps s) {c : CoreId} {a : CoreArgs} : s₀.Answers (execVneg c a s) := h.floatOp1

theorem intOp (h : s₀.Keeps s) {minor : BitVec 5} {f : W32 → W32 → W32} {c : CoreId} {a : CoreArgs} :
    s₀.Answers (intOp minor f c a s) :=
  h.laneOp

theorem execViadd (h : s₀.Keeps s) {c : CoreId} {a : CoreArgs} : s₀.Answers (execViadd c a s) := h.intOp
theorem execVisub (h : s₀.Keeps s) {c : CoreId} {a : CoreArgs} : s₀.Answers (execVisub c a s) := h.intOp
theorem execVimul (h : s₀.Keeps s) {c : CoreId} {a : CoreArgs} : s₀.Answers (execVimul c a s) := h.intOp
theorem execVand (h : s₀.Keeps s) {c : CoreId} {a : CoreArgs} : s₀.Answers (execVand c a s) := h.intOp
theorem execVor (h : s₀.Keeps s) {c : CoreId} {a : CoreArgs} : s₀.Answers (execVor c a s) := h.intOp
theorem execVxor (h : s₀.Keeps s) {c : CoreId} {a : CoreArgs} : s₀.Answers (execVxor c a s) := h.intOp
theorem execVsll (h : s₀.Keeps s) {c : CoreId} {a : CoreArgs} : s₀.Answers (execVsll c a s) := h.intOp
theorem execVsrl (h : s₀.Keeps s) {c : CoreId} {a : CoreArgs} : s₀.Answers (execVsrl c a s) := h.intOp
theorem execVsra (h : s₀.Keeps s) {c : CoreId} {a : CoreArgs} : s₀.Answers (execVsra c a s) := h.intOp

theorem compare (h : s₀.Keeps s) {minor : BitVec 5} {f : W32 → W32 → Bool × FpFlags} {c : CoreId} {a : CoreArgs} :
    s₀.Answers (compare minor f c a s) :=
  h.issue fun _ _ _ h1 => h1.coreEffect

theorem execVceq (h : s₀.Keeps s) {c : CoreId} {a : CoreArgs} : s₀.Answers (execVceq c a s) := h.compare
theorem execVclt (h : s₀.Keeps s) {c : CoreId} {a : CoreArgs} : s₀.Answers (execVclt c a s) := h.compare
theorem execVcle (h : s₀.Keeps s) {c : CoreId} {a : CoreArgs} : s₀.Answers (execVcle c a s) := h.compare
theorem execVcun (h : s₀.Keeps s) {c : CoreId} {a : CoreArgs} : s₀.Answers (execVcun c a s) := h.compare
theorem execViceq (h : s₀.Keeps s) {c : CoreId} {a : CoreArgs} : s₀.Answers (execViceq c a s) := h.compare
theorem execViclt (h : s₀.Keeps s) {c : CoreId} {a : CoreArgs} : s₀.Answers (execViclt c a s) := h.compare

theorem execVcvt (h : s₀.Keeps s) {c : CoreId} {a : CoreArgs} : s₀.Answers (execVcvt c a s) := by
  unfold Machine.execVcvt
  exact h.issue fun _ _ _ h1 => .ite trivial h1.coreEffect

theorem execVcvti (h : s₀.Keeps s) {c : CoreId} {a : CoreArgs} : s₀.Answers (execVcvti c a s) := h.laneOp

theorem specialOp (h : s₀.Keeps s) {minor : BitVec 5} {f : W32 → W32 × FpFlags} {c : CoreId} {a : CoreArgs} :
    s₀.Answers (specialOp minor f c a s) :=
  h.laneOp

theorem execVrcp (h : s₀.Keeps s) {c : CoreId} {a : CoreArgs} : s₀.Answers (execVrcp c a s) := h.specialOp
theorem execVrsq (h : s₀.Keeps s) {c : CoreId} {a : CoreArgs} : s₀.Answers (execVrsq c a s) := h.specialOp
theorem execVexp (h : s₀.Keeps s) {c : CoreId} {a : CoreArgs} : s₀.Answers (execVexp c a s) := h.specialOp
theorem execVlog (h : s₀.Keeps s) {c : CoreId} {a : CoreArgs} : s₀.Answers (execVlog c a s) := h.specialOp

theorem reduction (h : s₀.Keeps s) {minor : BitVec 5} {f : W32 → W32 → W32 × FpFlags} {identity : W32} {c : CoreId}
    {a : CoreArgs} :
    s₀.Answers (reduction minor f identity c a s) :=
  h.issue fun _ _ _ h1 => h1.coreEffect

theorem execVrsum (h : s₀.Keeps s) {c : CoreId} {a : CoreArgs} : s₀.Answers (execVrsum c a s) := h.reduction
theorem execVrmax (h : s₀.Keeps s) {c : CoreId} {a : CoreArgs} : s₀.Answers (execVrmax c a s) := h.reduction
theorem execVrmin (h : s₀.Keeps s) {c : CoreId} {a : CoreArgs} : s₀.Answers (execVrmin c a s) := h.reduction
theorem execVmov (h : s₀.Keeps s) {c : CoreId} {a : CoreArgs} : s₀.Answers (execVmov c a s) := h.laneOp

theorem execVbcast (h : s₀.Keeps s) {c : CoreId} {a : CoreArgs} : s₀.Answers (execVbcast c a s) :=
  h.issue fun _ _ _ h1 => h1.coreEffect

theorem execVext (h : s₀.Keeps s) {c : CoreId} {a : CoreArgs} : s₀.Answers (execVext c a s) :=
  h.issue fun _ _ _ h1 => h1.coreEffect

theorem execVsel (h : s₀.Keeps s) {c : CoreId} {a : CoreArgs} : s₀.Answers (execVsel c a s) :=
  h.issue fun _ _ _ h1 => h1.coreEffect

theorem maskOp (h : s₀.Keeps s) {minor : BitVec 5} {useB : Bool} {f : W64 → W64 → W64} {c : CoreId} {a : CoreArgs} :
    s₀.Answers (maskOp minor useB f c a s) :=
  h.issue fun _ _ _ h1 => h1.coreEffect

theorem execMand (h : s₀.Keeps s) {c : CoreId} {a : CoreArgs} : s₀.Answers (execMand c a s) := h.maskOp
theorem execMor (h : s₀.Keeps s) {c : CoreId} {a : CoreArgs} : s₀.Answers (execMor c a s) := h.maskOp
theorem execMxor (h : s₀.Keeps s) {c : CoreId} {a : CoreArgs} : s₀.Answers (execMxor c a s) := h.maskOp
theorem execMnot (h : s₀.Keeps s) {c : CoreId} {a : CoreArgs} : s₀.Answers (execMnot c a s) := h.maskOp

theorem execMset (h : s₀.Keeps s) {c : CoreId} {a : CoreArgs} : s₀.Answers (execMset c a s) :=
  h.issue fun _ _ _ h1 => h1.coreEffect

theorem execVaccr (h : s₀.Keeps s) {c : CoreId} {a : CoreArgs} : s₀.Answers (execVaccr c a s) :=
  h.issue fun _ _ _ h1 => .ite h1 h1.coreEffect

theorem execVaccw (h : s₀.Keeps s) {c : CoreId} {a : CoreArgs} : s₀.Answers (execVaccw c a s) :=
  h.issue fun _ _ _ h1 => h1.coreEffect

theorem execVldr (h : s₀.Keeps s) {c : CoreId} {a : CoreArgs} : s₀.Answers (execVldr c a s) :=
  h.issue fun _ _ _ h1 => .ite trivial (.ite h1 (.ite trivial (ite h1.useFrees h1).coreEffect))

theorem execVstr (h : s₀.Keeps s) {c : CoreId} {a : CoreArgs} : s₀.Answers (execVstr c a s) := by
  unfold Machine.execVstr
  refine h.issue (fun _ _ _ h1 => ?_)
  refine .ite trivial ?_
  refine .ite h1 ?_
  refine .ite h1 ?_
  refine .ite trivial ?_
  refine .ite trivial ?_
  split
  · exact h1.coreEffect

theorem execVld (h : s₀.Keeps s) {c : CoreId} {a : CoreArgs} : s₀.Answers (execVld c a s) :=
  h.issue fun _ _ _ h1 => .ite trivial (.ite h1 (.ite trivial h1.coreEffect))

theorem execVst (h : s₀.Keeps s) {c : CoreId} {a : CoreArgs} : s₀.Answers (execVst c a s) :=
  h.issue fun _ _ _ h1 => .ite trivial (.ite h1 (.ite h1 (.ite trivial h1.coreEffect)))

theorem execVfwcv (h : s₀.Keeps s) {c : CoreId} {a : CoreArgs} : s₀.Answers (execVfwcv c a s) :=
  h.issue fun _ _ _ h1 => h1.coreEffect

theorem execVfwadd (h : s₀.Keeps s) {c : CoreId} {a : CoreArgs} : s₀.Answers (execVfwadd c a s) :=
  h.issue fun _ _ _ h1 => h1.coreEffect

theorem execVfwcf (h : s₀.Keeps s) {c : CoreId} {a : CoreArgs} : s₀.Answers (execVfwcf c a s) :=
  h.issue fun _ _ _ h1 => h1.coreEffect

/-! #### Machine/RandomInstr -/

theorem execRidx (h : s₀.Keeps s) {c : CoreId} {a : CoreArgs} : s₀.Answers (execRidx c a s) :=
  h.issue fun _ _ _ h1 => h1.coreEffect

theorem execRlane (h : s₀.Keeps s) {c : CoreId} {a : CoreArgs} : s₀.Answers (execRlane c a s) :=
  h.issue fun _ _ _ h1 => h1.coreEffect

theorem execRnorm (h : s₀.Keeps s) {c : CoreId} {a : CoreArgs} : s₀.Answers (execRnorm c a s) :=
  h.issue fun _ _ _ h1 => .ite h1.coreEffect h1.coreEffect

theorem execRsetSeed (h : s₀.Keeps s) {c : CoreId} {a : CoreArgs} : s₀.Answers (execRsetSeed c a s) :=
  h.issue fun _ _ _ h1 => h1.coreEffect

theorem execRsetStreamId (h : s₀.Keeps s) {c : CoreId} {a : CoreArgs} : s₀.Answers (execRsetStreamId c a s) :=
  h.issue fun _ _ _ h1 => h1.coreEffect

theorem execRsetIndexBase (h : s₀.Keeps s) {c : CoreId} {a : CoreArgs} : s₀.Answers (execRsetIndexBase c a s) :=
  h.issue fun _ _ _ h1 => h1.coreEffect

theorem execRsave (h : s₀.Keeps s) {c : CoreId} {a : CoreArgs} : s₀.Answers (execRsave c a s) :=
  h.issue fun _ _ _ h1 => .ite trivial h1.rawStore

theorem execRload (h : s₀.Keeps s) {c : CoreId} {a : CoreArgs} : s₀.Answers (execRload c a s) :=
  h.issue fun _ _ _ h1 => .ite trivial (.ite h1 (.ite trivial h1.coreEffect))

/-! #### Machine/Begin -/

theorem stepCopy (h : s₀.Keeps s) {x r c : ℕ} : s₀.Keeps (s.stepCopy x r c) := .ite h.putCore h.putCore.chargeBasket

theorem takeCopies (h : s₀.Keeps s) {x : ℕ} : s₀.Keeps (s.takeCopies x) :=
  h.each fun _ _ h1 => h1.each fun _ _ h2 => h2.stepCopy

theorem passTiles (h : s₀.Keeps s) {x : CtxId} {toB : Bool} : s₀.Keeps (s.passTiles x toB) :=
  (h.each fun _ _ h1 => h1.putTile.putTile).tables fun w => { w with clusters := tmap_wf _ _ _ }

theorem activate (h : s₀.Keeps s) {x : CtxId} {version : W32} : s₀.Keeps (s.activate x version) :=
  .ite h (ite h h.passTiles).modCtx

theorem clearPlaced (h : s₀.Keeps s) {x : CtxId} : s₀.Keeps (s.clearPlaced x) := by
  unfold State.clearPlaced
  refine h.each (fun _ _ h1 => ?_)
  split
  · exact .ite h1 (h1.each fun _ _ h2 => h2.modTile)
  · exact h1

theorem queueProgram (h : s₀.Keeps s) {x : CtxId} {r c : ℕ} : s₀.Keeps (s.queueProgram x r c) :=
  .ite h.putCore (.ite h h.putCore)

theorem armRegion (h : s₀.Keeps s) {x : CtxId} {r : ℕ} : s₀.Keeps (s.armRegion x r) :=
  (h.modRegion.each fun _ _ h1 => h1.modCluster).each fun _ _ h1 => h1.queueProgram

theorem dropLinked (h : s₀.Keeps s) {x : CtxId} : s₀.Keeps (s.dropLinked x) := h.modCtx.each fun _ _ h1 => h1.modPeg

theorem openStep (h : s₀.Keeps s) {x : CtxId} {b : BeginArgs} {cmd : Option Hdr} : s₀.Keeps (s.openStep x b cmd) :=
  h.dropTreePasses.takeCopies.activate.clearPlaced.modCtx.dropLinked.each fun _ _ h1 => h1.armRegion

theorem beginStep (h : s₀.Keeps s) {x : CtxId} {b : BeginArgs} {cmd : Option Hdr} :
    s₀.Keeps (s.beginStep x b cmd).1 := by
  unfold State.beginStep
  split
  · dsimp only
    exact h
  · dsimp only
    exact h.openStep.closeBatch

theorem switchSlots (h : s₀.Keeps s) {x : CtxId} : s₀.Keeps (s.switchSlots x) := h.putCtx.completeSome

theorem linkComplete (h : s₀.Keeps s) {x : CtxId} {r : TreeRec} {g : GroupId} {m : PegMsg} :
    s₀.Keeps (s.linkComplete x r g m) :=
  h.sendDown.modPeg.postPeg

theorem linkArrive (h : s₀.Keeps s) {x : CtxId} {tree : ℕ} {g : GroupId} {gen : W32} {n : ℕ} {nan : Bool} :
    s₀.Keeps (s.linkArrive x tree g gen n nan) := by
  unfold State.linkArrive
  split
  · exact h
  · exact .ite (.ite h.putCtx h.putCtx.sendUp) (.ite h.putCtx (.ite h.putCtx.decideStep h.putCtx.linkComplete))

theorem linkLocal (h : s₀.Keeps s) {x : CtxId} {tree : ℕ} {g : GroupId} {nan : Bool} :
    s₀.Keeps (s.linkLocal x tree g nan) :=
  h.modPeg.linkArrive

theorem holdDone (h : s₀.Keeps s) {x : CtxId} {nan : Bool} : s₀.Keeps (s.holdDone x nan) := .ite h h.putCtx

theorem releaseDone (h : s₀.Keeps s) {x : CtxId} : s₀.Keeps (s.releaseDone x) := by
  dsimp only [State.releaseDone]
  split
  · exact h
  · refine .ite h ?_
    split
    · exact h.putCtx.decideStep
    · exact h.putCtx.linkLocal

theorem completeGroup (h : s₀.Keeps s) {g : GroupId} : s₀.Keeps (s.completeGroup g) := by
  unfold State.completeGroup
  refine .ite h ?_
  refine .ite h.putPeg ?_
  refine .ite (.ite h.putPeg h.putPeg.holdDone) ?_
  split
  · exact h.putPeg.linkLocal
  · exact h.putPeg

/-! #### Machine/Manager -/

theorem stray (h : s₀.Keeps s) {x : CtxId} : s₀.Keeps (s.stray x) := h.treeBump

theorem execPegArrive (h : s₀.Keeps s) {u : UnitId} {m : PegMsg} : s₀.Answers (execPegArrive u m s) := by
  unfold Machine.execPegArrive
  split
  · exact h
  · split
    · exact h.stray
    · exact .ite h.stray h.linkArrive

theorem execPegComplete (h : s₀.Keeps s) {u : UnitId} {m : PegMsg} : s₀.Answers (execPegComplete u m s) := by
  unfold Machine.execPegComplete
  split
  · exact h
  · split
    · exact h.stray
    · exact .ite h.linkComplete h.stray

theorem fromParent (h : s₀.Keeps s) {u : UnitId} {job : W16} {f : CtxId → TreeRec → State}
    (hf : ∀ x r, s₀.Keeps (f x r)) : s₀.Answers (s.fromParent u job f) := by
  unfold State.fromParent
  split
  · exact h
  · split
    · exact h.stray
    · exact State.Keeps.ite (hf _ _) h.stray

theorem fromChild (h : s₀.Keeps s) {u : UnitId} {job : W16} {f : CtxId → TreeRec → State}
    (hf : ∀ x r, s₀.Keeps (f x r)) : s₀.Answers (s.fromChild u job f) := by
  unfold State.fromChild
  split
  · exact h
  · split
    · exact h.stray
    · exact State.Keeps.ite (hf _ _) h.stray

theorem reportBegin (h : s₀.Keeps s) {x : CtxId} {r : TreeRec} {step : W32} {st : Byte} :
    s₀.Keeps (s.reportBegin x r step st) :=
  h.treeBump.sendUp

theorem execBeginMsg (h : s₀.Keeps s) {u : UnitId} {m : StepMsg} {b : BeginArgs} :
    s₀.Answers (execBeginMsg u m b s) := by
  unfold Machine.execBeginMsg
  refine h.fromParent fun x r => ?_
  extract_lets sent closed switched
  have hclosed : s₀.Keeps closed := .ite h.sendDown.closeStep h.sendDown
  have hswitched : s₀.Keeps switched := .ite hclosed.switchSlots hclosed
  refine .ite hswitched.reportBegin ?_
  have begun := hswitched.beginStep (x := x) (b := b) (cmd := none)
  generalize switched.beginStep x b none = r at begun
  obtain ⟨t, _ | e⟩ := r
  · exact begun
  · exact State.Keeps.reportBegin (s := t) begun

theorem outcome (h : s₀.Keeps s) {u : UnitId} {m : StepMsg} {sub : Byte} {code : Fin 6} :
    s₀.Answers (s.outcome u m sub code) :=
  h.fromParent fun _ _ => .ite h.sendDown.gradBump h.sendDown.closeStep

theorem execCommitMsg (h : s₀.Keeps s) {u : UnitId} {m : StepMsg} : s₀.Answers (execCommitMsg u m s) := h.outcome
theorem execSkipMsg (h : s₀.Keeps s) {u : UnitId} {m : StepMsg} : s₀.Answers (execSkipMsg u m s) := h.outcome
theorem execAbandonMsg (h : s₀.Keeps s) {u : UnitId} {m : StepMsg} : s₀.Answers (execAbandonMsg u m s) := h.outcome
theorem execInvalidMsg (h : s₀.Keeps s) {u : UnitId} {m : StepMsg} : s₀.Answers (execInvalidMsg u m s) := h.outcome
theorem lateTrigger (h : s₀.Keeps s) {x : CtxId} {step : W32} : s₀.Keeps (s.lateTrigger x step) := h.treeBump.raise

theorem execReportMsg (h : s₀.Keeps s) {u : UnitId} {m : StepMsg} {detail : BitVec 256} :
    s₀.Answers (execReportMsg u m detail s) :=
  h.fromChild fun _ _ => .ite (.ite h.decideStep h.lateTrigger) h.treeBump.sendUp

theorem settleBcast (h : s₀.Keeps s) {x : CtxId} : s₀.Keeps (s.settleBcast x) := by
  unfold State.settleBcast
  split
  · exact h
  · split
    · split
      · exact h.modCtx.complete
      · exact h
    · split
      · exact h
      · split
        · exact .ite h.modCtx.complete (.ite h.modCtx.complete h)
        · exact h.modCtx.sendUp

theorem applyBcast (h : s₀.Keeps s) {x : CtxId} {c : BcastCmd} : s₀.Keeps (s.applyBcast x c).1 := by
  unfold State.applyBcast
  split
  · exact h
  · cases c with
    | regionMap recs => exact h.mapRegions
    | programLoad a => exact h.loadProgram

theorem execSegmentMsg (h : s₀.Keeps s) {u : UnitId} {m : StepMsg} {body : Segment} :
    s₀.Answers (execSegmentMsg u m body s) := by
  unfold Machine.execSegmentMsg
  refine h.fromParent fun x r => ?_
  dsimp only
  split
  · exact h.sendDown
  · exact h.sendDown.applyBcast.modCtx.settleBcast

theorem execResultMsg (h : s₀.Keeps s) {u : UnitId} {m : StepMsg} : s₀.Answers (execResultMsg u m s) := by
  unfold Machine.execResultMsg
  refine h.fromChild (fun _ _ => ?_)
  split
  · exact h.modCtx.settleBcast
  · exact .ite h h.modCtx

theorem execBroadcastTimeout (h : s₀.Keeps s) {x : CtxId} : s₀.Answers (execBroadcastTimeout x s) := by
  unfold Machine.execBroadcastTimeout
  split
  · split
    · exact .ite h.modCtx.complete h
    · exact h
  · exact h

theorem execTelemMsg (h : s₀.Keeps s) {u : UnitId} {m : StepMsg} {body : BitVec 256} :
    s₀.Answers (execTelemMsg u m body s) :=
  h.fromChild fun _ _ => .ite h.modCtx h.sendUp

theorem execTelemSend (h : s₀.Keeps s) {x : CtxId} : s₀.Answers (execTelemSend x s) := by
  unfold Machine.execTelemSend
  split
  · exact .ite h.sendUp h
  · exact h

/-! #### Machine/SeamCode -/

theorem codewordEnds (h : s₀.Keeps s) {u : ℕ} {wrong : List (Fin 544)} : s₀.Keeps (s.codewordEnds u wrong) :=
  .ite h h.linkBump

/-! #### Machine/Links -/

theorem goBack (h : s₀.Keeps s) {u : ℕ} : s₀.Keeps (s.goBack u) := .ite h h.modUnit.linkBump.scoreUnit
theorem takeAck (h : s₀.Keeps s) {u : ℕ} {f : Flit} : s₀.Keeps (s.takeAck u f) := .ite h.modUnit.goBack h.modUnit

theorem resync (h : s₀.Keeps s) {u : ℕ} {f : Flit} : s₀.Keeps (s.resync u f) :=
  .ite h (.ite h.putUnit h.putUnit.linkBump.scoreUnit)

theorem execFlitReceive (h : s₀.Keeps s) {u : UnitId} {a : FlitArrival} : s₀.Answers (execFlitReceive u a s) := by
  unfold Machine.execFlitReceive
  extract_lets f counted taken aligned l k
  have hcounted : s₀.Keeps counted := h.codewordEnds
  have htaken : s₀.Keeps taken := hcounted.takeAck
  have haligned : s₀.Keeps aligned := .ite htaken.resync htaken
  refine .ite trivial (.ite h (.ite hcounted.modUnit.linkBump.scoreUnit ?_))
  split
  · exact .ite (.next (.ite haligned haligned.putUnit)) haligned.putUnit
  · exact htaken

theorem execMessageAdmission (h : s₀.Keeps s) {u : UnitId} {mtype : Byte} {job : W16} :
    s₀.Answers (execMessageAdmission u mtype job s) := by
  dsimp only [Machine.execMessageAdmission]
  split
  · exact h
  · refine .ite h ?_
    refine .ite h.putUnit.linkBump ?_
    refine .ite h.putUnit ?_
    split
    · exact h.putUnit.linkBump
    · refine .ite ?_ ?_
      · exact h.putUnit.linkBump
      · exact .ite (.next (.ite h.putUnit.stray h.putUnit)) (.ite h.putUnit.brimBump h.putUnit.linkBump)

theorem unitSend (h : s₀.Keeps s) {u : ℕ} {m : OutMsg} : s₀.Keeps (s.unitSend u m) := .ite h.transmit h
theorem moveFlits (h : s₀.Keeps s) {a b : ℕ} : s₀.Keeps (s.moveFlits a b) := h.modUnit.modUnit

theorem formGang (h : s₀.Keeps s) {us : List ℕ} : s₀.Keeps (s.formGang us) :=
  (h.each fun _ _ h1 => h1.modUnit.modUnit).each fun _ _ h1 => h1.modUnit

theorem beginRetrain (h : s₀.Keeps s) {u : ℕ} : s₀.Keeps (s.beginRetrain u) := h.modUnit.linkBump.scoreUnit

theorem leaveGang (h : s₀.Keeps s) {u : ℕ} : s₀.Keeps (s.leaveGang u) := by
  unfold State.leaveGang
  split
  · exact h
  · dsimp only
    refine .each (.formGang (.formGang ?_)) fun _ _ h => .ite h.beginRetrain h
    split
    · exact .ite h.moveFlits h
    · exact h

theorem unitDown (h : s₀.Keeps s) {u : ℕ} {cause : DownCause} : s₀.Keeps (s.unitDown u cause) := h.leaveGang.modUnit
theorem downAll (h : s₀.Keeps s) : s₀.Keeps s.downAll := h.each fun _ _ h1 => h1.modUnit
theorem beginTraining (h : s₀.Keeps s) {u : ℕ} : s₀.Keeps (s.beginTraining u) := h.modUnit
theorem addRequest (h : s₀.Keeps s) {k : RequestKind} : s₀.Keeps (s.addRequest k) := h.update

theorem alignUnit (h : s₀.Keeps s) {u : ℕ} {badTx badRx : BitVec 9} : s₀.Keeps (s.alignUnit u badTx badRx) := by
  dsimp only [State.alignUnit]
  split
  · exact (ite h.putUnit h.putUnit.linkBump.scoreUnit).unitDown
  · exact (ite h.putUnit h.putUnit.linkBump.scoreUnit).leaveGang
  · exact .ite h.putUnit h.putUnit.linkBump.scoreUnit

theorem identUnit (h : s₀.Keeps s) {u : ℕ} {kind : PeerKind} {serial : BitVec 48} {unit : BitVec 7}
    {gangAgrees : Bool} :
    s₀.Keeps (s.identUnit u kind serial unit gangAgrees) :=
  .ite h.modUnit.unitDown.raise h.modUnit.modUnit

theorem execTrainingStage (h : s₀.Keeps s) {u : UnitId} {o : StageOutcome} :
    s₀.Answers (execTrainingStage u o s) := by
  unfold Machine.execTrainingStage
  refine .ite h ?_
  split
  · exact .ite h h.putUnit
  · exact .ite h (.ite h.putUnit (.ite h.putUnit.addRequest h.putUnit))
  · exact .ite h (.ite h.putUnit.addRequest h.putUnit)
  · exact .ite h h.alignUnit
  · exact .ite h h.identUnit
  · exact .ite h (ite h.update h).putUnit.modUnit

theorem stageFails (h : s₀.Keeps s) {u : ℕ} : s₀.Keeps (s.stageFails u) :=
  .ite h.putUnit (.ite h.unitDown.raise h.putUnit)

theorem switchLane (h : s₀.Keeps s) {u : ℕ} {rx : Bool} {lane : Fin 9} {host : Bool} :
    s₀.Keeps (s.switchLane u rx lane host) :=
  .ite h h.putUnit.unitSend.linkBump.scoreUnit.record

theorem execLinkMsg (h : s₀.Keeps s) {u : UnitId} {m : LinkMsg} : s₀.Answers (execLinkMsg u m s) := by
  unfold Machine.execLinkMsg
  refine .ite h ?_
  split
  · exact .ite h.identUnit h
  · exact h.unitSend
  · exact h

theorem advance (h : s₀.Keeps s) : s₀.Keeps s.advance := .ite h.update (.ite h.update (.ite h.update h.update))

theorem takeTime (h : s₀.Keeps s) {t1 t2 t3 t4 : W64} {depth : Byte} : s₀.Keeps (s.takeTime t1 t2 t3 t4 depth) :=
  .ite h.update h.update

theorem execTimeMsg (h : s₀.Keeps s) {u : UnitId} {m : TimeMsg} : s₀.Answers (execTimeMsg u m s) := by
  unfold Machine.execTimeMsg
  refine .ite h ?_
  split
  · exact h.unitSend
  · exact .ite h.takeTime h

theorem execTimeExchange (h : s₀.Keeps s) : s₀.Answers (execTimeExchange s) := by
  unfold Machine.execTimeExchange
  split
  · exact h
  · exact .ite h h.update.unitSend

/-! #### Machine/DarnOps -/

theorem losePockets (h : s₀.Keeps s) {p : ℕ → Bool} : s₀.Keeps (s.losePockets p) :=
  h.tables fun w => { w with cores := tmap_wf _ _ _, tiles := tmap_wf _ _ _ }

theorem resetCore (h : s₀.Keeps s) {c : ℕ} : s₀.Keeps (s.resetCore c) := h.losePockets.modCore

theorem beginServing (h : s₀.Keeps s) {c : ℕ} : s₀.Keeps (s.beginServing c) := by
  unfold State.beginServing
  split
  · exact h
  · exact h.startBeats

theorem noteSpare (h : s₀.Keeps s) {src : Source} {d : List W64} : s₀.Keeps (s.noteSpare src d) := h.raise
theorem noteRetired (h : s₀.Keeps s) {src : Source} {d : List W64} : s₀.Keeps (s.noteRetired src d) := h.raise

theorem retireRow (h : s₀.Keeps s) {row : ℕ} {host : Bool} : s₀.Keeps (s.retireRow row host) :=
  .ite h (h.each fun _ _ h1 => h1.resetCore).record.staleRegions.noteRetired

theorem failSlice (h : s₀.Keeps s) {p : ℕ} : s₀.Keeps (s.failSlice p) := h.scorePhys

theorem endRestoring (h : s₀.Keeps s) {k : ℕ} {bad : List ℕ} : s₀.Keeps (s.endRestoring k bad) :=
  (h.each fun _ _ h1 => h1.modPhys).update

theorem noteSlice (h : s₀.Keeps s) {k : ℕ} {kind : SliceKind} : s₀.Keeps (s.noteSlice k kind) := h.modField
theorem sliceDone (h : s₀.Keeps s) {f : ℕ} {pass : Bool} : s₀.Keeps (s.sliceDone f pass) := h.modField
theorem failPhys (h : s₀.Keeps s) {p : ℕ} : s₀.Keeps (s.failPhys p) := h.modPhys

theorem endSpare (h : s₀.Keeps s) {k : ℕ} {out : SliceOutcome} : s₀.Keeps (s.endSpare k out) := by
  unfold State.endSpare
  dsimp only
  have failed : ∀ {l : List ℕ}, s₀.Keeps ((s.each l (fun s p => (s.failSlice p).failPhys p)).endRestoring k l) :=
    (h.each fun _ _ h => h.failSlice.failPhys).endRestoring
  exact .sliceDone (.ite failed.modField failed)

theorem freshSpare (h : s₀.Keeps s) {failed : List PhysId} {p : Part} : s₀.Keeps (s.freshSpare failed p) :=
  .ite h h.noteSlice.endSpare

theorem bringIn (h : s₀.Keeps s) {row q : ℕ} : s₀.Keeps (s.bringIn row q) :=
  h.update.each fun _ _ h1 => h1.resetCore.beginServing

theorem repairCore (h : s₀.Keeps s) {p : ℕ} {host : Bool} : s₀.Keeps (s.repairCore p host) := by
  dsimp only [State.repairCore]
  split
  · exact h.failPhys.record
  · refine .ite h.failPhys.record ?_
    refine .ite h.failPhys.record.resetCore.beginServing.noteSpare ?_
    split
    · exact h.failPhys.record.bringIn.noteSpare
    · exact h.failPhys.record.retireRow

theorem repairRouter (h : s₀.Keeps s) {k : ℕ} {host : Bool} : s₀.Keeps (s.repairRouter k host) :=
  .ite h h.record.noteRetired.staleRegions.strand.detourUpdate

theorem repairShared (h : s₀.Keeps s) {k : ℕ} {host : Bool} : s₀.Keeps (s.repairShared k host) :=
  h.each fun _ _ h1 => h1.retireRow

theorem repairField (h : s₀.Keeps s) {f : ℕ} {host : Bool} : s₀.Keeps (s.repairField f host) :=
  .ite h h.stopField.record.noteRetired

theorem applyBoundary (h : s₀.Keeps s) {f b : ℕ} : s₀.Keeps (s.applyBoundary f b) :=
  .ite h.modField h.modField.detourUpdate

theorem repairGroup (h : s₀.Keeps s) {p : Part} {host : Bool} : s₀.Keeps (s.repairGroup p host) :=
  .ite h.record.applyBoundary.noteSpare h.record.applyBoundary

theorem moveOff (h : s₀.Keeps s) {key : ℕ} {fits : Bool} : s₀.Keeps (s.moveOff key fits).1 := by
  dsimp only [State.moveOff]
  split
  · dsimp only
    exact h.modStack.putTile
  · dsimp only
    exact .ite h.putTile.poisonTile h.putTile

theorem emptyPair (hs : s₀.Keeps s) {h q : ℕ} : s₀.Keeps (s.emptyPair h q) := by
  unfold State.emptyPair
  extract_lets keys placed excess retired r
  have hretired : s₀.Keeps retired := hs.modStack
  have moved : s₀.Keeps r.1 := foldlFst hretired fun _ _ h => h.moveOff
  exact .ite moved moved.raise

theorem repairChannel (hs : s₀.Keeps s) {h ch : ℕ} {host : Bool} : s₀.Keeps (s.repairChannel h ch host) := by
  dsimp only [State.repairChannel]
  split
  · exact hs.record.modChannel
  · exact .ite hs.record.modChannel.noteSpare hs.record.modChannel.emptyPair.noteRetired

theorem repairStack (hs : s₀.Keeps s) {h : ℕ} : s₀.Keeps (s.repairStack h) :=
  (hs.modStack.each fun _ _ h1 => h1.emptyPair).noteRetired

theorem repairLane (h : s₀.Keeps s) {p : Part} {host : Bool} : s₀.Keeps (s.repairLane p host) :=
  .ite h.switchLane.noteSpare (.ite h.record.modUnit.beginRetrain h.record.modUnit)

theorem repair (h : s₀.Keeps s) {p : Part} {host : Bool} : s₀.Keeps (s.repair p host) := by
  unfold State.repair
  refine .ite h ?_
  split
  · exact h.repairCore
  · exact h.retireRow
  · exact h.repairField
  · exact h.repairRouter
  · exact h.repairGroup
  · exact h.repairChannel
  · exact h.repairLane
  · exact h

theorem abortAbove (h : s₀.Keeps s) {p : Part} : s₀.Keeps (s.abortAbove p) := by
  unfold State.abortAbove
  refine .ite h ?_
  split
  · split
    · exact h.abortOver
    · exact h
  · exact h.abortOver
  · exact h.abortOver
  · exact h

theorem endDarning (h : s₀.Keeps s) : s₀.Keeps s.endDarning := .ite h.update h.update

theorem restorePart (h : s₀.Keeps s) {p : Part} : s₀.Keeps (s.restorePart p) := by
  unfold State.restorePart
  split
  · exact h.update.resetField.modField
  · exact h.update
  · exact h.update
  · exact h.update
  · exact h.update

theorem hardenPart (h : s₀.Keeps s) {p : Part} : s₀.Keeps (s.hardenPart p) := h.update

theorem applyDarn (h : s₀.Keeps s) {rs : List DarnRec} {failed : List PhysId} : s₀.Keeps (s.applyDarn rs failed).1 :=
    by
  refine State.Keeps.foldlFst (r := (s, 0)) h fun r d h => ?_
  dsimp only
  split
  · exact h.abortAbove.freshSpare.repair
  · split
    · exact h.restorePart
    · exact h.hardenPart

theorem poisonUnreadable (kept : s₀.Keeps s) {hs : List (W32 × Bool)} : s₀.Keeps (s.poisonUnreadable hs) :=
  kept.each fun _ _ h1 => .ite h1.poisonTile h1

theorem poisonReplaced (kept : s₀.Keeps s) {rs : List DarnRec} {hs : List (W32 × Bool)} :
    s₀.Keeps (s.poisonReplaced rs hs) :=
  .ite kept.poisonUnreadable kept

/-! #### Machine/CivLink -/

theorem ringSq (h : s₀.Keeps s) {m : ℕ} {v : W16} : s₀.Keeps (s.ringSq m v) := .ite h.winErr h.putMbox
theorem ringCq (h : s₀.Keeps s) {m : ℕ} {v : W16} : s₀.Keeps (s.ringCq m v) := .ite h.winErr h.putMbox
theorem writeMbox (h : s₀.Keeps s) {m : ℕ} {v : W64} : s₀.Keeps (s.writeMbox m v) := h.modMbox
theorem writeExpCtrl (h : s₀.Keeps s) {c : ℕ} {v : W64} : s₀.Keeps (s.writeExpCtrl c v) := h.modRing
theorem writeExpCons (h : s₀.Keeps s) {c : ℕ} {v : W64} : s₀.Keeps (s.writeExpCons c v) := .ite h.winErr h.putRing
theorem exportFails (h : s₀.Keeps s) {c : ℕ} : s₀.Keeps (s.exportFails c) := h.modRing.raise

theorem execEventExport (h : s₀.Keeps s) {cls : Fin 4} {writeOk : Bool} :
    s₀.Answers (execEventExport cls writeOk s) := by
  dsimp only [Machine.execEventExport]
  split
  · exact h
  · exact .ite h (.ite h.exportFails h.putRing.update)

theorem writeWindow (h : s₀.Keeps s) {off : ℕ} {v : W64} : s₀.Keeps (s.writeWindow off v) := by
  unfold State.writeWindow
  refine .ite (.ite h.ringSq h.ringCq) ?_
  refine .ite ?_ ?_
  · split
    · exact .ite h h.putMbox
    · exact .ite h h.putMbox
    · exact h.writeMbox
    · exact h.winErr
  · refine .ite ?_ (.ite h.update h.winErr)
    split
    · exact .ite h.winErr h.putRing
    · exact h.writeExpCtrl
    · exact h.writeExpCons
    · exact h.winErr

theorem execDescriptorFetch (h : s₀.Keeps s) {m : MboxId} {d : Descriptor} :
    s₀.Answers (execDescriptorFetch m d s) := by
  unfold Machine.execDescriptorFetch
  refine .ite h ?_
  split
  · exact h.putMbox
  · exact h.putMbox
  · exact .ite h.putMbox h.putMbox.putMbox.update

theorem loseCompletion (h : s₀.Keeps s) {m : MboxId} {seq : W32} {late : Bool} :
    s₀.Keeps (s.loseCompletion m seq late) :=
  h.modMbox.update

theorem execHostAccessDeadline (h : s₀.Keeps s) {a : HostAccess} : s₀.Answers (execHostAccessDeadline a s) := by
  unfold Machine.execHostAccessDeadline
  split
  · exact .ite h.putMbox h
  · exact .ite h.loseCompletion h
  · exact .ite h.exportFails h

theorem updateMirror (h : s₀.Keeps s) : s₀.Keeps s.updateMirror := h.update
theorem execMmpOkClear (h : s₀.Keeps s) : s₀.Answers (execMmpOkClear s) := h.update

/-! #### Machine/Memory -/

theorem execScrub (h : s₀.Keeps s) {place : ScrubPlace} {found : ScrubResult} :
    s₀.Answers (execScrub place found s) := by
  unfold Machine.execScrub
  refine .ite h ?_
  split
  · exact h
  · refine .next ?_
    split
    · exact h.countCorrected.hamperBump
    · exact h.countCorrected
  · refine .next ?_
    refine .raise ?_
    split
    · exact h.countUncorrectable.each fun _ _ h1 => h1.poisonTile
    · exact h.countUncorrectable

theorem putBlock (h : s₀.Keeps s) {b : ℕ} {k : PressBlock} : s₀.Keeps (s.putBlock b k) := h.update

theorem retireBlock (h : s₀.Keeps s) {b : ℕ} : s₀.Keeps (s.retireBlock b) :=
  .ite h.putBlock.update.pressBump.raise h.putBlock.update.pressBump

theorem programBlock (h : s₀.Keeps s) {logical : ℕ} : s₀.Keeps (s.programBlock logical) := h.putBlock.update
theorem failProgram (h : s₀.Keeps s) : s₀.Keeps s.failProgram := h.retireBlock

theorem eraseBlock (h : s₀.Keeps s) {b : ℕ} {ok : Bool} : s₀.Keeps (s.eraseBlock b ok) :=
  .ite h.putBlock h.retireBlock

theorem copyBlock (h : s₀.Keeps s) {b : ℕ} {readable : Bool} {r : BlockCopy} :
    s₀.Keeps (s.copyBlock b readable r) := by
  unfold State.copyBlock
  split
  · exact h.putBlock
  · exact (h.foldl fun _ _ h1 => h1.programBlock).eraseBlock
  · exact (h.foldl fun _ _ h1 => h1.programBlock).eraseBlock
  · exact .ite (h.foldl fun _ _ h1 => h1.programBlock).putBlock (h.foldl fun _ _ h1 => h1.programBlock).retireBlock

theorem putImage (h : s₀.Keeps s) {n : ℕ} {i : ImageSlot} : s₀.Keeps (s.putImage n i) := h.update

theorem dischargeImage (h : s₀.Keeps s) {n : ℕ} : s₀.Keeps (s.dischargeImage n) := by
  dsimp only [State.dischargeImage]
  split
  · exact h.modCtx.putImage
  · exact h

theorem endInstall (h : s₀.Keeps s) {st : Byte} : s₀.Keeps (s.endInstall st) := by
  unfold State.endInstall
  split
  · exact h
  · exact h.update.complete

theorem sendAsks (h : s₀.Keeps s) {x : ℕ} {number : W32} {object : W64} {version : W32} {base : ℕ}
    {l : List (UnitId × ℕ × ℕ)} :
    s₀.Keeps (s.sendAsks x number object version base l) :=
  h.each fun _ _ h1 => h1.send

theorem pumpFill (h : s₀.Keeps s) {x : ℕ} {f : Fill} : s₀.Keeps (s.pumpFill x f) := h.modCtx.sendAsks

theorem pumpInstall (h : s₀.Keeps s) : s₀.Keeps s.pumpInstall := by
  unfold State.pumpInstall
  split
  · exact h
  · exact h.update.sendAsks

theorem pump (h : s₀.Keeps s) : s₀.Keeps s.pump :=
  (h.each fun _ _ h1 => h1.each fun _ _ h2 => h2.pumpFill).pumpInstall

theorem eraseLogical (h : s₀.Keeps s) {p : ℕ → Bool} {failed : List ℕ} : s₀.Keeps (s.eraseLogical p failed) :=
  (h.each fun _ _ h1 => h1.eraseBlock).update

theorem execPressExtentCommit (h : s₀.Keeps s) {firstTile lastTile : W32} {written : ExtentWrite}
    {verifyOk lastExtent : Bool} :
    s₀.Answers (execPressExtentCommit firstTile lastTile written verifyOk lastExtent s) := by
  dsimp only [Machine.execPressExtentCommit]
  split
  · exact h
  · split
    · exact h
    · refine .ite h ?_
      refine .ite ?_ ?_
      · refine .ite ?_ ?_
        · exact ((h.foldl fun _ _ h1 => h1.failProgram).foldl fun _ _ h1 =>
              h1.programBlock).eraseLogical.putImage.endInstall
        · exact ((h.foldl fun _ _ h1 => h1.failProgram).foldl fun _ _ h1 => h1.programBlock).eraseLogical.update
      · refine .ite ?_ ?_
        · exact ((h.foldl fun _ _ h1 => h1.failProgram).foldl fun _ _ h1 =>
              h1.programBlock).update.modCtx.putImage.endInstall
        · exact ((h.foldl fun _ _ h1 => h1.failProgram).foldl fun _ _ h1 => h1.programBlock).update.putImage

/-! #### Machine/Tiles -/

theorem execTalloc (h : s₀.Keeps s) {c : CoreId} {a : CoreArgs} : s₀.Answers (execTalloc c a s) := by
  unfold Machine.execTalloc
  refine h.issue (fun _ _ _ h1 => ?_)
  refine .ite trivial ?_
  split
  · exact trivial
  · exact .ite trivial h1.useFrees.coreEffect

theorem execTfree (h : s₀.Keeps s) {c : CoreId} {a : CoreArgs} : s₀.Answers (execTfree c a s) :=
  h.issue fun _ _ _ h1 => .ite trivial (.ite h1 (.ite h1 h1.emptyEntry))

theorem execTstate (h : s₀.Keeps s) {c : CoreId} {a : CoreArgs} : s₀.Answers (execTstate c a s) :=
  h.issue fun _ _ _ h1 => h1.coreEffect

theorem execThdr (h : s₀.Keeps s) {c : CoreId} {a : CoreArgs} : s₀.Answers (execThdr c a s) :=
  h.issue fun _ _ _ h1 => .ite trivial (.ite h1 (ite h1.useFree h1).coreEffect)

theorem startFill (h : s₀.Keeps s) {c : CoreId} {x : CtxId} {e : ℕ} {f : Fmt} {n : ℕ} {ep : BitVec 7} :
    s₀.Keeps (s.startFill c x e f n ep) :=
  h.emptyEntry.modEntry

theorem reserveFill (h : s₀.Keeps s) {c : CoreId} {x : CtxId} {e : ℕ} : ∀ t ∈ s.reserveFill c x e, s₀.Keeps t := by
  unfold State.reserveFill
  dsimp only
  intro t ht
  split at ht
  · cases ht
  · split at ht
    · cases ht
    · exact Option.some.inj ht ▸ h.modCore

theorem reserveFills (h : s₀.Keeps s) {c : CoreId} {x : CtxId} {l : List ℕ} :
    ∀ t ∈ reserveFills c x l s, s₀.Keeps t := by
  induction l generalizing s with
  | nil => exact fun t ht => Option.some.inj ht ▸ h
  | cons e l ih =>
    unfold Machine.reserveFills
    intro t ht
    split at ht
    · cases ht
    · next u hu => exact ih (h.reserveFill u hu) t ht

theorem acceptStream (h : s₀.Keeps s) {c : CoreId} {x : CtxId} {q : ℕ} {d : StreamDesc} {nowait : Bool} :
    s₀.Keeps (s.acceptStream c x q d nowait) := by
  unfold State.acceptStream
  extract_lets k n v ep r d b key m status placed numbered filled
  have hnumbered : s₀.Keeps numbered := .ite h.putSlot.modCluster.modKey h.putSlot.modCluster
  have hfilled : s₀.Keeps filled := .ite (.ite hnumbered.modEntry (hnumbered.each fun _ _ h => h.startFill)) hnumbered
  clear_value filled status m d
  have reserved : ∀ t ∈ if d.fillsPocket && !d.isRaw then Machine.reserveFills c x d.dstEntries filled
      else some filled, s₀.Keeps t := by
    intro t ht
    split at ht
    · exact hfilled.reserveFills t ht
    · exact Option.some.inj ht ▸ hfilled
  cases status with
  | some st => exact hfilled.endStream
  | none =>
    dsimp only
    split
    next => exact hfilled.endStream
    next t ht =>
      have kept := reserved t ht
      exact .ite (kept.modStream.each fun _ _ h => h.modTile) kept.modStream

theorem execSissue (h : s₀.Keeps s) {c : CoreId} {a : CoreArgs} : s₀.Answers (execSissue c a s) := by
  dsimp only [Machine.execSissue]
  refine h.issue (fun _ _ _ h1 => ?_)
  split
  · exact h1
  · refine .ite h1 ?_
    split
    · exact trivial
    · refine .ite trivial ?_
      refine .ite trivial ?_
      refine .ite trivial ?_
      split
      · exact trivial
      · exact h1
      · exact .ite h1 h1.putCore.acceptStream

theorem reportEnd (h : s₀.Keeps s) {c : CoreId} {k : Core} {rd : BitVec 5} {n : ℕ} {st : Byte} :
    s₀.Keeps (s.reportEnd c k rd n st) :=
  h.putCore.putSlot

theorem execSwait (h : s₀.Keeps s) {c : CoreId} {a : CoreArgs} : s₀.Answers (execSwait c a s) := by
  unfold Machine.execSwait
  refine h.issue (fun _ _ _ h1 => ?_)
  split
  · exact h1.coreEffect
  · split
    · exact h1.reportEnd
    · exact h1

theorem execStest (h : s₀.Keeps s) {c : CoreId} {a : CoreArgs} : s₀.Answers (execStest c a s) := by
  unfold Machine.execStest
  refine h.issue (fun _ _ _ h1 => ?_)
  split
  · exact h1.coreEffect
  · split
    · exact h1.reportEnd
    · exact h1.coreEffect

theorem execScancel (h : s₀.Keeps s) {c : CoreId} {a : CoreArgs} : s₀.Answers (execScancel c a s) := by
  unfold Machine.execScancel
  refine h.issue (fun _ _ _ h1 => ?_)
  split
  · exact h1
  · exact h1.cancelStream

theorem execBswap (h : s₀.Keeps s) {c : CoreId} {a : CoreArgs} : s₀.Answers (execBswap c a s) :=
  h.issue fun _ _ _ h1 => .ite h1 (.ite trivial h1.putCore.modRegion)

/-! #### Machine/Engine -/

theorem learn (hs : s₀.Keeps s) {k : ClusterId} {x : CtxId} {h : W32} {map : W64} : s₀.Keeps (s.learn k x h map) :=
  hs.modCluster

theorem drained (h : s₀.Keeps s) {m : Stream} {p : Point} : s₀.Keeps (s.drained m p) := .ite h.emptyEntry h

theorem modPoint (h : s₀.Keeps s) {k : ClusterId} {n idx : ℕ} {f : Point → Point} : s₀.Keeps (s.modPoint k n idx f) :=
  h.modStream

theorem beginXfer (h : s₀.Keeps s) {k : ClusterId} {n : ℕ} {m : Stream} {kind : XferKind} {t : Tier} :
    s₀.Keeps (s.beginXfer k n m kind t) := by
  dsimp only [State.beginXfer]
  split
  · refine .ite ?_ ?_
    · refine .ite ?_ ?_
      · refine .drained (.modStream ?_)
        refine .ite ?_ ?_
        · exact (ite (h.each fun _ _ h1 => h1.modTile).engineBump (h.each fun _ _ h1 => h1.modTile)).each
              fun _ _ h1 => h1.modTile
        · exact .ite (h.each fun _ _ h1 => h1.modTile).engineBump (h.each fun _ _ h1 => h1.modTile)
      · refine .sparsityBump (.drained (.modStream ?_))
        refine .ite ?_ ?_
        · exact (ite (h.each fun _ _ h1 => h1.modTile).engineBump (h.each fun _ _ h1 => h1.modTile)).each
              fun _ _ h1 => h1.modTile
        · exact .ite (h.each fun _ _ h1 => h1.modTile).engineBump (h.each fun _ _ h1 => h1.modTile)
    · refine .modStream ?_
      refine .ite ?_ ?_
      · exact (ite (h.each fun _ _ h1 => h1.modTile).engineBump (h.each fun _ _ h1 => h1.modTile)).each fun _ _ h1 =>
            h1.modTile
      · exact .ite (h.each fun _ _ h1 => h1.modTile).engineBump (h.each fun _ _ h1 => h1.modTile)
  · split
    · exact .ite (h.each fun _ _ h1 => h1.modTile).engineBump (h.each fun _ _ h1 => h1.modTile)
    · exact (ite (h.each fun _ _ h1 => h1.modTile).engineBump (h.each fun _ _ h1 => h1.modTile)).modPoint.drained
  · exact ((ite (h.each fun _ _ h1 => h1.modTile).engineBump (h.each fun _ _ h1 => h1.modTile)).each fun _ _ h1 =>
        h1.modTile).modStream
  · exact (h.each fun _ _ h1 => h1.modTile).modStream.modStream
  · exact h.each fun _ _ h1 => h1.modTile
  · exact ((h.each fun _ _ h1 => h1.modTile).each fun _ _ h1 => h1.modTile).modStream

theorem takeXferSlot (h : s₀.Keeps s) {k : ClusterId} {b : Xfer} : s₀.Keeps (s.takeXferSlot k b) := by
  unfold State.takeXferSlot
  split
  · exact h
  · exact h.engineBump.modCluster

theorem issueXfer (h : s₀.Keeps s) {k : ClusterId} {n : ℕ} {m : Stream} {kind : XferKind} {t : Tier} :
    s₀.Keeps (s.issueXfer k n m kind t) :=
  h.takeXferSlot.beginXfer

theorem issueTiles (h : s₀.Keeps s) {k : ClusterId} {n : ℕ} {m : Stream} {i c : ℕ} {u : UnitId} :
    s₀.Keeps (s.issueTiles k n m i c u) :=
  (h.each fun _ _ h1 => h1.issueXfer).send

theorem sendFragment (h : s₀.Keeps s) {k : ClusterId} {n : ℕ} {m : Stream} {idx : ℕ} {f : Fin 32} :
    s₀.Keeps (s.sendFragment k n m idx f) := by
  unfold State.sendFragment
  refine .ite ?_ ?_
  · exact (ite (ite h.update.modStream h.update.modPoint).modTile
        (.ite h.update.modStream h.update.modPoint)).pointEnds
  · exact .ite h.update.modStream h.update.modPoint

theorem queueWriters (h : s₀.Keeps s) {k : ClusterId} : s₀.Keeps (s.queueWriters k) := by
  unfold State.queueWriters
  refine h.each (fun _ _ h1 => ?_)
  split
  · exact .ite h1 (h1.each fun _ _ h2 => .ite h2 h2.putTile)
  · exact h1

theorem execXferIssue (h : s₀.Keeps s) {k : ClusterId} : s₀.Answers (execXferIssue k s) := by
  have queued : s₀.Keeps (s.queueWriters k) := h.queueWriters
  unfold Machine.execXferIssue
  refine .ite h ?_
  generalize s.queueWriters k = t at queued
  dsimp only
  generalize (t.freeXfer k).isNone = full
  cases t.nextWork k with
  | none => exact queued
  | some work =>
    obtain ⟨n, m, ⟨kind, tier⟩ | ⟨i, f⟩⟩ := work
    · refine .ite queued ?_
      cases kind with
      | tile i =>
        cases tier with
        | port u => exact queued.modCluster.issueTiles
        | _ => exact queued.modCluster.issueXfer
      | _ => exact queued.modCluster.issueXfer
    · exact queued.modCluster.sendFragment

theorem landPoint (h : s₀.Keeps s) {k : ClusterId} {n : ℕ} {m : Stream} {p : Point} :
    s₀.Keeps (s.landPoint k n m p) := by
  unfold State.landPoint
  refine .ite ?_ ?_
  · exact (ite h.modEntry.moveHome h.modEntry).pointEnds
  · exact .ite h.moveHome.pointEnds (ite h.storeTile.modTile.modTile h.storeTile.modTile).pointEnds

theorem settlePoint (h : s₀.Keeps s) {k : ClusterId} {n idx : ℕ} : s₀.Keeps (s.settlePoint k n idx) := by
  unfold State.settlePoint
  split
  · exact h
  · split
    · exact .ite h.landPoint h
    · exact h

theorem takeHeader (h : s₀.Keeps s) {k : ClusterId} {n : ℕ} {m : Stream} {idx : ℕ} {reads : List (ℕ × ℕ)}
    {bad : Damage} :
    s₀.Keeps (s.takeHeader k n m idx reads bad) := by
  unfold State.takeHeader
  split
  · exact h
  · refine .ite ?_ ?_
    · exact (ite (ite h h.sparsityBump).modPoint.learn
          (ite h h.sparsityBump).modPoint).sparsityBump.sparsityBump.sparsityBump
    · exact .ite (ite h h.sparsityBump).modPoint.learn (ite h h.sparsityBump).modPoint

theorem failHeader (h : s₀.Keeps s) {k : ClusterId} {n : ℕ} {m : Stream} {idx : ℕ} :
    s₀.Keeps (s.failHeader k n m idx) := by
  unfold State.failHeader
  split
  · exact h
  · exact .ite h.sparsityBump.modPoint.emptyEntry h.sparsityBump.modPoint

theorem takeBlocks (h : s₀.Keeps s) {k : ClusterId} {n : ℕ} {m : Stream} {idx : ℕ} {bad : Damage} :
    s₀.Keeps (s.takeBlocks k n m idx bad) := by
  unfold State.takeBlocks
  split
  · exact h.failHeader
  · exact h.modPoint
  · exact h.modPoint

theorem takeRaw (h : s₀.Keeps s) {k : ClusterId} {n : ℕ} {m : Stream} {idx count : ℕ} {reads : List (ℕ × ℕ)}
    {bad : Damage} :
    s₀.Keeps (s.takeRaw k n m idx count reads bad) := by
  dsimp only [State.takeRaw]
  split
  · exact (ite h.modEntry h.writeRaw).modStream
  · refine .ite (ite h.modEntry h.writeRaw).modStream ?_
    refine .endStream ?_
    refine .ite ?_ ?_
    · exact (ite (ite h.modEntry h.writeRaw).modStream.modEntry
          (ite h.modEntry h.writeRaw).modStream.touchTile).engineBump
    · exact .ite (ite h.modEntry h.writeRaw).modStream.modEntry (ite h.modEntry h.writeRaw).modStream.touchTile

theorem takePress (h : s₀.Keeps s) {k : ClusterId} {n : ℕ} {m : Stream} {idx : ℕ} {bad : Damage} :
    s₀.Keeps (s.takePress k n m idx bad) := by
  dsimp only [State.takePress]
  split
  · exact h.pointEnds
  · refine .ite h.failTile.pointEnds ?_
    refine .pointEnds ?_
    split
    · exact h.usePress.placeTile.sendDown
    · exact h.usePress.placeTile

theorem takeXfer (h : s₀.Keeps s) {k : ClusterId} {b : Xfer} {m : Stream} {bad : Damage} :
    s₀.Keeps (s.takeXfer k b m bad) := by
  unfold State.takeXfer
  split
  · exact .ite (ite h.failHeader h.modPoint).settlePoint (h.each fun _ _ h1 => h1.takeHeader.settlePoint)
  · exact h.takeBlocks.settlePoint
  · exact h.takeRaw
  · split
    · exact h.takePress
    · exact h.failTile.pointEnds
  · exact h.doIndex
  · exact h

theorem endReads (h : s₀.Keeps s) {b : Xfer} : s₀.Keeps (s.endReads b) := h.each fun _ _ h1 => h1.modTile

theorem freeXferSlot (h : s₀.Keeps s) {k : ClusterId} {n : ℕ} {expired : Option Xfer} :
    s₀.Keeps (s.freeXferSlot k n expired) :=
  h.modCluster

theorem countReply (h : s₀.Keeps s) {b : Xfer} {m : Stream} {r : Reply} : s₀.Keeps (s.countReply b m r) := by
  dsimp only [State.countReply]
  split
  · exact h
  · exact h
  · exact h
  · refine .countCorrected ?_
    split
    · exact .ite h.readBlock h
    · exact h
  · split
    · exact h.countUncorrectable.each fun _ _ h1 => h1.modTile
    · exact h.countUncorrectable.each fun _ _ h1 => h1.modTile
    · exact h.countUncorrectable

theorem pressFillReply (h : s₀.Keeps s) {x : CtxId} {b : ℕ} {t : W32} {r : Reply} :
    s₀.Keeps (s.pressFillReply x b t r) := by
  unfold State.pressFillReply
  split
  · split
    · refine .ite ?_ ?_
      · refine .failFill (.failTile ?_)
        split
        · exact (ite h.readBlock h).countCorrected
        · exact h.countUncorrectable
        · exact h
      · refine .settleFills (.placeTile (.usePress ?_))
        split
        · exact (ite h.readBlock h).countCorrected
        · exact h.countUncorrectable
        · exact h
    · exact h
  · exact h

theorem execXferReply (h : s₀.Keeps s) {k : ClusterId} {slot : Fin 512} {epoch : BitVec 7} {reply : TaggedReply} :
    s₀.Answers (execXferReply k slot epoch reply s) := by
  dsimp only [Machine.execXferReply]
  split
  · exact .ite h.routerBump h
  · exact .ite h.pressFillReply h
  · refine .ite h ?_
    split
    · split
      · exact .ite h (.ite h.engineBump.freeXferSlot.countLate h.engineBump)
      · exact h.engineBump
    · refine .ite h ?_
      refine .ite h.engineBump ?_
      split
      · exact .ite h (.ite h h.freeXferSlot.countReply.endReads.takeXfer)
      · exact h.engineBump.freeXferSlot.endReads.releaseLast

theorem execRequestDeadline (h : s₀.Keeps s) {k : ClusterId} {slot : Fin 512}
    {fill : Option (CtxId × Option (Fin 16) × W32)} :
    s₀.Answers (execRequestDeadline k slot fill s) := by
  dsimp only [Machine.execRequestDeadline]
  split
  · split
    · exact .ite h.endInstall h
    · exact h
  · split
    · exact .ite (ite h.countLate h).failFill h
    · exact h
  · split
    · exact h
    · refine .ite h ?_
      split
      · exact h.freeXferSlot.countLate.endReads.markTimeout.takeXfer.pump
      · exact h.freeXferSlot.countLate.endReads.releaseLast.pump

theorem execWriteLockGrant (hs : s₀.Keeps s) {h : W32} : s₀.Answers (execWriteLockGrant h s) :=
  hs.tables fun w => { w with tiles := tmap_wf _ _ _ }

theorem execOldHomeRelease (hs : s₀.Keeps s) {h : W32} : s₀.Answers (execOldHomeRelease h s) :=
  hs.tables fun w => { w with tiles := tmap_wf _ _ _ }

theorem execCancelForced (h : s₀.Keeps s) {k : ClusterId} {slot : Fin 512} :
    s₀.Answers (execCancelForced k slot s) := by
  dsimp only [Machine.execCancelForced]
  split
  · exact h
  · exact .ite h (ite h.modCluster.engineBump.raise.endReads.releaseLast h.modCluster.engineBump.raise).pump

theorem execReclaimHoldEnd (h : s₀.Keeps s) {k : ClusterId} {slot : Fin 512} :
    s₀.Answers (execReclaimHoldEnd k slot s) :=
  h.modCluster

/-! #### Machine/Weights -/

theorem dropStale (h : s₀.Keeps s) {k : ClusterId} {n : ℕ} {b : Xfer} : s₀.Keeps (s.dropStale k n b) :=
  .ite h.engineBump.freeXferSlot.releaseLast h.engineBump.freeXferSlot

theorem answerAsks (h : s₀.Keeps s) {x : CtxId} {w : WeightRecord} : s₀.Keeps (s.answerAsks x w) := by
  dsimp only [State.answerAsks]
  split
  · exact h.modCtx
  · exact .ite h.modCtx.update h.modCtx

theorem forwardRecord (h : s₀.Keeps s) {x : CtxId} {brim : ℕ} {r : TreeRec} {w : WeightRecord} :
    s₀.Keeps (s.forwardRecord x brim r w) :=
  .ite h h.brimBump.sendDown

theorem closePoint (h : s₀.Keeps s) {k : ClusterId} {n idx : ℕ} : s₀.Keeps (s.closePoint k n idx) :=
  h.modCluster.modStream

theorem failPoint (h : s₀.Keeps s) {k : ClusterId} {n idx : ℕ} : s₀.Keeps (s.failPoint k n idx) := by
  unfold State.failPoint
  split
  · exact h
  · exact h.failTile.closePoint.pointEnds

theorem countFinding (h : s₀.Keeps s) {x : CtxId} {brim k : ℕ} {w : WeightRecord} {f : Finding} :
    s₀.Keeps (s.countFinding x brim k w f) := by
  unfold State.countFinding
  split
  · exact h.brimBump.raise
  · exact h.sparsityBump
  · exact h.brimBump
  · exact .ite h.brimBump h.brimBump.setMark
  · exact h

theorem recordAtPoint (h : s₀.Keeps s) {u : UnitId} {x : CtxId} {w : WeightRecord} {k : ClusterId} {n idx : ℕ} :
    s₀.Keeps (s.recordAtPoint u x w k n idx) := by
  unfold State.recordAtPoint
  split
  · exact h
  · refine .ite ?_ ?_
    · split
      · exact .ite h.brimBump.modPoint.send h.brimBump.failPoint
      · exact h.brimBump.failPoint
    · split
      · exact h.placeTile.modTile.closePoint.pointEnds
      · exact h.failPoint.countFinding

theorem recordAtFill (h : s₀.Keeps s) {u : UnitId} {x : CtxId} {w : WeightRecord} {f : Fill} :
    s₀.Keeps (s.recordAtFill u x w f) := by
  unfold State.recordAtFill
  refine .ite ?_ ?_
  · split
    · exact h.brimBump.modCtx.send
    · exact h.brimBump.failFill
  · split
    · exact .ite h.placeTile.modTile.failFill h.placeTile.modTile.settleFills
    · exact h.countFinding.failFill

theorem recordAtInstall (h : s₀.Keeps s) {u : UnitId} {x : CtxId} {w : WeightRecord} {i : Install} :
    s₀.Keeps (s.recordAtInstall u x w i) := by
  unfold State.recordAtInstall
  refine .ite ?_ ?_
  · split
    · exact h.brimBump.update.send
    · exact h.brimBump.endInstall
  · split
    · exact .ite h.endInstall h.update
    · exact h.countFinding.endInstall

theorem execWeightRecord (h : s₀.Keeps s) {u : UnitId} {w : WeightRecord} : s₀.Answers (execWeightRecord u w s) := by
  dsimp only [Machine.execWeightRecord]
  split
  · exact h
  · split
    · split
      · refine .next ?_
        refine .pump (.dropStale ?_)
        split
        · exact h.answerAsks.brimBump.forwardRecord
        · exact h.answerAsks.brimBump
      · refine .next ?_
        refine .pump (.brimBump ?_)
        split
        · exact h.answerAsks.brimBump.forwardRecord
        · exact h.answerAsks.brimBump
    · refine .ite h ?_
      refine .next ?_
      refine .pump (.recordAtPoint ?_)
      split
      · refine .forwardRecord ?_
        split
        · exact h.answerAsks.brimBump.forwardRecord
        · exact h.answerAsks.brimBump
      · split
        · exact h.answerAsks.brimBump.forwardRecord
        · exact h.answerAsks.brimBump
    · refine .next ?_
      refine .pump (.recordAtFill ?_)
      split
      · exact h.answerAsks.brimBump.forwardRecord
      · exact h.answerAsks.brimBump
    · refine .next ?_
      refine .pump (.recordAtInstall ?_)
      split
      · exact h.answerAsks.brimBump.forwardRecord
      · exact h.answerAsks.brimBump

theorem execWrecvPointDeadline (h : s₀.Keeps s) {k : ClusterId} {slot : Fin 512} {point : ℕ} :
    s₀.Answers (execWrecvPointDeadline k slot point s) := by
  unfold Machine.execWrecvPointDeadline
  split
  · exact h
  · exact .ite h h.markTimeout.failPoint

/-! #### Machine/HostOps -/

theorem okEnd (h : s₀.Keeps s) {result : List W64} : s₀.Ends (CmdEnd.ok s result) := h
theorem failsEnd (h : s₀.Keeps s) {b : Bad} : s₀.Ends (CmdEnd.fails s b) := h

theorem ofEnd {r : State × Option Bad} (h : s₀.Keeps r.1) {f : State → CmdEnd} (hf : ∀ t, s₀.Keeps t → s₀.Ends (f t))
    :
    s₀.Ends (CmdEnd.of r f) := by
  unfold CmdEnd.of
  split
  · exact h
  · exact hf _ h

theorem checkedEnd (h : s₀.Keeps s) {checks : List (Option Bad)} {f : CmdEnd} (hf : s₀.Ends f) :
    s₀.Ends (CmdEnd.checked s checks f) := by
  unfold CmdEnd.checked
  split
  · exact h
  · exact hf

theorem serve (hs : s₀.Keeps s) {h : Hdr} : s₀.Keeps (s.serve h) := hs.update
theorem markTaken (hs : s₀.Keeps s) {h : Hdr} : s₀.Keeps (s.markTaken h) := hs.modMbox

theorem hostCommand (hs : s₀.Keeps s) {h : Hdr} {r : CmdRow} {body : State → CmdEnd}
    (hb : ∀ t, s₀.Keeps t → s₀.Ends (body t)) : s₀.Answers (s.hostCommand h r body) := by
  unfold State.hostCommand
  split
  · exact hs
  · split
    · exact hs.serve.complete
    · split
      · exact hs.useFree.serve.complete
      · have ended := hb s hs
        generalize body s = e at ended
        cases e with
        | done t st d res => exact State.Keeps.complete (State.Keeps.serve ended)
        | waits t => exact State.Keeps.markWaiting (State.Keeps.serve ended)
        | later => exact hs.serve.markTaken

/-! #### Machine/HostState -/

theorem execStateSetReady (hs : s₀.Keeps s) {h : Hdr} : s₀.Answers (execStateSetReady h s) :=
  hs.hostCommand fun _ h1 => h1.checkedEnd h1.update.okEnd

theorem execStateSetDrain (hs : s₀.Keeps s) {h : Hdr} : s₀.Answers (execStateSetDrain h s) :=
  hs.hostCommand fun _ h1 => h1.checkedEnd (.ite h1.update.snapshotScores.okEnd trivial)

theorem execStateSetMaint (hs : s₀.Keeps s) {h : Hdr} : s₀.Answers (execStateSetMaint h s) :=
  hs.hostCommand fun _ h1 => h1.checkedEnd h1.update.snapshotScores.okEnd

theorem execStateSetReset (hs : s₀.Keeps s) {h : Hdr} : s₀.Answers (execStateSetReset h s) :=
  hs.hostCommand fun _ h1 => h1.update.okEnd

theorem darnRequest (kept : s₀.Keeps s) {rs : List DarnRec} {hs : List (W32 × Bool)} {failed : List PhysId} :
    s₀.Ends (s.darnRequest rs hs failed) :=
  (ite kept.applyDarn.poisonReplaced.endDarning kept.applyDarn.poisonReplaced).okEnd

theorem darnCommand (kept : s₀.Keeps s) {h : Hdr} {op : Byte} {ps : List Part} {hs : List (W32 × Bool)}
    {failed : List PhysId} :
    s₀.Answers (s.darnCommand h op ps hs failed) :=
  kept.hostCommand fun _ h1 => h1.checkedEnd (.ite h1.darnRequest trivial)

theorem execMarkBad (hs : s₀.Keeps s) {h : Hdr} {b : BadParts} : s₀.Answers (execMarkBad h b s) := hs.darnCommand

theorem execRestore (hs : s₀.Keeps s) {h : Hdr} {parts : List Part} : s₀.Answers (execRestore h parts s) :=
  hs.darnCommand

theorem execHarden (hs : s₀.Keeps s) {h : Hdr} {parts : List Part} : s₀.Answers (execHarden h parts s) :=
  hs.darnCommand

theorem execBistWindow (hs : s₀.Keeps s) {h : Hdr} {a : WindowArgs} : s₀.Answers (execBistWindow h a s) :=
  hs.hostCommand fun _ h1 => h1.checkedEnd h1.update

theorem closeWindow (h : s₀.Keeps s) : s₀.Keeps s.closeWindow := by
  unfold State.closeWindow
  split
  · exact .ite h.update.complete h
  · exact h

theorem execBistWindowEnd (h : s₀.Keeps s) : s₀.Answers (execBistWindowEnd s) := by
  unfold Machine.execBistWindowEnd
  split
  · exact h
  · exact .ite h h.update.closeWindow

/-! #### Machine/Clocks -/

theorem setRef (h : s₀.Keeps s) {inputB : Bool} {r : RefState} : s₀.Keeps (s.setRef inputB r) := h.update
theorem switchRef (h : s₀.Keeps s) {toB : Bool} : s₀.Keeps (s.switchRef toB) := h.update.raise

theorem loseRefs (h : s₀.Keeps s) : s₀.Keeps s.loseRefs := by
  unfold State.loseRefs
  exact h.downAll.update.raise

theorem execRefclkQualifying (h : s₀.Keeps s) {inputB : Bool} : s₀.Answers (execRefclkQualifying inputB s) := by
  unfold Machine.execRefclkQualifying
  split
  · exact h.setRef
  · exact h.setRef
  · exact h

theorem regainRef (h : s₀.Keeps s) {inputB : Bool} : s₀.Keeps (s.regainRef inputB) :=
  (ite h.update h.update).each fun _ _ h1 => .ite h1.beginTraining h1

theorem execCdcTimeout (h : s₀.Keeps s) {x : Crossing} : s₀.Answers (execCdcTimeout x s) := by
  unfold Machine.execCdcTimeout
  refine .ite h ?_
  split
  · exact .ite h h.putField.raise
  · exact .ite h h.update.raise

/-! #### Machine/HostContext -/

theorem clearForCtx (h : s₀.Keeps s) {x : CtxId} : s₀.Keeps (s.clearForCtx x) :=
  ((h.each fun _ _ h1 => h1.clearCounter.clearCounter).each fun _ _ h1 => h1.modUnit).forgetPredictions

theorem execCtxCreate (hs : s₀.Keeps s) {h : Hdr} {a : CtxCreateArgs} : s₀.Answers (execCtxCreate h a s) := by
  unfold Machine.execCtxCreate
  refine hs.hostCommand fun t ht => ht.checkedEnd ?_
  have made : s₀.Keeps (((t.clearForCtx (namedCtx h)).putCtx (namedCtx h).val (newCtx h a t.mgmt.keyPairs)).measure
      (namedCtx h).val 0x01 (ctxCreateBytes a)) := ht.clearForCtx.putCtx.measure
  generalize State.measure _ _ _ _ = u at made ⊢
  exact .done (ite made.update.update made.update)

theorem abortHeld (hs : s₀.Keeps s) {x : ℕ} {h : Option Hdr} : s₀.Keeps (s.abortHeld x h) :=
  hs.each fun _ _ h1 => h1.each fun _ _ h2 => h2.complete

theorem withdrawRequests (h : s₀.Keeps s) {x : CtxId} : s₀.Keeps (s.withdrawRequests x) := h.update

theorem releaseTiles (h : s₀.Keeps s) {x : CtxId} : s₀.Keeps (s.releaseTiles x) :=
  ((h.freeTiles.tables fun w => { w with cores := tmap_wf _ _ _ }).tables fun w =>
      { w with clusters := tmap_wf _ _ _ }).forgetPredictions

theorem releaseRegions (h : s₀.Keeps s) {x : CtxId} : s₀.Keeps (s.releaseRegions x) :=
  ((h.each fun _ _ h1 => h1.freshSamplerOf).resetPegs.tables fun w => { w with pegs := tfilter_wf w.pegs }).tables
      fun w => { w with regions := tfilter_wf w.regions }

theorem releaseImages (h : s₀.Keeps s) {x : CtxId} : s₀.Keeps (s.releaseImages x) := h.update

theorem destroyCtx (hs : s₀.Keeps s) {x : CtxId} {h : Option Hdr} : s₀.Keeps (s.destroyCtx x h) := by
  unfold State.destroyCtx
  extract_lets ended aborted stopped freed closed
  have hended : s₀.Keeps ended := hs.abortHeld.withdrawRequests
  have haborted : s₀.Keeps aborted := .ite hended.abortContext hended
  have hfreed : s₀.Keeps freed := haborted.cancelStreams.stopCores.freeSlots.freeTubs.dropTreePasses
  have hclosed : s₀.Keeps closed := hfreed.releaseTiles.releaseRegions.releaseImages.putCtx
  clear_value closed
  exact .ite hclosed.update hclosed

theorem execCtxDestroy (hs : s₀.Keeps s) {h : Hdr} : s₀.Answers (execCtxDestroy h s) :=
  hs.hostCommand fun _ h1 => h1.destroyCtx.okEnd

theorem execCtxSave (hs : s₀.Keeps s) {h : Hdr} {a : BufArgs} : s₀.Answers (execCtxSave h a s) :=
  hs.hostCommand fun _ h1 => h1.checkedEnd (.ite h1 h1.update.okEnd)

theorem restoreRegion (h : s₀.Keeps s) {x r : ℕ} {old : List LaneRec} {remap : Bool} :
    s₀.Keeps (s.restoreRegion x r old remap) := by
  unfold State.restoreRegion
  split
  · exact (h.each fun _ _ h1 => h1.modCore).raise
  · exact h.each fun _ _ h1 => h1.modCore

theorem restoreCtx (hs : s₀.Keeps s) {h : Hdr} {r : CtxRecord} : s₀.Ends (s.restoreCtx h r) :=
  hs.checkedEnd (((hs.each fun _ _ h2 => h2.restoreRegion).each fun _ _ h2 => h2.modRegion).modCtx.okEnd)

theorem execCtxRestore (hs : s₀.Keeps s) {h : Hdr} {a : BufArgs} {rec : Option CtxRecord} :
    s₀.Answers (execCtxRestore h a rec s) := by
  unfold Machine.execCtxRestore
  refine hs.hostCommand (fun _ h1 => ?_)
  refine h1.checkedEnd ?_
  refine .ite ?_ ?_
  · split
    · exact h1.restoreCtx
    · exact h1.failsEnd
  · split
    · exact h1.failsEnd
    · exact .ite h1.failsEnd h1.restoreCtx

/-! #### Machine/Power -/

theorem shed (h : s₀.Keeps s) : s₀.Keeps s.shed := by
  dsimp only [State.shed]
  refine .ite h.update ?_
  refine .ite h ?_
  split
  · exact .ite h.update.raise h.update
  · exact (ite h.update.raise h.update).goDark

theorem loseHamper (h : s₀.Keeps s) : s₀.Keeps s.loseHamper := h.tables fun w => { w with tiles := tmap_wf _ _ _ }

theorem enterHold (h : s₀.Keeps s) : s₀.Keeps s.enterHold :=
  .ite h (h.threadPass.downAll.loseHamper.pressBump.tables fun w => { w with fields := tmap_wf _ _ _ })

theorem execPfWarn (h : s₀.Keeps s) : s₀.Answers (execPfWarn s) := h.enterHold

theorem keptRings_wf (rs : Table Ring) : tableWf {} (keptRings rs) = true :=
  tmap_wf {} (fun _ g => { previous := g.previous }) rs

theorem afterReset (h : s₀.Keeps s) {m : ModState} : s₀.Keeps (s.afterReset m) :=
  ⟨h.pending, fun _ =>
    ⟨rfl, rfl, rfl, rfl, rfl, rfl, rfl, rfl, rfl, rfl, rfl, rfl, rfl, rfl, keptRings_wf _, rfl, rfl⟩⟩

theorem writeHold (h : s₀.Keeps s) : s₀.Keeps s.writeHold := by
  unfold State.writeHold
  split
  · exact h
  · exact h.update

theorem noteReadings (h : s₀.Keeps s) {odd : List Bool} {d : List W64} : s₀.Keeps (s.noteReadings odd d) :=
  (h.each fun _ _ h1 => .ite h1.raise h1).update

/-! #### Machine/Sync -/

theorem execPegpost (h : s₀.Keeps s) {c : CoreId} {a : CoreArgs} : s₀.Answers (execPegpost c a s) :=
  h.issue fun _ _ _ h1 => .ite h1.postPeg h1

theorem execPegwait (h : s₀.Keeps s) {c : CoreId} {a : CoreArgs} : s₀.Answers (execPegwait c a s) :=
  h.issue fun _ _ _ h1 => .ite h1.coreEffect h1

theorem execPegtest (h : s₀.Keeps s) {c : CoreId} {a : CoreArgs} : s₀.Answers (execPegtest c a s) :=
  h.issue fun _ _ _ h1 => h1.coreEffect

theorem execFence (h : s₀.Keeps s) {c : CoreId} {a : CoreArgs} : s₀.Answers (execFence c a s) :=
  h.issue fun _ _ _ h1 => .ite h1 h1

/-! #### Machine/Control -/

theorem execTilenext (h : s₀.Keeps s) {c : CoreId} {a : CoreArgs} : s₀.Answers (execTilenext c a s) :=
  h.issue fun _ _ _ h1 => .ite h1.coreEffect h1.modCluster

theorem sequencerFault (h : s₀.Keeps s) {c : CoreId} {x : CtxId} {r tile : ℕ} :
    s₀.Keeps (s.sequencerFault c x r tile) :=
  h.raise.abortContext

theorem stageDone (h : s₀.Keeps s) {x : CtxId} {r : ℕ} : s₀.Keeps (s.stageDone x r) :=
  .ite (ite h.putRegion.postPeg h.putRegion).closeBatch h

theorem tileDone (h : s₀.Keeps s) {c : CoreId} {x : CtxId} {r : ℕ} {tile : W64} : s₀.Keeps (s.tileDone c x r tile) :=
  .ite h (.ite h.putRegion.regionBump.stageDone h.sequencerFault)

theorem execTiledone (h : s₀.Keeps s) {c : CoreId} {a : CoreArgs} : s₀.Answers (execTiledone c a s) :=
  h.issue fun _ _ _ h1 => .ite h1.tileDone h1

theorem execNop (h : s₀.Keeps s) {c : CoreId} {a : CoreArgs} : s₀.Answers (execNop c a s) :=
  h.issue fun _ _ _ h1 => h1

theorem execWaitc (h : s₀.Keeps s) {c : CoreId} {a : CoreArgs} : s₀.Answers (execWaitc c a s) :=
  h.issue fun _ _ _ h1 => h1

theorem xret (h : s₀.Keeps s) {minor : BitVec 5} {skip : ℕ} {c : CoreId} {a : CoreArgs} :
    s₀.Answers (xret minor skip c a s) :=
  h.issue fun _ _ _ h1 => .ite h1.putCore trivial

theorem execXretRetrying (h : s₀.Keeps s) {c : CoreId} {a : CoreArgs} : s₀.Answers (execXretRetrying c a s) := h.xret
theorem execXretSkipping (h : s₀.Keeps s) {c : CoreId} {a : CoreArgs} : s₀.Answers (execXretSkipping c a s) := h.xret

theorem execBrk (h : s₀.Keeps s) {c : CoreId} {a : CoreArgs} : s₀.Answers (execBrk c a s) :=
  h.issue fun _ _ _ _ => trivial

theorem execEndProgram (h : s₀.Keeps s) {c : CoreId} {a : CoreArgs} : s₀.Answers (execEndProgram c a s) := by
  unfold Machine.execEndProgram
  refine h.issue (fun _ _ _ h1 => ?_)
  refine .ite h1 ?_
  split
  · exact h1.sequencerFault
  · exact h1.putCore.startNext

/-! #### Machine/Sampler -/

theorem modSampler (h : s₀.Keeps s) {k : ℕ} {f : Sampler → Sampler} : s₀.Keeps (s.modSampler k f) := h.modCluster

theorem execSmpcfg (h : s₀.Keeps s) {c : CoreId} {a : CoreArgs} : s₀.Answers (execSmpcfg c a s) := by
  dsimp only [Machine.execSmpcfg]
  refine h.issue (fun _ _ _ h1 => ?_)
  split
  · exact trivial
  · split
    · exact h1
    · exact .done (.ite h1.modSampler h1.modSampler.raise)

theorem execSmpfeed (h : s₀.Keeps s) {c : CoreId} {a : CoreArgs} : s₀.Answers (execSmpfeed c a s) := by
  unfold Machine.execSmpfeed
  refine h.issue (fun t k x h1 => ?_)
  extract_lets n e base seq
  refine .ite trivial (.ite h1 (.ite trivial (.ite trivial ?_)))
  generalize base.toNat + 4095 = last
  refine .ite trivial ?_
  cases t.samplerCluster k.region.val with
  | none => exact h1
  | some q =>
    dsimp only
    split
    · exact .ite h1.modSampler (ite h1.useFrees h1).modSampler
    · exact .ite h1 (ite h1.useFrees h1).modSampler

theorem execSmpdraw (h : s₀.Keeps s) {c : CoreId} {a : CoreArgs} : s₀.Answers (execSmpdraw c a s) := by
  dsimp only [Machine.execSmpdraw]
  refine h.issue (fun _ _ _ h1 => ?_)
  split
  · exact h1
  · split
    · split
      · exact h1.putCore.modSampler
      · exact h1
    · exact .stall (.ite h1.modSampler.update h1.modSampler)

theorem giveToken (h : s₀.Keeps s) {q : ℕ} {seq : W16} {word : Sampler → Draw → W64} :
    s₀.Keeps (s.giveToken q seq word) := by
  dsimp only [State.giveToken]
  split
  · exact h
  · exact .ite h.modSampler.modCore h.modSampler

theorem execSamplerTokenReady (h : s₀.Keeps s) {r : RegionId} {seq : W16} :
    s₀.Answers (execSamplerTokenReady r seq s) := by
  unfold Machine.execSamplerTokenReady
  split
  · exact .ite h.giveToken h
  · exact h

theorem setMainPath (h : s₀.Keeps s) {k : ℕ} {ok : Bool} : s₀.Keeps (s.setMainPath k ok) :=
  .ite h.modSampler h.modSampler.raise

theorem samplersTested (h : s₀.Keeps s) {f : ℕ} {bad : List (Fin 16)} : s₀.Keeps (s.samplersTested f bad) :=
  h.each fun _ _ h1 => h1.setMainPath

/-! #### Machine/Darning -/

theorem startSlice (h : s₀.Keeps s) {k : ℕ} {kind : SliceKind} {inWindow : Bool} :
    s₀.Keeps (s.startSlice k kind inWindow) := by
  unfold State.startSlice
  split
  · exact h.modField.setMainPath
  · exact h.modField.samplersTested
  · exact h.modField

theorem spareNotices (h : s₀.Keeps s) {f : ℕ} : s₀.Keeps (s.spareNotices f) := h.modField.each fun _ _ h1 => h1.raise

theorem execSpareSliceTimer (h : s₀.Keeps s) {f : FieldId} : s₀.Answers (execSpareSliceTimer f s) := by
  dsimp only [Machine.execSpareSliceTimer]
  refine .ite h ?_
  split
  · exact h.spareNotices
  · exact .ite h.spareNotices.startSlice.modField h.spareNotices

theorem leaveCluster (h : s₀.Keeps s) {k : ℕ} : s₀.Keeps (s.leaveCluster k) := by
  unfold State.leaveCluster
  exact (h.each fun _ _ h1 => h1.resetCore.modCore.beginServing).modCluster

theorem failTested (h : s₀.Keeps s) {p : ℕ} : s₀.Keeps (s.failTested p) :=
  .ite h.failSlice.suspectCore h.failSlice.failPhys

theorem endCluster (h : s₀.Keeps s) {k : ℕ} {o : SliceOutcome} : s₀.Keeps (s.endCluster k o) := by
  dsimp only [State.endCluster]
  split
  · refine .update (.sliceDone ?_)
    refine .ite ?_ ?_
    · exact ((ite h.leaveCluster.setMainPath.scoreBasket h.leaveCluster.setMainPath).each fun _ _ h1 =>
          h1.failTested).endRestoring
    · exact ((ite h.leaveCluster.setMainPath.scoreBasket h.leaveCluster.setMainPath).each fun _ _ h1 =>
          h1.failTested).endRestoring.update
  · refine .sliceDone ?_
    refine .ite ?_ ?_
    · exact ((ite h.leaveCluster.setMainPath.scoreBasket h.leaveCluster.setMainPath).each fun _ _ h1 =>
          h1.failTested).endRestoring
    · exact ((ite h.leaveCluster.setMainPath.scoreBasket h.leaveCluster.setMainPath).each fun _ _ h1 =>
          h1.failTested).endRestoring.update

theorem repairTested (h : s₀.Keeps s) {t : FieldTest} : s₀.Keeps (s.repairTested t) :=
  (((h.each fun _ _ h1 => .ite h1 h1.failSlice.repairCore).each fun _ _ h1 => h1.repairShared).each fun _ _ h1 =>
      h1.scoreRouter.repairRouter).each fun _ _ h1 => h1.modField.repairGroup

theorem fieldUp (h : s₀.Keeps s) {f : ℕ} {badSamplers : List (Fin 16)} : s₀.Keeps (s.fieldUp f badSamplers) :=
  h.modField.samplersTested

theorem fieldTested (h : s₀.Keeps s) {t : FieldTest} : s₀.Keeps (s.fieldTested t) :=
  .ite h.repairTested.fieldUp (.ite h.repairTested.modField.retireField h.repairTested.modField)

theorem endField (h : s₀.Keeps s) {f : FieldId} {o : SliceOutcome} : s₀.Keeps (s.endField f o) :=
  .ite h.sliceDone.fieldTested.noteRetired h.sliceDone.fieldTested

theorem execSliceEnd (h : s₀.Keeps s) {f : FieldId} {o : SliceOutcome} : s₀.Answers (execSliceEnd f o s) := by
  unfold Machine.execSliceEnd
  split
  · exact h
  · refine .ite h ?_
    split
    · exact h.endSpare
    · exact h.endCluster.closeWindow
    · exact h.endField
    · exact h.sliceDone.closeWindow

theorem joinPlan (h : s₀.Keeps s) {p : ℕ} : s₀.Keeps (s.joinPlan p) := h.update

theorem resolveSuspect (h : s₀.Keeps s) {passed : List PhysId} {p : ℕ} : s₀.Keeps (s.resolveSuspect passed p) :=
  .ite h.modPhys.startBeats h.failSlice.failPhys.joinPlan

theorem failSecond (h : s₀.Keeps s) {p : ℕ} : s₀.Keeps (s.failSecond p) :=
  .ite h.failSlice.suspectCore.failPhys.joinPlan h.failSlice.failPhys

theorem drainSlice (h : s₀.Keeps s) {d : DarningFindings} {k : ℕ} : s₀.Keeps (s.drainSlice d k) :=
  ((h.noteSlice.leaveCluster.setMainPath.each fun _ _ h1 => h1.resolveSuspect).each fun _ _ h1 =>
      h1.failSecond).endRestoring.sliceDone

theorem resolveSuspects (h : s₀.Keeps s) {d : DarningFindings} : s₀.Keeps (s.resolveSuspects d) :=
  h.each fun _ _ h1 => h1.drainSlice

theorem resolveStacks (h : s₀.Keeps s) {recovered : List StackId} : s₀.Keeps (s.resolveStacks recovered) :=
  h.each fun _ _ h1 => .ite h1.modStack h1.repairStack

theorem plan (h : s₀.Keeps s) {failed : List PhysId} : s₀.Keeps (s.plan failed) :=
  .ite h.update.addRequest (h.each fun _ _ h1 => h1.freshSpare.repair).endDarning

/-! #### Machine/CoreEvents -/

theorem reopenSequence (h : s₀.Keeps s) {c : CoreId} : s₀.Keeps (s.reopenSequence c) := by
  unfold State.reopenSequence
  split
  · exact h
  · split
    · exact h
    · exact h.modSampler.update

theorem waitTimesOut (h : s₀.Keeps s) {c : CoreId} : s₀.Keeps (s.waitTimesOut c) := by
  dsimp only [State.waitTimesOut]
  split
  · exact .ite h.leaveWaiters.reopenSequence.takeException h
  · exact h

theorem execWaitTimeout (h : s₀.Keeps s) {c : CoreId} : s₀.Answers (execWaitTimeout c s) := h.waitTimesOut

theorem execResidueError (h : s₀.Keeps s) {p : PhysId} {unit : ResidueUnit} :
    s₀.Answers (execResidueError p unit s) := by
  unfold Machine.execResidueError
  refine .ite h ?_
  split
  · exact h.declareDead
  · exact h.coreFault.modPhys

theorem takeHeartbeat (h : s₀.Keeps s) {m : ThreadMsg} {p : PhysId} : s₀.Keeps (s.takeHeartbeat m p) :=
  h.putThreadNode

/-! #### Machine/Heat -/

theorem thermalStep (h : s₀.Keeps s) : s₀.Keeps s.thermalStep := by
  unfold State.thermalStep
  split
  · exact h.modField
  · split
    · exact h.modField
    · exact h

theorem execSensorRead (h : s₀.Keeps s) {f : FieldId} {readings : Vector W16 9} :
    s₀.Answers (execSensorRead f readings s) := by
  unfold Machine.execSensorRead
  refine .ite ?_ ?_
  · exact h
  · exact .ite (h.putField.each fun _ _ h1 => h1.raise).controllerFails (h.putField.each fun _ _ h1 => h1.raise)

/-! #### Machine/HostWeights -/

theorem declareBinding (h : s₀.Keeps s) {x : ℕ} {b : Binding} {slotB : Bool} :
    s₀.Keeps (s.declareBinding x b slotB) :=
  h.each fun _ _ h1 => h1.declareTile

theorem startFillOf (h : s₀.Keeps s) {x n : ℕ} {slotB : Bool} {version : W32} {b : Binding} :
    s₀.Keeps (s.startFillOf x n slotB version b) := by
  unfold State.startFillOf
  exact h.modKey.modCtx

theorem bindAll (h : s₀.Keeps s) {x : ℕ} {recs : List BindRec} : s₀.Keeps (s.bindAll x recs) :=
  h.each fun _ _ h1 => h1.modCtx.declareBinding

theorem fillBindings (hs : s₀.Keeps s) {x : ℕ} {recs : List BindRec} {h : Hdr} : s₀.Keeps (s.fillBindings x recs h) :=
  (hs.modCtx.each fun _ _ h1 => h1.startFillOf).settleFills.pump

theorem execWeightBind (hs : s₀.Keeps s) {h : Hdr} {recs : List BindRec} : s₀.Answers (execWeightBind h recs s) :=
  hs.hostCommand fun _ h1 => h1.checkedEnd (.ite h1.bindAll.measure.fillBindings h1.bindAll.measure.okEnd)

theorem declareSwap (h : s₀.Keeps s) {x : ℕ} : s₀.Keeps (s.declareSwap x) := h.each fun _ _ h1 => h1.declareBinding

theorem startSwap (hs : s₀.Keeps s) {x : ℕ} {h : Hdr} {a : SwapArgs} : s₀.Keeps (s.startSwap x h a) :=
  (hs.putCtx.each fun _ _ h1 => h1.startFillOf).settleFills.pump

theorem execWeightSwap (hs : s₀.Keeps s) {h : Hdr} {a : SwapArgs} : s₀.Answers (execWeightSwap h a s) :=
  hs.hostCommand fun _ h1 => h1.checkedEnd h1.declareSwap.measure.startSwap

theorem beginInstall (hs : s₀.Keeps s) {x : CtxId} {n : ℕ} {i : ImageSlot} {key : W16} {h : Hdr} {op : W16}
    {charge : ℕ} :
    s₀.Keeps (s.beginInstall x n i key h op charge) :=
  hs.modCtx.modKey.putImage.update.pump

theorem execPressWriteInstall (hs : s₀.Keeps s) {h : Hdr} {a : PressArgs} :
    s₀.Answers (execPressWriteInstall h a s) :=
  hs.hostCommand fun _ h1 => h1.checkedEnd h1.update.beginInstall

theorem execPressWriteErase (hs : s₀.Keeps s) {h : Hdr} {a : PressArgs} : s₀.Answers (execPressWriteErase h a s) :=
  hs.hostCommand fun _ h1 => h1.checkedEnd h1.putImage.okEnd

theorem dischargeOther (h : s₀.Keeps s) {x : CtxId} {n : ℕ} : s₀.Keeps (s.dischargeOther x n) :=
  .ite h h.dischargeImage

theorem execPressResume (hs : s₀.Keeps s) {h : Hdr} {slot ctx : Byte} {key : W16} :
    s₀.Answers (execPressResume h slot ctx key s) :=
  hs.hostCommand fun _ h1 => h1.checkedEnd h1.dischargeOther.beginInstall

/-! #### Machine/HostKeys -/

theorem shareKey (h : s₀.Keeps s) {n : ℕ} : s₀.Keeps (s.shareKey n) := .ite h.threadPass h

theorem clearKey (h : s₀.Keeps s) {n : ℕ} : s₀.Keeps (s.clearKey n) := by
  unfold State.clearKey
  refine .putKey ?_
  split
  · refine .ite ?_ ?_
    · exact (h.cancelStreams.each fun _ _ h1 => .ite h1.failFill h1).endInstall
    · exact h.cancelStreams.each fun _ _ h1 => .ite h1.failFill h1
  · exact h.cancelStreams.each fun _ _ h1 => .ite h1.failFill h1

theorem installKey (h : s₀.Keeps s) {n : ℕ} {job : W16} {key : List Byte} : s₀.Keeps (s.installKey n job key) :=
  h.clearKey.putKey.shareKey

theorem makeMediaKey (h : s₀.Keeps s) : s₀.Keeps s.makeMediaKey := h.update

theorem execKeyProvisionInstall (hs : s₀.Keeps s) {h : Hdr} {slot : W16} {b : KeyBlob} :
    s₀.Answers (execKeyProvisionInstall h slot b s) :=
  hs.hostCommand fun _ h1 => h1.checkedEnd (.ite h1.addRequest h1.installKey.makeMediaKey.okEnd)

theorem execKeyProvisionClear (hs : s₀.Keeps s) {h : Hdr} {slot : W16} :
    s₀.Answers (execKeyProvisionClear h slot s) :=
  hs.hostCommand fun _ h1 => h1.checkedEnd h1.clearKey.shareKey.makeMediaKey.okEnd

theorem execKeyProvisionAuthority (hs : s₀.Keeps s) {h : Hdr} {key : BitVec 776} :
    s₀.Answers (execKeyProvisionAuthority h key s) :=
  hs.hostCommand fun _ h1 => h1.checkedEnd h1.makeMediaKey.update.okEnd

theorem execKeyProvisionPubkey (hs : s₀.Keeps s) {h : Hdr} {addr : W64} {len : W32} :
    s₀.Answers (execKeyProvisionPubkey h addr len s) :=
  hs.hostCommand fun _ h1 => .ite h1 h1.update.makeMediaKey.okEnd

theorem execAttest (hs : s₀.Keeps s) {h : Hdr} {a : AttestArgs} : s₀.Answers (execAttest h a s) := by
  have ended : ∀ {t m o}, s₀.Keeps t → s₀.Keeps { t with mgmt := m, hostOut := o } := fun ht => ht.update
  unfold Machine.execAttest
  refine hs.hostCommand fun t ht => ht.checkedEnd ?_
  generalize t.attestBytes h a = out
  exact .ite ht (ended ht)

theorem putFw (h : s₀.Keeps s) {f : FwSlot} : s₀.Keeps (s.putFw f) := h.update

theorem execFwStageWrite (hs : s₀.Keeps s) {h : Hdr} {a : FwWriteArgs} : s₀.Answers (execFwStageWrite h a s) :=
  hs.hostCommand fun _ h1 => h1.checkedEnd h1.putFw.okEnd

theorem execFwStageVerify (hs : s₀.Keeps s) {h : Hdr} {v : FwVerdict} : s₀.Answers (execFwStageVerify h v s) :=
  hs.hostCommand fun _ h1 => .ite h1.putFw.okEnd h1.putFw

theorem execFwStageActivate (hs : s₀.Keeps s) {h : Hdr} : s₀.Answers (execFwStageActivate h s) :=
  hs.hostCommand fun _ h1 => h1.checkedEnd h1.update.okEnd

theorem execFwStageConfirm (hs : s₀.Keeps s) {h : Hdr} : s₀.Answers (execFwStageConfirm h s) :=
  hs.hostCommand fun _ h1 => h1.checkedEnd h1.update.okEnd

theorem execFwStageAbandon (hs : s₀.Keeps s) {h : Hdr} : s₀.Answers (execFwStageAbandon h s) :=
  hs.hostCommand fun _ h1 => h1.putFw.update.okEnd

theorem zeroiseNow (h : s₀.Keeps s) : s₀.Keeps s.zeroiseNow :=
  (h.each fun _ _ h1 => h1.destroyCtx).tables fun w => { w with cores := tmap_wf _ _ _, keys := rfl }

/-! #### Machine/HostMode -/

theorem execTelemRead (hs : s₀.Keeps s) {h : Hdr} {a : TelemArgs} : s₀.Answers (execTelemRead h a s) :=
  hs.hostCommand fun _ h1 => h1.checkedEnd h1.update.okEnd

theorem setMode (hs : s₀.Keeps s) {h : Hdr} {a : ModeArgs} : s₀.Keeps (s.setMode h a) := by
  dsimp only [State.setMode]
  split
  · exact hs.each fun _ _ h1 => h1.modUnit
  · exact hs.modCtx
  · exact hs.modCtx
  · exact hs.update

theorem execModeSet (hs : s₀.Keeps s) {h : Hdr} {a : ModeArgs} : s₀.Answers (execModeSet h a s) :=
  hs.hostCommand fun _ h1 => h1.checkedEnd h1.setMode.okEnd

theorem execHostWait (hs : s₀.Keeps s) {h : Hdr} {addr : W64} {len : W32} : s₀.Answers (execHostWait h addr len s) :=
  hs.hostCommand fun _ h1 => h1.update

theorem giveRequest (h : s₀.Keeps s) {r : HostReq} : s₀.Keeps (s.giveRequest r) := by
  dsimp only [State.giveRequest]
  split
  · exact h
  · exact h.update.complete

theorem execHostRequest (h : s₀.Keeps s) {reqId : W32} : s₀.Answers (execHostRequest reqId s) := by
  unfold Machine.execHostRequest
  refine .ite h ?_
  split
  · exact h.giveRequest
  · exact h

theorem applyPlan (kept : s₀.Keeps s) {rs : List DarnRec} {hs : List (W32 × Bool)} {failed : List PhysId} :
    s₀.Keeps (s.applyPlan rs hs failed) :=
  kept.applyDarn.poisonReplaced.endDarning

theorem applyReply (h : s₀.Keeps s) {k : RequestKind} {a : ReplyArgs} : s₀.Keeps (s.applyReply k a) := by
  unfold State.applyReply
  split
  · exact h.modUnit
  · split
    · exact h.giveToken
    · exact h
  · exact h.applyPlan
  · exact h.each fun _ _ h1 => h1.modField
  · exact .ite h.installKey.makeMediaKey.complete h.complete

theorem dropRequest (h : s₀.Keeps s) {id : W32} : s₀.Keeps (s.dropRequest id) := h.update

theorem execHostReply (hs : s₀.Keeps s) {h : Hdr} {a : ReplyArgs} : s₀.Answers (execHostReply h a s) := by
  unfold Machine.execHostReply
  refine hs.hostCommand (fun _ h1 => ?_)
  split
  · exact h1.failsEnd
  · exact h1.checkedEnd h1.dropRequest.applyReply.okEnd

theorem replyMissed (h : s₀.Keeps s) {k : RequestKind} : s₀.Keeps (s.replyMissed k) := by
  unfold State.replyMissed
  split
  · exact .ite h.stageFails h
  · split
    · exact h.waitTimesOut
    · exact h
  · exact h.raise
  · exact h.thermalStep
  · exact h.complete

theorem execHostRequestLimit (h : s₀.Keeps s) {reqId : W32} : s₀.Answers (execHostRequestLimit reqId s) := by
  unfold Machine.execHostRequestLimit
  refine .ite h ?_
  split
  · exact h.dropRequest.replyMissed
  · exact h

/-! #### Machine/Boot -/

theorem dropWaits (h : s₀.Keeps s) : s₀.Keeps s.dropWaits := (h.each fun _ _ h1 => h1.complete).update
theorem enterFaulted (h : s₀.Keeps s) : s₀.Keeps s.enterFaulted := h.dropWaits.update
theorem moduleReset (h : s₀.Keeps s) : s₀.Keeps s.moduleReset := h.afterReset

theorem restoreScores (h : s₀.Keeps s) : s₀.Keeps s.restoreScores :=
  ((((((((h.each fun _ _ h1 => h1.modPhys).each fun _ _ h1 => h1.modCluster).each fun _ _ h1 => h1.modCluster).each
      fun _ _ h1 => h1.modUnit).each fun _ _ h1 => h1.modUnit).each fun _ _ h1 => h1.modUnit).each fun _ _ h1 =>
      h1.modStack).update.each fun _ _ h1 => h1.modChannel).each fun _ _ h1 => h1.modField

theorem loadSystemArea (h : s₀.Keeps s) {b : BootFindings} : s₀.Keeps (s.loadSystemArea b) :=
  (h.update.restoreScores.each fun _ _ h1 => .ite h1.modField h1).each fun _ _ h1 => h1.modField

theorem bootAlarms (h : s₀.Keeps s) {other : Bool} : s₀.Keeps (s.bootAlarms other) :=
  .ite (ite h.raise h).raise (.ite h.raise h)

theorem boot (h : s₀.Keeps s) {b : BootFindings} {ref : Bool} : s₀.Keeps (s.boot b ref) := by
  unfold State.boot
  refine .ite h.update.enterFaulted ?_
  split
  · exact h.update
  · refine .ite h.update.enterFaulted ?_
    refine .ite ?_ ?_
    · exact (ite h.update.zeroiseNow h.update).loadSystemArea.bootAlarms
    · exact (ite h.update.zeroiseNow h.update).loadSystemArea.bootAlarms.enterFaulted

theorem execBringup (h : s₀.Keeps s) {b : BootFindings} : s₀.Answers (execBringup b s) := by
  unfold Machine.execBringup
  refine .ite h ?_
  split
  · exact h.update.raise
  · exact h.boot

theorem trainUnits (h : s₀.Keeps s) : s₀.Keeps s.trainUnits := h.each fun _ _ h1 => .ite h1.beginTraining h1
theorem closeRing (h : s₀.Keeps s) : s₀.Keeps s.closeRing := .ite h.update h
theorem rebuildRoutes (h : s₀.Keeps s) : s₀.Keeps s.rebuildRoutes := h.readmit.detourUpdate

theorem execRingBatch (h : s₀.Keeps s) {results : List FieldTest} : s₀.Answers (execRingBatch results s) := by
  unfold Machine.execRingBatch
  refine .ite h ?_
  refine .next ?_
  refine .ite ?_ ?_
  · exact (h.each fun _ _ h1 => h1.fieldTested).rebuildRoutes.trainUnits.closeRing
  · exact (h.each fun _ _ h1 => h1.fieldTested).rebuildRoutes.closeRing

theorem channelTrained (h : s₀.Keeps s) {t : HamperTrain} : s₀.Keeps (s.channelTrained t) := h.modChannel

theorem readyEvents (h : s₀.Keeps s) : s₀.Keeps s.readyEvents :=
  ((h.each fun _ _ h1 => h1.raise).each fun _ _ h1 => h1.raise).each fun _ _ h1 => h1.raise

theorem execBringupComplete (h : s₀.Keeps s) {hamper : List HamperTrain} :
    s₀.Answers (execBringupComplete hamper s) := by
  unfold Machine.execBringupComplete
  have trained : s₀.Keeps (s.each hamper State.channelTrained) := h.each fun _ _ h => h.channelTrained
  refine .ite h ?_
  generalize s.each hamper State.channelTrained = t at trained ⊢
  have ready : ∀ {u : State}, s₀.Keeps u → s₀.Keeps { u with mode := .ready } := fun h => h.update
  exact ready trained.update.detourUpdate.readyEvents

theorem abortAllHeld (h : s₀.Keeps s) : s₀.Keeps s.abortAllHeld :=
  h.each fun _ _ h1 => h1.each fun _ _ h2 => h2.complete

theorem restartRing (h : s₀.Keeps s) : s₀.Keeps s.restartRing := .ite h (h.each fun _ _ h1 => h1.modField)

theorem undoFills (h : s₀.Keeps s) : s₀.Keeps s.undoFills :=
  h.each fun _ _ h1 => .ite h1.failSwap (.ite h1.endBind h1)

theorem freshRings (h : s₀.Keeps s) {m : Mgmt} : s₀.Keeps { s with rings := freshRings s.rings, mgmt := m } :=
  h.tables fun w => { w with rings := tmap_wf _ _ _ }

theorem noWaits (h : s₀.Keeps s) : s₀.Keeps { s with waits := [], requests := [], mmpOk := false } := h.update
theorem stopWork (h : s₀.Keeps s) {p : Press} {d : Darn} : s₀.Keeps { s with press := p, darn := d } := h.update

theorem takeover (h : s₀.Keeps s) : s₀.Keeps s.takeover := by
  unfold State.takeover
  refine ((((State.Keeps.each ?_ fun _ _ h => h.abortContext).each fun _ _ h => h.modCtx).restartRing).stopWork).raise
  exact h.freshRings.undoFills.abortAllHeld.noWaits

/-! #### Machine/Collective -/

theorem modColl (h : s₀.Keeps s) {x : CtxId} {n : ℕ} {f : Coll → Coll} : s₀.Keeps (s.modColl x n f) := h.modCtx

theorem writeChunk (h : s₀.Keeps s) {x : CtxId} {n : ℕ} {k : Coll} {t : ℕ} {chunk : Bool} {c : Chunk} :
    s₀.Keeps (s.writeChunk x n k t chunk c) :=
  .ite (ite h.storeTile h.storeTile.modTile).modColl.postPeg (ite h.storeTile h.storeTile.modTile).modColl

theorem countOut (h : s₀.Keeps s) {x : CtxId} {us : List ℕ} : s₀.Keeps (s.countOut x us) := .ite h h.treeBump

theorem collDown (h : s₀.Keeps s) {x : CtxId} {r : TreeRec} {m : CollMsg} : s₀.Keeps (s.collDown x r m) :=
  h.countOut.sendDown

theorem settleSlot (h : s₀.Keeps s) {x : CtxId} {n : Fin 16} {t : ℕ} {chunk : Bool} :
    s₀.Keeps (s.settleSlot x n t chunk) := by
  unfold State.settleSlot
  split
  · exact h
  · split
    · exact .ite (.ite h.writeChunk.collDown.modColl h) (.ite h.countOut.sendUp h)
    · exact h

theorem addChunk (h : s₀.Keeps s) {x : CtxId} {n : Fin 16} {k : Coll} {e : CollHeld} :
    s₀.Keeps (s.addChunk x n k e) := by
  unfold State.addChunk
  refine .settleSlot ?_
  split
  · exact .ite h.modColl.raise h.modColl
  · exact (ite h.useFrees h).modColl

theorem releaseHeld (h : s₀.Keeps s) {x : CtxId} {n : Fin 16} {fuel : ℕ} : s₀.Keeps (s.releaseHeld x n fuel) := by
  induction fuel generalizing s with
  | zero => exact h
  | succ fuel ih =>
    unfold State.releaseHeld
    split
    · exact h
    · split
      · exact h
      · exact ih h.modColl.addChunk

theorem takeChunk (h : s₀.Keeps s) {x : CtxId} {n : Fin 16} {k : Coll} {e : CollHeld} :
    s₀.Keeps (s.takeChunk x n k e) :=
  .ite h.addChunk.releaseHeld h.treeBump.modColl

theorem execCollSourceWritten (h : s₀.Keeps s) {x : CtxId} {n : Fin 16} {tile : ℕ} {chunk : Bool} :
    s₀.Answers (execCollSourceWritten x n tile chunk s) := by
  unfold Machine.execCollSourceWritten
  split
  · exact h
  · exact .ite h h.takeChunk

theorem fromColl (h : s₀.Keeps s) {u : UnitId} {m : CollMsg} {near : TreeRec → Bool}
    {f : CtxId → TreeRec → Coll → State → State} (hf : ∀ x r k t, s₀.Keeps t → s₀.Keeps (f x r k t)) :
    s₀.Answers (s.fromColl u m near f) := by
  unfold State.fromColl
  dsimp only
  split
  · trivial
  · split
    · exact h
    · split
      · exact h.treeBump.treeBump
      · split
        · exact h.treeBump.stray
        · split
          · exact h.treeBump.stray
          · split
            · exact h.treeBump.stray
            · split
              · exact h.treeBump.treeBump.setMark
              · exact hf _ _ _ _ h.treeBump

theorem execCollUp (h : s₀.Keeps s) {u : UnitId} {m : CollMsg} : s₀.Answers (execCollUp u m s) :=
  h.fromColl fun _ _ _ _ h1 => h1.takeChunk

theorem execCollDown (h : s₀.Keeps s) {u : UnitId} {m : CollMsg} : s₀.Answers (execCollDown u m s) :=
  h.fromColl fun _ _ _ _ h1 => h1.writeChunk.collDown.modColl.releaseHeld

theorem execCollDeadline (h : s₀.Keeps s) {x : CtxId} {n : Fin 16} {tile : ℕ} :
    s₀.Answers (execCollDeadline x n tile s) := by
  unfold Machine.execCollDeadline
  split
  · exact h
  · exact .ite h h.poisonTile.setMark

/-! #### Machine/Mesh -/

theorem putTub (h : s₀.Keeps s) {k n : ℕ} {t : Option TubSlot} : s₀.Keeps (s.putTub k n t) := h.modCluster
theorem endFlight (h : s₀.Keeps s) {i : ℕ} : s₀.Keeps (s.endFlight i) := h.update

theorem moveFlight (h : s₀.Keeps s) {i : ℕ} {p : RedPacket} {k : ClusterId} : s₀.Keeps (s.moveFlight i p k) :=
  h.update

theorem tubFault (h : s₀.Keeps s) {k : ℕ} {p : RedPacket} : s₀.Keeps (s.tubFault k p) := h.raise

theorem meetTub (h : s₀.Keeps s) {k : ClusterId} {i : ℕ} {p : RedPacket} {channelFree residueOk : Bool} :
    s₀.Keeps (s.meetTub k i p channelFree residueOk) := by
  dsimp only [State.meetTub]
  split
  · split
    · exact h
    · refine .ite ?_ ?_
      · exact h.moveFlight.routerBump
      · exact .ite h.endFlight.putTub.routerBump h.endFlight.putTub.routerBump.routerBump.tubFault.scoreRouter
  · refine .ite h.moveFlight ?_
    split
    · exact h.endFlight.putTub.routerBump
    · exact h.moveFlight.routerBump

theorem execTubArrival (h : s₀.Keeps s) {k : ClusterId} {p : RedPacket} {channelFree residueOk : Bool} :
    s₀.Answers (execTubArrival k p channelFree residueOk s) := by
  dsimp only [Machine.execTubArrival]
  refine .ite trivial ?_
  split
  · exact h
  · refine .ite h ?_
    refine .ite ?_ ?_
    · exact (ite h.routerBump h).endFlight.routerBump
    · exact .ite (ite h.routerBump h).moveFlight (ite h.routerBump h).meetTub

theorem execTubEmit (h : s₀.Keeps s) {k : ClusterId} {slot : Fin 64} {holdPassed channelFreed : Bool} :
    s₀.Answers (execTubEmit k slot holdPassed channelFreed s) := by
  unfold Machine.execTubEmit
  split
  · exact h
  · exact .ite h.putTub.update h

theorem nanEvents (hs : s₀.Keeps s) {x : CtxId} {h : W32} {t : Tile} : s₀.Keeps (s.nanEvents x h t) := by
  unfold State.nanEvents
  refine hs.each (fun _ _ h1 => ?_)
  split
  · exact h1.raise
  · exact h1

theorem completeReduction (h : s₀.Keeps s) {key : ℕ} {p : RedPacket} : s₀.Keeps (s.completeReduction key p) :=
  .ite h (h.putTile.storeTile.each fun _ _ h1 => h1.postPeg).nanEvents

theorem redFault (h : s₀.Keeps s) {p : RedPacket} {pos : ℕ} : s₀.Keeps (s.redFault p pos) := h.gradBump.raise

theorem addRed (h : s₀.Keeps s) {key : ℕ} {p : RedPacket} : s₀.Keeps (s.addRed key p) := by
  unfold State.addRed
  refine .ite ?_ ?_
  · exact h.putTile.redFault
  · exact .ite (ite h.gradBump.raise h).putTile.redFault (ite h.gradBump.raise h).putTile.completeReduction

theorem execRedArrival (h : s₀.Keeps s) {p : RedPacket} : s₀.Answers (execRedArrival p s) := by
  dsimp only [Machine.execRedArrival]
  refine .ite trivial ?_
  split
  · exact h
  · refine .ite h ?_
    refine .ite ?_ ?_
    · exact h.endFlight.routerBump
    · exact .ite h.endFlight.routerBump (.ite h.endFlight.gradBump (ite h.endFlight h.endFlight.putTile).addRed)

theorem modBoundary (h : s₀.Keeps s) {f b : ℕ} {g : Boundary → Boundary} : s₀.Keeps (s.modBoundary f b g) :=
  h.modField

theorem execFlitRefused (h : s₀.Keeps s) {k : ClusterId} {port : MeshPort} :
    s₀.Answers (execFlitRefused k port s) := by
  unfold Machine.execFlitRefused
  refine .ite h ?_
  split
  · exact h.routerBump
  · exact h.routerBump.modBoundary

theorem execHopRetryGroupTest (h : s₀.Keeps s) {f : FieldId} {b : Fin 16} {found : BitVec 68} :
    s₀.Answers (execHopRetryGroupTest f b found s) :=
  .ite h (h.modBoundary.each fun _ _ h1 => h1.record)

/-! #### Machine/Gradient -/

theorem postGrad (h : s₀.Keeps s) {x : CtxId} {g : GradRec} : s₀.Keeps (s.postGrad x g) := h.send

theorem sendGrad (h : s₀.Keeps s) {x : CtxId} {m : Stream} {g : GradRec} : s₀.Keeps (s.sendGrad x m g) :=
  (ite h.takeXferSlot.modCtx.gradBump.gradBump h.takeXferSlot.modCtx.gradBump).postGrad

theorem execRaccPointSend (h : s₀.Keeps s) {k : ClusterId} {slot : Fin 512} {point : ℕ} :
    s₀.Answers (execRaccPointSend k slot point s) := by
  unfold Machine.execRaccPointSend
  cases (s.slotAt k slot.val).stream with
  | none => exact h
  | some m =>
    dsimp only
    generalize m.pointAt point = p, s.streamBinding m.ctx m.desc = b, s.portsFor m.ctx.val = us
    obtain _ | p := p
    · exact h
    obtain _ | ⟨i, b⟩ := b
    · exact h
    obtain _ | ⟨u, us⟩ := us
    · exact h
    refine .ite h (.ite h ?_)
    cases s.raccSource m point with
    | waits => exact h
    | poisoned totals chunk => exact .next (.setMark (.ite h.pointEnds.raise h.pointEnds))
    | ready form map count wexp codes nan =>
      dsimp only
      generalize s.freeXfers k = free
      exact .ite h h.modPoint.sendGrad.sendGrad

theorem modGradSlot (h : s₀.Keeps s) {x : CtxId} {g : GradRec} {f : XferSlot → Xfer → XferSlot} :
    s₀.Keeps (s.modGradSlot x g f) :=
  h.modCluster

theorem dropGrad (h : s₀.Keeps s) {x : CtxId} {g : GradRec} {done late : Bool} :
    s₀.Keeps (s.dropGrad x g done late) := by
  unfold State.dropGrad
  exact h.modGradSlot.modCtx

theorem gradDone (h : s₀.Keeps s) {x : CtxId} {g : GradRec} : s₀.Keeps (s.gradDone x g) := by
  dsimp only [State.gradDone]
  split
  · exact h.dropGrad
  · exact .ite h.dropGrad.pointEnds h.dropGrad.modPoint

theorem gradFails (h : s₀.Keeps s) {x : CtxId} {g : GradRec} {status : Byte} : s₀.Keeps (s.gradFails x g status) := by
  unfold State.gradFails
  refine .setMark ?_
  split
  · exact h.dropGrad.markTimeout.pointEnds
  · exact h.dropGrad

theorem resendGrad (h : s₀.Keeps s) {x : CtxId} {g : GradRec} : s₀.Keeps (s.resendGrad x g) :=
  h.modGradSlot.modCtx.gradBump.gradBump.postGrad

theorem retryGrad (h : s₀.Keeps s) {x : CtxId} {g : GradRec} {status : Byte} : s₀.Keeps (s.retryGrad x g status) :=
  .ite h.gradFails h.resendGrad

theorem execGack (h : s₀.Keeps s) {u : UnitId} {a : GradAck} : s₀.Answers (execGack u a s) := by
  unfold Machine.execGack
  split
  · exact h
  · split
    · exact h.gradBump.tables fun w => { w with clusters := tmap_wf _ _ _ }
    · refine .ite h.gradBump ?_
      refine .ite h.engineBump.dropGrad ?_
      refine .next ?_
      split
      · exact h.gradBump.gradDone
      · exact h.gradBump.gradDone
      · exact h.gradFails
      · exact h.gradFails
      · exact h.gradDone.setMark
      · exact .ite h.retryGrad h
      · exact h

theorem execGradientRecordDeadline (h : s₀.Keeps s) {x : CtxId} {stream : W32} {seq : BitVec 46} :
    s₀.Answers (execGradientRecordDeadline x stream seq s) := by
  unfold Machine.execGradientRecordDeadline
  split
  · exact h
  · exact .ite h (.ite h.dropGrad h.retryGrad)

theorem execRaccCompletionDeadline (h : s₀.Keeps s) {k : ClusterId} {slot : Fin 512} {point : ℕ} :
    s₀.Answers (execRaccCompletionDeadline k slot point s) := by
  unfold Machine.execRaccCompletionDeadline
  split
  · exact h
  · split
    · exact h
    · exact .ite h h.markTimeout.pointEnds.setMark

theorem execStepDoneRelease (h : s₀.Keeps s) {x : CtxId} : s₀.Answers (execStepDoneRelease x s) := h.releaseDone

/-! #### Machine/HostLinks -/

theorem setUnit (h : s₀.Keeps s) {r : LinkRec} : s₀.Keeps (s.setUnit r) := by
  unfold State.setUnit
  refine .ite ?_ ?_
  · refine .ite ?_ ?_
    · exact (ite (h.tables fun w => { w with units := tmap_wf _ _ _ }) h).modUnit
    · exact (ite (h.tables fun w => { w with units := tmap_wf _ _ _ }) h).modUnit.unitDown
  · refine .ite ?_ ?_
    · exact (ite (h.tables fun w => { w with units := tmap_wf _ _ _ }) h).modUnit.beginTraining
    · exact (ite (h.tables fun w => { w with units := tmap_wf _ _ _ }) h).modUnit

theorem regroup (h : s₀.Keeps s) {recs : List LinkRec} {r : LinkRec} : s₀.Keeps (s.regroup recs r) :=
  .ite h h.leaveGang

theorem retrainUnit (h : s₀.Keeps s) {u : ℕ} : s₀.Keeps (s.retrainUnit u) := .ite h.beginRetrain h

theorem joinUnit (h : s₀.Keeps s) {recs : List LinkRec} {r : LinkRec} : s₀.Keeps (s.joinUnit recs r) := by
  unfold State.joinUnit
  refine .ite ?_ ?_
  · exact (ite h (h.formGang.each fun _ _ h1 => h1.retrainUnit)).retrainUnit
  · exact .ite h (h.formGang.each fun _ _ h1 => h1.retrainUnit)

theorem linkSet (h : s₀.Keeps s) {recs : List LinkRec} : s₀.Keeps (s.linkSet recs) :=
  ((h.each fun _ _ h1 => h1.setUnit).each fun _ _ h1 => h1.regroup).each fun _ _ h1 => h1.joinUnit

theorem execLinkSet (hs : s₀.Keeps s) {h : Hdr} {recs : List LinkRec} : s₀.Answers (execLinkSet h recs s) :=
  hs.hostCommand fun _ h1 => h1.checkedEnd h1.linkSet.okEnd

theorem setFence (h : s₀.Keeps s) {x : CtxId} {mask : BitVec 128} {isOpen : Bool} :
    s₀.Keeps (s.setFence x mask isOpen) :=
  h.each fun _ _ h1 => h1.modUnit

theorem execFenceArmFence (hs : s₀.Keeps s) {h : Hdr} {mask : BitVec 128} : s₀.Answers (execFenceArmFence h mask s) :=
  hs.hostCommand fun _ h1 => h1.setFence.okEnd

theorem execFenceArmOpen (hs : s₀.Keeps s) {h : Hdr} {mask : BitVec 128} : s₀.Answers (execFenceArmOpen h mask s) :=
  hs.hostCommand fun _ h1 => h1.checkedEnd h1.setFence.okEnd

/-! #### Machine/HostRegion -/

theorem broadcast (hs : s₀.Keeps s) {x : CtxId} {h : Hdr} {bytes : ℕ} {cmd : BcastCmd} :
    s₀.Keeps (s.broadcast x h bytes cmd) := by
  unfold State.broadcast
  refine .settleBcast (.modCtx ?_)
  split
  · exact hs.each fun _ _ h1 => h1.sendDown
  · exact hs

theorem endLoad (ht : s₀.Keeps t) {x : CtxId} {h : Hdr} {bytes : ℕ} {cmd : BcastCmd} :
    s₀.Ends (endLoad x h bytes cmd t) := by
  unfold Machine.endLoad
  split
  · exact ht.broadcast
  · exact ht

theorem execRegionMap (hs : s₀.Keeps s) {h : Hdr} {recs : List RegionRec} : s₀.Answers (execRegionMap h recs s) :=
  hs.hostCommand fun _ h1 => h1.checkedEnd (h1.mapRegions.ofEnd fun _ h3 => h3.endLoad)

theorem execProgramLoad (hs : s₀.Keeps s) {h : Hdr} {a : ProgramArgs} : s₀.Answers (execProgramLoad h a s) :=
  hs.hostCommand fun _ h1 => h1.checkedEnd (h1.loadProgram.ofEnd fun _ h3 => h3.endLoad)

theorem execTreeSet (hs : s₀.Keeps s) {h : Hdr} {a : TreeSetArgs} : s₀.Answers (execTreeSet h a s) :=
  hs.hostCommand fun _ h1 => h1.checkedEnd ((ite h1.closeStep h1).modCtx.measure.okEnd)

theorem execStepBegin (hs : s₀.Keeps s) {h : Hdr} {b : BeginArgs} : s₀.Answers (execStepBegin h b s) := by
  unfold Machine.execStepBegin
  refine hs.hostCommand (fun _ h1 => ?_)
  refine h1.checkedEnd ?_
  refine .ite trivial ?_
  refine h1.beginStep.ofEnd (fun _ h3 => ?_)
  refine .waits ?_
  split
  · exact h3.sendDown
  · exact h3

theorem execStepCommit (hs : s₀.Keeps s) {h : Hdr} {step : W32} : s₀.Answers (execStepCommit h step s) :=
  hs.hostCommand fun _ h1 => h1.checkedEnd h1.decideAs.okEnd

theorem execStepAbandon (hs : s₀.Keeps s) {h : Hdr} {step : W32} : s₀.Answers (execStepAbandon h step s) :=
  hs.hostCommand fun _ h1 => h1.checkedEnd h1.decideAs.okEnd

theorem cancelNamed (h : s₀.Keeps s) {x : CtxId} {a : CancelArgs} : s₀.Keeps (s.cancelNamed x a) := by
  unfold State.cancelNamed
  refine .ite ?_ h.cancelStreams
  split
  · exact h.cancelStream
  · exact h

theorem execStreamCancel (hs : s₀.Keeps s) {h : Hdr} {a : CancelArgs} : s₀.Answers (execStreamCancel h a s) :=
  hs.hostCommand fun _ h1 => h1.checkedEnd h1.cancelNamed.okEnd

/-! #### Machine/Sequencer -/

theorem putSeqInst (h : s₀.Keeps s) {k : ClusterId} {x : CtxId} {i : SeqInst} : s₀.Keeps (s.putSeqInst k x i) :=
  h.modCluster

theorem execLeaseRequest (h : s₀.Keeps s) {k : ClusterId} {x : CtxId} : s₀.Answers (execLeaseRequest k x s) := by
  unfold Machine.execLeaseRequest
  split
  · exact h
  · exact .ite h h.modRegion.putSeqInst

theorem execLeaseGrant (h : s₀.Keeps s) {k : ClusterId} {x : CtxId} : s₀.Answers (execLeaseGrant k x s) := by
  dsimp only [Machine.execLeaseGrant]
  split
  · exact h
  · split
    · exact h
    · split
      · exact h
      · exact .ite h h.putRegion.putSeqInst

theorem deliverBundle (h : s₀.Keeps s) {x : CtxId} {g : Region} {c : CoreId} {t : W32} :
    s₀.Keeps (s.deliverBundle x g c t) := by
  unfold State.deliverBundle
  refine .ite h ?_
  split
  · exact h.modEntry
  · exact h

theorem execTileHand (h : s₀.Keeps s) {k : ClusterId} {x : CtxId} : s₀.Answers (execTileHand k x s) := by
  dsimp only [Machine.execTileHand]
  split
  · exact h
  · split
    · exact .ite h h.putSeqInst.putRegion.deliverBundle.modCore
    · exact h

/-! #### Machine/Special -/

theorem execSprr (h : s₀.Keeps s) {c : CoreId} {a : CoreArgs} : s₀.Answers (execSprr c a s) := by
  unfold Machine.execSprr
  refine h.issue (fun _ _ _ h1 => ?_)
  split
  · exact (ite h1.useFree h1).coreEffect
  · exact trivial

theorem execSprw (h : s₀.Keeps s) {c : CoreId} {a : CoreArgs} : s₀.Answers (execSprw c a s) := by
  unfold Machine.execSprw
  refine h.issue (fun _ _ _ h1 => ?_)
  split
  · exact h1.coreEffect
  · exact trivial

/-! #### Machine/Tack -/

theorem tackAnswer (h : s₀.Keeps s) {data : List W64} {err : Option Byte} : s₀.Keeps (s.tackAnswer data err) :=
  h.update

theorem tackErr (h : s₀.Keeps s) {st : Byte} : s₀.Keeps (s.tackErr st) := h.tackAnswer

theorem tackLine (h : s₀.Keeps s) {allowed : Bool} {body : State} (hb : s₀.Keeps body) :
    s₀.Answers (s.tackLine allowed body) := by
  unfold State.tackLine
  split
  · exact h
  · split
    · exact h.tackErr
    · split
      · exact h.tackErr
      · exact hb

theorem challenge (h : s₀.Keeps s) : s₀.Keeps s.challenge := h.update.tackAnswer
theorem responseFails (h : s₀.Keeps s) : s₀.Keeps s.responseFails := h.raise
theorem openTack (h : s₀.Keeps s) : s₀.Keeps s.openTack := h.update.zeroiseNow.update

theorem writeReg (h : s₀.Keeps s) {space field off : ℕ} {v : W64} : ∀ t ∈ s.writeReg space field off v, s₀.Keeps t :=
    by
  unfold State.writeReg
  dsimp only
  intro t ht
  split at ht
  · exact Option.some.inj ht ▸ .ite h.putCounter h
  · split at ht
    · split at ht
      · exact Option.some.inj ht ▸ h.update
      · cases ht
    · split at ht
      · exact Option.some.inj ht ▸ h.modPhys
      · split at ht
        · exact Option.some.inj ht ▸ h.modField
        · cases ht

theorem execTackWrite (h : s₀.Keeps s) {space field : Byte} {offset : W32} {value : W64} :
    s₀.Answers (execTackWrite space field offset value s) := by
  unfold Machine.execTackWrite
  refine h.tackLine (.ite ?_ h.tackErr)
  split
  · next t ht => exact (h.writeReg t ht).tackAnswer
  · exact h.tackErr

theorem execTackEnRise (h : s₀.Keeps s) : s₀.Answers (execTackEnRise s) := h.update

/-! #### Machine/Tensor -/

theorem execTmm (h : s₀.Keeps s) {c : CoreId} {a : CoreArgs} : s₀.Answers (execTmm c a s) :=
  h.issue fun _ _ _ h1 => .ite trivial (.ite trivial (.ite h1
      (.ite h1 (.ite trivial (ite h1.useFrees h1).coreEffect))))

theorem execAclr (h : s₀.Keeps s) {c : CoreId} {a : CoreArgs} : s₀.Answers (execAclr c a s) :=
  h.issue fun _ _ _ h1 => h1.coreEffect

/-! #### Machine/Step -/

theorem tick (h : s₀.Keeps s) : s₀.Keeps s.tick := .ite h h.advance.sendAllEvents

/-! #### The dispatch -/

theorem exec (h : s₀.Keeps s) {i : Instr} : s₀.Answers (exec i s) := by
  cases i with
  | add => exact h.execAdd
  | sub => exact h.execSub
  | and => exact h.execAnd
  | or => exact h.execOr
  | xor => exact h.execXor
  | sll => exact h.execSll
  | srl => exact h.execSrl
  | sra => exact h.execSra
  | slt => exact h.execSlt
  | sltu => exact h.execSltu
  | min => exact h.execMin
  | max => exact h.execMax
  | minu => exact h.execMinu
  | maxu => exact h.execMaxu
  | li => exact h.execLi
  | lui => exact h.execLui
  | mul => exact h.execMul
  | mulh => exact h.execMulh
  | mulhu => exact h.execMulhu
  | div => exact h.execDiv
  | divu => exact h.execDivu
  | rem => exact h.execRem
  | remu => exact h.execRemu
  | ld => exact h.execLd
  | st => exact h.execSt
  | beq => exact h.execBeq
  | bne => exact h.execBne
  | blt => exact h.execBlt
  | bge => exact h.execBge
  | bltu => exact h.execBltu
  | bgeu => exact h.execBgeu
  | dbnz => exact h.execDbnz
  | j => exact h.execJ
  | jal => exact h.execJal
  | jr => exact h.execJr
  | sprr => exact h.execSprr
  | sprw => exact h.execSprw
  | vadd => exact h.execVadd
  | vsub => exact h.execVsub
  | vmul => exact h.execVmul
  | vfma => exact h.execVfma
  | vfms => exact h.execVfms
  | vmin => exact h.execVmin
  | vmax => exact h.execVmax
  | vabs => exact h.execVabs
  | vneg => exact h.execVneg
  | viadd => exact h.execViadd
  | visub => exact h.execVisub
  | vimul => exact h.execVimul
  | vand => exact h.execVand
  | vor => exact h.execVor
  | vxor => exact h.execVxor
  | vsll => exact h.execVsll
  | vsrl => exact h.execVsrl
  | vsra => exact h.execVsra
  | vceq => exact h.execVceq
  | vclt => exact h.execVclt
  | vcle => exact h.execVcle
  | vcun => exact h.execVcun
  | viceq => exact h.execViceq
  | viclt => exact h.execViclt
  | vcvt => exact h.execVcvt
  | vcvti => exact h.execVcvti
  | vrcp => exact h.execVrcp
  | vrsq => exact h.execVrsq
  | vexp => exact h.execVexp
  | vlog => exact h.execVlog
  | vrsum => exact h.execVrsum
  | vrmax => exact h.execVrmax
  | vrmin => exact h.execVrmin
  | vmov => exact h.execVmov
  | vbcast => exact h.execVbcast
  | vext => exact h.execVext
  | vsel => exact h.execVsel
  | mand => exact h.execMand
  | mor => exact h.execMor
  | mxor => exact h.execMxor
  | mnot => exact h.execMnot
  | mset => exact h.execMset
  | vaccr => exact h.execVaccr
  | vaccw => exact h.execVaccw
  | vldr => exact h.execVldr
  | vstr => exact h.execVstr
  | vld => exact h.execVld
  | vst => exact h.execVst
  | vfwcv => exact h.execVfwcv
  | vfwadd => exact h.execVfwadd
  | vfwcf => exact h.execVfwcf
  | tmm => exact h.execTmm
  | aclr => exact h.execAclr
  | accumulatorReadable => exact .ite h.putCore h
  | sissue => exact h.execSissue
  | swait => exact h.execSwait
  | stest => exact h.execStest
  | talloc => exact h.execTalloc
  | tfree => exact h.execTfree
  | tstate => exact h.execTstate
  | thdr => exact h.execThdr
  | bswap => exact h.execBswap
  | scancel => exact h.execScancel
  | pegpost => exact h.execPegpost
  | pegwait => exact h.execPegwait
  | pegtest => exact h.execPegtest
  | fence => exact h.execFence
  | ridx => exact h.execRidx
  | rlane => exact h.execRlane
  | rsetSeed => exact h.execRsetSeed
  | rsetStreamId => exact h.execRsetStreamId
  | rsetIndexBase => exact h.execRsetIndexBase
  | rsave => exact h.execRsave
  | rload => exact h.execRload
  | rnorm => exact h.execRnorm
  | smpcfg => exact h.execSmpcfg
  | smpfeed => exact h.execSmpfeed
  | smpdraw => exact h.execSmpdraw
  | samplerTokenReady => exact h.execSamplerTokenReady
  | samplerMemoryError => exact .ite h.setMainPath h
  | tilenext => exact h.execTilenext
  | tiledone => exact h.execTiledone
  | nop => exact h.execNop
  | waitc => exact h.execWaitc
  | xretRetrying => exact h.execXretRetrying
  | xretSkipping => exact h.execXretSkipping
  | brk => exact h.execBrk
  | endProgram => exact h.execEndProgram
  | waitTimeout => exact h.execWaitTimeout
  | residueError => exact h.execResidueError
  | heartbeat => exact .ite h.putPhys.threadWait h
  | heartbeatReceived => exact .ite h (.ite h.takeHeartbeat.putPhys h.takeHeartbeat.threadPass.declareDead)
  | heartbeatLost => exact .ite h.modPhys.threadPass.declareDead h
  | contextAbort => exact .ite h.abortContext h
  | xferIssue k => exact h.execXferIssue (k := k)
  | xferReply => exact h.execXferReply
  | requestDeadline => exact h.execRequestDeadline
  | writeLockGrant => exact h.execWriteLockGrant
  | oldHomeRelease => exact h.execOldHomeRelease
  | cancelForced => exact h.execCancelForced
  | reclaimHoldEnd => exact h.execReclaimHoldEnd
  | tubArrival => exact h.execTubArrival
  | tubEmit => exact h.execTubEmit
  | flitRefused => exact h.execFlitRefused
  | redArrival => exact h.execRedArrival
  | detourUpdate => exact .ite h.detourUpdate h
  | fieldDark => exact .ite h.goDark h
  | fieldReturn => exact .ite h (.ite h.controllerFails h.putField)
  | boundaryMapApply => exact .ite h (.ite h.modBoundary h.modBoundary.detourUpdate)
  | hopRetryGroupTest => exact h.execHopRetryGroupTest
  | pegGroupComplete => exact .ite h.completeGroup h
  | leaseRequest => exact h.execLeaseRequest
  | leaseGrant => exact h.execLeaseGrant
  | tileHand => exact h.execTileHand
  | scrub => exact h.execScrub
  | hamperSuspect => exact .ite h h.putStack.scoreStack.raise
  | hamperChannelFailed => exact .ite h h.modChannel.update.autoDrain
  | pressRefresh => exact .ite h (.next (.ite h.copyBlock.pressBump h.copyBlock.pressBump.pressBump))
  | pressWearMove => exact .ite h h.copyBlock
  | weightRecord => exact h.execWeightRecord
  | pressExtentCommit => exact h.execPressExtentCommit
  | incompleteSlotErase => exact .ite h.putImage h
  | slotSwitch => exact .ite h.switchSlots h
  | oldCopyFree => exact .ite h h.freeTiles.modCtx
  | raccPointSend => exact h.execRaccPointSend
  | gack => exact h.execGack
  | gradientRecordDeadline => exact h.execGradientRecordDeadline
  | stepDoneRelease => exact h.execStepDoneRelease
  | grecDrop => exact .ite h h.modUnit.brimBump
  | pegArrive => exact h.execPegArrive
  | pegComplete => exact h.execPegComplete
  | beginMsg => exact h.execBeginMsg
  | commitMsg => exact h.execCommitMsg
  | skipMsg => exact h.execSkipMsg
  | abandonMsg => exact h.execAbandonMsg
  | invalidMsg => exact h.execInvalidMsg
  | reportMsg => exact h.execReportMsg
  | segmentMsg => exact h.execSegmentMsg
  | resultMsg => exact h.execResultMsg
  | telemMsg => exact h.execTelemMsg
  | telemSend => exact h.execTelemSend
  | stepLimitExpiry => exact .ite h.decideStep h
  | collSourceWritten => exact h.execCollSourceWritten
  | collUp => exact h.execCollUp
  | collDown => exact h.execCollDown
  | collDeadline => exact h.execCollDeadline
  | flitReceive => exact h.execFlitReceive
  | replayTimeout => exact .ite h.goBack h
  | messageAdmission => exact h.execMessageAdmission
  | linkMsg => exact h.execLinkMsg
  | timeMsg => exact h.execTimeMsg
  | timeExchange => exact h.execTimeExchange
  | holdover | oscCalibration => exact .ite h.update h
  | trainingStage => exact h.execTrainingStage
  | trainingStageFail => exact .ite h.stageFails h
  | trainingRestart => exact .ite h.beginTraining h
  | fastRetrain => exact .ite h.beginRetrain h
  | laneSpareSwitch => exact .ite h.switchLane h
  | laneLoss => exact .ite h (.ite h.putUnit.beginRetrain h.putUnit)
  | sqDb => exact .ite h (.ite h.ringSq h.winErr)
  | cqDb => exact .ite h (.ite h.ringCq h.winErr)
  | mboxCtrl => exact .ite h.writeMbox h
  | registerWrite => exact .ite h (.ite h.writeWindow h.winErr)
  | descriptorFetch => exact h.execDescriptorFetch
  | hostAccessDeadline => exact h.execHostAccessDeadline
  | mirrorUpdate => exact .ite h h.updateMirror
  | civlinkPortDown => exact .next (.ite h.update h.update)
  | expCtrl => exact .ite h.writeExpCtrl h
  | expCons => exact .ite h.writeExpCons h
  | eventExport => exact h.execEventExport
  | telemSample | converterReturn => exact .ite h h.update
  | ctxCreate => exact h.execCtxCreate
  | ctxDestroy => exact h.execCtxDestroy
  | ctxSave => exact h.execCtxSave
  | ctxRestore => exact h.execCtxRestore
  | regionMap => exact h.execRegionMap
  | programLoad => exact h.execProgramLoad
  | treeSet => exact h.execTreeSet
  | weightBind => exact h.execWeightBind
  | weightSwap => exact h.execWeightSwap
  | stepBegin => exact h.execStepBegin
  | stepCommit => exact h.execStepCommit
  | stepAbandon => exact h.execStepAbandon
  | streamCancel => exact h.execStreamCancel
  | pressWriteInstall => exact h.execPressWriteInstall
  | pressWriteErase => exact h.execPressWriteErase
  | pressResume => exact h.execPressResume
  | linkSet => exact h.execLinkSet
  | fenceArmFence => exact h.execFenceArmFence
  | fenceArmOpen => exact h.execFenceArmOpen
  | markBad => exact h.execMarkBad
  | restore => exact h.execRestore
  | harden => exact h.execHarden
  | bistWindow => exact h.execBistWindow
  | stateSetReady => exact h.execStateSetReady
  | stateSetDrain => exact h.execStateSetDrain
  | stateSetMaint => exact h.execStateSetMaint
  | stateSetReset => exact h.execStateSetReset
  | keyProvisionInstall => exact h.execKeyProvisionInstall
  | keyProvisionClear => exact h.execKeyProvisionClear
  | keyProvisionAuthority => exact h.execKeyProvisionAuthority
  | keyProvisionPubkey => exact h.execKeyProvisionPubkey
  | attest => exact h.execAttest
  | fwStageWrite => exact h.execFwStageWrite
  | fwStageVerify => exact h.execFwStageVerify
  | fwStageActivate => exact h.execFwStageActivate
  | fwStageConfirm => exact h.execFwStageConfirm
  | fwStageAbandon => exact h.execFwStageAbandon
  | telemRead => exact h.execTelemRead
  | modeSet => exact h.execModeSet
  | hostWait => exact h.execHostWait
  | hostReply => exact h.execHostReply
  | hostRequest => exact h.execHostRequest
  | hostRequestLimit => exact h.execHostRequestLimit
  | mmpTakeover => exact .ite h.takeover h
  | standbyWatchdogExpiry => exact .ite h.enterFaulted h
  | fcHeartbeatLost => exact .ite h.controllerFails h
  | bringup => exact h.execBringup
  | ringBatch => exact h.execRingBatch
  | bringupComplete => exact h.execBringupComplete
  | refclkLoss => exact .ite (.next (.ite h.setRef.switchRef h.setRef.loseRefs)) h.setRef
  | refclkGood => exact .ite h (.ite h.setRef.regainRef h.setRef)
  | cdcTimeout => exact h.execCdcTimeout
  | pfWarn => exact h.execPfWarn
  | holdCommit => exact .ite h.writeHold.afterReset h
  | supplyOutOfRange => exact .ite h h.raise.enterHold
  | modReset => exact .ite h.update (.ite h.update.moduleReset h.update)
  | converterFailure => exact .ite h h.update.raise
  | powerSample => exact .ite h h.update.shed
  | thermalStep => exact .ite h (.ite (.next (.ite h h.addRequest)) h.thermalStep)
  | sensorRead => exact h.execSensorRead
  | thermalTrip => exact .ite h.goDark.raise h
  | regulatorFault => exact .ite h (.ite h.controllerFails h.putField.raise)
  | readingCheck => exact .ite h h.update.noteReadings
  | sliceStart => exact .ite h.startSlice h
  | sliceEnd => exact h.execSliceEnd
  | spareSliceTimer => exact h.execSpareSliceTimer
  | darning => exact .ite h h.resolveSuspects.resolveStacks.poisonUnreadable.plan
  | scoreSnapshot => exact .ite h.snapshotScores h
  | tackId | tackState => exact h.tackLine h.tackAnswer
  | tackChallenge => exact h.tackLine (.ite h.challenge h.tackErr)
  | tackResponse => exact h.tackLine (.ite h.openTack.tackAnswer h.responseFails.tackErr)
  | tackBaud => exact h.tackLine (.ite h.tackAnswer.update h.tackErr)
  | tackRead => exact h.tackLine (.ite h.tackAnswer h.tackErr)
  | tackWrite => exact h.execTackWrite
  | tackEvdump => exact h.tackLine (.ite h.tackErr h.tackAnswer)
  | tackScan => exact h.tackLine h.startSlice.sliceDone.useFree.tackAnswer
  | tackBist => exact h.tackLine h.startSlice.endCluster.tackAnswer
  | tackReset => exact h.tackLine h.tackAnswer.update
  | tackLineTimeout => exact h.tackLine h.tackErr
  | tackEnRise => exact h.execTackEnRise
  | tackEnFall => exact .ite h.update.responseFails h.update
  | wrecvPointDeadline => exact h.execWrecvPointDeadline
  | raccCompletionDeadline => exact h.execRaccCompletionDeadline
  | imageSlotErased => exact .ite h.dischargeImage.eraseLogical.putImage h
  | bistWindowEnd => exact h.execBistWindowEnd
  | broadcastTimeout => exact h.execBroadcastTimeout
  | civlinkPortActive => exact .ite h (.next (.ite h.update h.update))
  | mmpOkClear => exact h.execMmpOkClear
  | refclkQualifying => exact h.execRefclkQualifying
  | hamperChannelRecalibration => exact h
  | equaliserCheck => exact .ite h.unitSend h

end State.Keeps

/-! ### The step -/

/-- Every command that answers a next state keeps the queue and the canonical form. -/
theorem exec_keeps {i : Instr} {s t : State} (h : exec i s = .next t) : s.Keeps t := by
  have kept := (State.Keeps.refl s).exec (i := i)
  rwa [h] at kept

/-- Settles O3: a command leaves the queue as `State.Keeps` says. -/
theorem commandsLeaveTheQueue : Obligations.CommandsLeaveTheQueue := by
  unfold Obligations.CommandsLeaveTheQueue
  intro i s t h
  exact (exec_keeps h).pending

/-- The canonical form does not speak of the queue. -/
theorem wf_of_pending (s : State) (l : List Instr) : ({ s with pending := l } : State).wf = s.wf := rfl

theorem tick_keeps (s : State) : s.Keeps s.tick :=
  .ite (.refl s) (State.Keeps.refl s).advance.sendAllEvents

/-- Settles O4: a step is a command on a state whose collections are those of `s`, or a tick, and both keep the
canonical form. -/
theorem stepKeepsCanonicalTables : Obligations.StepKeepsCanonicalTables := by
  unfold Obligations.StepKeepsCanonicalTables
  intro s t hs h
  unfold step at h
  split at h
  · obtain rfl := Host.Outcome.next.inj h
    exact (State.canonical_iff _).1 ((tick_keeps s).wf ((State.canonical_iff s).2 hs))
  · next c rest hp =>
    rw [← wf_of_pending s rest] at hs
    exact (State.canonical_iff t).1 ((exec_keeps h).wf ((State.canonical_iff _).2 hs))

end Sys2Proof.Machine
end

section
namespace Sys2Proof.Machine
open Sys2Proof

/-! ### The queue and the tick -/

/-- Settles O1, by the definition of the step. -/
theorem stepRunsFrontCommand : Obligations.StepRunsFrontCommand := fun _ _ _ => rfl

theorem step_of_empty {s : State} (h : s.pending = []) : step s = .next s.tick := by
  unfold step
  rw [h]

/-- One edge of REFCLK changes the time base alone. -/
theorem advance_frame (s : State) : ∃ time status, s.advance = { s with time := time, timeStatus := status } := by
  unfold State.advance
  dsimp only
  split
  · exact ⟨_, s.timeStatus, rfl⟩
  · split
    · exact ⟨_, _, rfl⟩
    · split <;> exact ⟨_, _, rfl⟩

theorem advance_of_no_slew {s : State} (h : s.timeStatus.slew = 0) : s.advance = { s with time := s.time + 64 } :=
  if_pos (.inr h)

theorem sendAllEvents_frame (s : State) :
    ∃ rings thread, s.sendAllEvents = { s with rings := rings, thread := thread } := by
  unfold State.sendAllEvents
  generalize s.thread.queues = l
  induction l generalizing s with
  | nil => exact ⟨_, _, rfl⟩
  | cons q l ih =>
    obtain ⟨rings, thread, sent⟩ := sendEvents_frame q.1 q.2.queue.length s
    obtain ⟨rings', thread', rest⟩ := ih { s with rings := rings, thread := thread }
    exact ⟨rings', thread', by rw [List.foldl_cons, sent, rest]⟩

/-- Where no event waits in a field controller, none is sent. -/
theorem sendAllEvents_of_no_event {s : State} (h : ∀ q ∈ s.thread.queues, q.2.queue = []) : s.sendAllEvents = s := by
  have none_sent : ∀ t : State, ∀ q ∈ s.thread.queues, t.sendEvents q.1 q.2.queue.length = t := fun t q hq => by
    rw [h q hq]
    rfl
  exact (List.foldl_ext _ _ s none_sent).trans (List.foldl_fixed _)

theorem tick_frame (s : State) : ∃ time status rings thread, s.tick =
    { s with time := time, timeStatus := status, rings := rings, thread := thread } := by
  unfold State.tick
  split
  · exact ⟨_, _, _, _, rfl⟩
  · obtain ⟨time, status, advanced⟩ := advance_frame s
    obtain ⟨rings, thread, sent⟩ := sendAllEvents_frame s.advance
    exact ⟨time, status, rings, thread, by rw [sent, advanced]⟩

/-- Settles O2: the step of an empty queue is the tick, which is the advance of the time base and the events that the
field controllers send. -/
theorem emptyQueueIsOneReferenceEdge : Obligations.EmptyQueueIsOneReferenceEdge := by
  unfold Obligations.EmptyQueueIsOneReferenceEdge
  intro s hempty
  rw [step_of_empty hempty]
  refine ⟨?off, ?edge, ?frame⟩
  case off =>
    intro hoff
    rw [State.tick, if_pos hoff]
  case edge =>
    intro hon hslew hqueues
    have hsent : State.sendAllEvents { s with time := s.time + 64 } = { s with time := s.time + 64 } :=
      sendAllEvents_of_no_event hqueues
    rw [State.tick, if_neg hon, advance_of_no_slew hslew, hsent]
  case frame =>
    obtain ⟨time, status, rings, thread, ticked⟩ := tick_frame s
    exact ⟨_, rfl, by rw [ticked]⟩

/-! ### The reset state -/

/-- Settles O5: every collection of the reset state is empty, so every number of it reads as the default. -/
theorem resetState : Obligations.ResetState :=
  ⟨rfl, rfl, rfl, rfl, rfl, rfl, rfl, rfl, rfl, rfl, rfl, rfl, fun _ =>
    ⟨rfl, rfl, rfl, rfl, rfl, rfl, rfl, rfl, rfl, rfl, rfl⟩⟩

end Sys2Proof.Machine
end

section
/-! PROOFS. The counters and the units under the operations of the links. -/

set_option linter.unusedVariables false

namespace Sys2Proof.Machine

open Sys2Proof

/-! ## What a count leaves unchanged -/

section
variable (s : State) (space off n : Nat)

@[simp] theorem bump_units : (s.bump space off n).units = s.units := by
  obtain ⟨_, _, _, bumped⟩ := bump_frame s space off n
  rw [bumped]

@[simp] theorem bump_unitOf (u : Nat) : (s.bump space off n).unitOf u = s.unitOf u :=
  congrArg (tget ({} : LinkUnit) · u) (bump_units ..)

@[simp] theorem linkBump_unitOf (u k i v : Nat) : (s.linkBump u k i).unitOf v = s.unitOf v := bump_unitOf ..

end

/-! ## One unit -/

@[simp] theorem modUnit_unitOf (s : State) (u : Nat) (f : LinkUnit → LinkUnit) :
    (s.modUnit u f).unitOf u = f (s.unitOf u) := State.putUnit_same ..

theorem modUnit_unitOf_ne (s : State) {u v : Nat} (f : LinkUnit → LinkUnit) (h : v ≠ u) :
    (s.modUnit u f).unitOf v = s.unitOf v := State.putUnit_ne _ _ h

/-- R325: a unit outside a gang leaves none. -/
theorem leaveGang_of_alone {s : State} {u : Nat} (h : (s.unitOf u).gangLow = none) : s.leaveGang u = s := by
  simp only [State.leaveGang, h]

theorem unitDown_of_alone {s : State} {u : Nat} (h : (s.unitOf u).gangLow = none) (cause : DownCause) :
    s.unitDown u cause = s.modUnit u (·.down cause) := by
  rw [State.unitDown, leaveGang_of_alone h]

theorem gangMembers_of_alone {s : State} {u : Nat} (h : (s.unitOf u).gangLow = none) : s.gangMembers u = [u] := by
  simp only [State.gangMembers, h]

theorem gangLead_of_alone {s : State} {u : Nat} (h : (s.unitOf u).gangLow = none) : s.gangLead u = u := by
  simp only [State.gangLead, h, Option.map_none, Option.getD_none]

end Sys2Proof.Machine
end

section
/-! PROOFS. LINK_SET and FENCE_ARM (R312, R314, R324, R327, R329, R331, R384). -/

set_option linter.unusedVariables false

namespace Sys2Proof.Machine

open Sys2Proof

theorem exec_linkSet (h : Hdr) (recs : List LinkRec) (s : State) :
    exec (.linkSet h recs) s = execLinkSet h recs s := rfl

theorem exec_fenceArmFence (h : Hdr) (mask : BitVec 128) (s : State) :
    exec (.fenceArmFence h mask) s = execFenceArmFence h mask s := rfl

theorem exec_fenceArmOpen (h : Hdr) (mask : BitVec 128) (s : State) :
    exec (.fenceArmOpen h mask) s = execFenceArmOpen h mask s := rfl

/-! ## LINK_SET of one unit -/

/-- The flags of LINK_SET for one unit: ENABLE and LOCKED. -/
def linkFlags (on lock : Bool) : Byte := (BitVec.ofBool lock ++ (0 : BitVec 1) ++ BitVec.ofBool on).setWidth 8

theorem linkFlags_bits : ∀ on lock, let f := linkFlags on lock
    f.getLsbD 0 = on ∧ f.getLsbD 1 = false ∧ f.getLsbD 2 = lock ∧ f.getLsbD 3 = false ∧ f &&& 0xF0 = 0 := by
  decide

/-- The record of LINK_SET for one unit outside a gang. -/
def oneUnit (u : UnitId) (on lock : Bool) : LinkRec :=
  { unit := BitVec.ofNat 8 u.val, gang := 0xFF, flags := linkFlags on lock }

section
variable (u : UnitId) (on lock : Bool)

@[simp] theorem oneUnit_unit : (oneUnit u on lock).unit.toNat = u.val :=
  Nat.mod_eq_of_lt (Nat.lt_trans u.isLt (by decide))

@[simp] theorem oneUnit_enable : LinkRec_enable (oneUnit u on lock) = on := (linkFlags_bits on lock).1

@[simp] theorem oneUnit_timeParent : LinkRec_timeParent (oneUnit u on lock) = false := by
  obtain ⟨-, timeParent, -⟩ := linkFlags_bits on lock
  exact timeParent

@[simp] theorem oneUnit_locked : LinkRec_locked (oneUnit u on lock) = lock := by
  obtain ⟨-, -, locked, -⟩ := linkFlags_bits on lock
  exact locked

@[simp] theorem oneUnit_retrain : LinkRec_retrain (oneUnit u on lock) = false := by
  obtain ⟨-, -, -, retrain, -⟩ := linkFlags_bits on lock
  exact retrain

/-- A record of one unit breaks no check of R384. -/
theorem badLinkRec_oneUnit (s : State) (recs : List LinkRec) : s.badLinkRec recs (oneUnit u on lock) = false := by
  have single : s.badGang recs (oneUnit u on lock) = false := rfl
  obtain ⟨-, -, -, -, reserved⟩ := linkFlags_bits on lock
  simp [State.badLinkRec, single, Nat.not_le.mpr u.isLt, show (oneUnit u on lock).flags &&& 240#8 = 0#8 from reserved]

@[simp] theorem recMembers_oneUnit (recs : List LinkRec) : recMembers recs (oneUnit u on lock) = [u.val] := by
  simp [recMembers, oneUnit_unit, show (oneUnit u on lock).gang = 0xFF from rfl]

/-- The settings of a unit that stays outside a gang are all that LINK_SET does to it. -/
theorem linkSet_oneUnit {s t : State} (hset : s.setUnit (oneUnit u on lock) = t)
    (halone : (t.unitOf u.val).gangLow = none) : s.linkSet [oneUnit u on lock] = t := by
  have members : t.gangMembers u.val = [u.val] := gangMembers_of_alone halone
  simp [State.linkSet, State.each, hset, State.regroup, State.joinUnit, members]

/-- LINK_SET of one unit outside a gang completes with the unit's settings. -/
theorem linkSet_completes {s t : State} {h : Hdr} (ha : s.accepts h linkSetRow = true)
    (hset : s.setUnit (oneUnit u on lock) = t) (halone : (t.unitOf u.val).gangLow = none) :
    execLinkSet h [oneUnit u on lock] s = t.finishes h := by
  have good : firstBad [check false stBAD_ARG 0,
      ([oneUnit u on lock].zipIdx.find? (fun e => s.badLinkRec [oneUnit u on lock] e.1)).map
        (fun e => (stBAD_ARG, BitVec.ofNat 32 e.2)),
      check (decide (1 < ([oneUnit u on lock].filter LinkRec_timeParent).length)) stBAD_ARG] = none := by
    simp [badLinkRec_oneUnit]
  exact hostCommand_checked ha (by rw [linkSet_oneUnit u on lock hset halone]; rfl) good

end

theorem linkSet_of_none {s : State} {h : Hdr} (ha : s.accepts h linkSetRow = true) :
    execLinkSet h [] s = s.finishes h stBAD_ARG 0 :=
  hostCommand_fails ha rfl (bad := (stBAD_ARG, 0)) rfl

/-- The unit with the settings of a record. -/
def LinkUnit.settings (k : LinkUnit) (on lock : Bool) : LinkUnit :=
  { k with enabled := on, timeParent := false, locked := lock }

section
variable {s : State} {u : UnitId} (lock : Bool)

theorem setUnit_of_active (hactive : (s.unitOf u.val).state = .active) :
    s.setUnit (oneUnit u true lock) = s.modUnit u.val (·.settings true lock) := by
  simp [State.setUnit, LinkUnit.settings, hactive]

theorem setUnit_of_down (hdown : (s.unitOf u.val).state = .down) :
    s.setUnit (oneUnit u true lock) = (s.modUnit u.val (·.settings true lock)).beginTraining u.val := by
  simp [State.setUnit, LinkUnit.settings, hdown]

/-- A disabled unit outside a gang is DOWN, at once or from before. -/
theorem setUnit_of_off (halone : (s.unitOf u.val).gangLow = none) :
    let t := s.setUnit (oneUnit u false lock)
    (t.unitOf u.val).state = .down ∧ (t.unitOf u.val).enabled = false ∧ (t.unitOf u.val).gangLow = none := by
  intro t
  by_cases hdown : (s.unitOf u.val).state = .down
  · simp [t, State.setUnit, hdown, halone]
  · simp [t, State.setUnit, hdown, unitDown_of_alone, halone, LinkUnit.down, LinkUnit.clearFlits]

end

/-! ## FENCE_ARM -/

section
variable (s : State) (x : CtxId) (isOpen : Bool)

/-- The unit carries the context, or is closed to it. -/
def LinkUnit.fencing (k : LinkUnit) (x : CtxId) (isOpen : Bool) : LinkUnit :=
  { k with openCtx := if isOpen then k.openCtx ||| BitVec.twoPow 8 x.val else k.openCtx &&& ~~~(BitVec.twoPow 8 x.val) }

theorem fencing_getLsbD (k : LinkUnit) (y : CtxId) :
    (k.fencing x isOpen).openCtx.getLsbD y.val = if y = x then isOpen else k.openCtx.getLsbD y.val := by
  have bit : (BitVec.twoPow 8 x.val).getLsbD y.val = decide (y = x) := by
    rw [BitVec.getLsbD_twoPow]
    simp [x.isLt, Fin.ext_iff, eq_comm]
  cases isOpen with
  | false =>
    simp only [LinkUnit.fencing, Bool.false_eq_true, if_false, BitVec.getLsbD_and, BitVec.getLsbD_not, bit, y.isLt]
    by_cases hy : y = x <;> simp [hy]
  | true =>
    simp only [LinkUnit.fencing, if_true, BitVec.getLsbD_or, bit]
    by_cases hy : y = x <;> simp [hy]

/-- The units of a list are fenced or opened for the context, and no other changes. -/
theorem unitOpen_each_fencing (l : List Nat) (v : Nat) (y : CtxId) :
    (s.each l (fun s u => s.modUnit u (·.fencing x isOpen))).unitOpen v y.val =
      if y = x ∧ v ∈ l then isOpen else s.unitOpen v y.val := by
  induction l generalizing s with
  | nil => simp [State.each]
  | cons u l ih =>
    refine (ih _).trans ?_
    by_cases hv : v = u
    · have fenced : (s.modUnit v (·.fencing x isOpen)).unitOpen v y.val =
          if y = x then isOpen else s.unitOpen v y.val := by
        rw [State.unitOpen, modUnit_unitOf, fencing_getLsbD]
        rfl
      rw [← hv, fenced]
      by_cases hy : y = x <;> simp [hy]
    · simp [State.unitOpen, modUnit_unitOf_ne s _ hv, hv]

theorem setFence_frame (mask : BitVec 128) : ∃ us, s.setFence x mask isOpen = { s with units := us } := by
  refine each_keeps (P := fun t => ∃ us, t = { s with units := us }) ?_ _ ⟨_, rfl⟩
  rintro _ u ⟨us, rfl⟩
  exact ⟨_, rfl⟩

/-- FENCE_ARM changes the units alone, and those of the mask for the context alone. -/
theorem setFence_opens (mask : BitVec 128) (v : UnitId) (y : CtxId) :
    let t := s.setFence x mask isOpen
    t = { s with units := t.units } ∧
      t.unitOpen v.val y.val = if y = x ∧ mask.getLsbD v.val = true then isOpen else s.unitOpen v.val y.val := by
  refine ⟨?_, ?_⟩
  · obtain ⟨_, framed⟩ := setFence_frame s x isOpen mask
    rw [framed]
  · refine (unitOpen_each_fencing s x isOpen _ v.val y).trans ?_
    simp [List.mem_filter, List.mem_range, v.isLt]

end

/-- Settles O49: LINK_SET by the settings of its one unit, FENCE_ARM by the fences of the mask. -/
theorem linkCommands : Obligations.LinkCommands := by
  unfold Obligations.LinkCommands
  intro s h u lock mask v y k rec_
  refine ⟨fun ha halone => ⟨?active, ?down, ?off, (exec_linkSet ..).trans (linkSet_of_none ha)⟩, fun ha => ?fenceArm⟩
  case active =>
    intro hactive
    exact ⟨_, (exec_linkSet ..).trans (linkSet_completes u true lock ha (setUnit_of_active lock hactive)
      (by rw [modUnit_unitOf]; exact halone)),
      modUnit_unitOf ..⟩
  case down =>
    intro hdown
    refine ⟨_, (exec_linkSet ..).trans (linkSet_completes u true lock ha (setUnit_of_down lock hdown) ?_), ?_⟩
    · rw [State.beginTraining, modUnit_unitOf, modUnit_unitOf]
      exact halone
    · simp [State.beginTraining, LinkUnit.settings]
  case off =>
    obtain ⟨down, disabled, alone⟩ := setUnit_of_off lock halone
    exact ⟨_, (exec_linkSet ..).trans (linkSet_completes u false lock ha rfl alone), down, disabled⟩
  case fenceArm =>
    intro x at_
    refine ⟨⟨_, (exec_fenceArmFence ..).trans (hostCommand_done ha rfl), setFence_opens s x false mask v y⟩,
      fun hjob => ?opens, fun hjob => ?noJob⟩
    case opens =>
      exact ⟨_, (exec_fenceArmOpen ..).trans (hostCommand_checked ha rfl (by simpa using hjob)),
        setFence_opens s x true mask v y⟩
    case noJob =>
      exact (exec_fenceArmOpen ..).trans
        (hostCommand_fails ha rfl (bad := (stNOT_READY, noDetail)) (by simp [hjob, x, noDetail]))

end Sys2Proof.Machine
end

section
/-! PROOFS. Reference clocks, calibration and crossings (R425, R429 to R431, R436). -/

set_option linter.unusedVariables false

namespace Sys2Proof.Machine

open Sys2Proof

theorem exec_refclkLoss (inB out : Bool) (s : State) : exec (.refclkLoss inB out) s = execRefclkLoss inB out s := rfl
theorem exec_refclkQualifying (inB : Bool) (s : State) :
    exec (.refclkQualifying inB) s = execRefclkQualifying inB s := rfl
theorem exec_refclkGood (inB : Bool) (s : State) : exec (.refclkGood inB) s = execRefclkGood inB s := rfl
theorem exec_oscCalibration (a b : W16) (s : State) : exec (.oscCalibration a b) s = execOscCalibration a b s := rfl
theorem exec_cdcTimeout (x : Crossing) (s : State) : exec (.cdcTimeout x) s = execCdcTimeout x s := rfl

/-! ## Every unit in turn -/

/-- A pass over the units that changes each of them by its own state alone. -/
theorem each_unitOf {g : State → Nat → State} {f : LinkUnit → LinkUnit}
    (hsame : ∀ t v, (g t v).unitOf v = f (t.unitOf v)) (hother : ∀ t v w, w ≠ v → (g t v).unitOf w = t.unitOf w)
    {l : List Nat} (hl : l.Nodup) {u : Nat} (hu : u ∈ l) (s : State) : (s.each l g).unitOf u = f (s.unitOf u) := by
  have kept : ∀ (l : List Nat) (t : State), u ∉ l → (t.each l g).unitOf u = t.unitOf u := by
    intro l
    induction l with
    | nil => exact fun _ _ => rfl
    | cons v l ih =>
      intro t hu
      obtain ⟨hne, hnot⟩ := not_or.mp (fun h => hu (List.mem_cons.mpr h))
      exact (ih (g t v) hnot).trans (hother t v u hne)
  induction l generalizing s with
  | nil => cases hu
  | cons v l ih =>
    obtain ⟨hnot, hl⟩ := List.nodup_cons.mp hl
    by_cases same : u = v
    · subst same
      exact (kept l (g s u) hnot).trans (hsame s u)
    · exact (ih hl ((List.mem_cons.mp hu).resolve_left same) (g s v)).trans (congrArg f (hother s v u same))

/-- R431, R448: every unit is DOWN. -/
theorem downAll_unitOf (s : State) (u : UnitId) : ((s.downAll).unitOf u.val).state = .down := by
  have downed : (s.downAll).unitOf u.val = { (if (s.unitOf u.val).state = .down then s.unitOf u.val
      else (s.unitOf u.val).down .none) with gangLow := none, gangPos := 0, gangSize := 1 } :=
    each_unitOf (f := fun k => { (if k.state = .down then k else k.down .none) with
      gangLow := none, gangPos := 0, gangSize := 1 }) (fun t v => modUnit_unitOf ..)
      (fun t v w h => modUnit_unitOf_ne _ _ h) List.nodup_range (List.mem_range.mpr u.isLt) s
  rw [downed]
  split
  · assumption
  · rfl

theorem downAll_frame (s : State) : ∃ us, s.downAll = { s with units := us } := by
  refine each_keeps (P := fun t => ∃ us, t = { s with units := us }) ?_ _ ⟨_, rfl⟩
  rintro _ u ⟨us, rfl⟩
  exact ⟨_, rfl⟩

/-! ## Loss of a reference (R430, R431) -/

section
variable {s : State} (hworks : s.mode.works = true) {inB : Bool}
include hworks

theorem refclkLoss_switches (hsel : s.clocks.selB = inB) (hone : s.clocks.noneSelected = false)
    (hgood : s.clocks.ref inB = .good) (hother : s.clocks.ref (!inB) = .good) :
    execRefclkLoss inB false s = .next ((s.setRef inB .absent).switchRef (!inB)) := by
  simp [execRefclkLoss, State.pastBoot, hworks, hsel, hone, hgood, hother]

theorem refclkLoss_loses (hsel : s.clocks.selB = inB) (hone : s.clocks.noneSelected = false)
    (hgood : s.clocks.ref inB = .good) (hother : s.clocks.ref (!inB) ≠ .good) :
    execRefclkLoss inB false s = .next (s.setRef inB .absent).loseRefs := by
  simp [execRefclkLoss, State.pastBoot, hworks, hsel, hone, hgood, hother]

theorem refclkGood_selects (hq : s.clocks.ref inB = .qualifying) (hnone : s.clocks.noneSelected = true) :
    execRefclkGood inB s = .next ((s.setRef inB .good).regainRef inB) := by
  cases inB <;> simp [execRefclkGood, State.pastBoot, State.setRef, Clocks.putRef, hworks, hq, hnone]

end

section
variable {s : State} {inB : Bool}

theorem refclkLoss_of_other (hsel : s.clocks.selB ≠ inB) (out : Bool) :
    execRefclkLoss inB out s = .next (s.setRef inB (if out then .outOfRange else .absent)) := by
  simp [execRefclkLoss, hsel]

theorem refclkQualifying_starts (hlost : s.clocks.ref inB = .absent ∨ s.clocks.ref inB = .outOfRange) :
    execRefclkQualifying inB s = .next (s.setRef inB .qualifying) := by
  obtain hlost | hlost := hlost <;> simp only [execRefclkQualifying, hlost]

theorem refclkGood_of_selected (hq : s.clocks.ref inB = .qualifying) (hone : s.clocks.noneSelected = false) :
    execRefclkGood inB s = .next (s.setRef inB .good) := by
  cases inB <;> simp [execRefclkGood, State.setRef, Clocks.putRef, hq, hone]

theorem setRef_eq (r : RefState) : s.setRef inB r =
    { s with clocks := if inB then { s.clocks with b := r } else { s.clocks with a := r } } := rfl

/-- R431: without a reference the module stands still: its ports and units are down, and the time base holds over. -/
theorem loseRefs_stops (s : State) (u : UnitId) :
    let t := s.loseRefs
    t.clocks = { s.clocks with noneSelected := true, fallback := true } ∧ t.portA = false ∧ t.portB = false ∧
      t.timeStatus.state = .holdover ∧ (t.unitOf u.val).state = .down := by
  obtain ⟨us, downed⟩ := downAll_frame s
  have down := downAll_unitOf s u
  rw [downed] at down
  intro t
  obtain ⟨_, _, raised⟩ := raise_frame { s.downAll with
    portA := false, portB := false, clocks := { s.downAll.clocks with noneSelected := true, fallback := true },
    timeStatus := { s.downAll.timeStatus with state := .holdover, slew := 0 } } .alarm 431 0 srcModule none []
  have lost : t = _ := raised
  rw [lost, downed]
  exact ⟨rfl, rfl, rfl, rfl, down⟩

/-- A unit that was DOWN for want of a reference trains again. -/
def LinkUnit.regain (k : LinkUnit) : LinkUnit :=
  if k.enabled && k.state == .down && k.cause != .role then
    { k with state := .wait, stage := .lock, fastRetrain := false, failures := 0, cause := .none, width := .none,
             hostTrained := k.hostMode, hostStop := false }
  else k

/-- R431: the units train again. -/
def State.retrainDown (s : State) : State :=
  s.each (List.range 128) (fun s u =>
    if (s.unitOf u).enabled && (s.unitOf u).state == .down && (s.unitOf u).cause != .role then s.beginTraining u else s)

theorem retrainDown_unitOf (s : State) (u : UnitId) : (s.retrainDown).unitOf u.val = (s.unitOf u.val).regain := by
  refine each_unitOf ?_ ?_ List.nodup_range (List.mem_range.mpr u.isLt) s
  · intro t v
    unfold LinkUnit.regain
    split
    · exact modUnit_unitOf ..
    · rfl
  · intro t v w hne
    split
    · exact modUnit_unitOf_ne _ _ hne
    · rfl

theorem retrainDown_frame (s : State) : ∃ us, s.retrainDown = { s with units := us } := by
  refine each_keeps (P := fun t => ∃ us, t = { s with units := us }) ?_ _ ⟨_, rfl⟩
  rintro _ u ⟨us, rfl⟩
  split <;> exact ⟨_, rfl⟩

/-- The module with the input selected, before its units train. -/
def State.selectRef (s : State) (inB : Bool) : State :=
  let t := { s with clocks := { s.clocks with
    selB := inB, noneSelected := false, fallback := false,
    switches := if s.clocks.selB = inB then s.clocks.switches else satAdd16 s.clocks.switches 1 } }
  if (List.range 128).any (fun u => (t.unitOf u).timeParent) then t
  else { t with timeStatus := { t.timeStatus with state := .free } }

theorem regainRef_eq (s : State) (inB : Bool) : s.regainRef inB = (s.selectRef inB).retrainDown := rfl

theorem selectRef_frame (s : State) (inB : Bool) : ∃ switches status, s.selectRef inB = { s with
    clocks := { s.clocks with selB := inB, noneSelected := false, fallback := false, switches := switches },
    timeStatus := status } := by
  unfold State.selectRef
  generalize (if s.clocks.selB = inB then s.clocks.switches else satAdd16 s.clocks.switches 1) = switches
  dsimp only
  split <;> exact ⟨_, _, rfl⟩

/-- R431: an input that is selected again. -/
theorem regainRef_selects (s : State) (u : UnitId) :
    let t := s.regainRef inB
    t.clocks.selB = inB ∧ t.clocks.noneSelected = false ∧ t.clocks.fallback = false ∧
      ((s.unitOf u.val).enabled = true → (s.unitOf u.val).state = .down → (s.unitOf u.val).cause ≠ .role →
        (t.unitOf u.val).state = .wait) := by
  obtain ⟨_, _, selected⟩ := selectRef_frame s inB
  have trains := retrainDown_unitOf (s.selectRef inB) u
  obtain ⟨_, retrained⟩ := retrainDown_frame (s.selectRef inB)
  intro t
  refine ⟨?_, ?_, ?_, fun henabled hdown hcause => ?_⟩
  case refine_4 =>
    have sameUnit : (s.selectRef inB).unitOf u.val = s.unitOf u.val := by rw [selected]; rfl
    have : t.unitOf u.val = (s.unitOf u.val).regain := trains.trans (congrArg LinkUnit.regain sameUnit)
    simp [this, LinkUnit.regain, henabled, hdown, hcause]
  all_goals
    rw [show t = _ from retrained, selected]

end

/-! ## Crossings (R436) -/

section
variable {s : State} (hworks : s.mode.works = true) {f : FieldId} {other : Byte} {index : W32}
include hworks

theorem cdcTimeout_again (hclosed : (s.fieldOf f.val).closedCrossings.contains (other, index) = true) :
    execCdcTimeout (.field f other index) s = .next s := by
  have on : s.mode ≠ .off := fun h => by simp [h, ModState.works] at hworks
  simp only [execCdcTimeout, on, if_false, hclosed, if_true]

theorem cdcTimeout_closes (hopen : (s.fieldOf f.val).closedCrossings.contains (other, index) = false) :
    execCdcTimeout (.field f other index) s = .next ((s.putField f.val { s.fieldOf f.val with
      closedCrossings := (s.fieldOf f.val).closedCrossings ++ [(other, index)],
      cdcTimeouts := satAdd16 (s.fieldOf f.val).cdcTimeouts 1 }).raise .fault 436 0 (srcField f.val) none
        [w64 1, other.setWidth 64, index.setWidth 64]) := by
  have on : s.mode ≠ .off := fun h => by simp [h, ModState.works] at hworks
  simp only [execCdcTimeout, on, if_false, hopen, Bool.false_eq_true]

end

/-- Settles O55: the loss of a reference by whether the other input is GOOD, its return by whether one is selected,
and a crossing by whether it is closed. -/
theorem clockEvents : Obligations.ClockEvents := by
  unfold Obligations.ClockEvents
  intro s inB a b f other index u hworks c ref set v
  refine ⟨fun hsel hone hgood => ⟨fun hother => ?switched, fun hother => ?lost⟩, fun hsel out => ?other,
    fun hlost => ?qualifying, fun hq hone => ?good, fun hq hnone => ?selected, fun hone hgood => ?calibrated,
    fun hclosed => ?again, fun hopen => ?closes⟩
  case switched =>
    rw [exec_refclkLoss, refclkLoss_switches hworks hsel hone hgood hother]
    cases inB <;> rfl
  case lost =>
    obtain ⟨clocks, ports⟩ := loseRefs_stops (s.setRef inB .absent) u
    exact ⟨_, (exec_refclkLoss ..).trans (refclkLoss_loses hworks hsel hone hgood hother), clocks, ports⟩
  case other => exact (exec_refclkLoss ..).trans (refclkLoss_of_other hsel out)
  case qualifying => exact (exec_refclkQualifying ..).trans (refclkQualifying_starts hlost)
  case good => exact (exec_refclkGood ..).trans (refclkGood_of_selected hq hone)
  case selected =>
    exact ⟨_, (exec_refclkGood ..).trans (refclkGood_selects hworks hq hnone), regainRef_selects (s.setRef inB .good) u⟩
  case calibrated =>
    have good : s.clocks.ref s.clocks.selB = .good := hgood
    rw [exec_oscCalibration]
    simp [execOscCalibration, State.pastBoot, hworks, show s.clocks.noneSelected = false from hone, good, c]
  case again => exact (exec_cdcTimeout ..).trans (cdcTimeout_again hworks hclosed)
  case closes => exact (exec_cdcTimeout ..).trans (cdcTimeout_closes hworks hopen)

end Sys2Proof.Machine
end

section
/-! PROOFS. Converters, the power governor, readings, and HOLD (R445, R446, R448 to R451, R462). -/

set_option linter.unusedVariables false

namespace Sys2Proof.Machine

open Sys2Proof

theorem exec_converterFailure (s : State) : exec .converterFailure s = execConverterFailure s := rfl
theorem exec_converterReturn (s : State) : exec .converterReturn s = execConverterReturn s := rfl
theorem exec_powerSample (r : PowerReading) (s : State) : exec (.powerSample r) s = execPowerSample r s := rfl
theorem exec_readingCheck (r : SupplyReading) (s : State) : exec (.readingCheck r) s = execReadingCheck r s := rfl
theorem exec_pfWarn (s : State) : exec .pfWarn s = execPfWarn s := rfl
theorem exec_supplyOutOfRange (k : SupplyFault) (s : State) :
    exec (.supplyOutOfRange k) s = execSupplyOutOfRange k s := rfl
theorem exec_holdCommit (s : State) : exec .holdCommit s = execHoldCommit s := rfl

/-- R437: a module that works has its supplies. -/
theorem powered_of_works {m : ModState} (h : m.works = true) : m ≠ .off ∧ m ≠ .hold := by
  cases m <;> simp_all [ModState.works]

/-- An event of the module goes to its ring at once. -/
theorem raise_module (s : State) (cls : EventClass) (rule pos : Nat) (x : Option Nat) (d : List W64) :
    ∃ f : Ring → Ring, s.raise cls rule pos srcModule x d = s.modRing cls.num f := by
  unfold State.raise
  rw [show srcModule.field? = none from rfl]
  exact ⟨_, rfl⟩

/-! ## Converters (R445) -/

theorem converterFailure_counts {s : State} (hworks : s.mode.works = true) (hk : 0 < s.power.convOk.toNat) :
    execConverterFailure s = .next (State.raise { s with power := { s.power with convOk := s.power.convOk - 1 } } .alarm
      445 0 srcModule none [w64 (s.power.convOk.toNat - 1)]) := by
  have less : BitVec.ofNat 4 (s.power.convOk.toNat - 1) = s.power.convOk - 1 := by bv_omega
  simp only [execConverterFailure, (powered_of_works hworks).1, Nat.pos_iff_ne_zero.mp hk, or_self, if_false, less]

theorem converterReturn_counts {s : State} (hworks : s.mode.works = true) (hk : s.power.convOk.toNat < 8) :
    execConverterReturn s = .next { s with power := { s.power with convOk := s.power.convOk + 1 } } := by
  have more : BitVec.ofNat 4 (s.power.convOk.toNat + 1) = s.power.convOk + 1 := by bv_omega
  simp only [execConverterReturn, (powered_of_works hworks).1, Nat.not_le.mpr hk, or_self, if_false, more]

/-! ## The governor (R446) -/

section
variable {p : Power} (now : W64)

/-- An average within the sustained cap, and not far below it, moves no mark but that of the last step. -/
theorem onMax_of_steady (hover : p.averageW.toNat ≤ sustainedCap p.convOk.toNat)
    (hunder : 95 * sustainedCap p.convOk.toNat ≤ 100 * p.averageW.toNat) :
    ((p.onAverage now).onSlack now).onMax now = { p with
      overSince := none, lastRise := none, underSince := none,
      allMaxSince := if p.pwrStep.toNat = 15 then some (p.allMaxSince.getD now) else none } := by
  simp only [Power.onMax, Power.onSlack, Power.onAverage, Nat.not_lt.mpr hover, Nat.not_lt.mpr hunder, if_false]

/-- A value beyond the peak cap raises the step by 2. -/
theorem onPeak_steps (p : Power) :
    let q := p.onPeak
    q.convOk = p.convOk ∧ q.inputW = p.inputW ∧ q.averageW = p.averageW ∧
      (p.inputW.toNat ≤ peakCap p.convOk.toNat → q.pwrStep = p.pwrStep ∧ q.capEvents = p.capEvents) ∧
      (peakCap p.convOk.toNat < p.inputW.toNat → q.pwrStep.toNat = Nat.min 15 (p.pwrStep.toNat + 2) ∧
        q.capEvents = satAdd16 p.capEvents 1) := by
  intro q
  by_cases hpeak : peakCap p.convOk.toNat < p.inputW.toNat
  · have step : (BitVec.ofNat 4 (Nat.min 15 (p.pwrStep.toNat + 2))).toNat = Nat.min 15 (p.pwrStep.toNat + 2) :=
      Nat.mod_eq_of_lt (Nat.lt_succ_of_le (Nat.min_le_left ..))
    have risen : q = p.rise 2 := if_pos hpeak
    rw [risen]
    exact ⟨rfl, rfl, rfl, fun h => absurd hpeak (Nat.not_lt.mpr h), fun _ => ⟨step, rfl⟩⟩
  · have kept : q = p := if_neg hpeak
    rw [kept]
    exact ⟨rfl, rfl, rfl, fun _ => ⟨rfl, rfl⟩, fun h => absurd h hpeak⟩

end

theorem shed_of_within_cap {s : State} (h : s.power.overSince = none) :
    s.shed = { s with power := { s.power with lastShed := none } } := by
  simp only [State.shed, h, Option.isSome_none, Bool.false_and, Bool.not_false, if_true]

/-- The power with a sample's values. -/
def Power.sampled (p : Power) (r : PowerReading) : Power := { p with inputW := r.inputW, averageW := r.averageW }

/-- The power after a sample whose average is near the sustained cap: its marks are gone. -/
def Power.settled (p : Power) (now : W64) : Power :=
  { p with overSince := none, lastRise := none, underSince := none, lastShed := none,
           allMaxSince := if p.pwrStep.toNat = 15 then some (p.allMaxSince.getD now) else none }

/-- R446: a sample whose average is near the sustained cap changes the power step by its peak alone. -/
theorem powerSample_settles {s : State} (hworks : s.mode.works = true) {r : PowerReading}
    (hover : r.averageW.toNat ≤ sustainedCap s.power.convOk.toNat)
    (hunder : 95 * sustainedCap s.power.convOk.toNat ≤ 100 * r.averageW.toNat) :
    execPowerSample r s = .next { s with power := (s.power.sampled r).onPeak.settled s.time } := by
  obtain ⟨conv, -, average, -⟩ := onPeak_steps (s.power.sampled r)
  have steady := onMax_of_steady (p := (s.power.sampled r).onPeak) s.time (by rw [conv, average]; exact hover)
    (by rw [conv, average]; exact hunder)
  obtain ⟨on, awake⟩ := powered_of_works hworks
  have sampled : execPowerSample r s = .next (State.shed { s with
      power := (((s.power.sampled r).onPeak.onAverage s.time).onSlack s.time).onMax s.time }) :=
    if_neg (not_or.mpr ⟨on, awake⟩)
  rw [sampled, steady, shed_of_within_cap rfl]
  rfl

/-! ## Readings (R462) -/

/-- The event of one reading, where it leaves its range. -/
def State.raiseReading (was : BitVec 4) (d : List W64) (t : State) (e : Bool × Nat) : State :=
  if e.1 && !was.getLsbD e.2 then t.raise (if e.2 < 2 then .notice else .alarm) 462 e.2 srcModule none d else t

/-- The events of the readings that leave their range. -/
def State.raiseOdd (s : State) (odd : List Bool) (d : List W64) : State :=
  s.each odd.zipIdx (State.raiseReading s.power.excursions d)

theorem raiseOdd_frame (s : State) (odd : List Bool) (d : List W64) :
    ∃ rings, s.raiseOdd odd d = { s with rings := rings } := by
  refine each_keeps (P := fun t => ∃ rings, t = { s with rings := rings }) ?_ _ ⟨_, rfl⟩
  rintro _ e ⟨rings, rfl⟩
  unfold State.raiseReading
  split
  · obtain ⟨_, raised⟩ := raise_module { s with rings := rings } (if e.2 < 2 then .notice else .alarm) 462 e.2 none d
    exact ⟨_, raised⟩
  · exact ⟨_, rfl⟩

/-- No reading out of its range, no event. -/
theorem raiseOdd_of_none {odd : List Bool} (h : ∀ b ∈ odd, b = false) (s : State) (d : List W64) :
    s.raiseOdd odd d = s := by
  have quiet : ∀ t : State, ∀ e ∈ odd.zipIdx, State.raiseReading s.power.excursions d t e = t := fun t e he => by
    rw [State.raiseReading, h e.1 (List.fst_mem_of_mem_zipIdx he)]
    rfl
  exact (List.foldl_ext _ _ s quiet).trans (List.foldl_fixed _)

theorem noteReadings_eq (s : State) (odd : List Bool) (d : List W64) : s.noteReadings odd d =
    { s.raiseOdd odd d with power := { (s.raiseOdd odd d).power with
        excursions := odd.zipIdx.foldl (fun m e => if e.1 then m ||| BitVec.twoPow 4 e.2 else m) 0 } } := rfl

/-- The power with the readings of a check. -/
def Power.read (p : Power) (q : SupplyReading) : Power :=
  let hold := inletHot q.coolantIn || riseHigh q.coolantIn q.coolantOut
  { p with inputV := q.j1, bus48 := q.bus48, coolantIn := q.coolantIn, coolantOut := q.coolantOut, hold4 := hold,
           pwrStep := if hold then BitVec.ofNat 4 (Nat.max 4 p.pwrStep.toNat) else p.pwrStep }

theorem read_hold4 (p : Power) (q : SupplyReading) : (p.read q).hold4 = true ↔
    500 < q.coolantIn.toInt ∨ 150 < q.coolantOut.toInt - q.coolantIn.toInt := by
  simp [Power.read, inletHot, riseHigh]

theorem read_pwrStep (p : Power) (q : SupplyReading) : (p.read q).pwrStep =
    if (p.read q).hold4 then BitVec.ofNat 4 (Nat.max 4 p.pwrStep.toNat) else p.pwrStep := rfl

/-- Readings within their ranges are not odd. -/
theorem odd_of_within {q : SupplyReading} (hj : q.j1.toNat ≤ 4100) (hlow : 150 ≤ q.coolantIn.toInt)
    (hhigh : q.coolantIn.toInt ≤ 450)
    (hcool : ¬ (500 < q.coolantIn.toInt ∨ 150 < q.coolantOut.toInt - q.coolantIn.toInt)) :
    ∀ b ∈ SupplyReading_odd q, b = false := by
  obtain ⟨hin, hrise⟩ := not_or.mp hcool
  simp [SupplyReading_odd, j1High, inletOdd, inletHot, riseHigh, hin, hrise, Nat.not_lt.mpr hj, Int.not_lt.mpr hlow,
    Int.not_lt.mpr hhigh]

theorem readingCheck_eq {s : State} (hworks : s.mode.works = true) (q : SupplyReading) :
    execReadingCheck q s = .next (State.noteReadings { s with power := s.power.read q } (SupplyReading_odd q)
      [q.j1.setWidth 64, q.coolantIn.setWidth 64, q.coolantOut.setWidth 64]) := by
  obtain ⟨on, awake⟩ := powered_of_works hworks
  exact if_neg (not_or.mpr ⟨on, awake⟩)

/-- R462: what a check of the readings leaves. -/
theorem readingCheck_reads {s : State} (hworks : s.mode.works = true) (q : SupplyReading) :
    ∃ t : State, execReadingCheck q s = .next t ∧ t = { s with power := t.power, rings := t.rings } ∧
      t.power = { s.power.read q with excursions := t.power.excursions } ∧
      ((∀ b ∈ SupplyReading_odd q, b = false) → t.rings = s.rings) := by
  obtain ⟨rings, raised⟩ := raiseOdd_frame { s with power := s.power.read q } (SupplyReading_odd q)
    [q.j1.setWidth 64, q.coolantIn.setWidth 64, q.coolantOut.setWidth 64]
  refine ⟨_, readingCheck_eq hworks q, ?_, ?_, fun hnone => ?_⟩
  · rw [noteReadings_eq, raised]
  · rw [noteReadings_eq, raised]
  · rw [noteReadings_eq, raiseOdd_of_none hnone]

/-! ## The warning (R448, R449, R454) -/

/-- The warning as it reaches every unit and the Hamper. -/
def State.warn (s : State) : State := (s.threadPass (mmpNode s.mgmt.standbyServes) everyFc .hold).downAll.loseHamper

/-- The module in HOLD, what the warning stops being stopped. -/
def State.holding (s t : State) : State :=
  { t with
    mode := .hold, resumeMode := t.mode, pfWarnLow := true, pfSeen := true, mesh := [],
    fields := tmap {} (fun _ v => { v with arithGated := true, slice := none }) t.fields,
    press := { t.press with install := none, paused := true },
    darn := { t.darn with window := none, planner := .idle },
    holdArea := { t.holdArea with warnTime := t.time } }

theorem enterHold_eq {s : State} (hworks : s.mode.works = true) : s.enterHold = s.holding (s.warn.pressBump 6 1) := by
  obtain ⟨on, awake⟩ := powered_of_works hworks
  exact if_neg (not_or.mpr ⟨on, awake⟩)

/-- The warning itself leaves the contexts, the cores and the rings. -/
theorem warn_frame (s : State) : ∃ units tiles thread,
    s.warn = { s with units := units, tiles := tiles, thread := thread, hamperUp := false } := by
  obtain ⟨_, passed⟩ := threadPass_frame s (mmpNode s.mgmt.standbyServes) everyFc .hold
  obtain ⟨_, downed⟩ := downAll_frame (s.threadPass (mmpNode s.mgmt.standbyServes) everyFc .hold)
  rw [State.warn, downed, passed]
  exact ⟨_, _, _, rfl⟩

theorem loseHamper_unitOf (s : State) (u : Nat) : s.loseHamper.unitOf u = s.unitOf u := rfl

theorem warn_unitOf (s : State) (u : UnitId) : ((s.warn).unitOf u.val).state = .down := by
  rw [State.warn, loseHamper_unitOf]
  exact downAll_unitOf _ u

/-- R448: the module in HOLD. -/
theorem enterHold_holds {s : State} (hworks : s.mode.works = true) (u : UnitId) :
    let t := s.enterHold
    t.mode = .hold ∧ t.resumeMode = s.mode ∧ t.pfSeen = true ∧ t.hamperUp = false ∧ t.mesh = [] ∧
      t.press.install = none ∧ (t.unitOf u.val).state = .down ∧ t.holdArea.warnTime = s.time ∧ t.ctxs = s.ctxs ∧
      t.cores = s.cores := by
  intro t
  have down := warn_unitOf s u
  obtain ⟨_, _, _, warned⟩ := warn_frame s
  obtain ⟨_, _, bumped⟩ := bump_module_frame s.warn (0x50800 + 8 * 6) 1
  rw [show t = _ from enterHold_eq hworks, State.pressBump, bumped, warned]
  rw [warned] at down
  exact ⟨rfl, rfl, rfl, rfl, rfl, rfl, down, rfl, rfl, rfl⟩

/-- The NOTICE of a counter goes to another ring than the ALARMs. -/
theorem pressBump_alarms (s : State) (i n : Nat) : (s.pressBump i n).ringOf 0 = s.ringOf 0 := by
  unfold State.pressBump State.bump
  dsimp only
  split
  · generalize [w64 _, w64 _, w64 _] = d
    obtain ⟨f, raised⟩ := raise_module (s.putCounter (counterKey 0 (0x50800 + 8 * i))
      ((s.counterOf (counterKey 0 (0x50800 + 8 * i))).add n)) .notice 495 0 none d
    refine (congrArg (State.ringOf · 0) raised).trans ?_
    exact State.putRing_ne _ _ (by decide)
  · rfl

theorem enterHold_alarms {s : State} (hworks : s.mode.works = true) : s.enterHold.ringOf 0 = s.ringOf 0 := by
  obtain ⟨_, _, _, warned⟩ := warn_frame s
  rw [enterHold_eq hworks]
  refine (pressBump_alarms s.warn 6 1).trans ?_
  rw [warned]
  rfl

/-- R449: an ALARM, and then the warning. -/
theorem supplyOutOfRange_holds {s : State} (hworks : s.mode.works = true) (k : SupplyFault) (code : Nat)
    (hcode : execSupplyOutOfRange k s =
      if s.mode = .off ∨ s.mode = .hold then .next s
      else .next ((s.raise .alarm 449 code srcModule none [w64 code]).enterHold)) :
    ∃ t : State, execSupplyOutOfRange k s = .next t ∧ t.mode = .hold ∧
      t.ringOf 0 = (s.raise .alarm 449 code srcModule none [w64 code]).ringOf 0 := by
  obtain ⟨on, awake⟩ := powered_of_works hworks
  obtain ⟨_, raised⟩ := raise_module s .alarm 449 code none [w64 code]
  have works : (s.raise .alarm 449 code srcModule none [w64 code]).mode.works = true := by rw [raised]; exact hworks
  obtain ⟨held, -⟩ := enterHold_holds works 0
  exact ⟨_, hcode.trans (if_neg (not_or.mpr ⟨on, awake⟩)), held, enterHold_alarms works⟩

/-! ## The commit (R450, R451) -/

theorem holdCommit_eq {s : State} (hold : s.mode = .hold) : execHoldCommit s = .next (s.writeHold.afterReset .off) :=
  if_pos hold

theorem writeHold_of_none {s : State} (h : s.liveCtxs = []) : s.writeHold.holdArea = s.holdArea := by
  simp only [State.writeHold, h]

theorem writeHold_of_some {s : State} (h : s.liveCtxs ≠ []) : s.writeHold.holdArea =
    s.holdArea.commit (s.liveCtxs.map (fun x => s.ctxRecord x true)) s.resumeMode s.time := by
  unfold State.writeHold
  split
  · next hnone => exact absurd hnone h
  · rfl

/-- R450: the half that a commit writes. -/
theorem commit_writes (a : HoldArea) (records : List CtxRecord) (was : ModState) (now : W64) :
    let b := a.commit records was now
    b.holdNo = a.holdNo + 1 ∧
      let half := if a.newest1 then b.half0 else b.half1
      half.committed = true ∧ half.holdNo = a.holdNo + 1 ∧ half.records = records := by
  cases hnew : a.newest1 <;> simp [HoldArea.commit, hnew]

/-- Settles O56: the converters one by one, a sample by its peak, the readings by their ranges, and HOLD by what the
warning stops and what the commit writes. -/
theorem supplyEvents : Obligations.SupplyEvents := by
  unfold Obligations.SupplyEvents
  intro s r q u hworks p k
  refine ⟨fun hk => (exec_converterFailure s).trans (converterFailure_counts hworks hk),
    fun hk => (exec_converterReturn s).trans (converterReturn_counts hworks hk), ?sample, ?reading, ?warning, ?supply,
    ?commit⟩
  case sample =>
    intro e he hk hover hunder
    have caps : e.2.1 = sustainedCap p.convOk.toNat ∧ e.2.2 = peakCap p.convOk.toNat := by
      rw [show p.convOk.toNat = e.1 from hk]
      clear hk hover hunder
      revert e
      decide
    obtain ⟨sustained, peak⟩ := caps
    rw [sustained] at hover hunder
    obtain ⟨conv, input, average, below, beyond⟩ := onPeak_steps (p.sampled r)
    refine ⟨_, (exec_powerSample r s).trans (powerSample_settles hworks hover hunder), rfl, input, average, conv, ?_,
      ?_⟩
    · rw [peak]
      exact below
    · rw [peak]
      exact beyond
  case reading =>
    intro hot
    obtain ⟨t, checked, frame, power, quiet⟩ := readingCheck_reads hworks q
    refine ⟨t, (exec_readingCheck q s).trans checked, frame, ?_⟩
    rw [power]
    have holds := read_hold4 p q
    refine ⟨rfl, rfl, rfl, rfl, holds, fun hhot => ?_, fun hcool => ?_, fun hj hlow hhigh hcool =>
      quiet (odd_of_within hj hlow hhigh hcool)⟩
    · refine (congrArg BitVec.toNat ((read_pwrStep p q).trans (if_pos (holds.mpr hhot)))).trans ?_
      exact Nat.mod_eq_of_lt (Nat.max_lt.mpr ⟨by decide, p.pwrStep.isLt⟩)
    · exact (read_pwrStep p q).trans (if_neg (fun h => hcool (holds.mp h)))
  case warning => exact ⟨_, exec_pfWarn s, enterHold_holds hworks u⟩
  case supply =>
    intro e he
    simp only [List.mem_cons, List.not_mem_nil, or_false] at he
    obtain rfl | rfl | rfl := he
    · exact supplyOutOfRange_holds hworks .j1Low 0 rfl
    · exact supplyOutOfRange_holds hworks .j1High 1 rfl
    · exact supplyOutOfRange_holds hworks .bus48 2 rfl
  case commit =>
    intro s' hold
    have area : (s'.writeHold.afterReset .off).holdArea = s'.writeHold.holdArea := rfl
    refine ⟨_, (exec_holdCommit s').trans (holdCommit_eq hold), rfl, rfl, rfl, fun hnone => ?_, fun hsome => ?_⟩
    · exact area.trans (writeHold_of_none hnone)
    · rw [area, writeHold_of_some hsome]
      exact commit_writes ..

end Sys2Proof.Machine
end

section
/-! PROOFS. Heat (R386, R388, R395, R455 to R459). -/

set_option linter.unusedVariables false

namespace Sys2Proof.Machine

open Sys2Proof

theorem exec_thermalStep (s : State) : exec .thermalStep s = execThermalStep s := rfl
theorem exec_sensorRead (f : FieldId) (r : Vector W16 9) (s : State) :
    exec (.sensorRead f r) s = execSensorRead f r s := rfl
theorem exec_thermalTrip (f : FieldId) (i : Fin 9) (s : State) :
    exec (.thermalTrip f i) s = execThermalTrip f i s := rfl
theorem exec_regulatorFault (f : FieldId) (rail : Bool) (s : State) :
    exec (.regulatorFault f rail) s = execRegulatorFault f rail s := rfl

/-! ## A field that stops, and a controller that fails (R395, R398) -/

/-- What a field is once it has stopped. -/
def Field.stopped (v : Field) (st : FieldState) : Field :=
  { v with
    state := st, osc := .free, arithGated := true, meshGated := true, slice := none,
    darkCount := if st = .dark then satAdd16 v.darkCount 1 else v.darkCount }

theorem time_of_besideRoutes {s t : State} (h : t.besideRoutes = s.besideRoutes) : t.time = s.time :=
  show t.besideRoutes.time = s.besideRoutes.time from h ▸ rfl

theorem besideRoutes_modField {s t : State} (h : t.besideRoutes = s.besideRoutes) (f : Nat) (g : Field → Field) :
    (t.modField f g).besideRoutes = (s.modField f g).besideRoutes := congrArg (fun u : State => u.modField f g) h

/-- R398: a field that stops keeps all but its state, its clocks and its slice. -/
theorem besideRoutes_stopField (s : State) (f : Nat) (st : FieldState) (cause : StaleCause) (lost : FieldLoss) :
    (s.stopField f st cause lost).besideRoutes = (s.modField f (fun v => v.stopped st)).besideRoutes := by
  unfold State.stopField
  extract_lets t u
  have stopped : t.besideRoutes = (s.modField f (fun v => v.stopped st)).besideRoutes :=
    besideRoutes_modField (besideRoutes_of_spared (spared_abortOver ..)) f _
  have left : u.besideRoutes = t.besideRoutes :=
    (besideRoutes_losePlaces ..).trans (besideRoutes_of_spared (spared_staleRegions ..))
  exact (besideRoutes_stopThread ..).trans ((besideRoutes_detourUpdate _).trans ((besideRoutes_breakGroups ..).trans
    ((besideRoutes_strand ..).trans (left.trans stopped))))

theorem besideRoutes_goDark (s : State) (f : Nat) (lost : FieldLoss) :
    (s.goDark f lost).besideRoutes = (s.modField f (fun v => v.stopped .dark)).besideRoutes := by
  unfold State.goDark
  exact (besideRoutes_stopField ..).trans (besideRoutes_modField (besideRoutes_of_spared (spared_threadPass ..)) f _)

theorem goDark_fieldOf (s : State) (f : Nat) (lost : FieldLoss) :
    (s.goDark f lost).fieldOf f = (s.fieldOf f).stopped .dark :=
  (fieldOf_of_besideRoutes (besideRoutes_goDark ..) f).trans (State.putField_same ..)

theorem goDark_time (s : State) (f : Nat) (lost : FieldLoss) : (s.goDark f lost).time = s.time :=
  (time_of_besideRoutes (besideRoutes_goDark ..)).trans (show (s.modField f _).time = s.time from rfl)

/-- R395: the first failure of a controller within 24 hours leaves its field in TEST. -/
theorem controllerFails_first (s : State) (f : Nat) (lost : FieldLoss)
    (first : (s.fieldOf f).fcFailures.filter (fun t => decide ((s.time - t).toNat ≤ ms 86400000)) = []) :
    ((s.controllerFails f lost).fieldOf f).state = .test ∧
      ((s.controllerFails f lost).fieldOf f).fcFailures = [s.time] := by
  have stopped : (s.stopThread f true).besideRoutes = s.besideRoutes := besideRoutes_stopThread ..
  unfold State.controllerFails
  extract_lets v t u recent
  have time : u.time = s.time := by
    refine Eq.trans ?_ (time_of_besideRoutes stopped)
    unfold u
    split
    · exact goDark_time ..
    · rfl
  have none_recent : recent = [] := by
    unfold recent
    rw [time]
    exact first
  rw [if_neg (not_not.mpr none_recent), State.modField, State.putField_same]
  exact ⟨rfl, congrArg (fun t => [t]) time⟩

/-! ## The greatest of several -/

/-- A pass that keeps the greater of two ends at an element that is greater than all others. -/
theorem foldl_greater {α β : Type} [LinearOrder β] (key : α → β) {a : α} {l : List α} {b : α} (hin : a = b ∨ a ∈ l)
    (hb : b ≠ a → key b < key a) (hl : ∀ c ∈ l, c ≠ a → key c < key a) :
    l.foldl (fun b c => if key b < key c then c else b) b = a := by
  induction l generalizing b with
  | nil => exact (hin.resolve_right (List.not_mem_nil)).symm
  | cons c l ih =>
    have hc : c ≠ a → key c < key a := hl c List.mem_cons_self
    have hl : ∀ d ∈ l, d ≠ a → key d < key a := fun d hd => hl d (List.mem_cons_of_mem c hd)
    rw [List.foldl_cons]
    split
    case isTrue less =>
      refine ih ?_ hc hl
      obtain rfl | hin := hin
      · exact .inl (by_contra fun h => (less.trans (hc (Ne.symm h))).false)
      · exact List.mem_cons.mp hin
    case isFalse greater =>
      refine ih ?_ hb hl
      obtain rfl | hin := hin
      · exact .inl rfl
      · refine (List.mem_cons.mp hin).imp_left ?_
        rintro rfl
        exact by_contra fun h => greater (hb (Ne.symm h))

/-- A pass that keeps the greater of two ends at an element that none exceeds. -/
theorem foldl_greater_le {α β : Type} [LinearOrder β] (key : α → β) (l : List α) (b : α) :
    key b ≤ key (l.foldl (fun b c => if key b < key c then c else b) b) ∧
      ∀ c ∈ l, key c ≤ key (l.foldl (fun b c => if key b < key c then c else b) b) := by
  induction l generalizing b with
  | nil => exact ⟨le_rfl, fun _ h => absurd h List.not_mem_nil⟩
  | cons c l ih =>
    rw [List.foldl_cons]
    obtain ⟨first, rest⟩ := ih (if key b < key c then c else b)
    have both : key b ≤ key (if key b < key c then c else b) ∧ key c ≤ key (if key b < key c then c else b) := by
      split
      case isTrue less => exact ⟨less.le, le_rfl⟩
      case isFalse greater => exact ⟨le_rfl, not_lt.mp greater⟩
    refine ⟨both.1.trans first, fun d hd => ?_⟩
    obtain rfl | hd := List.mem_cons.mp hd
    · exact both.2.trans first
    · exact rest d hd

/-- R456: the field whose measure exceeds that of all others is the greatest. -/
theorem greatest_of_exceeds {s : State} {m : Field → Int} {f : Nat} {l : List Nat} (hf : f ∈ l)
    (exceeds : ∀ g ∈ l, g ≠ f → m (s.fieldOf g) < m (s.fieldOf f)) : s.greatest m l = some f := by
  cases l with
  | nil => cases hf
  | cons g l =>
    refine congrArg some (foldl_greater (fun g => m (s.fieldOf g)) ((List.mem_cons.mp hf)) ?_ ?_)
    · exact exceeds g List.mem_cons_self
    · exact fun c hc => exceeds c (List.mem_cons_of_mem g hc)

theorem mem_servingFields {s : State} {p : Field → Bool} {f : Nat} :
    f ∈ s.servingFields p ↔ f < 100 ∧ fieldServes (s.fieldOf f) = true ∧ p (s.fieldOf f) = true := by
  rw [State.servingFields, List.mem_filter, List.mem_range, Bool.and_eq_true]

theorem servingFields_none {s : State} {p : Field → Bool}
    (h : ∀ g < 100, fieldServes (s.fieldOf g) = true → p (s.fieldOf g) = false) : s.servingFields p = [] := by
  refine List.eq_nil_iff_forall_not_mem.mpr fun g hg => ?_
  obtain ⟨hlt, hserves, hp⟩ := mem_servingFields.mp hg
  exact Bool.false_ne_true ((h g hlt hserves).symm.trans hp)

/-! ## The thermal step (R456, R457) -/

theorem withStep_of_serves {v : Field} (hserves : fieldServes v = true) (n : Nat) :
    v.withStep n = { v with
      thStep := BitVec.ofNat 4 (Nat.max n v.floorStep),
      state := if Nat.max n v.floorStep = 0 then .online else .throttled } := if_pos hserves

theorem floorStep_zero {v : Field} (hreg : v.regFault = false) (hbad : popcount v.badSensors ≤ 3) : v.floorStep = 0 :=
  if_neg fun h => h.elim (fun h => Bool.false_ne_true (hreg.symm.trans h)) (not_lt.mpr hbad)

/-- R456: the hottest field at 100 °C or more goes one step up. -/
theorem thermalStep_up {s : State} {f : FieldId} (hserves : fieldServes (s.fieldOf f.val) = true)
    (hstep : (s.fieldOf f.val).thStep.toNat < 15) (hot : 1600 ≤ (s.fieldOf f.val).temp.toInt)
    (hottest : ∀ g < 100, g ≠ f.val → fieldServes (s.fieldOf g) = true →
      (s.fieldOf g).temp.toInt < (s.fieldOf f.val).temp.toInt) :
    s.thermalStep = s.modField f.val (fun v => v.withStep (v.thStep.toNat + 1)) := by
  have chosen : s.greatest (fun v => v.temp.toInt) (s.servingFields fun v =>
      decide (v.thStep.toNat < 15) && decide (celsius 100 ≤ v.temp.toInt)) = some f.val := by
    refine greatest_of_exceeds (mem_servingFields.mpr ⟨f.isLt, hserves, ?_⟩) fun g hg hne => ?_
    · exact Bool.and_eq_true_iff.mpr ⟨decide_eq_true hstep, decide_eq_true hot⟩
    · obtain ⟨hlt, hserves, -⟩ := mem_servingFields.mp hg
      exact hottest g hlt hne hserves
  rw [State.thermalStep, chosen]

/-- R456: between the two limits no field changes its step. -/
theorem thermalStep_between {s : State} (h : ∀ g < 100, fieldServes (s.fieldOf g) = true →
    (s.fieldOf g).temp.toInt < 1600 ∧ 1552 < (s.fieldOf g).temp.toInt) : s.thermalStep = s := by
  have none_hot : s.servingFields (fun v =>
      decide (v.thStep.toNat < 15) && decide (celsius 100 ≤ v.temp.toInt)) = [] :=
    servingFields_none fun g hg hserves => Bool.and_eq_false_imp.mpr fun _ =>
      decide_eq_false (not_le.mpr (h g hg hserves).1)
  have none_cool : s.servingFields (fun v =>
      decide (v.floorStep < v.thStep.toNat) && decide (v.temp.toInt ≤ celsius 97)) = [] :=
    servingFields_none fun g hg hserves => Bool.and_eq_false_imp.mpr fun _ =>
      decide_eq_false (not_le.mpr (h g hg hserves).2)
  rw [State.thermalStep, none_hot, none_cool]
  rfl

theorem execThermalStep_self {s : State} (hworks : s.mode.works = true)
    (hown : s.mgmt.hostFunctions.getLsbD 6 = false) : execThermalStep s = .next s.thermalStep := by
  rw [execThermalStep, hworks, if_neg (by decide), hown, if_neg (by decide)]

theorem execThermalStep_host {s : State} (hworks : s.mode.works = true)
    (hhost : s.mgmt.hostFunctions.getLsbD 6 = true) (hnone : ∀ q ∈ s.requests, q.kind ≠ .thermal) :
    execThermalStep s = .next (s.addRequest .thermal) := by
  have unasked : s.requests.any (fun r => r.kind == .thermal) = false :=
    List.any_eq_false.mpr fun q hq => fun h => hnone q hq (eq_of_beq h)
  rw [execThermalStep, hworks, if_neg (by decide), hhost, if_pos rfl, unasked]
  rfl

/-! ## Sensors (R455) -/

/-- Nine readings within the sensors' range, none of them far from the median. -/
def goodReadings (r : Vector W16 9) : Prop :=
  ∀ i : Fin 9, -640 ≤ r[i].toInt ∧ r[i].toInt ≤ 2400 ∧ (r[i].toInt - median9 r).natAbs ≤ 320

section
variable {r : Vector W16 9} (hgood : goodReadings r)
include hgood

theorem apartFrom_of_good (v : Field) (i : Fin 9) : v.apartFrom r i = 0 := by
  refine if_neg (not_lt.mpr ?_)
  exact Int.ofNat_le.mpr (hgood i).2.2

theorem outOfRange_of_good (i : Fin 9) : outOfRange r[i] = false := by
  obtain ⟨low, high, -⟩ := hgood i
  exact Bool.or_eq_false_iff.mpr ⟨decide_eq_false (not_lt.mpr low), decide_eq_false (not_lt.mpr high)⟩

theorem nowBad_of_good (v : Field) : v.nowBad r = v.badSensors := by
  refine List.foldl_fixed' (fun i => if_neg ?_) _
  rw [outOfRange_of_good hgood i, apartFrom_of_good hgood v i]
  decide

end

/-- R455: with no bad sensor the hottest one has the greatest reading. -/
theorem hottestSensor_of_none_bad (r : Vector W16 9) :
    ∃ i : Fin 9, (∀ j : Fin 9, r[j].toInt ≤ r[i].toInt) ∧ hottestSensor r 0 = some i := by
  obtain ⟨first, rest⟩ := foldl_greater_le (fun i : Fin 9 => r[i].toInt) ((List.finRange 9).tail) 0
  refine ⟨_, fun j => ?_, rfl⟩
  have all : j ∈ (0 : Fin 9) :: (List.finRange 9).tail := List.mem_finRange j
  obtain rfl | hj := List.mem_cons.mp all
  · exact first
  · exact rest j hj

/-- What a reading of good sensors leaves in the field. -/
def Field.sensed (v : Field) (r : Vector W16 9) (i : Fin 9) : Field :=
  { v with readings := r, apart := Vector.replicate 9 0, temp := r[i], hotSensor := BitVec.ofNat 4 i.val }

theorem read_of_good {v : Field} {r : Vector W16 9} (hgood : goodReadings r) (hnone : v.badSensors = 0) {i : Fin 9}
    (hot : hottestSensor r 0 = some i) : v.read r = v.sensed r i := by
  have apart : Vector.ofFn (fun i => v.apartFrom r i) = Vector.replicate 9 0 := by
    refine Vector.ext fun k hk => ?_
    rw [Vector.getElem_ofFn, Vector.getElem_replicate, apartFrom_of_good hgood]
  unfold Field.read
  rw [nowBad_of_good hgood, hnone]
  dsimp only
  rw [hot, apart]
  exact congrArg (fun b => { v.sensed r i with badSensors := b }) hnone.symm

theorem withStep_sensed {v : Field} (hon : v.state = .online) (hnone : v.badSensors = 0) (hstep : v.thStep = 0)
    (hreg : v.regFault = false) (r : Vector W16 9) (i : Fin 9) :
    (v.sensed r i).withStep (v.sensed r i).thStep.toNat = v.sensed r i := by
  have floor : (v.sensed r i).floorStep = 0 :=
    floorStep_zero hreg (by rw [show (v.sensed r i).badSensors = 0 from hnone]; decide)
  have step : (v.sensed r i).thStep = 0 := hstep
  have serves : fieldServes (v.sensed r i) = true := by
    rw [fieldServes, show (v.sensed r i).state = .online from hon]
    rfl
  rw [withStep_of_serves serves, floor, step]
  change { v.sensed r i with thStep := 0, state := .online } = _
  rw [← hon, ← hstep]
  rfl

/-- R455: a reading of nine good sensors of an ONLINE field at step 0 is taken, with no event. -/
theorem execSensorRead_good {s : State} {f : FieldId} {r : Vector W16 9} (hworks : s.mode.works = true)
    (hon : (s.fieldOf f.val).state = .online) (hnone : (s.fieldOf f.val).badSensors = 0)
    (hstep : (s.fieldOf f.val).thStep = 0) (hreg : (s.fieldOf f.val).regFault = false) (hgood : goodReadings r)
    {i : Fin 9} (hot : hottestSensor r 0 = some i) :
    execSensorRead f r s = .next (s.putField f.val ((s.fieldOf f.val).sensed r i)) := by
  have reads : ¬ (s.mode = .off ∨ s.mode = .hold ∨ (s.fieldOf f.val).state = .off ∨
      (s.fieldOf f.val).state = .retired) := by
    rw [hon]
    rintro (h | h | h | h)
    · exact absurd (h ▸ hworks) (by decide)
    · exact absurd (h ▸ hworks) (by decide)
    · cases h
    · cases h
  unfold execSensorRead
  rw [if_neg reads, read_of_good hgood hnone hot]
  dsimp only
  rw [withStep_sensed hon hnone hstep hreg]
  have same : ((s.fieldOf f.val).sensed r i).badSensors = 0 := hnone
  rw [same, hnone]
  rfl

/-! ## Trips and regulators (R458, R459) -/

theorem fieldServes_iff {v : Field} : fieldServes v = true ↔ v.state = .online ∨ v.state = .throttled := by
  rw [fieldServes, Bool.or_eq_true, beq_iff_eq, beq_iff_eq]

/-- A regulator fault reaches a field that serves. -/
theorem execRegulatorFault_of_serves {s : State} {f : FieldId} (hworks : s.mode.works = true)
    (hserves : (s.fieldOf f.val).state = .online ∨ (s.fieldOf f.val).state = .throttled) (rail : Bool) :
    execRegulatorFault f rail s = if rail || (s.fieldOf f.val).regFault then .next (s.controllerFails f.val {})
      else .next ((s.putField f.val (({ s.fieldOf f.val with regFault := true } : Field).withStep
        (s.fieldOf f.val).thStep.toNat)).raise .alarm 458 0 (srcField f.val) none [w64 f.val]) := by
  refine if_neg ?_
  rw [hworks]
  obtain h | h := hserves
  · rw [h]
    decide
  · rw [h]
    decide

/-- R458: a first regulator fault holds a field that serves at step 8 or above. -/
theorem withStep_regFault {v : Field} (hserves : v.state = .online ∨ v.state = .throttled) :
    ({ v with regFault := true } : Field).withStep v.thStep.toNat = { v with
      regFault := true, state := .throttled, thStep := if v.thStep.toNat ≤ 8 then 8 else v.thStep } := by
  have floor : ({ v with regFault := true } : Field).floorStep = 8 := if_pos (.inl rfl)
  have serves : fieldServes ({ v with regFault := true } : Field) = true := fieldServes_iff.mpr hserves
  rw [withStep_of_serves serves, floor, if_neg (by simp only [Nat.max_def]; split <;> omega)]
  by_cases low : v.thStep.toNat ≤ 8
  · rw [if_pos low, show Nat.max v.thStep.toNat 8 = 8 from max_eq_right low]
    rfl
  · rw [if_neg low, show Nat.max v.thStep.toNat 8 = v.thStep.toNat from max_eq_left (Nat.le_of_not_le low),
      BitVec.ofNat_toNat, BitVec.setWidth_eq]

/-- Settles O57. The hottest field is the one that the pass over the serving fields ends at; a field that stops keeps
all but its state, clocks and slice. -/
theorem heatEvents : Obligations.HeatEvents := by
  unfold Obligations.HeatEvents
  intro s f readings sensor hworks v
  refine ⟨?up, ?between, ?host, ?sensors, ?trip, ?regulator, ?second⟩
  case up =>
    intro hown hserves hstep hot hottest hreg hbad
    refine (exec_thermalStep s).trans ((execThermalStep_self hworks hown).trans (congrArg Host.Outcome.next ?_))
    rw [thermalStep_up hserves hstep hot hottest, State.modField, withStep_of_serves hserves,
      floorStep_zero hreg hbad, show Nat.max (v.thStep.toNat + 1) 0 = v.thStep.toNat + 1 from Nat.max_zero ..,
      if_neg (Nat.succ_ne_zero _)]
    refine congrArg (fun n => s.putField f.val { v with thStep := n, state := .throttled }) ?_
    exact BitVec.eq_of_toNat_eq (by simp)
  case between =>
    intro hown between
    exact (exec_thermalStep s).trans ((execThermalStep_self hworks hown).trans
      (congrArg Host.Outcome.next (thermalStep_between between)))
  case host =>
    intro hhost hnone
    exact (exec_thermalStep s).trans (execThermalStep_host hworks hhost hnone)
  case sensors =>
    intro hon hnone hstep hreg hgood
    obtain ⟨i, greatest, hot⟩ := hottestSensor_of_none_bad readings
    exact ⟨i, greatest, (exec_sensorRead ..).trans (execSensorRead_good hworks hon hnone hstep hreg hgood hot)⟩
  case trip =>
    intro hserves
    have tripped := (raise_fieldOf (s.goDark f.val {}) .alarm 459 0 (srcField f.val) none
      [w64 f.val, w64 sensor.val] f.val).trans (goDark_fieldOf s f.val {})
    refine ⟨_, (exec_thermalTrip ..).trans (if_pos (Bool.and_eq_true_iff.mpr ⟨hworks, hserves⟩)), ?_⟩
    rw [tripped]
    exact ⟨rfl, rfl, rfl⟩
  case regulator =>
    intro hserves hreg
    refine (exec_regulatorFault ..).trans ((execRegulatorFault_of_serves hworks hserves false).trans ?_)
    rw [hreg, if_neg (by decide), withStep_regFault hserves]
  case second =>
    intro hserves hreg hfirst
    refine ⟨_, (exec_regulatorFault ..).trans ((execRegulatorFault_of_serves hworks hserves false).trans
      (if_pos ?_)), (controllerFails_first s f.val {} (congrArg _ hfirst)).1⟩
    rw [hreg]
    rfl

end Sys2Proof.Machine
end

section
/-! PROOFS. Failures of the management (R391, R394 to R396, R437): the change to the standby, and field controllers that
fail. -/

set_option linter.unusedVariables false

namespace Sys2Proof.Machine

open Sys2Proof

theorem exec_mmpTakeover (s : State) : exec .mmpTakeover s = execMmpTakeover s := rfl
theorem exec_standbyWatchdogExpiry (s : State) : exec .standbyWatchdogExpiry s = execStandbyWatchdogExpiry s := rfl
theorem exec_fcHeartbeatLost (l : ControllerLoss) (s : State) :
    exec (.fcHeartbeatLost l) s = execFcHeartbeatLost l s := rfl

/-! ## The takeover (R391, R394) -/

section
variable {s t : State} (h : t.spared = s.spared)
include h

theorem mode_of_spared : t.mode = s.mode := show t.spared.mode = s.spared.mode from h ▸ rfl
theorem waits_of_spared : t.waits = s.waits := show t.spared.waits = s.spared.waits from h ▸ rfl
theorem requests_of_spared : t.requests = s.requests := show t.spared.requests = s.spared.requests from h ▸ rfl
theorem mmpOk_of_spared : t.mmpOk = s.mmpOk := show t.spared.mmpOk = s.spared.mmpOk from h ▸ rfl
theorem darn_of_spared : t.darn = s.darn := show t.spared.darn = s.spared.darn from h ▸ rfl
theorem mgmt_of_spared : t.mgmt = s.mgmt := show t.spared.mgmt = s.spared.mgmt from h ▸ rfl

end

theorem spared_freeTiles_modCtx (s : State) (x : Nat) (keys : List Nat) (g : Ctx → Ctx) :
    ((s.freeTiles x keys).modCtx x g).spared = s.spared := (spared_modCtx ..).trans (spared_freeTiles ..)

theorem spared_failSwap (s : State) (x : Nat) (st : Byte) : (s.failSwap x st).spared = s.spared :=
  (spared_completeSome ..).trans (spared_freeTiles_modCtx ..)

theorem spared_endBind (s : State) (x : Nat) (st : Byte) : (s.endBind x st).spared = s.spared := by
  unfold State.endBind
  split
  · exact (spared_completeSome ..).trans (spared_putCtx ..)
  · exact (spared_completeSome ..).trans (spared_freeTiles_modCtx ..)

theorem spared_undoFills (s : State) : s.undoFills.spared = s.spared := by
  refine spared_each _ _ (fun t x => ?_) s
  dsimp only
  split
  · exact spared_failSwap ..
  · split
    · exact spared_endBind ..
    · rfl

theorem spared_abortAllHeld (s : State) : s.abortAllHeld.spared = s.spared :=
  spared_each _ _ (fun t _ => spared_each _ _ (fun _ _ => spared_complete ..) t) s

theorem restartRing_of_works {s : State} (hworks : s.mode ≠ .bringup) : s.restartRing = s := if_pos hworks

/-- An installation, a window and a plan in progress stop. -/
def State.stopWork (s : State) : State :=
  { s with press := { s.press with install := none }, darn := { s.darn with window := none, planner := .idle } }

theorem spared_stopWork {s t : State} (h : t.spared = s.spared) : t.stopWork.spared = s.stopWork.spared :=
  show t.spared.stopWork.spared = s.spared.stopWork.spared from h ▸ rfl

/-- What the takeover itself writes, beside what the aborts change. -/
def State.tookOver (s : State) : State :=
  { s with
    mgmt := { s.mgmt with standbyServes := true, standbyOk := false, failedTile := true }, waits := [], requests := [],
    mmpOk := false : State }.stopWork

/-- R394: a takeover outside BRINGUP. -/
theorem takeover_tookOver {s : State} (hmode : s.mode ≠ .bringup) :
    s.takeover.spared = s.tookOver.spared ∧ s.takeover.press.install = none := by
  unfold State.takeover
  extract_lets mgmt started ended withdrawn aborted cleared restarted press darn stopped
  have ended_kept : ended.spared = started.spared := (spared_abortAllHeld _).trans (spared_undoFills _)
  have cleared_kept : cleared.spared = withdrawn.spared :=
    (spared_each _ _ (fun _ _ => spared_modCtx ..) _).trans (spared_each _ _ (fun _ _ => spared_abortContext ..) _)
  have withdrawn_kept :
      withdrawn.spared = ({ started with waits := [], requests := [], mmpOk := false } : State).spared :=
    congrArg (fun u : State => { u with waits := [], requests := [], mmpOk := false }) ended_kept
  have kept : cleared.spared = ({ started with waits := [], requests := [], mmpOk := false } : State).spared :=
    cleared_kept.trans withdrawn_kept
  have mode : cleared.mode = s.mode := (mode_of_spared kept :)
  have restarted_same : restarted = cleared := restartRing_of_works fun h => hmode (mode.symm.trans h)
  have stopped_kept : stopped.spared = s.tookOver.spared := by
    rw [show stopped = restarted.stopWork from rfl, restarted_same]
    exact spared_stopWork kept
  have stopped_install : stopped.press.install = none := rfl
  obtain ⟨rings, thread, raised⟩ := raise_frame stopped .alarm 394 0 srcModule none []
  exact ⟨(spared_raise ..).trans stopped_kept,
    (congrArg (fun u : State => u.press.install) raised).trans stopped_install⟩

/-! ## Field controllers (R395) -/

theorem startBeats_fieldOf (s : State) (p f : Nat) : (s.startBeats p).fieldOf f = s.fieldOf f := rfl

theorem resetField_fieldOf (s : State) (f g : Nat) : (s.resetField f).fieldOf g = s.fieldOf g := by
  unfold State.resetField
  extract_lets t
  refine each_keeps (P := fun u => u.fieldOf g = s.fieldOf g) (fun u n hu => ?_) _ ?_
  · exact (startBeats_fieldOf ..).trans hu
  · rfl

/-- R395: a field that does not serve goes to its test with its controller reloaded. -/
theorem controllerFails_of_idle {s : State} {f : Nat} (lost : FieldLoss)
    (idle : ¬ ((s.fieldOf f).state = .online ∨ (s.fieldOf f).state = .throttled))
    (first : (s.fieldOf f).fcFailures.filter (fun t => decide ((s.time - t).toNat ≤ ms 86400000)) = []) :
    s.controllerFails f lost = ((s.stopThread f true).resetField f).putField f { s.fieldOf f with
      state := .test, fcOk := true, closedCrossings := [], fcFailures := [s.time] } := by
  have stopped : (s.stopThread f true).besideRoutes = s.besideRoutes := besideRoutes_stopThread ..
  have time : (s.stopThread f true).time = s.time := time_of_besideRoutes stopped
  unfold State.controllerFails
  dsimp only
  rw [if_neg idle, time, if_neg (not_not.mpr first), State.modField, resetField_fieldOf,
    fieldOf_of_besideRoutes stopped]

/-- R395: the second failure within 24 hours retires the field. -/
theorem controllerFails_again {s : State} {f : Nat} (lost : FieldLoss)
    (again : (s.fieldOf f).fcFailures.filter (fun t => decide ((s.time - t).toNat ≤ ms 86400000)) ≠ []) :
    ((s.controllerFails f lost).fieldOf f).state = .retired := by
  have stopped : (s.stopThread f true).time = s.time := time_of_besideRoutes (besideRoutes_stopThread ..)
  unfold State.controllerFails
  extract_lets v t u recent
  have time : u.time = s.time := by
    refine Eq.trans ?_ stopped
    unfold u
    split
    · exact goDark_time ..
    · rfl
  have some_recent : recent ≠ [] := by
    unfold recent
    rw [time]
    exact again
  rw [if_pos some_recent, raise_fieldOf, retireField_state]

theorem execFcHeartbeatLost_fails {s : State} {l : ControllerLoss} (hworks : s.mode.works = true)
    (hstate : fieldServes (s.fieldOf l.field.val) = true ∨ (s.fieldOf l.field.val).state = .test ∨
      (s.fieldOf l.field.val).state = .dark) :
    execFcHeartbeatLost l s = .next (s.controllerFails l.field.val l.loss) := by
  refine if_pos ?_
  rw [Bool.and_eq_true, Bool.or_eq_true, Bool.or_eq_true, beq_iff_eq, beq_iff_eq, or_assoc]
  exact ⟨hworks, hstate⟩

/-- Settles O54. The takeover changes what the aborts change and what it writes itself; a controller's failure is its
first within 24 hours where no recorded one is recent. -/
theorem managementFailures : Obligations.ManagementFailures := by
  unfold Obligations.ManagementFailures
  intro s f lost m v recent
  refine ⟨?takeover, ?none, ?standby, ?controller⟩
  case takeover =>
    intro hworks hfaulted hserves hok
    have bringup : s.mode ≠ .bringup := fun h => absurd (h ▸ hworks) (by decide)
    obtain ⟨kept, install⟩ := takeover_tookOver bringup
    refine ⟨s.takeover, (exec_mmpTakeover s).trans (if_pos ?_), (mode_of_spared kept :), waits_of_spared kept,
      requests_of_spared kept, mmpOk_of_spared kept, install, congrArg Darn.window (darn_of_spared kept),
      congrArg Darn.planner (darn_of_spared kept), mgmt_of_spared kept⟩
    have off : s.mode ≠ .off := fun h => absurd (h ▸ hworks) (by decide)
    have hold : s.mode ≠ .hold := fun h => absurd (h ▸ hworks) (by decide)
    simp [off, hold, hfaulted, show s.mgmt.standbyServes = false from hserves, show s.mgmt.standbyOk = true from hok]
  case none =>
    intro h
    refine (exec_mmpTakeover s).trans (if_neg ?_)
    obtain h | h := h
    · simp [show s.mgmt.standbyServes = true from h]
    · simp [show s.mgmt.standbyOk = false from h]
  case standby =>
    intro hserves hoff hhold
    refine ⟨s.enterFaulted, (exec_standbyWatchdogExpiry s).trans (if_pos ?_), rfl, rfl, rfl⟩
    simp [hoff, hhold, show s.mgmt.standbyServes = true from hserves]
  case controller =>
    intro hworks
    have first : recent = false →
        (s.fieldOf f.val).fcFailures.filter (fun t => decide ((s.time - t).toNat ≤ ms 86400000)) = [] :=
      fun h => List.filter_eq_nil_iff.mpr (List.any_eq_false.mp h)
    have again : recent = true →
        (s.fieldOf f.val).fcFailures.filter (fun t => decide ((s.time - t).toNat ≤ ms 86400000)) ≠ [] := by
      intro h none
      obtain ⟨t, ht, now⟩ := List.any_eq_true.mp h
      exact List.filter_eq_nil_iff.mp none t ht now
    refine ⟨?idle, ?serving, ?second⟩
    case idle =>
      intro hstate hrecent
      refine (exec_fcHeartbeatLost ..).trans ((execFcHeartbeatLost_fails hworks (.inr hstate)).trans
        (congrArg Host.Outcome.next (controllerFails_of_idle lost ?_ (first hrecent))))
      rintro (h | h)
      · exact hstate.elim (fun t => by cases t.symm.trans h) (fun t => by cases t.symm.trans h)
      · exact hstate.elim (fun t => by cases t.symm.trans h) (fun t => by cases t.symm.trans h)
    case serving =>
      intro hserves hrecent
      exact ⟨_, (exec_fcHeartbeatLost ..).trans (execFcHeartbeatLost_fails hworks (.inl hserves)),
        controllerFails_first s f.val lost (first hrecent)⟩
    case second =>
      intro hstate hrecent
      exact ⟨_, (exec_fcHeartbeatLost ..).trans (execFcHeartbeatLost_fails hworks hstate),
        controllerFails_again lost (again hrecent)⟩

end Sys2Proof.Machine
end

section
/-! PROOFS. STATE_SET, DARN_REQUEST and BIST_WINDOW (R396, R397, R475, R481). -/

set_option linter.unusedVariables false

namespace Sys2Proof.Machine

open Sys2Proof

theorem exec_stateSetReady (h : Hdr) (s : State) : exec (.stateSetReady h) s = execStateSetReady h s := rfl
theorem exec_stateSetDrain (h : Hdr) (s : State) : exec (.stateSetDrain h) s = execStateSetDrain h s := rfl
theorem exec_stateSetMaint (h : Hdr) (s : State) : exec (.stateSetMaint h) s = execStateSetMaint h s := rfl
theorem exec_stateSetReset (h : Hdr) (s : State) : exec (.stateSetReset h) s = execStateSetReset h s := rfl
theorem exec_markBad (h : Hdr) (b : BadParts) (s : State) : exec (.markBad h b) s = execMarkBad h b s := rfl
theorem exec_restore (h : Hdr) (ps : List Part) (s : State) : exec (.restore h ps) s = execRestore h ps s := rfl
theorem exec_harden (h : Hdr) (ps : List Part) (s : State) : exec (.harden h ps) s = execHarden h ps s := rfl
theorem exec_bistWindow (h : Hdr) (a : WindowArgs) (s : State) :
    exec (.bistWindow h a) s = execBistWindow h a s := rfl
theorem exec_bistWindowEnd (s : State) : exec .bistWindowEnd s = execBistWindowEnd s := rfl

/-! ## STATE_SET (R396, R397) -/

section
variable {s : State} {h : Hdr} (ha : s.accepts h stateSetRow = true)
include ha

theorem stateSetReady_of_maint (hmode : s.mode = .maint ∨ (s.mode = .drain ∧ s.darn.drainByCommand = true)) :
    execStateSetReady h s = State.finishes { s with mode := s.serviceMode } h := by
  refine hostCommand_checked ha rfl ?_
  obtain hmode | ⟨hmode, hcommand⟩ := hmode
  · simp [hmode]
  · simp [hmode, hcommand]

theorem stateSetReady_of_serving (hmode : s.mode = .ready ∨ s.mode = .run) :
    execStateSetReady h s = s.finishes h stREFUSED := by
  refine hostCommand_fails ha rfl (bad := (stREFUSED, noDetail)) ?_
  obtain hmode | hmode := hmode <;> simp [hmode, noDetail]

theorem stateSetDrain_of_open (hmode : s.mode = .ready ∨ s.mode = .run) (hopen : s.stepOpen = true) :
    execStateSetDrain h s = s.finishes h stBUSY := by
  refine hostCommand_fails ha rfl (bad := (stBUSY, noDetail)) ?_
  obtain hmode | hmode := hmode <;> simp [hmode, hopen, noDetail]

theorem stateSetDrain_of_ended (hmode : s.mode = .ready ∨ s.mode = .run) (hopen : s.stepOpen = false)
    (hended : s.streamsEnded = true) : execStateSetDrain h s = State.finishes
      ({ s with mode := .drain, darn := { s.darn with drainByCommand := true } } : State).snapshotScores h := by
  refine hostCommand_checked ha (congrArg (CmdEnd.checked s _) (if_pos hended)) ?_
  obtain hmode | hmode := hmode <;> simp [hmode, hopen]

theorem stateSetMaint_of_none (hmode : s.mode = .ready ∨ s.mode = .drain)
    (hnone : s.ctxs.any (fun e => e.2.live) = false) :
    execStateSetMaint h s = State.finishes ({ s with mode := .maint } : State).snapshotScores h := by
  refine hostCommand_checked ha rfl ?_
  rw [hnone]
  obtain hmode | hmode := hmode <;> simp [hmode]

theorem stateSetMaint_of_live (hmode : s.mode = .ready ∨ s.mode = .drain)
    (hlive : s.ctxs.any (fun e => e.2.live) = true) : execStateSetMaint h s = s.finishes h stBUSY := by
  refine hostCommand_fails ha rfl (bad := (stBUSY, noDetail)) ?_
  rw [hlive]
  obtain hmode | hmode := hmode <;> simp [hmode, noDetail]

end

/-! ## DARN_REQUEST (R475) -/

/-- The records of one operation over several parts. -/
def recordsOf (op : Byte) (ps : List Part) : List DarnRec := ps.map (fun p => (op, p))

theorem darnBad_of_count (s : State) (op : Byte) {ps : List Part} (h : ps = [] ∨ 64 < ps.length) :
    s.darnBad (recordsOf op ps) = some (stBAD_ARG, 0) := by
  have count : ((recordsOf op ps).isEmpty || decide (64 < (recordsOf op ps).length)) = true := by
    simpa [recordsOf] using h
  unfold State.darnBad
  rw [count]
  rfl

section
variable {s : State} {op : Byte} {ps : List Part} (hsome : ps ≠ []) (hcount : ps.length ≤ 64)
  (hok : ∀ q ∈ ps, partOk q = true)
include hsome hcount hok

/-- R475: the parts of the records are well formed. -/
theorem records_wellFormed (hop : op = 2 ∨ op = 3) :
    ((recordsOf op ps).isEmpty || decide (64 < (recordsOf op ps).length)) = false ∧
      (recordsOf op ps).findIdx? (fun r => r.1 == 0 || decide (3 < r.1.toNat) || !partOk r.2) = none := by
  refine ⟨by simpa [recordsOf] using ⟨hsome, hcount⟩, List.findIdx?_eq_none_iff.mpr fun r hr => ?_⟩
  obtain ⟨q, hq, rfl⟩ := List.mem_map.mp hr
  rw [hok q hq]
  obtain rfl | rfl := hop <;> rfl

/-- R475: outside MAINT only MARK_BAD is admitted. -/
theorem darnBad_of_drain (hop : op = 2 ∨ op = 3) (hmode : s.mode = .drain) :
    s.darnBad (recordsOf op ps) = some (stREFUSED, 0) := by
  obtain ⟨count, parts⟩ := records_wellFormed hsome hcount hok hop
  have outside : (recordsOf op ps).findIdx? (fun r => r.1 != 1 && s.mode != .maint) = some 0 := by
    cases ps with
    | nil => exact absurd rfl hsome
    | cons q ps => obtain rfl | rfl := hop <;> simp [recordsOf, List.findIdx?_cons, hmode]
  unfold State.darnBad
  dsimp only
  rw [count, parts, outside]
  rfl

end

/-- R475: a repaired part that is in the Patch table can be hardened. -/
theorem darnBad_of_hardens {s : State} {p : Part} {e : PatchEntry} (hmode : s.mode = .maint)
    (hok : partOk p = true) (hroom : s.darn.fuses.length < 1024) (hentry : s.patchOf p = some e) :
    s.darnBad (recordsOf 3 [p]) = none := by
  obtain ⟨count, parts⟩ := records_wellFormed (ps := [p]) (List.cons_ne_nil p []) (by simp)
    (fun q hq => List.mem_singleton.mp hq ▸ hok) (.inr rfl)
  have fuses : (s.newFuses (recordsOf 3 [p])).length ≤ 1 :=
    (List.length_filter_le _ _).trans (by simp [recordsOf, List.eraseDups_cons])
  have quota : decide (1024 < s.darn.fuses.length + (s.newFuses (recordsOf 3 [p])).length) = false :=
    decide_eq_false (by omega)
  unfold State.darnBad
  dsimp only
  rw [count, parts, quota]
  simp [recordsOf, List.findIdx?_cons, hmode, hentry]

section
variable {s : State} {h : Hdr} (ha : s.accepts h darnRow = true) (op : Byte) {ps : List Part} (us : List (W32 × Bool))
  (fs : List PhysId)
include ha

theorem darnCommand_fails {b : Bad} (hbad : s.darnBad (recordsOf op ps) = some b) :
    s.darnCommand h op ps us fs = s.finishes h b.1 b.2 :=
  hostCommand_fails ha rfl (congrArg (fun b => firstBad [b]) hbad)

theorem darnCommand_later (hgood : s.darnBad (recordsOf op ps) = none) (hstreams : s.streamsEnded = false) :
    s.darnCommand h op ps us fs = s.holdsBack h :=
  hostCommand_passes (effect := .later) ha
    (congrArg (CmdEnd.checked s _) (if_neg (by rw [hstreams]; exact Bool.false_ne_true)))
    (congrArg (fun b => firstBad [b]) hgood)

/-- R475: checked records are applied; no plan waits for its reply. -/
theorem darnCommand_applies (hgood : s.darnBad (recordsOf op ps) = none) (hstreams : s.streamsEnded = true)
    (hplan : s.darn.planner ≠ .waitHost) :
    let r := s.applyDarn (recordsOf op ps) fs
    s.darnCommand h op ps us fs = (r.1.poisonReplaced (recordsOf op ps) us).finishes h stOK noDetail
      [w64 (Nat.min r.2 0xFFFF + Nat.min (r.1.staleCount - s.staleCount) 0xFFFF * 65536)] := by
  intro r
  refine hostCommand_checked ha (congrArg (CmdEnd.checked s _) ((if_pos hstreams).trans ?_))
    (congrArg (fun b => firstBad [b]) hgood)
  unfold State.darnRequest
  dsimp only
  rw [if_neg (fun both => hplan both.1)]
  rfl

end

theorem toNat_pairW64 (a b : Nat) :
    (w64 (Nat.min a 0xFFFF + Nat.min b 0xFFFF * 65536)).toNat % 65536 = Nat.min a 65535 := by
  have ha : Nat.min a 0xFFFF ≤ 65535 := Nat.min_le_right ..
  have hb : Nat.min b 0xFFFF ≤ 65535 := Nat.min_le_right ..
  rw [w64, BitVec.toNat_ofNat]
  generalize Nat.min a 0xFFFF = m at *
  generalize Nat.min b 0xFFFF = n at *
  omega

/-- R210: a tile on a replaced channel that cannot be read is POISONED at its home. -/
theorem poisonTile_homePoisoned (s : State) (key : Nat) : ((s.poisonTile key).tileOf key).homePoisoned = true := by
  have poisoned : ((s.modTile key Tile.poison).tileOf key).homePoisoned = true :=
    (congrArg Tile.homePoisoned (State.putTile_same ..)).trans rfl
  unfold State.poisonTile
  dsimp only
  split
  · exact poisoned
  · exact poisoned

theorem poisonReplaced_homePoisoned {s : State} {ps : List Part} {f : W32 × Bool} {key : Nat}
    (hkey : key = f.1.toNat + (if f.2 then 2 ^ 32 else 0)) (hchannel : ps.any (fun q => q.kind == 6) = true)
    (hdeclared : (s.tileOf key).declared = true) :
    ((s.poisonReplaced (recordsOf 1 ps) [f]).tileOf key).homePoisoned = true := by
  have replaced : (recordsOf 1 ps).any (fun d => d.1 == 1 && d.2.kind == 6) = true := by
    rw [recordsOf, List.any_map]
    exact hchannel
  have one : s.poisonReplaced (recordsOf 1 ps) [f] = s.poisonTile key := by
    subst hkey
    exact (if_pos replaced).trans (if_pos hdeclared)
  rw [one]
  exact poisonTile_homePoisoned s key

/-! ## BIST_WINDOW (R481) -/

/-- R481: arguments that a window admits. -/
theorem bistWindow_checks {s : State} {a : WindowArgs} (hflags : a.flags &&& 0xF8 = 0) (hpos : 0 < a.duration.toNat)
    (hmax : a.duration.toNat ≤ 3600000) (hfields : a.fields.toNat < 2 ^ 100)
    (hgloved : a.flags.getLsbD 2 = true → s.mgmt.gloved = false) :
    firstBad [
      check (a.flags &&& 0xF8 != 0) stBAD_ARG 0,
      check (a.duration == 0 || decide (3600000 < a.duration.toNat)) stBAD_ARG 4,
      check (decide (2 ^ 100 ≤ a.fields.toNat)) stBAD_ARG 8,
      check (a.flags.getLsbD 2 && s.mgmt.gloved) stREFUSED,
      check s.darn.window.isSome stBUSY] = firstBad [check s.darn.window.isSome stBUSY] := by
  have flags : (a.flags &&& 0xF8 != 0) = false := bne_eq_false_iff_eq.mpr hflags
  have duration : (a.duration == 0 || decide (3600000 < a.duration.toNat)) = false := by
    refine Bool.or_eq_false_iff.mpr ⟨beq_eq_false_iff_ne.mpr fun h => ?_, decide_eq_false (not_lt.mpr hmax)⟩
    exact absurd (h ▸ hpos) (by decide)
  have gloved : (a.flags.getLsbD 2 && s.mgmt.gloved) = false := by
    cases window : a.flags.getLsbD 2
    · rfl
    · exact hgloved window
  rw [flags, duration, decide_eq_false (not_le.mpr hfields), gloved]
  rfl

theorem windowBusy_of_idle {s : State} (h : ∀ e ∈ s.fields, e.2.slice = none) : s.windowBusy = false :=
  List.any_eq_false.mpr fun e he => by rw [h e he]; exact Bool.false_ne_true

/-- R481: the end of a window with no slice in progress. -/
theorem execBistWindowEnd_closes {s : State} {w : Window} (hwindow : s.darn.window = some w)
    (hworks : s.mode.works = true) (hidle : ∀ e ∈ s.fields, e.2.slice = none) :
    execBistWindowEnd s =
      State.ends { s with darn := { s.darn with window := none } } w.cmd stOK noDetail [w.counts] := by
  unfold execBistWindowEnd
  rw [hwindow]
  dsimp only
  rw [hworks, if_neg (by decide)]
  refine congrArg Host.Outcome.next (if_pos ?_)
  rw [show State.windowBusy { s with darn := { s.darn with window := some { w with ended := true } } } = false from
    windowBusy_of_idle hidle]
  rfl

/-- Settles O50. Every command completes, waits or is held back by the first of its checks that fails. -/
theorem moduleStateCommands : Obligations.ModuleStateCommands := by
  unfold Obligations.ModuleStateCommands
  intro s h ps us fs p a w live record
  refine ⟨fun ha => ⟨?ready, ?refused, ?busy, ?drain, ?maint, ?live⟩,
    fun ha => (exec_stateSetReset ..).trans (hostCommand_done ha rfl), fun ha => ?darn, ?bist, ?bistEnd⟩
  case ready => exact fun hmode => (exec_stateSetReady ..).trans (stateSetReady_of_maint ha hmode)
  case refused => exact fun hmode => (exec_stateSetReady ..).trans (stateSetReady_of_serving ha hmode)
  case busy => exact fun hmode hopen => (exec_stateSetDrain ..).trans (stateSetDrain_of_open ha hmode hopen)
  case drain =>
    exact fun hmode hopen hended =>
      ⟨_, (exec_stateSetDrain ..).trans (stateSetDrain_of_ended ha hmode hopen hended), rfl, rfl⟩
  case maint =>
    exact fun hmode hnone =>
      ⟨_, (exec_stateSetMaint ..).trans (stateSetMaint_of_none ha hmode (Bool.eq_false_of_not_eq_true hnone)), rfl⟩
  case live => exact fun hmode hlive => (exec_stateSetMaint ..).trans (stateSetMaint_of_live ha hmode hlive)
  case darn =>
    refine ⟨fun hcount => ?count, fun hgood hstreams => ?later, fun o ho => ?each,
      fun f key hkey hus hchannel hdeclared => ?poison, fun hmode hsome hcount hok => ?outside,
      fun hmode hstreams hplan hok hnew hroom e hentry => ?harden⟩
    case count =>
      exact (exec_markBad ..).trans (darnCommand_fails ha 1 us fs (darnBad_of_count s 1 hcount))
    case later => exact (exec_markBad ..).trans (darnCommand_later ha 1 us fs hgood hstreams)
    case each =>
      intro r
      have commands : exec o.1 s = s.darnCommand h o.2.1 ps o.2.2.1 o.2.2.2 := by
        simp only [List.mem_cons, List.not_mem_nil, or_false] at ho
        obtain rfl | rfl | rfl := ho
        · exact exec_markBad ..
        · exact exec_restore ..
        · exact exec_harden ..
      refine ⟨fun b hbad => commands.trans (darnCommand_fails ha _ _ _ hbad), fun hgood hstreams hplan => ?_⟩
      exact ⟨_, commands.trans (darnCommand_applies ha _ _ _ hgood hstreams hplan), toNat_pairW64 ..⟩
    case poison =>
      subst hus
      exact poisonReplaced_homePoisoned hkey hchannel hdeclared
    case outside =>
      have refused (op : Byte) (hop : op = 2 ∨ op = 3) : s.darnCommand h op ps [] [] = s.finishes h stREFUSED 0 :=
        darnCommand_fails ha op [] [] (darnBad_of_drain hsome hcount hok hop hmode)
      exact ⟨(exec_restore ..).trans (refused 2 (.inl rfl)), (exec_harden ..).trans (refused 3 (.inr rfl))⟩
    case harden =>
      have applied := darnCommand_applies ha 3 [] []
        (darnBad_of_hardens (p := p) (e := e) hmode hok hroom hentry) hstreams hplan
      have fuses : (if s.darn.fuses.contains p then s.darn.fuses else s.darn.fuses ++ [p]) = s.darn.fuses ++ [p] :=
        if_neg (by simpa using hnew)
      refine ⟨_, _, (exec_harden ..).trans applied, ?_⟩
      rw [← fuses]
      rfl
  case bist =>
    intro ha hflags hpos hmax hfields hgloved
    have checks := bistWindow_checks (s := s) hflags hpos hmax hfields hgloved
    refine ⟨fun hnone => ?opens, fun hsome => ?taken⟩
    case opens =>
      refine (exec_bistWindow ..).trans (hostCommand_passes (effect := .waits _) ha rfl (checks.trans ?_))
      rw [hnone]
      rfl
    case taken =>
      refine (exec_bistWindow ..).trans (hostCommand_fails ha rfl (bad := (stBUSY, noDetail)) (checks.trans ?_))
      rw [Option.isSome_iff_ne_none.mpr hsome]
      rfl
  case bistEnd =>
    exact fun hwindow hworks hidle => (exec_bistWindowEnd s).trans (execBistWindowEnd_closes hwindow hworks hidle)

end Sys2Proof.Machine
end

section
/-! PROOFS. KEY_PROVISION, ATTEST and FW_STAGE (R403, R406, R407, R410 to R415, R420). -/

set_option linter.unusedVariables false

namespace Sys2Proof.Machine

open Sys2Proof

theorem exec_keyProvisionInstall (h : Hdr) (n : W16) (b : KeyBlob) (s : State) :
    exec (.keyProvisionInstall h n b) s = execKeyProvisionInstall h n b s := rfl
theorem exec_keyProvisionClear (h : Hdr) (n : W16) (s : State) :
    exec (.keyProvisionClear h n) s = execKeyProvisionClear h n s := rfl
theorem exec_keyProvisionAuthority (h : Hdr) (key : BitVec 776) (s : State) :
    exec (.keyProvisionAuthority h key) s = execKeyProvisionAuthority h key s := rfl
theorem exec_keyProvisionPubkey (h : Hdr) (addr : W64) (len : W32) (s : State) :
    exec (.keyProvisionPubkey h addr len) s = execKeyProvisionPubkey h addr len s := rfl
theorem exec_attest (h : Hdr) (a : AttestArgs) (s : State) : exec (.attest h a) s = execAttest h a s := rfl
theorem exec_fwStageWrite (h : Hdr) (a : FwWriteArgs) (s : State) :
    exec (.fwStageWrite h a) s = execFwStageWrite h a s := rfl
theorem exec_fwStageVerify (h : Hdr) (v : FwVerdict) (s : State) :
    exec (.fwStageVerify h v) s = execFwStageVerify h v s := rfl
theorem exec_fwStageActivate (h : Hdr) (s : State) : exec (.fwStageActivate h) s = execFwStageActivate h s := rfl
theorem exec_fwStageConfirm (h : Hdr) (s : State) : exec (.fwStageConfirm h) s = execFwStageConfirm h s := rfl
theorem exec_fwStageAbandon (h : Hdr) (s : State) : exec (.fwStageAbandon h) s = execFwStageAbandon h s := rfl

/-! ## Key slots (R393, R410) -/

theorem shareKey_keyOf (s : State) (n k : Nat) : (s.shareKey n).keyOf k = s.keyOf k := by
  unfold State.shareKey
  split
  · obtain ⟨thread, passed⟩ := threadPass_frame s (mmpNode s.mgmt.standbyServes) (mmpNode (!s.mgmt.standbyServes))
      (.key n (s.keyOf n))
    rw [passed]
    rfl
  · rfl

theorem makeMediaKey_keyOf (s : State) (k : Nat) : s.makeMediaKey.keyOf k = s.keyOf k := rfl

/-- R410: a cleared slot is empty. -/
theorem clearKey_keyOf (s : State) (n : Nat) : (s.clearKey n).keyOf n = {} := State.putKey_same ..

theorem installKey_keyOf (s : State) (n : Nat) (job : W16) (key : List Byte) :
    (s.installKey n job key).keyOf n = { filled := true, key := key, job := job } :=
  (shareKey_keyOf ..).trans (State.putKey_same ..)

/-! ## KEY_PROVISION (R411, R412) -/

section
variable {s : State} {h : Hdr} (ha : s.accepts h keyProvisionRow = true) {slot : W16}
include ha

theorem keyProvisionClear_range (hslot : 255 < slot.toNat) :
    execKeyProvisionClear h slot s = s.finishes h stBAD_ARG 2 :=
  hostCommand_fails ha rfl (bad := (stBAD_ARG, 2)) (by simp [hslot])

theorem keyProvisionClear_clears (hslot : slot.toNat ≤ 255) : execKeyProvisionClear h slot s =
    ((s.clearKey slot.toNat).shareKey slot.toNat).makeMediaKey.finishes h :=
  hostCommand_checked ha rfl (by simp [hslot])

theorem keyProvisionInstall_unsigned {b : KeyBlob} (hslot : slot.toNat ≤ 255) (hblob : badBlob slot b = false)
    (hsig : s.mgmt.authorities.length ≤ b.auth.toNat ∨ b.sigOk = false) :
    execKeyProvisionInstall h slot b s = s.finishes h stAUTH_FAIL := by
  refine hostCommand_fails ha rfl (bad := (stAUTH_FAIL, noDetail)) ?_
  have unsigned : (decide (s.mgmt.authorities.length ≤ b.auth.toNat) || !b.sigOk) = true := by simpa using hsig
  rw [decide_eq_false (not_lt.mpr hslot), hblob, unsigned]
  rfl

section
variable {b : KeyBlob} (hslot : slot.toNat ≤ 255) (hblob : badBlob slot b = false)
  (hauth : b.auth.toNat < s.mgmt.authorities.length) (hsig : b.sigOk = true)
  (hown : s.mgmt.hostFunctions.getLsbD 7 = false)
include hslot hblob hauth hsig hown

theorem keyProvisionInstall_untagged (htag : b.tagOk = false) :
    execKeyProvisionInstall h slot b s = s.finishes h stAUTH_FAIL := by
  refine hostCommand_fails ha rfl (bad := (stAUTH_FAIL, noDetail)) ?_
  rw [decide_eq_false (not_lt.mpr hslot), hblob, decide_eq_false (not_le.mpr hauth), hsig, hown, htag]
  rfl

theorem keyProvisionInstall_installs (htag : b.tagOk = true) : execKeyProvisionInstall h slot b s =
    (s.installKey slot.toNat b.job (Config.sessionKey (KeyBlob.bytes b))).makeMediaKey.finishes h := by
  refine hostCommand_checked ha (congrArg (CmdEnd.checked s _) (if_neg (by rw [hown]; exact Bool.false_ne_true))) ?_
  rw [decide_eq_false (not_lt.mpr hslot), hblob, decide_eq_false (not_le.mpr hauth), hsig, hown, htag]
  rfl

end

theorem keyProvisionAuthority_format {key : BitVec 776} (hkey : key.setWidth 8 ≠ (4 : Byte)) :
    execKeyProvisionAuthority h key s = s.finishes h stBAD_ARG := by
  refine hostCommand_fails ha rfl (bad := (stBAD_ARG, noDetail)) ?_
  rw [bne_iff_ne.mpr hkey]
  rfl

theorem keyProvisionAuthority_full {key : BitVec 776} (hkey : key.setWidth 8 = (4 : Byte))
    (hfull : 8 ≤ s.mgmt.authorities.length) : execKeyProvisionAuthority h key s = s.finishes h stNO_QUOTA := by
  refine hostCommand_fails ha rfl (bad := (stNO_QUOTA, noDetail)) ?_
  rw [bne_eq_false_iff_eq.mpr hkey, decide_eq_true hfull]
  rfl

theorem keyProvisionAuthority_adds {key : BitVec 776} (hkey : key.setWidth 8 = (4 : Byte))
    (hroom : s.mgmt.authorities.length < 8) : execKeyProvisionAuthority h key s = State.finishes { s with
      mgmt := { s.mgmt with keyEncryptionKey := true, authorities := s.mgmt.authorities ++ [key] } } h := by
  refine hostCommand_checked ha rfl ?_
  rw [bne_eq_false_iff_eq.mpr hkey, decide_eq_false (not_le.mpr hroom)]
  rfl

theorem keyProvisionPubkey_writes (addr : W64) {len : W32} (hroom : pubkeyBytes.length ≤ len.toNat) :
    execKeyProvisionPubkey h addr len s =
      ({ s with hostOut := s.hostOut ++ [.bytes addr pubkeyBytes] } : State).makeMediaKey.finishes h stOK noDetail
        [w64 pubkeyBytes.length] :=
  hostCommand_done ha (if_neg (not_lt.mpr hroom))

end

/-! ## ATTEST (R414, R415) -/

/-- R414: of a module's report only the signature indexes are left to be checked. -/
theorem attest_checks {s : State} {h : Hdr} {a : AttestArgs} (hflags : a.flags &&& 0xFE = 0)
    (hctx : 8 ≤ h.ctx.toNat) : firstBad [
      check (a.flags &&& 0xFE != 0) stBAD_ARG 32,
      check (decide (h.ctx.toNat < 8) && !(s.ctxOf h.ctx.toNat).live) stBAD_ARG,
      check s.mgmt.exhausted stREFUSED] = firstBad [check s.mgmt.exhausted stREFUSED] := by
  rw [bne_eq_false_iff_eq.mpr hflags, decide_eq_false (not_lt.mpr hctx)]
  rfl

section
variable {s : State} {h : Hdr} (ha : s.accepts h attestRow = true) {a : AttestArgs} (hflags : a.flags &&& 0xFE = 0)
  (hctx : 8 ≤ h.ctx.toNat)
include ha hflags hctx

theorem attest_exhausted (hused : 2 ^ 30 ≤ s.mgmt.hssNext) : execAttest h a s = s.finishes h stREFUSED := by
  refine hostCommand_fails ha rfl (bad := (stREFUSED, noDetail)) ((attest_checks hflags hctx).trans ?_)
  rw [Mgmt.exhausted, decide_eq_true hused]
  rfl

theorem attest_signs (hleft : s.mgmt.hssNext < 2 ^ 30) (hroom : (s.attestBytes h a).length ≤ a.len.toNat) :
    execAttest h a s = State.finishes { s with
      mgmt := { s.mgmt.signed with channelKey := s.mgmt.channelKey || a.flags.getLsbD 0 },
      hostOut := s.hostOut ++ [.bytes a.addr (s.attestBytes h a)] } h stOK noDetail
        [w64 (s.attestBytes h a).length] := by
  refine hostCommand_checked ha (congrArg (CmdEnd.checked s _) (if_neg (not_lt.mpr hroom)))
    ((attest_checks hflags hctx).trans ?_)
  rw [Mgmt.exhausted, decide_eq_false (not_le.mpr hleft)]
  rfl

end

/-- R415: the high-water lies beyond the index in use. -/
theorem hssNext_lt_signed_hssHigh (m : Mgmt) : m.hssNext < m.signed.hssHigh := by
  change m.hssNext < if m.hssHigh ≤ m.hssNext then m.hssNext + 1024 else m.hssHigh
  split
  case isTrue passed => omega
  case isFalse ahead => exact not_le.mp ahead

/-! ## FW_STAGE (R403, R406, R407) -/

/-- R403: what an image must meet before it is STAGED. -/
theorem fw_accepts_iff (m : Mgmt) (f : FwSlot) (v : FwVerdict) : m.accepts f v = true ↔
    f.headerOk = true ∧ v.digestOk = true ∧ v.ecOk = true ∧ v.lmsOk = true ∧ m.rollback.val ≤ f.rollback := by
  simp only [Mgmt.accepts, Bool.and_eq_true, decide_eq_true_eq, and_assoc]

section
variable {s : State} {h : Hdr} (ha : s.accepts h fwStageRow = true)
include ha

theorem fwStageWrite_writes {a : FwWriteArgs} (hfits : a.offset.toNat + a.len.toNat ≤ fwSlotBytes) :
    execFwStageWrite h a s = (s.putFw {
      state := .incomplete,
      image := writeBytes s.mgmt.inactive.image a.offset.toNat (a.data.take a.len.toNat) }).finishes h := by
  refine hostCommand_checked ha rfl ?_
  rw [decide_eq_false (not_lt.mpr hfits)]
  rfl

theorem fwStageWrite_beyond {a : FwWriteArgs} (hbeyond : fwSlotBytes < a.offset.toNat + a.len.toNat) :
    execFwStageWrite h a s = s.finishes h stBAD_ARG 4 := by
  refine hostCommand_fails ha rfl (bad := (stBAD_ARG, 4)) ?_
  rw [decide_eq_true hbeyond]
  rfl

theorem fwStageVerify_stages {v : FwVerdict} (hgood : s.mgmt.accepts s.mgmt.inactive v = true)
    (hsome : s.mgmt.inactive.state ≠ .empty) :
    execFwStageVerify h v s = (s.putFw { s.mgmt.inactive with state := .staged }).finishes h := by
  refine hostCommand_done ha (if_pos ?_)
  rw [hgood, bne_iff_ne.mpr hsome]
  rfl

theorem fwStageVerify_rejects {v : FwVerdict} (hbad : ¬ s.mgmt.accepts s.mgmt.inactive v = true)
    (hsome : s.mgmt.inactive.state ≠ .empty) : execFwStageVerify h v s =
      (s.putFw { s.mgmt.inactive with state := .incomplete }).finishes h stAUTH_FAIL := by
  have rejected : ¬ (s.mgmt.accepts s.mgmt.inactive v && s.mgmt.inactive.state != .empty) = true :=
    fun both => hbad (Bool.and_eq_true_iff.mp both).1
  refine (hostCommand_done ha (if_neg rejected)).trans ?_
  rw [if_neg hsome]

theorem fwStageActivate_tries (hstaged : s.mgmt.inactive.state = .staged) : execFwStageActivate h s =
    State.finishes { s with mgmt := { s.mgmt with trialPointer := some (!s.mgmt.runningB) } } h := by
  refine hostCommand_checked ha rfl ?_
  rw [bne_eq_false_iff_eq.mpr hstaged]
  rfl

theorem fwStageActivate_unstaged (hunstaged : s.mgmt.inactive.state ≠ .staged) :
    execFwStageActivate h s = s.finishes h stNOT_READY := by
  refine hostCommand_fails ha rfl (bad := (stNOT_READY, noDetail)) ?_
  rw [bne_iff_ne.mpr hunstaged]
  rfl

theorem fwStageConfirm_refused (huntried : s.mgmt.trialRunning = false) :
    execFwStageConfirm h s = s.finishes h stREFUSED := by
  refine hostCommand_fails ha rfl (bad := (stREFUSED, noDetail)) ?_
  rw [huntried]
  rfl

theorem fwStageConfirm_confirms (htrial : s.mgmt.trialRunning = true) :
    let run := if s.mgmt.runningB then s.mgmt.slotB else s.mgmt.slotA
    execFwStageConfirm h s = State.finishes { s with mgmt := { s.mgmt with
      bootB := s.mgmt.runningB, trialRunning := false,
      rollback := Fin.ofNat 65 (Nat.min 64 (Nat.max s.mgmt.rollback.val run.rollback)) } } h := by
  refine hostCommand_checked ha rfl ?_
  rw [htrial]
  rfl

end

/-- R407: the rollback number of the fuses never goes down, and follows that of the image. -/
theorem rollback_val (old : Fin 65) {n : Nat} (hn : n ≤ 64) :
    (Fin.ofNat 65 (Nat.min 64 (Nat.max old.val n))).val = Nat.max old.val n := by
  have bound : Nat.max old.val n ≤ 64 := Nat.max_le.mpr ⟨Nat.le_of_lt_succ old.isLt, hn⟩
  rw [show Nat.min 64 (Nat.max old.val n) = Nat.max old.val n from Nat.min_eq_right bound]
  exact Nat.mod_eq_of_lt (Nat.lt_succ_of_le bound)

/-- Settles O51. Each command completes with the first of its checks that fails, or with its effect. -/
theorem keyAndFirmwareCommands : Obligations.KeyAndFirmwareCommands := by
  unfold Obligations.KeyAndFirmwareCommands
  intro s h slot b key addr len a fw v m withKey
  refine ⟨fun ha => ⟨?range, ?clear, ?install, ?format, ?authority, ?full, ?pubkey⟩,
    fun ha hflags hctx => ⟨?exhausted, ?signs⟩, fun ha => ?firmware⟩
  case range => exact fun hslot => (exec_keyProvisionClear ..).trans (keyProvisionClear_range ha hslot)
  case clear =>
    exact fun hslot => ⟨_, (exec_keyProvisionClear ..).trans (keyProvisionClear_clears ha hslot), rfl,
      (makeMediaKey_keyOf ..).trans ((shareKey_keyOf ..).trans (clearKey_keyOf ..))⟩
  case install =>
    refine fun hslot hblob => ⟨fun hsig => ?_, fun hauth hsig hown => ⟨fun htag => ?_, fun htag => ?_⟩⟩
    · exact (exec_keyProvisionInstall ..).trans (keyProvisionInstall_unsigned ha hslot hblob hsig)
    · exact (exec_keyProvisionInstall ..).trans (keyProvisionInstall_untagged ha hslot hblob hauth hsig hown htag)
    · exact ⟨_, (exec_keyProvisionInstall ..).trans
        (keyProvisionInstall_installs ha hslot hblob hauth hsig hown htag),
        (makeMediaKey_keyOf ..).trans (installKey_keyOf ..), rfl⟩
  case format => exact fun hkey => (exec_keyProvisionAuthority ..).trans (keyProvisionAuthority_format ha hkey)
  case authority =>
    exact fun hkey hroom => (exec_keyProvisionAuthority ..).trans (keyProvisionAuthority_adds ha hkey hroom)
  case full =>
    exact fun hkey hfull => (exec_keyProvisionAuthority ..).trans (keyProvisionAuthority_full ha hkey hfull)
  case pubkey => exact fun hroom => (exec_keyProvisionPubkey ..).trans (keyProvisionPubkey_writes ha addr hroom)
  case exhausted => exact fun hused => (exec_attest ..).trans (attest_exhausted ha hflags hctx hused)
  case signs =>
    exact fun hleft hroom => ⟨_, (exec_attest ..).trans (attest_signs ha hflags hctx hleft hroom), rfl, rfl,
      hssNext_lt_signed_hssHigh m, rfl⟩
  case firmware =>
    intro other put good written run
    have verdict : m.accepts other v = true ↔ good := fw_accepts_iff m other v
    refine ⟨?write, ?beyond, ?stages, ?rejects, ?tries, ?unstaged, ?confirms, ?refused, ?abandons⟩
    case write => exact fun hfits => (exec_fwStageWrite ..).trans (fwStageWrite_writes ha hfits)
    case beyond => exact fun hbeyond => (exec_fwStageWrite ..).trans (fwStageWrite_beyond ha hbeyond)
    case stages =>
      exact fun hgood hsome => (exec_fwStageVerify ..).trans (fwStageVerify_stages ha (verdict.mpr hgood) hsome)
    case rejects =>
      exact fun hbad hsome => (exec_fwStageVerify ..).trans
        (fwStageVerify_rejects ha (fun good => hbad (verdict.mp good)) hsome)
    case tries => exact fun hstaged => (exec_fwStageActivate ..).trans (fwStageActivate_tries ha hstaged)
    case unstaged =>
      exact fun hunstaged => (exec_fwStageActivate ..).trans (fwStageActivate_unstaged ha hunstaged)
    case confirms =>
      exact fun htrial => ⟨_, (exec_fwStageConfirm ..).trans (fwStageConfirm_confirms ha htrial), rfl,
        fun hrun => rollback_val m.rollback hrun⟩
    case refused => exact fun huntried => (exec_fwStageConfirm ..).trans (fwStageConfirm_refused ha huntried)
    case abandons => exact (exec_fwStageAbandon ..).trans (hostCommand_done ha rfl)

end Sys2Proof.Machine
end

section
/-! PROOFS. TELEM_READ, MODE_SET and the host-assisted requests (R385 to R390). -/

set_option linter.unusedVariables false

namespace Sys2Proof.Machine

open Sys2Proof

theorem exec_telemRead (h : Hdr) (a : TelemArgs) (s : State) : exec (.telemRead h a) s = execTelemRead h a s := rfl
theorem exec_modeSet (h : Hdr) (a : ModeArgs) (s : State) : exec (.modeSet h a) s = execModeSet h a s := rfl
theorem exec_hostWait (h : Hdr) (addr : W64) (len : W32) (s : State) :
    exec (.hostWait h addr len) s = execHostWait h addr len s := rfl
theorem exec_hostRequest (n : W32) (s : State) : exec (.hostRequest n) s = execHostRequest n s := rfl
theorem exec_hostReply (h : Hdr) (a : ReplyArgs) (s : State) : exec (.hostReply h a) s = execHostReply h a s := rfl
theorem exec_hostRequestLimit (n : W32) (s : State) : exec (.hostRequestLimit n) s = execHostRequestLimit n s := rfl

/-! ## TELEM_READ (R385) -/

theorem telemField_in {a : TelemArgs} (hfield : a.space = 1 → a.field.toNat ≤ 99) :
    (a.space == 1 && decide (99 < a.field.toNat)) = false :=
  Bool.and_eq_false_imp.mpr fun space => decide_eq_false (Nat.not_lt.mpr (hfield (eq_of_beq space)))

section
variable {s : State} {h : Hdr} (ha : s.accepts h telemReadRow = true) (hrecovery : s.mgmt.recovery = false)
  {a : TelemArgs}
include ha hrecovery

theorem telemRead_space (hspace : 2 < a.space.toNat) : execTelemRead h a s = s.finishes h stBAD_ARG 0 := by
  refine hostCommand_fails ha rfl (bad := (stBAD_ARG, 0)) ?_
  rw [hrecovery, decide_eq_true hspace]
  rfl

section
variable (hspace : a.space.toNat ≤ 2) (hfield : a.space = 1 → a.field.toNat ≤ 99) (haligned : a.offset.toNat % 8 = 0)
include hspace hfield haligned

theorem telemRead_empty (hlen : a.len = 0) : execTelemRead h a s = s.finishes h stBAD_ARG 8 := by
  refine hostCommand_fails ha rfl (bad := (stBAD_ARG, 8)) ?_
  rw [telemField_in hfield]
  simp [hrecovery, Nat.not_lt.mpr hspace, haligned, hlen]

theorem telemRead_reads (hwords : a.len.toNat % 8 = 0) (hsome : a.len ≠ 0) (hmax : a.len.toNat ≤ 65536)
    (hfits : a.offset.toNat + a.len.toNat ≤ spaceSize a.space.toNat) : execTelemRead h a s =
      State.finishes { s with hostOut := s.hostOut ++ [.words a.addr (s.readRange a)] } h stOK noDetail [s.time] := by
  refine hostCommand_checked ha rfl ?_
  have length : ¬ (a.len.toNat % 8 ≠ 0 ∨ a.len = 0 ∨ 65536 < a.len.toNat) :=
    fun bad => bad.elim (fun h => h hwords) (fun bad => bad.elim hsome (Nat.not_lt.mpr hmax))
  rw [telemField_in hfield, decide_eq_false length]
  simp [hrecovery, Nat.not_lt.mpr hspace, haligned, Nat.not_lt.mpr hfits]

end
end

/-! ## MODE_SET (R386) -/

section
variable {s : State} {h : Hdr} (ha : s.accepts h modeSetRow = true) {a : ModeArgs}
include ha

theorem modeSet_fails {b : Bad} (hbad : s.badMode h a = some b) : execModeSet h a s = s.finishes h b.1 b.2 :=
  hostCommand_fails ha rfl (congrArg (fun b => firstBad [b]) hbad)

theorem modeSet_sets (hgood : s.badMode h a = none) : execModeSet h a s = (s.setMode h a).finishes h :=
  hostCommand_checked ha rfl (congrArg (fun b => firstBad [b]) hgood)

end

/-- R386: only functions 0 to 7 have a mode. -/
theorem badMode_of_unknown {s : State} {h : Hdr} {a : ModeArgs} (hfunction : 7 < a.function.toNat) :
    s.badMode h a = some (stBAD_ARG, 0) := by
  have unknown : modeTable a.function = none := by
    unfold modeTable
    split <;> first | omega | rfl
  unfold State.badMode
  rw [unknown]

section
variable {s : State} {h : Hdr} {a : ModeArgs} (hmode : s.mode = .ready ∨ s.mode = .run) (hscope : a.scope = 1)
  (hctx : h.ctx.toNat < 8) (hlive : (s.ctxOf h.ctx.toNat).live = true) (hclosed : (s.ctxOf h.ctx.toNat).isOpen = false)
include hmode

/-- R386: a function of a context is set in READY and RUN. -/
theorem groupW_contains : groupW.contains s.mode = true := by
  obtain hmode | hmode := hmode <;> rw [hmode] <;> rfl

theorem badMode_of_context_high {top : Byte} (htable : modeTable a.function = some (1, top, groupW))
    (hhigh : top.toNat < a.mode.toNat) : s.badMode h a = some (stBAD_ARG, 1) := by
  unfold State.badMode
  rw [htable]
  dsimp only
  rw [groupW_contains hmode, decide_eq_true hhigh]
  rfl

include hscope hctx hlive hclosed

theorem badMode_of_context {top : Byte} (htable : modeTable a.function = some (1, top, groupW))
    (hlow : a.mode.toNat ≤ top.toNat) : s.badMode h a = none := by
  unfold State.badMode
  rw [htable]
  dsimp only
  rw [groupW_contains hmode, decide_eq_false (not_lt.mpr hlow), hscope, decide_eq_true hctx, hlive, hclosed]
  rfl

end

/-- R386: the thermal mode is set in READY and MAINT. -/
theorem badMode_of_thermal_run {s : State} {h : Hdr} {a : ModeArgs} (hfunction : a.function = 6)
    (hmode : s.mode = .run) : s.badMode h a = some (stNOT_READY, noDetail) := by
  unfold State.badMode
  rw [hfunction, hmode]
  rfl

/-- R386: the mode of link training, of units. -/
theorem badMode_of_units {s : State} {h : Hdr} {a : ModeArgs} (hfunction : a.function = 0) (hmode : s.mode ∈ groupM)
    (hscope : a.scope = 2) (hctx : 8 ≤ h.ctx.toNat) (hlow : a.mode.toNat ≤ 1) : s.badMode h a = none := by
  have states : groupM.contains s.mode = true := List.contains_iff_mem.mpr hmode
  unfold State.badMode
  rw [hfunction]
  change firstBad [check (!groupM.contains s.mode) stNOT_READY, check (decide (1 < a.mode.toNat)) stBAD_ARG 1,
    check (a.scope != 2) stBAD_ARG 2, check (false != decide (h.ctx.toNat < 8)) stBAD_ARG 2, none, none] = none
  rw [states, decide_eq_false (not_lt.mpr hlow), hscope, decide_eq_false (not_lt.mpr hctx)]
  rfl

/-- A pass over units changes those it names, each by its own state alone. -/
theorem each_modUnit_unitOf (f : LinkUnit → LinkUnit) (l : List Nat) (hl : l.Nodup) (u : Nat) (s : State) :
    (s.each l (fun t v => t.modUnit v f)).unitOf u = if u ∈ l then f (s.unitOf u) else s.unitOf u := by
  split
  case isTrue named =>
    exact each_unitOf (fun t v => modUnit_unitOf ..) (fun t v w h => modUnit_unitOf_ne _ _ h) hl named s
  case isFalse other =>
    refine List.foldlRecOn (motive := fun t : State => t.unitOf u = s.unitOf u) l _ rfl fun t kept v hv => ?_
    have apart : u ≠ v := fun same => other (same ▸ hv)
    exact (modUnit_unitOf_ne _ _ apart).trans kept

theorem each_modUnit_frame (f : LinkUnit → LinkUnit) (l : List Nat) (s : State) :
    ∃ units, s.each l (fun t v => t.modUnit v f) = { s with units := units } := by
  refine each_keeps (P := fun t => ∃ units, t = { s with units := units }) ?_ _ ⟨_, rfl⟩
  rintro _ v ⟨units, rfl⟩
  exact ⟨_, rfl⟩

/-- R386: the mode of link training is set in the units of the mask, and in no other. -/
theorem setMode_units {s : State} {h : Hdr} {a : ModeArgs} (hfunction : a.function = 0) (u : UnitId) :
    s.setMode h a = { s with units := (s.setMode h a).units } ∧
      (s.setMode h a).unitOf u.val = if a.units.getLsbD u.val then
        { s.unitOf u.val with hostMode := a.mode != 0 } else s.unitOf u.val := by
  have pass : s.setMode h a = s.each ((List.range 128).filter (a.units.getLsbD ·)) (fun t v =>
      t.modUnit v (fun k => { k with hostMode := a.mode != 0 })) := by
    unfold State.setMode
    rw [hfunction]
    rfl
  obtain ⟨units, frame⟩ := each_modUnit_frame (fun k => { k with hostMode := a.mode != 0 })
    ((List.range 128).filter (a.units.getLsbD ·)) s
  refine ⟨by rw [pass, frame], ?_⟩
  rw [pass, each_modUnit_unitOf _ _ (List.nodup_range.filter _)]
  refine if_congr ?_ rfl rfl
  rw [List.mem_filter, List.mem_range]
  exact and_iff_right u.isLt

/-! ## Requests and replies (R387, R388) -/

section
variable {s : State} (hoff : s.mode ≠ .off) (hhold : s.mode ≠ .hold) {r : HostReq}
include hoff hhold

theorem execHostRequest_gives (hfind : s.requests.find? (fun q => q.id == r.id && !q.given) = some r) :
    execHostRequest r.id s = .next (s.giveRequest r) := by
  unfold execHostRequest
  rw [if_neg (not_or.mpr ⟨hoff, hhold⟩), hfind]

theorem execHostRequestLimit_misses (hfind : s.requests.find? (fun q => q.id == r.id) = some r) :
    execHostRequestLimit r.id s = .next ((s.dropRequest r.id).replyMissed r.kind) := by
  unfold execHostRequestLimit
  rw [if_neg (not_or.mpr ⟨hoff, hhold⟩), hfind]

end

section
variable {s : State} {r : HostReq}

theorem giveRequest_none
    (hnone : s.waits.find? (fun w => decide (8 * (s.payload r.kind).length ≤ w.len.toNat)) = none) :
    s.giveRequest r = s := by
  unfold State.giveRequest
  dsimp only
  rw [hnone]

theorem giveRequest_some {w : HostWait}
    (hsome : s.waits.find? (fun w => decide (8 * (s.payload r.kind).length ≤ w.len.toNat)) = some w) :
    s.giveRequest r = State.complete { s with
      waits := s.waits.erase w,
      requests := s.requests.map (fun q => if q.id = r.id then { q with given := true } else q),
      hostOut := s.hostOut ++ [.request w.addr r (s.payload r.kind)] } w.hdr stOK noDetail false
        [pack [(0, 32, r.id.toNat), (32, 8, r.kind.code), (48, 16, 8 * (s.payload r.kind).length)]] := by
  unfold State.giveRequest
  dsimp only
  rw [hsome]

end

/-- R387: a reply of the length it names is checked for its kind alone. -/
theorem hostReply_checks {s : State} {a : ReplyArgs} {r : HostReq} (hlen : a.len.toNat = a.data.length) :
    firstBad [check (a.len.toNat != a.data.length) stBAD_ARG 4, s.badReply r.kind a.data] =
    s.badReply r.kind a.data := by
  rw [bne_eq_false_iff_eq.mpr hlen]
  cases s.badReply r.kind a.data <;> rfl

section
variable {s : State} {h : Hdr} (ha : s.accepts h hostReplyRow = true) {a : ReplyArgs}
include ha

theorem hostReply_unknown (hnone : s.requests.find? (fun q => q.id == a.reqId && q.given) = none) :
    execHostReply h a s = s.finishes h stREFUSED := by
  refine hostCommand_done ha ?_
  rw [hnone]
  rfl

section
variable {r : HostReq} (hsome : s.requests.find? (fun q => q.id == a.reqId && q.given) = some r)
  (hlen : a.len.toNat = a.data.length)
include hsome hlen

theorem hostReply_bad {b : Bad} (hbad : s.badReply r.kind a.data = some b) :
    execHostReply h a s = s.finishes h b.1 b.2 := by
  refine hostCommand_done ha ?_
  rw [hsome]
  dsimp only
  rw [CmdEnd.checked, hostReply_checks hlen, hbad]
  rfl

theorem hostReply_applies (hgood : s.badReply r.kind a.data = none) :
    execHostReply h a s = ((s.dropRequest a.reqId).applyReply r.kind a).finishes h := by
  refine hostCommand_done ha ?_
  rw [hsome]
  dsimp only
  rw [CmdEnd.checked, hostReply_checks hlen, hgood]
  rfl

end
end

/-- Settles O52. Every command completes with the first of its checks that fails, or with its effect; a request is given
to the wait that its payload fits. -/
theorem modesAndHostRequests : Obligations.ModesAndHostRequests := by
  unfold Obligations.ModesAndHostRequests
  intro s h a b addr len re r w u x
  refine ⟨fun ha hrecovery => ⟨fun hspace hfield haligned => ⟨?reads, ?empty⟩, ?space⟩, fun ha => ?modeSet,
    fun ha => (exec_hostWait ..).trans (hostCommand_passes (effect := .waits _) (checks := []) ha rfl rfl),
    fun hoff hhold hfind => ?request, fun ha => ?reply, fun hoff hhold hfind => ?limit⟩
  case reads =>
    exact fun hwords hsome hmax hfits => (exec_telemRead ..).trans
      (telemRead_reads ha hrecovery hspace hfield haligned hwords hsome hmax hfits)
  case empty =>
    exact fun hlen => (exec_telemRead ..).trans (telemRead_empty ha hrecovery hspace hfield haligned hlen)
  case space => exact fun hspace => (exec_telemRead ..).trans (telemRead_space ha hrecovery hspace)
  case modeSet =>
    refine ⟨?unknown, fun hfunction hmode hscope hctx hlive hclosed => ⟨?high, ?reduction⟩, ?sampling, ?thermal,
      ?training⟩
    case unknown =>
      exact fun hfunction => (exec_modeSet ..).trans (modeSet_fails ha (badMode_of_unknown hfunction))
    case high =>
      exact fun hhigh => (exec_modeSet ..).trans
        (modeSet_fails ha (badMode_of_context_high (top := 2) hmode (by rw [hfunction]; rfl) hhigh))
    case reduction =>
      intro n hn
      have low : b.mode.toNat ≤ (2 : Byte).toNat := hn ▸ Nat.le_of_lt_succ n.isLt
      refine (exec_modeSet ..).trans ((modeSet_sets ha
        (badMode_of_context hmode hscope hctx hlive hclosed (by rw [hfunction]; rfl) low)).trans ?_)
      have set_ : s.setMode h b = s.putCtx x { s.ctxOf x with reductionMode := Fin.ofNat 3 b.mode.toNat } := by
        unfold State.setMode
        rw [hfunction]
        rfl
      rw [set_, hn, show Fin.ofNat 3 n.val = n from Fin.ext (Nat.mod_eq_of_lt n.isLt)]
    case sampling =>
      intro hfunction hmode hscope hctx hlive hclosed hlow
      refine (exec_modeSet ..).trans ((modeSet_sets ha
        (badMode_of_context (top := 1) hmode hscope hctx hlive hclosed (by rw [hfunction]; rfl) hlow)).trans ?_)
      have set_ : s.setMode h b = s.putCtx x { s.ctxOf x with hostSampling := b.mode != 0 } := by
        unfold State.setMode
        rw [hfunction]
        rfl
      rw [set_]
    case thermal =>
      exact fun hfunction hmode => (exec_modeSet ..).trans
        (modeSet_fails ha (badMode_of_thermal_run hfunction hmode))
    case training =>
      intro hfunction hscope hctx hlow
      exact ⟨_, (exec_modeSet ..).trans (modeSet_sets ha
        (badMode_of_units hfunction (mode_of_accepts ha) hscope hctx hlow)), setMode_units hfunction u⟩
  case request =>
    intro words
    refine ⟨fun hnone => ?_, fun hsome => ?_⟩
    · exact (exec_hostRequest ..).trans ((execHostRequest_gives hoff hhold hfind).trans
        (congrArg Host.Outcome.next (giveRequest_none hnone)))
    · exact (exec_hostRequest ..).trans ((execHostRequest_gives hoff hhold hfind).trans
        (congrArg Host.Outcome.next (giveRequest_some hsome)))
  case reply =>
    refine ⟨fun hnone => ?_, fun hsome hlen => ⟨fun e hbad => ?_, fun hgood => ?_⟩⟩
    · exact (exec_hostReply ..).trans (hostReply_unknown ha hnone)
    · exact (exec_hostReply ..).trans (hostReply_bad ha hsome hlen hbad)
    · exact (exec_hostReply ..).trans (hostReply_applies ha hsome hlen hgood)
  case limit =>
    intro t
    have missed := (exec_hostRequestLimit r.id s).trans (execHostRequestLimit_misses hoff hhold hfind)
    refine ⟨fun hkind => ?_, fun ps hkind => ?_, fun hd bl hkind => ?_, fun e l hkind hstop => ?_⟩
    · rw [hkind] at missed
      exact missed
    · rw [hkind] at missed
      exact missed
    · rw [hkind] at missed
      exact missed
    · rw [hkind] at missed
      exact missed.trans (congrArg Host.Outcome.next (if_neg (fun stop => Bool.false_ne_true (hstop.symm.trans stop))))

end Sys2Proof.Machine
end

section
/-! PROOFS. The Tack monitor (R417 to R421, R509 to R511). -/

set_option linter.unusedVariables false

namespace Sys2Proof.Machine

open Sys2Proof

theorem exec_tackId (s : State) : exec .tackId s = execTackId s := rfl
theorem exec_tackChallenge (s : State) : exec .tackChallenge s = execTackChallenge s := rfl
theorem exec_tackResponse (v : TackVerdict) (s : State) : exec (.tackResponse v) s = execTackResponse v s := rfl
theorem exec_tackBaud (rate : W32) (s : State) : exec (.tackBaud rate) s = execTackBaud rate s := rfl
theorem exec_tackRead (sp f : Byte) (off : W32) (n : Nat) (s : State) :
    exec (.tackRead sp f off n) s = execTackRead sp f off n s := rfl
theorem exec_tackWrite (sp f : Byte) (off : W32) (v : W64) (s : State) :
    exec (.tackWrite sp f off v) s = execTackWrite sp f off v s := rfl
theorem exec_tackEvdump (cls : Fin 4) (prev : Bool) (s : State) :
    exec (.tackEvdump cls prev) s = execTackEvdump cls prev s := rfl
theorem exec_tackState (s : State) : exec .tackState s = execTackState s := rfl
theorem exec_tackScan (f : FieldId) (s : State) : exec (.tackScan f) s = execTackScan f s := rfl
theorem exec_tackBist (f : FieldId) (ci : Fin 16) (o : SliceOutcome) (s : State) :
    exec (.tackBist f ci o) s = execTackBist f ci o s := rfl
theorem exec_tackReset (s : State) : exec .tackReset s = execTackReset s := rfl
theorem exec_tackLineTimeout (s : State) : exec .tackLineTimeout s = execTackLineTimeout s := rfl

/-! ## A line (R509) -/

/-- R509: in HOLD every line is answered NOT_READY. -/
theorem tackLine_hold {s : State} (hhold : s.mode = .hold) (allowed : Bool) (body : State) :
    s.tackLine allowed body = .next (s.tackErr stNOT_READY) := by
  rw [State.tackLine, hhold, if_neg (by decide), if_pos rfl]

section
variable {s : State} (hoff : s.mode ≠ .off) (hhold : s.mode ≠ .hold)
include hoff hhold

theorem tackLine_refused {allowed : Bool} (h : allowed = false) (body : State) :
    s.tackLine allowed body = .next (s.tackErr stREFUSED) := by
  rw [State.tackLine, if_neg hoff, if_neg hhold, h]
  rfl

theorem tackLine_allowed {allowed : Bool} (h : allowed = true) (body : State) :
    s.tackLine allowed body = .next body := by
  rw [State.tackLine, if_neg hoff, if_neg hhold, h]
  rfl

end

/-! ## CHALLENGE and RESPONSE (R418, R419) -/

/-- R397, R418: MAINT with no context. -/
theorem quiet_iff {s : State} : s.quiet = true ↔ s.mode = .maint ∧ ∀ e ∈ s.ctxs, e.2.live = false := by
  rw [State.quiet, Bool.and_eq_true, beq_iff_eq, Bool.not_eq_true', List.any_eq_false]
  exact and_congr_right fun _ => forall₂_congr fun _ _ => Bool.not_eq_true _ |>.to_iff

theorem live_of_none {s : State} (hnone : ∀ e ∈ s.ctxs, e.2.live = false) (x : Nat) : (s.ctxOf x).live = false := by
  by_contra h
  have listed : (x, s.ctxOf x) ∈ s.ctxs := mem_of_tget_ne (fun e => h (by rw [State.ctxOf, e]))
  exact h (hnone _ listed)

/-- R420: zeroisation with no context ends nothing. -/
theorem zeroiseNow_of_none {s : State} (hnone : ∀ e ∈ s.ctxs, e.2.live = false) :
    s.zeroiseNow.tack = s.tack ∧ s.zeroiseNow.mgmt = { s.mgmt with
      keyEncryptionKey := false, authorities := [], moduleKeys := 0, channelKey := false, zeroise := false } := by
  have none_live : (List.finRange 8).filter (fun x => (s.ctxOf x.val).live) = [] :=
    List.filter_eq_nil_iff.mpr fun x _ => by rw [live_of_none hnone]; exact Bool.false_ne_true
  unfold State.zeroiseNow
  rw [none_live]
  exact ⟨rfl, rfl⟩

/-- R418: the monitor opens with a fuse step and a zeroisation. -/
theorem openTack_of_none {s : State} (hnone : ∀ e ∈ s.ctxs, e.2.live = false) (hsteps : s.mgmt.tackSteps.val < 64) :
    s.openTack.mgmt.gloved = false ∧ s.openTack.mgmt.tackSteps.val = s.mgmt.tackSteps.val + 1 ∧
      s.openTack.tack = { s.tack with isOpen := true, nonce := none } ∧ s.openTack.keys = [] ∧
      s.openTack.mgmt.authorities = [] ∧ s.openTack.mgmt.keyEncryptionKey = false := by
  let stepped : State :=
    { s with mgmt := { s.mgmt with tackSteps := Fin.ofNat 65 (s.mgmt.tackSteps.val + 1), zeroise := true } }
  obtain ⟨tack, mgmt⟩ := zeroiseNow_of_none (s := stepped) hnone
  have steps : (Fin.ofNat 65 (s.mgmt.tackSteps.val + 1)).val = s.mgmt.tackSteps.val + 1 :=
    Nat.mod_eq_of_lt (Nat.add_lt_add_right hsteps 1)
  have opened : s.openTack = { stepped.zeroiseNow with
      mgmt := { stepped.zeroiseNow.mgmt with gloved := false },
      tack := { stepped.zeroiseNow.tack with isOpen := true, nonce := none } } := rfl
  rw [opened]
  refine ⟨rfl, ?_, ?_, rfl, ?_, ?_⟩
  · exact (congrArg (fun m : Mgmt => m.tackSteps.val) mgmt).trans steps
  · exact congrArg (fun t : Tack => { t with isOpen := true, nonce := none }) tack
  · exact congrArg Mgmt.authorities mgmt
  · exact congrArg Mgmt.keyEncryptionKey mgmt

theorem responseOk_of_current {s : State} {v : TackVerdict} {nonce : BitVec 256} {now : W64}
    (hnonce : s.tack.nonce = some (nonce, now)) (hmessage : v.message = s.tackMessage nonce)
    (hcurrent : s.since now ≤ ms 600000) (hen : s.tack.en = true) (hkey : v.keyHashOk = true) (hec : v.ecOk = true)
    (hlms : v.lmsOk = true) : s.responseOk v = true := by
  rw [State.responseOk, hnonce]
  simp [hmessage, hcurrent, hen, hkey, hec, hlms]

theorem responseOk_of_bad {s : State} {v : TackVerdict}
    (hbad : v.keyHashOk = false ∨ v.ecOk = false ∨ v.lmsOk = false ∨ s.tack.nonce = none) : s.responseOk v = false := by
  unfold State.responseOk
  obtain h | h | h | h := hbad
  · simp [h]
  · simp [h]
  · simp [h]
  · simp [h]

/-! ## The open monitor (R510) -/

theorem baudOk_iff (r : W32) : baudOk r = true ↔ r.toNat ∈ [115200, 460800, 921600, 1500000, 3000000] :=
  List.contains_iff_mem

theorem tackPlaceOk_module {top n : Nat} {f : Byte} {off : W32} (haligned : off.toNat % 8 = 0)
    (hfits : off.toNat + 8 * n ≤ spaceSize 0) : tackPlaceOk top 0 f off n = true := by
  simp only [tackPlaceOk, Bool.and_eq_true, decide_eq_true_eq]
  exact ⟨⟨⟨Nat.zero_le _, rfl⟩, haligned⟩, hfits⟩

/-- R442: CDC_CTRL of the module can be written. -/
theorem writeReg_compat (s : State) (field : Nat) (v : W64) :
    s.writeReg 0 field 0x90808 v = some { s with clocks := { s.clocks with compat := v.getLsbD 0 } } := by
  unfold State.writeReg
  rfl

/-- R482, R510: a SCAN slice of a field, run to its end. -/
theorem scan_fieldOf (s : State) (f : Nat) :
    let t := (s.startSlice (16 * f) .scan false).sliceDone f true
    (t.fieldOf f).slice = none ∧ (t.fieldOf f).slices = satAdd16 (s.fieldOf f).slices 1 := by
  intro t
  have field : 16 * f / 16 = f := Nat.mul_div_cancel_left f (by decide)
  have started : (s.startSlice (16 * f) .scan false).fieldOf f = (s.fieldOf f).sliced (16 * f) .scan false := by
    rw [startSlice_scan, field, State.putField_same]
  have done : t.fieldOf f = ((s.fieldOf f).sliced (16 * f) .scan false).slicePassed := by
    rw [show t = _ from sliceDone_passed .., State.putField_same, started]
  rw [done]
  exact ⟨rfl, rfl⟩

/-- R482: a CLUSTER slice that has ended leaves its field without a slice. -/
theorem endCluster_slice (s : State) (k : Nat) (o : SliceOutcome) :
    ((s.endCluster k o).fieldOf (k / 16)).slice = none := by
  have done (t : State) (pass : Bool) : ((t.sliceDone (k / 16) pass).fieldOf (k / 16)).slice = none :=
    congrArg Field.slice (State.putField_same ..)
  unfold State.endCluster
  extract_lets
  split
  · exact done ..
  · exact done ..

/-- Settles O60. Every line is a guard and a body: its answer follows from the state of the module, of the monitor, and
from what the line asks. -/
theorem tackLines : Obligations.TackLines := by
  unfold Obligations.TackLines
  intro s v rate field off n value cls f ci o m t answers quiet fits
  refine ⟨fun hhold i hi => ?hold, fun hoff hhold => ?lines, rfl, rfl⟩
  case hold =>
    obtain ⟨allowed, body, line⟩ : ∃ allowed body, exec i s = s.tackLine allowed body := by
      fin_cases hi <;> exact ⟨_, _, rfl⟩
    exact line.trans (tackLine_hold hhold allowed body)
  case lines =>
    have refused {allowed : Bool} (h : allowed = false) (body : State) :
      s.tackLine allowed body = answers s [] (some stREFUSED) := tackLine_refused hoff hhold h body
    have allows {allowed : Bool} (h : allowed = true) (body : State) :
      s.tackLine allowed body = .next body := tackLine_allowed hoff hhold h body
    refine ⟨?id, (exec_tackLineTimeout s).trans (allows rfl _), ?challenge, ?unready, ?ungloved, ?response, ?closed,
      ?opened⟩
    case id =>
      refine (exec_tackId s).trans ((allows rfl _).trans ?_)
      rw [show w64 (flag s.mgmt.gloved) = if s.mgmt.gloved then 1 else 0 by cases s.mgmt.gloved <;> rfl]
      rfl
    case challenge =>
      intro hgloved hquiet hen nonce
      refine (exec_tackChallenge s).trans ((allows hgloved _).trans (congrArg Host.Outcome.next (if_pos ?_)))
      rw [show s.tack.en = true from hen, quiet_iff.mpr hquiet]
      rfl
    case unready =>
      intro hgloved hunready
      refine (exec_tackChallenge s).trans ((allows hgloved _).trans (congrArg Host.Outcome.next (if_neg ?_)))
      rw [Bool.and_eq_true]
      rintro ⟨en, silent⟩
      exact hunready.elim (fun low => Bool.false_ne_true (low.symm.trans en)) (fun loud => loud (quiet_iff.mp silent))
    case ungloved =>
      intro hungloved
      refine ⟨(exec_tackChallenge s).trans (refused hungloved _), (exec_tackResponse v s).trans (refused ?_ _)⟩
      rw [show s.mgmt.gloved = false from hungloved]
      rfl
    case response =>
      intro hgloved hquiet hsteps
      have taken (body : State) : s.tackLine (s.mgmt.gloved && s.quiet && decide (s.mgmt.tackSteps.val < 64)) body =
          .next body := by
        refine allows ?_ body
        rw [show s.mgmt.gloved = true from hgloved, quiet_iff.mpr hquiet, decide_eq_true hsteps]
        rfl
      refine ⟨fun nonce now hnonce hmessage hcurrent hen hkey hec hlms => ?_, fun hbad => ?_⟩
      · exact ⟨s.openTack, (exec_tackResponse v s).trans ((taken _).trans (congrArg Host.Outcome.next
          (if_pos (responseOk_of_current hnonce hmessage hcurrent hen hkey hec hlms)))),
          openTack_of_none hquiet.2 hsteps⟩
      · refine (exec_tackResponse v s).trans ((taken _).trans (congrArg Host.Outcome.next (if_neg ?_)))
        rw [responseOk_of_bad hbad]
        exact Bool.false_ne_true
    case closed =>
      intro hclosed i hi
      obtain ⟨allowed, body, line, guarded⟩ : ∃ allowed body, exec i s = s.tackLine allowed body ∧
          (s.tack.isOpen = false → allowed = false) := by
        fin_cases hi <;> exact ⟨_, _, rfl, fun shut => by simp only [shut, Bool.false_and]⟩
      exact line.trans (refused (guarded hclosed) body)
    case opened =>
      intro hopen
      refine ⟨?baud, ?badBaud, ?read, ?long, ?write, ?outside, ?previous, ?unread,
        (exec_tackState s).trans (allows hopen _), (exec_tackReset s).trans (allows hopen _), ?slices⟩
      case baud =>
        exact fun hrate => (exec_tackBaud rate s).trans ((allows hopen _).trans
          (congrArg Host.Outcome.next (if_pos ((baudOk_iff rate).mpr hrate))))
      case badBaud =>
        exact fun hrate => (exec_tackBaud rate s).trans ((allows hopen _).trans
          (congrArg Host.Outcome.next (if_neg (fun ok => hrate ((baudOk_iff rate).mp ok)))))
      case read =>
        exact fun hpos hmax haligned hfits => (exec_tackRead ..).trans ((allows hopen _).trans
          (congrArg Host.Outcome.next (if_pos ⟨hpos, hmax, tackPlaceOk_module haligned hfits⟩)))
      case long =>
        exact fun hlong => (exec_tackRead ..).trans ((allows hopen _).trans
          (congrArg Host.Outcome.next (if_neg (fun ok => absurd ok.2.1 (Nat.not_le.mpr hlong)))))
      case write =>
        intro hmode hoffset
        refine (exec_tackWrite ..).trans ((allows ?_ _).trans (congrArg Host.Outcome.next ((if_pos ?_).trans ?_)))
        · rw [show s.tack.isOpen = true from hopen, hmode]
          rfl
        · exact tackPlaceOk_module (by rw [hoffset]) (by rw [hoffset]; decide)
        · rw [hoffset, show (0 : Byte).toNat = 0 from rfl, writeReg_compat]
          rfl
      case outside =>
        refine fun hmode => (exec_tackWrite ..).trans (refused ?_ _)
        rw [beq_eq_false_iff_ne.mpr hmode, Bool.and_false]
      case previous =>
        intro hcls
        refine (exec_tackEvdump ..).trans ((allows hopen _).trans (congrArg Host.Outcome.next (if_neg ?_)))
        rw [decide_eq_false (Nat.not_lt.mpr hcls)]
        exact Bool.false_ne_true
      case unread => exact (exec_tackEvdump ..).trans (allows hopen _)
      case slices =>
        intro hmode hfits
        have runs : (s.tack.isOpen && s.mode == .maint && s.sliceFits f.val && (s.fieldOf f.val).state == .online) =
            true := by
          rw [show s.tack.isOpen = true from hopen, hmode, hfits.1, hfits.2]
          rfl
        have cluster : (16 * f.val + ci.val) / 16 = f.val := by omega
        refine ⟨⟨_, _, (exec_tackScan f s).trans (allows runs _), scan_fieldOf s f.val⟩,
          _, _, (exec_tackBist f ci o s).trans (allows runs _), ?_, fun hnone => ?_⟩
        · have ended := endCluster_slice (s.startSlice (16 * f.val + ci.val) .cluster false) (16 * f.val + ci.val) o
          rwa [cluster] at ended
        · rw [hnone]
          exact congrArg (fun l : List Nat => w64 l.length)
            (List.filter_eq_nil_iff.mpr fun _ _ => Bool.false_ne_true)

end Sys2Proof.Machine
end

section
/-! PROOFS. Messages of the trees (R302, R338, R340, R343 to R350, R508): what an admitted message does, by the unit
that it comes from. -/

set_option linter.unusedVariables false

namespace Sys2Proof.Machine

open Sys2Proof

theorem exec_pegArrive (u : UnitId) (m : PegMsg) (s : State) : exec (.pegArrive u m) s = execPegArrive u m s := rfl
theorem exec_pegComplete (u : UnitId) (m : PegMsg) (s : State) :
    exec (.pegComplete u m) s = execPegComplete u m s := rfl
theorem exec_beginMsg (u : UnitId) (m : StepMsg) (b : BeginArgs) (s : State) :
    exec (.beginMsg u m b) s = execBeginMsg u m b s := rfl
theorem exec_segmentMsg (u : UnitId) (m : StepMsg) (g : Segment) (s : State) :
    exec (.segmentMsg u m g) s = execSegmentMsg u m g s := rfl
theorem exec_reportMsg (u : UnitId) (m : StepMsg) (d : BitVec 256) (s : State) :
    exec (.reportMsg u m d) s = execReportMsg u m d s := rfl
theorem exec_resultMsg (u : UnitId) (m : StepMsg) (s : State) :
    exec (.resultMsg u m) s = execResultMsg u m s := rfl
theorem exec_telemMsg (u : UnitId) (m : StepMsg) (b : BitVec 256) (s : State) :
    exec (.telemMsg u m b) s = execTelemMsg u m b s := rfl
theorem exec_stepLimitExpiry (x : CtxId) (s : State) : exec (.stepLimitExpiry x) s = execStepLimitExpiry x s := rfl
theorem exec_broadcastTimeout (x : CtxId) (s : State) :
    exec (.broadcastTimeout x) s = execBroadcastTimeout x s := rfl
theorem exec_telemSend (x : CtxId) (s : State) : exec (.telemSend x) s = execTelemSend x s := rfl

/-! ## The parent of a tree (R338) -/

/-- R317: a message of a tree is admitted on a port of the fabric alone. -/
theorem not_serverPort_of_admitted {s : State} {u : UnitId} {t : Byte} {job : W16} {x : CtxId}
    (ht : t = mPEG ∨ t = mSTEP ∨ t = mCOLL) (ha : s.admitted u t job = some x) : isServerPort u.val = false := by
  unfold State.admitted at ha
  split at ha
  case isTrue => cases ha
  case isFalse passes =>
    have mtype : mtypeAdmitted u.val t = !isServerPort u.val := by obtain rfl | rfl | rfl := ht <;> rfl
    rw [mtype] at passes
    by_contra server
    exact passes (by simp [Bool.eq_true_of_not_eq_false server])

/-- R338: the code of a root, 0x7F, is no unit of the fabric, so the parent's number decides. -/
theorem treeParentIs_iff {r : TreeRec} {u : UnitId} (hu : isServerPort u.val = false) :
    treeParentIs r u.val = true ↔ r.parent.toNat = u.val := by
  rw [treeParentIs, Bool.and_eq_true, beq_iff_eq, Bool.not_eq_true']
  refine and_iff_right_of_imp fun parent => ?_
  rw [treeRoot, beq_eq_false_iff_ne]
  intro root
  rw [root] at parent
  rw [← parent] at hu
  revert hu
  decide

theorem treeParentIs_false {r : TreeRec} {u : UnitId} (hu : isServerPort u.val = false)
    (hne : r.parent.toNat ≠ u.val) : treeParentIs r u.val = false :=
  Bool.eq_false_of_not_eq_true fun parent => hne ((treeParentIs_iff hu).mp parent)

/-! ## What a send leaves alone (R330) -/

theorem send_frame (s : State) (x u : Nat) (m : OutMsg) : ∃ units counters rings thread,
    s.send x u m = { s with units := units, counters := counters, rings := rings, thread := thread } := by
  unfold State.send
  split
  · obtain ⟨counters, rings, thread, bumped⟩ := bump_frame s 0 (0x81000 + 64 * u + 8 * 7) 1
    exact ⟨s.units, counters, rings, thread, bumped⟩
  · split
    · exact ⟨s.units, s.counters, s.rings, s.thread, rfl⟩
    · dsimp only
      split
      · exact ⟨_, s.counters, s.rings, s.thread, rfl⟩
      · exact ⟨s.units, s.counters, s.rings, s.thread, rfl⟩

theorem sendDown_frame (s : State) (x : Nat) (r : TreeRec) (m : OutMsg) : ∃ units counters rings thread,
    s.sendDown x r m = { s with units := units, counters := counters, rings := rings, thread := thread } := by
  refine each_keeps (P := fun t => ∃ units counters rings thread,
    t = { s with units := units, counters := counters, rings := rings, thread := thread }) ?_ _ ⟨_, _, _, _, rfl⟩
  rintro _ u ⟨units, counters, rings, thread, rfl⟩
  obtain ⟨units, counters, rings, thread, sent⟩ := send_frame
    { s with units := units, counters := counters, rings := rings, thread := thread } x u m
  exact ⟨units, counters, rings, thread, sent⟩

theorem sendDown_ctxOf (s : State) (x : Nat) (r : TreeRec) (m : OutMsg) (y : Nat) :
    (s.sendDown x r m).ctxOf y = s.ctxOf y := by
  obtain ⟨_, _, _, _, sent⟩ := sendDown_frame s x r m
  rw [sent]
  rfl

theorem sendDown_mode (s : State) (x : Nat) (r : TreeRec) (m : OutMsg) : (s.sendDown x r m).mode = s.mode := by
  obtain ⟨_, _, _, _, sent⟩ := sendDown_frame s x r m
  rw [sent]

/-! ## Peg messages (R340, R343) -/

section
variable {s : State} {u : UnitId} {m : PegMsg} {x : CtxId} (ha : s.admitted u mPEG m.job = some x)
include ha

theorem pegMsg_noTree (hnone : s.treeRec x.val m.tree.toNat = none) :
    execPegArrive u m s = .next (s.stray x) ∧ execPegComplete u m s = .next (s.stray x) := by
  unfold execPegArrive execPegComplete
  rw [ha]
  dsimp only
  rw [hnone]
  exact ⟨rfl, rfl⟩

variable {r : TreeRec} (hr : s.treeRec x.val m.tree.toNat = some r)
include hr

theorem pegArrive_child (hchild : treeHasChild r u.val = true) (hstep : m.step = (s.ctxOf x.val).step) :
    execPegArrive u m s = .next (s.linkArrive x m.tree.toNat m.group m.gen m.count.toNat m.nan) := by
  unfold execPegArrive
  rw [ha]
  dsimp only
  rw [hr]
  refine if_neg ?_
  rw [hchild, bne_eq_false_iff_eq.mpr hstep]
  decide

theorem pegArrive_stray (hchild : treeHasChild r u.val = false) : execPegArrive u m s = .next (s.stray x) := by
  unfold execPegArrive
  rw [ha]
  dsimp only
  rw [hr]
  refine if_pos ?_
  rw [hchild]
  rfl

theorem pegComplete_eq : execPegComplete u m s =
    if treeParentIs r u.val then .next (s.linkComplete x r m.group m) else .next (s.stray x) := by
  unfold execPegComplete
  rw [ha]
  dsimp only
  rw [hr]

end

/-! ## Messages of the control tree (R302, R338, R344 to R350) -/

section
variable {s : State} {u : UnitId} {job : W16} {x : CtxId} {r : TreeRec} (ha : s.admitted u mSTEP job = some x)
  (hr : s.ctrlTree x.val = some r) (f : CtxId → TreeRec → State)
include ha hr

theorem fromParent_eq : s.fromParent u job f = .next (if treeParentIs r u.val then f x r else s.stray x) := by
  unfold State.fromParent
  rw [ha]
  dsimp only
  rw [hr]

theorem fromParent_parent (hparent : r.parent.toNat = u.val) : s.fromParent u job f = .next (f x r) := by
  rw [fromParent_eq ha hr, if_pos ((treeParentIs_iff (not_serverPort_of_admitted (.inr (.inl rfl)) ha)).mpr hparent)]

theorem fromParent_stray (hne : r.parent.toNat ≠ u.val) : s.fromParent u job f = .next (s.stray x) := by
  rw [fromParent_eq ha hr, treeParentIs_false (not_serverPort_of_admitted (.inr (.inl rfl)) ha) hne]
  rfl

theorem fromChild_eq : s.fromChild u job f = .next (if treeHasChild r u.val then f x r else s.stray x) := by
  unfold State.fromChild
  rw [ha]
  dsimp only
  rw [hr]

theorem fromChild_child (hchild : treeHasChild r u.val = true) : s.fromChild u job f = .next (f x r) := by
  rw [fromChild_eq ha hr, hchild, if_pos rfl]

theorem fromChild_stray (hchild : treeHasChild r u.val = false) : s.fromChild u job f = .next (s.stray x) := by
  rw [fromChild_eq ha hr, hchild]
  rfl

end

section
variable {s : State} {u : UnitId} {m : StepMsg} {x : CtxId} {r : TreeRec} (ha : s.admitted u mSTEP m.job = some x)
  (hr : s.ctrlTree x.val = some r)
include ha hr

/-- R302: an outcome from the parent closes the step that it names, and only counts for any other. -/
theorem outcome_parent (hparent : r.parent.toNat = u.val) (sub : Byte) (code : Fin 6) :
    let t := s.sendDown x.val r (.step sub m [])
    (m.step = (t.ctxOf x.val).step → s.outcome u m sub code = .next (t.closeStep x code)) ∧
      (m.step ≠ (t.ctxOf x.val).step → s.outcome u m sub code = .next (t.gradBump x.val 7 1)) := by
  intro t
  have goes : s.outcome u m sub code =
      .next (if m.step ≠ (t.ctxOf x.val).step then t.gradBump x.val 7 1 else t.closeStep x code) :=
    fromParent_parent ha hr _ hparent
  exact ⟨fun same => goes.trans (congrArg Host.Outcome.next (if_neg (not_not.mpr same))),
    fun other => goes.trans (congrArg Host.Outcome.next (if_pos other))⟩

/-- R344: a BEGIN from the parent, with no step open and no change of slots due, begins the step. -/
theorem beginMsg_begins {b : BeginArgs} (hparent : r.parent.toNat = u.val) (hclosed : (s.ctxOf x.val).isOpen = false)
    (hmode : s.mode = .ready ∨ s.mode = .run) :
    let t := s.sendDown x.val r (.begin m b)
    t.changesSlot x = false → (t.beginStep x b none).2 = none →
      execBeginMsg u m b s = .next (t.beginStep x b none).1 := by
  intro t hslot hbegin
  have shut : (t.ctxOf x.val).isOpen = false := (congrArg Ctx.isOpen (sendDown_ctxOf ..)).trans hclosed
  have serving : ¬ (t.mode ≠ .ready ∧ t.mode ≠ .run) := by
    rw [show t.mode = s.mode from sendDown_mode ..]
    exact fun neither => hmode.elim neither.1 neither.2
  refine (fromParent_parent ha hr _ hparent).trans (congrArg Host.Outcome.next ?_)
  dsimp only
  rw [shut, if_neg Bool.false_ne_true, hslot, if_neg Bool.false_ne_true, if_neg serving]
  split
  case h_1 u begun => rw [begun]
  case h_2 u e begun => rw [begun] at hbegin; cases hbegin

theorem segmentMsg_forwards {g : Segment} (hparent : r.parent.toNat = u.val) (hmore : g.cmd = none) :
    execSegmentMsg u m g s = .next (s.sendDown x.val r (.segment m g)) := by
  refine (fromParent_parent ha hr _ hparent).trans (congrArg Host.Outcome.next ?_)
  dsimp only
  rw [hmore]

section
variable (hchild : treeHasChild r u.val = true)
include hchild

theorem reportMsg_manager (detail : BitVec 256) (hmanager : s.isManager x.val = true)
    (hstep : m.step = (s.ctxOf x.val).step) :
    execReportMsg u m detail s = .next (s.decideStep x (.report m.cause m.node)) :=
  (fromChild_child ha hr _ hchild).trans (congrArg Host.Outcome.next ((if_pos hmanager).trans (if_pos hstep)))

theorem reportMsg_worker (detail : BitVec 256) (hworker : s.isManager x.val = false) :
    execReportMsg u m detail s = .next
      ((s.treeBump x.val 5 1).sendUp x.val r (.step 0x08 m (bytesLE 32 detail.toNat))) :=
  (fromChild_child ha hr _ hchild).trans (congrArg Host.Outcome.next (if_neg (Bool.not_eq_true _ ▸ hworker)))

theorem telemMsg_worker (body : BitVec 256) (hworker : s.isManager x.val = false) :
    execTelemMsg u m body s = .next (s.sendUp x.val r (.step 0x12 m (bytesLE 32 body.toNat))) :=
  (fromChild_child ha hr _ hchild).trans (congrArg Host.Outcome.next (if_neg (Bool.not_eq_true _ ▸ hworker)))

theorem telemMsg_manager (body : BitVec 256) (hmanager : s.isManager x.val = true) :
    execTelemMsg u m body s = .next (s.modCtx x.val (fun c => { c with
      telem := tput {} c.telem m.node.toNat { body := body, at_ := s.time } })) :=
  (fromChild_child ha hr _ hchild).trans (congrArg Host.Outcome.next (if_pos hmanager))

theorem resultMsg_answers {q : Bcast} (hq : (s.ctxOf x.val).bcast = some q) :
    execResultMsg u m s = .next ((s.modCtx x.val (fun c => { c with
      bcast := some { q with answers := q.answers.filter (fun e => e.unit != u) ++
        [{ unit := u, okCount := m.okCount, status := m.status, failNode := m.failNode }] } })).settleBcast x) := by
  refine (fromChild_child ha hr _ hchild).trans (congrArg Host.Outcome.next ?_)
  dsimp only
  rw [hq]

end
end

/-! ## The manager's timers and telemetry (R345, R350, R508) -/

section
variable {s : State} (hworks : s.mode.works = true) {x : CtxId}
include hworks

theorem stepLimitExpiry_abandons (hmanager : s.isManager x.val = true) (hopen : (s.ctxOf x.val).isOpen = true)
    (hundecided : (s.ctxOf x.val).decided = false) (hheld : (s.ctxOf x.val).heldNan = false)
    (htraining : (s.ctxOf x.val).serving = false) (hhold : s.mode ≠ .hold) :
    execStepLimitExpiry x s = .next (s.decideAs x 3 7 0xFFFF) := by
  have timeout : s.decideStep x .timeout = s.decideAs x 3 7 0xFFFF := by
    unfold State.decideStep
    dsimp only
    rw [if_neg hhold, hopen, hundecided]
    rfl
  refine (if_pos ?_).trans (congrArg Host.Outcome.next timeout)
  rw [hworks, hmanager, hopen, hundecided, hheld, htraining]
  rfl

theorem broadcastTimeout_completes {q : Bcast} {h : Hdr} (hq : (s.ctxOf x.val).bcast = some q)
    (hh : q.hdr = some h) : execBroadcastTimeout x s =
      .next ((s.putCtx x.val { s.ctxOf x.val with bcast := none }).complete h stTIMEOUT) := by
  unfold execBroadcastTimeout
  rw [hq]
  dsimp only
  rw [hh]
  exact if_pos hworks

theorem telemSend_sends {r : TreeRec} (hr : s.ctrlTree x.val = some r) (hlive : (s.ctxOf x.val).live = true)
    (hworker : s.isManager x.val = false) (hnodes : 1 < s.nodesOf x.val) :
    execTelemSend x s = .next (s.sendUp x.val r
      (.step 0x12 (s.stepMsg x.val) (bytesLE 32 (s.telemBody x.val).toNat))) := by
  unfold execTelemSend
  rw [hr]
  refine if_pos ?_
  rw [hworks, hlive, hworker, decide_eq_true hnodes]
  rfl

end

/-- Settles O40. An admitted message is taken from a neighbour in its tree, and is stray from any other unit; the root's
code is no unit of the fabric. -/
theorem treeMessages : Obligations.TreeMessages := by
  unfold Obligations.TreeMessages
  refine ⟨?peg, ?step, ?timers⟩
  case peg =>
    intro s u m x ha
    have port := not_serverPort_of_admitted (.inl rfl) ha
    refine ⟨fun r hr => ⟨?arrive, ?arriveStray, ?complete, ?completeStray⟩, fun hnone => pegMsg_noTree ha hnone⟩
    case arrive => exact fun hchild hstep => (exec_pegArrive ..).trans (pegArrive_child ha hr hchild hstep)
    case arriveStray => exact fun hchild => (exec_pegArrive ..).trans (pegArrive_stray ha hr hchild)
    case complete =>
      exact fun hparent => (exec_pegComplete ..).trans
        ((pegComplete_eq ha hr).trans (if_pos ((treeParentIs_iff port).mpr hparent)))
    case completeStray =>
      exact fun hne => (exec_pegComplete ..).trans
        ((pegComplete_eq ha hr).trans (if_neg (fun parent => hne ((treeParentIs_iff port).mp parent))))
  case step =>
    intro s u m b x r detail body seg ha hr c stray outcomes
    have each (o : (UnitId → StepMsg → Instr) × Byte × Fin 6) (ho : o ∈ outcomes) :
        exec (o.1 u m) s = s.outcome u m o.2.1 o.2.2 := by
      unfold outcomes at ho
      fin_cases ho <;> rfl
    refine ⟨?outcomes, ?strays, ?begins, ?segment, ?children, ?others⟩
    case outcomes =>
      intro hparent o ho t
      rw [each o ho]
      exact outcome_parent ha hr hparent o.2.1 o.2.2
    case strays =>
      intro hne
      exact ⟨fun o ho => (each o ho).trans (fromParent_stray ha hr _ hne),
        (exec_beginMsg ..).trans (fromParent_stray ha hr _ hne),
        (exec_segmentMsg ..).trans (fromParent_stray ha hr _ hne)⟩
    case begins =>
      intro hparent hclosed hmode t hslot hbegin
      exact (exec_beginMsg ..).trans (beginMsg_begins ha hr hparent hclosed hmode hslot hbegin)
    case segment => exact fun hparent hmore => (exec_segmentMsg ..).trans (segmentMsg_forwards ha hr hparent hmore)
    case children =>
      intro hchild
      exact ⟨fun hmanager hstep => (exec_reportMsg ..).trans (reportMsg_manager ha hr hchild detail hmanager hstep),
        fun hworker => (exec_reportMsg ..).trans (reportMsg_worker ha hr hchild detail hworker),
        fun hworker => (exec_telemMsg ..).trans (telemMsg_worker ha hr hchild body hworker),
        fun hmanager => (exec_telemMsg ..).trans (telemMsg_manager ha hr hchild body hmanager),
        fun q hq => (exec_resultMsg ..).trans (resultMsg_answers ha hr hchild hq)⟩
    case others =>
      intro hchild
      exact ⟨(exec_reportMsg ..).trans (fromChild_stray ha hr _ hchild),
        (exec_telemMsg ..).trans (fromChild_stray ha hr _ hchild),
        (exec_resultMsg ..).trans (fromChild_stray ha hr _ hchild)⟩
  case timers =>
    intro s x r hworks c
    refine ⟨?limit, ?broadcast, ?telem⟩
    case limit =>
      exact fun hmanager hopen hundecided hheld htraining hhold => (exec_stepLimitExpiry ..).trans
        (stepLimitExpiry_abandons hworks hmanager hopen hundecided hheld htraining hhold)
    case broadcast =>
      exact fun q h hq hh => (exec_broadcastTimeout ..).trans (broadcastTimeout_completes hworks hq hh)
    case telem =>
      exact fun hr hlive hworker hnodes => (exec_telemSend ..).trans (telemSend_sends hworks hr hlive hworker hnodes)

end Sys2Proof.Machine
end

section
/-! PROOFS. The sum-over-all (R342, R352, R353): chunks written by this module and chunks that the two trees bring. -/

set_option linter.unusedVariables false

namespace Sys2Proof.Machine

open Sys2Proof

theorem exec_collSourceWritten (x : CtxId) (n : Fin 16) (tile : Nat) (chunk : Bool) (s : State) :
    exec (.collSourceWritten x n tile chunk) s = execCollSourceWritten x n tile chunk s := rfl
theorem exec_collDeadline (x : CtxId) (n : Fin 16) (tile : Nat) (s : State) :
    exec (.collDeadline x n tile) s = execCollDeadline x n tile s := rfl
theorem exec_collUp (u : UnitId) (m : CollMsg) (s : State) : exec (.collUp u m) s = execCollUp u m s := rfl
theorem exec_collDown (u : UnitId) (m : CollMsg) (s : State) : exec (.collDown u m) s = execCollDown u m s := rfl

/-! ## The module's own tiles (R352, R353) -/

section
variable {s : State} (hworks : s.mode.works = true) {x : CtxId} {n : Fin 16} {tile : Nat} {k : Coll}
  (hk : s.openColl x n.val tile = some k)
include hworks hk

theorem collSourceWritten_takes {chunk : Bool} {r : TreeRec}
    (hwritten : (s.tileOf (s.tileKey (k.decl.src + BitVec.ofNat 32 tile))).lastStep = some (s.ctxOf x.val).step)
    (hlock : (s.tileOf (s.tileKey (k.decl.src + BitVec.ofNat 32 tile))).lock = none)
    (hmoving : (s.tileOf (s.tileKey (k.decl.src + BitVec.ofNat 32 tile))).moving = false)
    (hown : k.hasOwn tile chunk = false) (hr : s.treeRec x.val (k.treeOf chunk) = some r) :
    execCollSourceWritten x n tile chunk s = .next (s.takeChunk x n k ⟨BitVec.ofNat 32 tile, chunk, none⟩) := by
  unfold execCollSourceWritten
  rw [hk]
  refine if_neg ?_
  rw [hworks, hwritten, hlock, hmoving, hown, hr, beq_self_eq_true]
  exact Bool.false_ne_true

theorem collDeadline_poisons (hshort : k.written.contains (BitVec.ofNat 32 tile, false) = false) :
    execCollDeadline x n tile s = .next ((s.poisonTile (s.tileKey (k.decl.dst + BitVec.ofNat 32 tile))).setMark x .short
      (bytesLE 4 (k.decl.dst + BitVec.ofNat 32 tile).toNat)) := by
  unfold execCollDeadline
  rw [hk]
  refine if_neg ?_
  rw [hworks, hshort]
  simp

end

/-! ## Chunks that the trees bring (R338, R342) -/

theorem fromColl_illFormed {s : State} {u : UnitId} {m : CollMsg} (hwf : m.wf = false) (near : TreeRec → Bool)
    (f : CtxId → TreeRec → Coll → State → State) : s.fromColl u m near f = .fault .illFormed := by
  rw [State.fromColl, hwf]
  rfl

/-- A chunk that an admitted message brings for a declared collective of the open step. -/
structure State.Brings (s : State) (u : UnitId) (m : CollMsg) (x : CtxId) (k : Coll) (r : TreeRec) : Prop where
  wf : m.wf = true
  admitted : s.admitted u mCOLL m.job = some x
  isOpen : ((s.treeBump x.val 1 1).ctxOf x.val).isOpen = true
  step : m.step = ((s.treeBump x.val 1 1).ctxOf x.val).step
  coll : (s.treeBump x.val 1 1).openColl x m.coll.val m.tile.toNat = some k
  tree : (s.treeBump x.val 1 1).treeRec x.val (k.treeOf m.chunk) = some r
  form : m.fp32 = k.sumsFp32

section
variable {s : State} {u : UnitId} {m : CollMsg} {x : CtxId} {k : Coll} {r : TreeRec} (h : s.Brings u m x k r)
  {near : TreeRec → Bool} (f : CtxId → TreeRec → Coll → State → State)
include h

/-- A chunk of the declared form is decided by the unit that it comes from and by its CRC. -/
theorem fromColl_brings : s.fromColl u m near f =
    if near r = false then .next ((s.treeBump x.val 1 1).stray x)
    else if collCrc m.fp32 m.bitmap m.body ≠ m.crc then
      .next (((s.treeBump x.val 1 1).treeBump x.val 3 1).setMark x .crc
        (bytesLE 12 0 ++ bytesLE 4 m.tile.toNat ++ [if m.chunk then 1 else 0, 0]))
    else .next (f x r k (s.treeBump x.val 1 1)) := by
  obtain ⟨wf, admitted, isOpen, step, coll, tree, form⟩ := h
  have current : ¬ (!((s.treeBump x.val 1 1).ctxOf x.val).isOpen ||
      m.step != ((s.treeBump x.val 1 1).ctxOf x.val).step) = true := by
    rw [isOpen, bne_eq_false_iff_eq.mpr step]
    decide
  unfold State.fromColl
  rw [wf, if_neg (by decide), admitted]
  dsimp only
  rw [if_neg current, coll]
  dsimp only
  rw [tree]
  dsimp only
  rw [bne_eq_false_iff_eq.mpr form, Bool.or_false]
  cases near r <;> rfl

theorem fromColl_stray (hnear : near r = false) : s.fromColl u m near f = .next ((s.treeBump x.val 1 1).stray x) :=
  (fromColl_brings h f).trans (if_pos hnear)

theorem fromColl_crc (hnear : near r = true) (hcrc : collCrc m.fp32 m.bitmap m.body ≠ m.crc) :
    s.fromColl u m near f = .next (((s.treeBump x.val 1 1).treeBump x.val 3 1).setMark x .crc
      (bytesLE 12 0 ++ bytesLE 4 m.tile.toNat ++ [if m.chunk then 1 else 0, 0])) :=
  (fromColl_brings h f).trans ((if_neg (by rw [hnear]; decide)).trans (if_pos hcrc))

theorem fromColl_good (hnear : near r = true) (hcrc : collCrc m.fp32 m.bitmap m.body = m.crc) :
    s.fromColl u m near f = .next (f x r k (s.treeBump x.val 1 1)) :=
  (fromColl_brings h f).trans ((if_neg (by rw [hnear]; decide)).trans (if_neg (not_not.mpr hcrc)))

end

/-- R353: a leaf of the tree sends nothing on. -/
theorem collDown_leaf (s : State) (x : CtxId) {r : TreeRec} (hleaf : treeChildren r = []) (m : CollMsg) :
    s.collDown x r m = s := by
  unfold State.collDown State.sendDown
  rw [hleaf]
  rfl

/-- R353: at a leaf, with no chunk waiting, a DOWN chunk is written and its slot is freed. -/
theorem collDown_writes {s : State} {u : UnitId} {m : CollMsg} {x : CtxId} {k : Coll} {r : TreeRec}
    (h : s.Brings u m x k r) (hparent : r.parent.toNat = u.val) (hheld : k.held = []) (hleaf : treeChildren r = [])
    (hcrc : collCrc m.fp32 m.bitmap m.body = m.crc) :
    execCollDown u m s = .next (((s.treeBump x.val 1 1).writeChunk x m.coll.val k m.tile.toNat m.chunk
      (chunkOf m.fp32 m.bitmap m.poison m.nan m.body)).modColl x m.coll.val (fun k => k.freeSlot m.tile m.chunk)) := by
  have parent : treeParentIs r u.val = true :=
    (treeParentIs_iff (not_serverPort_of_admitted (.inr (.inr rfl)) h.admitted)).mpr hparent
  refine (fromColl_good h _ parent hcrc).trans (congrArg Host.Outcome.next ?_)
  dsimp only
  rw [collDown_leaf _ _ hleaf, hheld]
  rfl

/-- Settles O41. A chunk that is brought is decided by the neighbour it comes from and by its CRC. -/
theorem collectiveChunks : Obligations.CollectiveChunks := by
  unfold Obligations.CollectiveChunks
  intro s u m x tile k r hworks c
  refine ⟨fun n hk => ⟨?source, ?deadline⟩, ?illFormed, ?messages⟩
  case source =>
    exact fun chunk hwritten hlock hmoving hown hr => (exec_collSourceWritten ..).trans
      (collSourceWritten_takes hworks hk hwritten hlock hmoving hown hr)
  case deadline => exact fun hshort => (exec_collDeadline ..).trans (collDeadline_poisons hworks hk hshort)
  case illFormed =>
    exact fun hwf => ⟨(exec_collUp ..).trans (fromColl_illFormed hwf _ _),
      (exec_collDown ..).trans (fromColl_illFormed hwf _ _)⟩
  case messages =>
    intro t hwf ha hopen hstep hcoll htree hform
    have brings : s.Brings u m x k r := ⟨hwf, ha, hopen, hstep, hcoll, htree, hform⟩
    have port := not_serverPort_of_admitted (.inr (.inr rfl)) ha
    refine ⟨?up, ?crc, ?upStray, ?downStray, ?down⟩
    case up => exact fun hchild hcrc => (exec_collUp ..).trans (fromColl_good brings _ hchild hcrc)
    case crc => exact fun hchild hcrc => (exec_collUp ..).trans (fromColl_crc brings _ hchild hcrc)
    case upStray => exact fun hchild => (exec_collUp ..).trans (fromColl_stray brings _ hchild)
    case downStray =>
      exact fun hne => (exec_collDown ..).trans (fromColl_stray brings _ (treeParentIs_false port hne))
    case down =>
      exact fun hparent hheld hleaf hcrc => (exec_collDown ..).trans
        (collDown_writes brings hparent hheld hleaf hcrc)

end Sys2Proof.Machine
end

section
/-! PROOFS. Flits in sequence (R307, R315 to R321, R324, R329, R341). -/

set_option linter.unusedVariables false

namespace Sys2Proof.Machine

open Sys2Proof

theorem exec_flitReceive (u : UnitId) (a : FlitArrival) (s : State) :
    exec (.flitReceive u a) s = execFlitReceive u a s := rfl
theorem exec_replayTimeout (u : UnitId) (s : State) : exec (.replayTimeout u) s = execReplayTimeout u s := rfl
theorem exec_messageAdmission (u : UnitId) (t : Byte) (job : W16) (s : State) :
    exec (.messageAdmission u t job) s = execMessageAdmission u t job s := rfl

/-! ## The transmitter (R315 to R321) -/

/-- What a transmitter that sends waiting flits may change. -/
def LinkUnit.sending (k : LinkUnit) : LinkUnit :=
  { k with wire := [], cvc := 0, txSeq := 0, txCount := [], replay := [], txWait := [] }

theorem sendFlit_sending (k : LinkUnit) (f : Flit) : (k.sendFlit f).sending = k.sending := rfl

theorem drain_sending (k : LinkUnit) : k.drain.sending = k.sending := by
  unfold LinkUnit.drain
  split
  · rfl
  · dsimp only
    generalize passed : List.foldl _ (k, ([] : List Flit)) k.txWait = r
    have kept : r.1.sending = k.sending := by
      rw [← passed]
      refine List.foldlRecOn (motive := fun r : LinkUnit × List Flit => r.1.sending = k.sending) k.txWait _ rfl
        fun r kept f _ => ?_
      split
      · exact kept
      · exact (sendFlit_sending ..).trans kept
    exact kept

section
variable (k : LinkUnit)

@[simp] theorem drain_nextSeq : k.drain.nextSeq = k.nextSeq :=
  show k.drain.sending.nextSeq = k.sending.nextSeq from (drain_sending k) ▸ rfl
@[simp] theorem drain_nakSent : k.drain.nakSent = k.nakSent :=
  show k.drain.sending.nakSent = k.sending.nakSent from (drain_sending k) ▸ rfl
@[simp] theorem drain_ackSeq : k.drain.ackSeq = k.ackSeq :=
  show k.drain.sending.ackSeq = k.sending.ackSeq from (drain_sending k) ▸ rfl
@[simp] theorem drain_goBacks : k.drain.goBacks = k.goBacks :=
  show k.drain.sending.goBacks = k.sending.goBacks from (drain_sending k) ▸ rfl
@[simp] theorem drain_gangLow : k.drain.gangLow = k.gangLow :=
  show k.drain.sending.gangLow = k.sending.gangLow from (drain_sending k) ▸ rfl
@[simp] theorem drain_txq : k.drain.txq = k.txq :=
  show k.drain.sending.txq = k.sending.txq from (drain_sending k) ▸ rfl

/-- R318: with nothing waiting the replay buffer stays as it is. -/
theorem drain_replay (hnone : k.txWait = []) : k.drain.replay = k.replay := by
  unfold LinkUnit.drain
  split
  · rfl
  · rw [hnone]
    rfl

end

/-- R319: an ACK changes the replay buffer alone. -/
theorem acked_frame (k : LinkUnit) (a : BitVec 12) : ∃ replay, k.acked a = { k with replay := replay } := by
  unfold LinkUnit.acked
  split
  · exact ⟨_, rfl⟩
  · exact ⟨_, rfl⟩

/-- R319: the flits up to the one that an ACK names leave the replay buffer. -/
theorem acked_replay {k : LinkUnit} {older later : List Flit} {g : Flit} {a : BitVec 12}
    (hreplay : k.replay = older ++ g :: later) (hg : g.seq = a) (holder : ∀ o ∈ older, o.seq ≠ a) :
    (k.acked a).replay = later := by
  have kept : k.replay.any (fun f => f.seq == a) = true :=
    List.any_eq_true.mpr ⟨g, by rw [hreplay]; simp, beq_iff_eq.mpr hg⟩
  have found : k.replay.dropWhile (fun f => f.seq != a) = g :: later := by
    rw [hreplay, List.dropWhile_append_of_pos fun o ho => bne_iff_ne.mpr (holder o ho),
      List.dropWhile_cons_of_neg (by simp [hg])]
  rw [LinkUnit.acked, if_pos kept, found]
  rfl

section
variable (k : LinkUnit) (f : Flit)

/-- What the ACK and the CREDIT of a flit change. -/
theorem takeAck_keeps : (k.takeAck f).nextSeq = k.nextSeq ∧ (k.takeAck f).nakSent = k.nakSent ∧
    (k.takeAck f).gangLow = k.gangLow ∧ (k.takeAck f).ackSeq = f.ack ∧
    (k.takeAck f).goBacks = if f.ack = k.ackSeq then k.goBacks else 0 := by
  obtain ⟨replay, acked⟩ := acked_frame { k with
    goBacks := if f.ack = k.ackSeq then k.goBacks else 0, ackSeq := f.ack,
    credit := tput 0 k.credit f.cvc.val f.credit.toNat } f.ack
  unfold LinkUnit.takeAck
  rw [acked]
  exact ⟨drain_nextSeq _, drain_nakSent _, drain_gangLow _, drain_ackSeq _, drain_goBacks _⟩

theorem takeAck_replay {older later : List Flit} {g : Flit} (hreplay : k.replay = older ++ g :: later)
    (hg : g.seq = f.ack) (holder : ∀ o ∈ older, o.seq ≠ f.ack) (hnone : k.txWait = []) :
    (k.takeAck f).replay = later := by
  unfold LinkUnit.takeAck
  refine (drain_replay _ ?_).trans (acked_replay hreplay hg holder)
  obtain ⟨replay, acked⟩ := acked_frame { k with
    goBacks := if f.ack = k.ackSeq then k.goBacks else 0, ackSeq := f.ack,
    credit := tput 0 k.credit f.cvc.val f.credit.toNat } f.ack
  rw [acked]
  exact hnone

end

/-- R319: the flits that the replay buffer keeps go out again, in order. -/
theorem replayAll_wire (k : LinkUnit) :
    ∃ again : List Flit, k.replayAll.wire = k.wire ++ again ∧ again.map Flit.seq = k.replay.map Flit.seq := by
  have sends (fs : List Flit) (j : LinkUnit) : ∃ again : List Flit,
      (fs.foldl (fun k g => k.put false g) j).wire = j.wire ++ again ∧ again.map Flit.seq = fs.map Flit.seq := by
    induction fs generalizing j with
    | nil => exact ⟨[], (List.append_nil _).symm, rfl⟩
    | cons g fs ih =>
      obtain ⟨again, wire, seqs⟩ := ih (j.put false g)
      refine ⟨j.stamp false g :: again, wire.trans ?_, congrArg (g.seq :: ·) seqs⟩
      exact List.append_assoc ..
  unfold LinkUnit.replayAll
  cases k.replay with
  | nil => exact ⟨[], (List.append_nil _).symm, rfl⟩
  | cons f fs => exact sends ({ f with resync := f.seq != k.ackSeq + 1 } :: fs) k

/-- R315: the CRC covers all of a flit but itself. -/
theorem flitCrc_setCrc (f : Flit) (c : W32) : flitCrc { f with crc := c } = flitCrc f :=
  congrArg crc32c (show flitBytes { f with crc := c } = flitBytes f from rfl)

theorem stamp_crc (k : LinkUnit) (nak : Bool) (f : Flit) : (k.stamp nak f).crc = flitCrc (k.stamp nak f) :=
  (flitCrc_setCrc ..).symm

/-- R316: a NAK goes out in a CONTROL flit. -/
theorem nak_sends (k : LinkUnit) : ∃ g : Flit, k.nak.wire = k.wire ++ [g] ∧ g.nak = true ∧ g.ack = k.nextSeq - 1 ∧
    g.crc = flitCrc g := by
  have crc := stamp_crc { k with nakSent := true } true { kind := .control }
  exact ⟨LinkUnit.stamp { k with nakSent := true } true { kind := .control }, rfl, rfl, rfl, crc⟩

/-! ## The unit that leads a gang (R324) -/

theorem gangLead_congr {s t : State} (h : ∀ v, t.unitOf v = s.unitOf v) (u : Nat) : t.gangLead u = s.gangLead u := by
  rw [State.gangLead, h, State.gangLead]

theorem gangLead_putUnit {s : State} {l : Nat} {k : LinkUnit} (hk : k.gangLow = (s.unitOf l).gangLow) (u : Nat) :
    (s.putUnit l k).gangLead u = s.gangLead u := by
  unfold State.gangLead
  obtain rfl | hne := eq_or_ne u l
  · rw [State.putUnit_same, hk]
  · rw [State.putUnit_ne _ _ hne]

/-! ## A flit arrives (R307, R316, R319) -/

theorem codewordEnds_eq (s : State) (u : Nat) (wrong : List (Fin 544)) : s.codewordEnds u wrong =
    if wrong = [] then s else s.linkBump u (if wrong.eraseDups.length ≤ 15 then 0 else 1) 1 := by
  unfold State.codewordEnds
  refine if_congr List.isEmpty_iff rfl (congrArg (fun k => s.linkBump u k 1) ?_)
  exact if_congr decide_eq_true_iff rfl rfl

theorem codewordEnds_unitOf (s : State) (u : Nat) (wrong : List (Fin 544)) (v : Nat) :
    (s.codewordEnds u wrong).unitOf v = s.unitOf v := by
  unfold State.codewordEnds
  split
  · rfl
  · exact linkBump_unitOf ..

/-- The module once a good flit's ACK has been taken. -/
theorem takeAck_good {s : State} {u : UnitId} {f : Flit} (wrong : List (Fin 544)) (hnak : f.nak = false) :
    (s.codewordEnds u.val wrong).takeAck u.val f =
    (s.codewordEnds u.val wrong).putUnit (s.gangLead u.val) ((s.unitOf (s.gangLead u.val)).takeAck f) := by
  have plain : ¬ f.nak = true := by rw [hnak]; exact Bool.false_ne_true
  unfold State.takeAck
  dsimp only
  rw [if_neg plain, State.modUnit, codewordEnds_unitOf, gangLead_congr (codewordEnds_unitOf s u.val wrong)]

section
variable {s : State} {u : UnitId} {f : Flit} {wrong : List (Fin 544)} (hworks : s.mode.works = true)
  (hactive : (s.unitOf u.val).state = .active) (hwf : f.wf = true)
include hworks hactive hwf

/-- An ACTIVE unit takes a well-formed flit. -/
theorem flitReceive_guard : ¬ (!f.wf) = true ∧
    ¬ (!s.mode.works || (s.unitOf u.val).state != .active) = true := by
  rw [hwf, hworks, hactive]
  decide

/-- R316: a flit with a bad CRC or a reserved bit set is discarded and answered with NAK. -/
theorem flitReceive_bad (hbad : f.reservedSet = true ∨ f.crc ≠ flitCrc f) : execFlitReceive u ⟨f, wrong⟩ s =
    .next ((((s.codewordEnds u.val wrong).putUnit (s.gangLead u.val) (s.unitOf (s.gangLead u.val)).nak).linkBump
      u.val 2 1).scoreUnit u.val 1) := by
  obtain ⟨wf, takes⟩ := flitReceive_guard hworks hactive hwf
  have bad : (f.reservedSet || f.crc != flitCrc f) = true := by simpa using hbad
  unfold execFlitReceive
  dsimp only
  rw [if_neg wf, if_neg takes, if_pos bad, State.modUnit, codewordEnds_unitOf,
    gangLead_congr (codewordEnds_unitOf s u.val wrong)]

variable (hgood : ¬ (f.reservedSet = true ∨ f.crc ≠ flitCrc f)) (hnak : f.nak = false)
include hgood hnak

theorem flitReceive_other (hkind : f.kind ≠ .data) : execFlitReceive u ⟨f, wrong⟩ s =
    .next ((s.codewordEnds u.val wrong).putUnit (s.gangLead u.val) ((s.unitOf (s.gangLead u.val)).takeAck f)) := by
  obtain ⟨wf, takes⟩ := flitReceive_guard hworks hactive hwf
  have good : ¬ (f.reservedSet || f.crc != flitCrc f) = true := by simpa using hgood
  unfold execFlitReceive
  dsimp only
  rw [if_neg wf, if_neg takes, if_neg good, takeAck_good wrong hnak]
  split
  · exact absurd ‹_› hkind
  · rfl

/-- R319: a DATA flit is taken in sequence, and refused once out of it. -/
theorem flitReceive_data (hkind : f.kind = .data) (hresync : f.resync = false) :
    let l := s.gangLead u.val
    let acked := (s.unitOf l).takeAck f
    let t := (s.codewordEnds u.val wrong).putUnit l acked
    execFlitReceive u ⟨f, wrong⟩ s = if f.seq ≠ (s.unitOf l).nextSeq then
        .next (if (s.unitOf l).nakSent then t else t.putUnit l acked.nak)
      else .next (t.putUnit l (acked.takeData f)) := by
  intro l acked t
  obtain ⟨wf, takes⟩ := flitReceive_guard hworks hactive hwf
  obtain ⟨nextSeq, nakSent, gangLow, -, -⟩ := takeAck_keeps (s.unitOf l) f
  have good : ¬ (f.reservedSet || f.crc != flitCrc f) = true := by simpa using hgood
  have plain : ¬ f.resync = true := by rw [hresync]; exact Bool.false_ne_true
  have lead : t.gangLead u.val = l :=
    (gangLead_putUnit (gangLow.trans (congrArg LinkUnit.gangLow (codewordEnds_unitOf ..).symm)) u.val).trans
      (gangLead_congr (codewordEnds_unitOf s u.val wrong) u.val)
  have own : t.unitOf l = acked := State.putUnit_same ..
  unfold execFlitReceive
  dsimp only
  rw [if_neg wf, if_neg takes, if_neg good, takeAck_good wrong hnak, hkind]
  dsimp only
  rw [if_neg plain, lead, own, nextSeq, nakSent]

theorem flitReceive_inSequence (hkind : f.kind = .data) (hresync : f.resync = false)
    (hseq : f.seq = (s.unitOf (s.gangLead u.val)).nextSeq) : execFlitReceive u ⟨f, wrong⟩ s =
      .next ((s.codewordEnds u.val wrong).putUnit (s.gangLead u.val)
        (((s.unitOf (s.gangLead u.val)).takeAck f).takeData f)) := by
  rw [flitReceive_data hworks hactive hwf hgood hnak hkind hresync, if_neg (not_not.mpr hseq), State.putUnit_again]

theorem flitReceive_outOfSequence (hkind : f.kind = .data) (hresync : f.resync = false)
    (hseq : f.seq ≠ (s.unitOf (s.gangLead u.val)).nextSeq) : execFlitReceive u ⟨f, wrong⟩ s =
      .next ((s.codewordEnds u.val wrong).putUnit (s.gangLead u.val)
        (if (s.unitOf (s.gangLead u.val)).nakSent = true then (s.unitOf (s.gangLead u.val)).takeAck f
          else ((s.unitOf (s.gangLead u.val)).takeAck f).nak)) := by
  rw [flitReceive_data hworks hactive hwf hgood hnak hkind hresync, if_pos hseq, State.putUnit_again]
  split
  · rfl
  · rfl

end

/-! ## The replay time-out (R319) -/

theorem replayTimeout_goesBack {s : State} {u : UnitId} (hworks : s.mode.works = true)
    (hactive : (s.unitOf u.val).state = .active) (hkept : (s.unitOf (s.gangLead u.val)).replay ≠ []) :
    execReplayTimeout u s = .next (((s.putUnit (s.gangLead u.val) { s.unitOf (s.gangLead u.val) with
      goBacks := (s.unitOf (s.gangLead u.val)).goBacks + 1 }.replayAll).linkBump u.val 3 1).scoreUnit u.val 2) := by
  refine (if_pos ?_).trans (congrArg Host.Outcome.next (if_neg hkept))
  rw [hworks, hactive]
  decide

/-! ## Messages admitted (R329, R341) -/

section
variable {s : State} {u : UnitId} {mtype : Byte} {job : W16} {d : Delivered} (hworks : s.mode.works = true)
  (hactive : (s.unitOf u.val).state = .active)
  (hd : (s.unitOf (s.gangLead u.val)).delivered.find? (fun d => d.mtype == mtype && d.job == job) = some d)
  (hjob : job ≠ 0) (hlink : mtype ≠ 1) (htime : mtype ≠ 2)
include hworks hactive hd hjob hlink htime

/-- R329: a message of a context leaves the receive buffer, and goes on by its context and its MTYPE. -/
theorem messageAdmission_releases :
    let t := s.putUnit (s.gangLead u.val) ((s.unitOf (s.gangLead u.val)).release d)
    execMessageAdmission u mtype job s = match t.ctxOfJob job with
      | none => .next (t.linkBump u.val 6 1)
      | some x =>
        if !t.unitOpen u.val x then .next (t.linkBump u.val 7 1)
        else if mtypeAdmitted u.val mtype then
          .next (if mtype = mSTEP ∧ stepSubtype d.subtype = false then t.stray (Fin.ofNat 8 x) else t)
        else if mtype = 0x12 then .next (t.brimBump (brimOf u.val) 2 1)
        else .next (t.linkBump u.val 6 1) := by
  intro t
  have takes : ¬ (!s.mode.works || (s.unitOf u.val).state != .active) = true := by
    rw [hworks, hactive]
    decide
  have context : (mtype == 0x01 || mtype == 0x02) = false :=
    Bool.or_eq_false_iff.mpr ⟨beq_eq_false_iff_ne.mpr hlink, beq_eq_false_iff_ne.mpr htime⟩
  unfold execMessageAdmission
  dsimp only
  rw [hd]
  dsimp only
  rw [if_neg takes, context, beq_eq_false_iff_ne.mpr hjob]
  rfl

end

/-- Settles O42. A flit is refused, only acknowledged, taken, or answered with one NAK; draining what waits leaves the
sequence and the ACK alone. -/
theorem flitsInSequence : Obligations.FlitsInSequence := by
  unfold Obligations.FlitsInSequence
  intro s u f wrong mtype job hworks hactive l k s1 bad acked
  have ended : s.codewordEnds u.val wrong = s1 := codewordEnds_eq ..
  obtain ⟨nextSeq, -, -, ackSeq, goBacks⟩ := takeAck_keeps k f
  refine ⟨?lead, ?illFormed, ?bad, ?nak, ?other, ?acked, ?data, ?timeout, replayAll_wire k, ?admission⟩
  case lead => exact fun hnone => by unfold l State.gangLead; rw [hnone]; rfl
  case illFormed => exact fun hwf => (exec_flitReceive ..).trans (if_pos (by rw [hwf]; rfl))
  case bad =>
    intro hwf hbad
    rw [← ended]
    exact (exec_flitReceive ..).trans (flitReceive_bad hworks hactive hwf hbad)
  case nak => exact ⟨rfl, nak_sends k⟩
  case other =>
    intro hwf hgood hnak hkind
    rw [← ended]
    exact (exec_flitReceive ..).trans (flitReceive_other hworks hactive hwf hgood hnak hkind)
  case acked =>
    exact ⟨ackSeq, goBacks, fun older later g hreplay hg holder hnone => takeAck_replay k f hreplay hg holder hnone⟩
  case data =>
    intro hwf hgood hnak hkind hresync
    rw [← ended]
    refine ⟨fun hseq => ⟨?_, congrArg (· + 1) nextSeq⟩, fun hseq => ?_⟩
    · exact (exec_flitReceive ..).trans
        (flitReceive_inSequence hworks hactive hwf hgood hnak hkind hresync hseq)
    · exact (exec_flitReceive ..).trans
        (flitReceive_outOfSequence hworks hactive hwf hgood hnak hkind hresync hseq)
  case timeout => exact fun hkept => (exec_replayTimeout ..).trans (replayTimeout_goesBack hworks hactive hkept)
  case admission =>
    intro d hd hjob hlink htime t
    have releases := (exec_messageAdmission u mtype job s).trans
      (messageAdmission_releases hworks hactive hd hjob hlink htime)
    refine ⟨rfl, fun hnone => ?_, fun x hx hclosed => ?_, fun x hx hopen hmtype => ?_⟩
    · rw [hnone] at releases
      exact releases
    · rw [hx] at releases
      exact releases.trans (if_pos (by rw [hclosed]; rfl))
    · rw [hx] at releases
      exact releases.trans ((if_neg (by rw [hopen]; exact Bool.false_ne_true)).trans (if_pos hmtype))

end Sys2Proof.Machine
end

section
/-! PROOFS. Links and the time base (R308, R311 to R314, R321 to R323, R326 to R328, R486). -/

set_option linter.unusedVariables false

namespace Sys2Proof.Machine

open Sys2Proof

theorem exec_trainingStage (u : UnitId) (o : StageOutcome) (s : State) :
    exec (.trainingStage u o) s = execTrainingStage u o s := rfl
theorem exec_trainingStageFail (u : UnitId) (s : State) :
    exec (.trainingStageFail u) s = execTrainingStageFail u s := rfl
theorem exec_trainingRestart (u : UnitId) (s : State) :
    exec (.trainingRestart u) s = execTrainingRestart u s := rfl
theorem exec_fastRetrain (u : UnitId) (s : State) : exec (.fastRetrain u) s = execFastRetrain u s := rfl
theorem exec_laneLoss (u : UnitId) (rx : Bool) (lane : Fin 9) (s : State) :
    exec (.laneLoss u rx lane) s = execLaneLoss u rx lane s := rfl
theorem exec_laneSpareSwitch (u : UnitId) (rx : Bool) (lane : Fin 9) (s : State) :
    exec (.laneSpareSwitch u rx lane) s = execLaneSpareSwitch u rx lane s := rfl
theorem exec_linkMsg (u : UnitId) (m : LinkMsg) (s : State) : exec (.linkMsg u m) s = execLinkMsg u m s := rfl
theorem exec_equaliserCheck (u : UnitId) (s : State) : exec (.equaliserCheck u) s = execEqualiserCheck u s := rfl
theorem exec_timeMsg (u : UnitId) (m : TimeMsg) (s : State) : exec (.timeMsg u m) s = execTimeMsg u m s := rfl
theorem exec_timeExchange (s : State) : exec .timeExchange s = execTimeExchange s := rfl
theorem exec_holdover (s : State) : exec .holdover s = execHoldover s := rfl

/-! ## Training (R311 to R314) -/

/-- A unit that trains is at the stage that its end names. -/
theorem stage_guard {k : LinkUnit} {g : TrainStage} (htrains : k.trains = true) (hstage : k.stage = g) :
    ¬ (!k.trains || decide (k.stage ≠ g)) = true := by
  rw [htrains, hstage]
  simp

section
variable {s : State} {u : UnitId} (hworks : s.mode.works = true) (hstop : (s.unitOf u.val).hostStop = false)
include hworks hstop

/-- A unit that the host has not stopped goes on with its stage. -/
theorem trainingStage_guard : ¬ (!s.mode.works || (s.unitOf u.val).hostStop) = true := by
  rw [hworks, hstop]
  decide

theorem trainingStage_wait {signal : BitVec 9} (hstate : (s.unitOf u.val).state = .wait)
    (hsignal : 4 ≤ popcount signal) : execTrainingStage u (.wait signal) s = .next (s.putUnit u.val
      { s.unitOf u.val with state := .training, stage := .lock, badRx := ~~~signal }) :=
  (if_neg (trainingStage_guard hworks hstop)).trans
    (if_neg (fun bad => bad.elim (fun h => h hstate) (Nat.not_lt.mpr hsignal)))

variable (htrains : (s.unitOf u.val).trains = true)
include htrains

theorem trainingStage_lock (lanes : BitVec 576) (hstage : (s.unitOf u.val).stage = .lock)
    (hslow : (s.unitOf u.val).fastRetrain = false) (hself : (s.unitOf u.val).hostTrained = false) :
    execTrainingStage u (.lock lanes) s = .next (s.putUnit u.val { s.unitOf u.val with stage := .eq }) :=
  (if_neg (trainingStage_guard hworks hstop)).trans ((if_neg (stage_guard htrains hstage)).trans
    ((if_neg (fun fast => Bool.false_ne_true (hslow.symm.trans fast))).trans
      (if_neg (fun host => Bool.false_ne_true (hself.symm.trans host)))))

theorem trainingStage_lockFast (lanes : BitVec 576) (hstage : (s.unitOf u.val).stage = .lock)
    (hfast : (s.unitOf u.val).fastRetrain = true) :
    execTrainingStage u (.lock lanes) s = .next (s.putUnit u.val { s.unitOf u.val with stage := .align }) :=
  (if_neg (trainingStage_guard hworks hstop)).trans ((if_neg (stage_guard htrains hstage)).trans (if_pos hfast))

theorem trainingStage_eq (lanes : BitVec 576) (hstage : (s.unitOf u.val).stage = .eq)
    (hself : (s.unitOf u.val).hostTrained = false) : execTrainingStage u (.eq lanes) s = .next (s.putUnit u.val
      { s.unitOf u.val with stage := .align }) :=
  (if_neg (trainingStage_guard hworks hstop)).trans
    ((if_neg (stage_guard htrains hstage)).trans (if_neg (by rw [hself]; exact Bool.false_ne_true)))

theorem trainingStage_align (badTx badRx : BitVec 9) (hstage : (s.unitOf u.val).stage = .align)
    (hfast : (s.unitOf u.val).fastRetrain = true) :
    execTrainingStage u (.align badTx badRx) s = .next (s.alignUnit u.val badTx badRx) := by
  refine (if_neg (trainingStage_guard hworks hstop)).trans
    ((if_neg (stage_guard htrains hstage)).trans ?_)
  rw [hfast]
  rfl

/-- R314: an IDENT of the right kind gives the peer. -/
theorem trainingStage_ident {kind : PeerKind} (serial : BitVec 48) (unit : BitVec 7)
    (hstage : (s.unitOf u.val).stage = .ident) (hkind : kind = .server ↔ isServerPort u.val = true) :
    execTrainingStage u (.ident kind serial unit true) s = .next (s.putUnit u.val
      { s.unitOf u.val with peer := some kind, serial := serial, peerUnit := unit, stage := .rtt }) := by
  have agrees : ¬ ((kind = .server) ≠ (isServerPort u.val = true) ∨ (!true) = true) :=
    fun bad => bad.elim (fun h => h (propext hkind)) (by decide)
  refine (if_neg (trainingStage_guard hworks hstop)).trans
    ((if_neg (stage_guard htrains hstage)).trans (congrArg Host.Outcome.next ?_))
  unfold State.identUnit
  dsimp only
  rw [if_neg agrees, State.modUnit, modUnit_unitOf, State.modUnit, State.putUnit_again]

theorem trainingStage_rtt (ns : W16) (hstage : (s.unitOf u.val).stage = .rtt)
    (hchild : (s.unitOf u.val).timeParent = false) : execTrainingStage u (.rtt ns) s = .next
      ((s.putUnit u.val { s.unitOf u.val with
        state := .active, stage := .lock, fastRetrain := false, failures := 0 }).modUnit (s.gangLead u.val)
          LinkUnit.drain) := by
  have lead : (s.putUnit u.val { s.unitOf u.val with
      state := .active, stage := .lock, fastRetrain := false, failures := 0 }).gangLead u.val = s.gangLead u.val :=
    gangLead_putUnit (by rfl) u.val
  refine (if_neg (trainingStage_guard hworks hstop)).trans
    ((if_neg (stage_guard htrains hstage)).trans ?_)
  dsimp only
  rw [if_neg (fun parent => Bool.false_ne_true (hchild.symm.trans parent)), lead]

end

theorem unitSend_active {s : State} {u : UnitId} (hactive : (s.unitOf u.val).state = .active) (m : OutMsg) :
    s.unitSend u.val m = s.transmit u.val 0 m := if_pos (.inl hactive)

section
variable {s : State} {u : UnitId} (hworks : s.mode.works = true)
include hworks

/-- R312: a unit that trains has a stage that can fail. -/
theorem trainingStageFail_fails (htrains : (s.unitOf u.val).trains = true) :
    execTrainingStageFail u s = .next (s.stageFails u.val) :=
  if_pos (Bool.and_eq_true_iff.mpr ⟨hworks, htrains⟩)

/-- R314: a DOWN unit trains again, unless its peer had the wrong role. -/
theorem trainingRestart_begins (hdown : (s.unitOf u.val).state = .down) (hon : (s.unitOf u.val).enabled = true)
    (hcause : (s.unitOf u.val).cause ≠ .role) : execTrainingRestart u s = .next (s.beginTraining u.val) := by
  refine if_pos ?_
  rw [hworks, hdown, hon, bne_iff_ne.mpr hcause]
  rfl

/-! ## Units in service (R321 to R323, R486) -/

variable (hactive : (s.unitOf u.val).state = .active)
include hactive

theorem fastRetrain_begins (hbacks : 8 ≤ (s.unitOf u.val).goBacks) :
    execFastRetrain u s = .next (s.beginRetrain u.val) := by
  refine if_pos ?_
  rw [hworks, hactive, decide_eq_true hbacks]
  rfl

theorem equaliserCheck_sends :
    execEqualiserCheck u s = .next (s.transmit u.val 0 (.link .equaliserCheck)) := by
  refine (if_pos ?_).trans (congrArg Host.Outcome.next (unitSend_active hactive _))
  rw [hworks, hactive]
  rfl

end

theorem markBad_state (k : LinkUnit) (rx : Bool) (lane : Nat) : (k.markBad rx lane).state = k.state := by
  cases rx <;> rfl

theorem laneScored_state (k : LinkUnit) (rx : Bool) (lane : Fin 9) (n : Nat) :
    (k.laneScored rx lane n).state = k.state := by
  cases rx <;> rfl

/-- R323: a lane that stops in service starts a fast retrain. -/
theorem laneLoss_active {s : State} {u : UnitId} (hworks : s.mode.works = true)
    (hactive : (s.unitOf u.val).state = .active) (rx : Bool) (lane : Fin 9) :
    execLaneLoss u rx lane s = .next ((s.putUnit u.val
      ((((s.unitOf u.val).markBad rx lane.val).laneScored rx lane 64).laneScored rx lane 16)).beginRetrain u.val) := by
  refine (if_neg ?_).trans (if_pos ?_)
  · rw [hworks, hactive]
    exact Bool.false_ne_true
  · rw [laneScored_state, markBad_state, hactive]

/-- What a unit has beside the flits of its transmitter and its score: its state, its lanes and its queue. -/
def LinkUnit.lanes (k : LinkUnit) : LinkUnit := { k.sending with score := 0 }

theorem txq_of_sending {k j : LinkUnit} (h : k.sending = j.sending) : k.txq = j.txq :=
  show k.sending.txq = j.sending.txq from h ▸ rfl

theorem lanes_of_sending {k j : LinkUnit} {n : W16} (h : k.sending = j.sending) :
    { k with score := n }.lanes = j.lanes := congrArg (fun i : LinkUnit => { i with score := 0 }) h

section
variable {k j : LinkUnit} (h : k.lanes = j.lanes)
include h

theorem txq_of_lanes : k.txq = j.txq := show k.lanes.txq = j.lanes.txq from h ▸ rfl
theorem bad_of_lanes (rx : Bool) : k.bad rx = j.bad rx := show k.lanes.bad rx = j.lanes.bad rx from h ▸ rfl
theorem spare_of_lanes (rx : Bool) : (if rx then k.rxSpare else k.txSpare) = if rx then j.rxSpare else j.txSpare :=
  show (if rx then k.lanes.rxSpare else k.lanes.txSpare) = if rx then j.lanes.rxSpare else j.lanes.txSpare from h ▸ rfl

end

theorem transmit_sending (s : State) (u : Nat) (job : W16) (m : OutMsg) :
    ((s.transmit u job m).unitOf u).sending = { s.unitOf u with txq := (s.unitOf u).txq ++ [m] }.sending := by
  have queued : (s.modUnit u (fun k => { k with txq := k.txq ++ [m] })).unitOf u =
      { s.unitOf u with txq := (s.unitOf u).txq ++ [m] } := modUnit_unitOf ..
  unfold State.transmit
  dsimp only
  generalize s.modUnit u (fun k => { k with txq := k.txq ++ [m] }) = t at queued ⊢
  obtain same | other := eq_or_ne u (t.gangLead u)
  · rw [← same, modUnit_unitOf, drain_sending, queued]
    rfl
  · rw [modUnit_unitOf_ne _ _ other, queued]

theorem transmit_txq (s : State) (u : Nat) (job : W16) (m : OutMsg) :
    ((s.transmit u job m).unitOf u).txq = (s.unitOf u).txq ++ [m] :=
  txq_of_sending (transmit_sending s u job m)

/-! ## The spare lane (R322) -/

/-- A unit with a lane copied onto its spare lane. -/
def LinkUnit.spared (k : LinkUnit) (rx : Bool) (lane : Nat) : LinkUnit :=
  let k := k.markBad rx lane
  if rx then { k with rxSpare := spareFor k.badRx } else { k with txSpare := spareFor k.badTx }

/-- R322: with one bad lane the spare stands in for it. -/
theorem spareFor_twoPow : ∀ lane : Fin 9, lane.val < 8 →
    spareFor (BitVec.twoPow 9 lane.val) = BitVec.ofNat 4 lane.val := by decide

theorem spared_lanes {k : LinkUnit} {rx : Bool} {lane : Fin 9} (hbad : k.bad rx = 0) (hlane : lane.val < 8) :
    (k.spared rx lane.val).bad rx = BitVec.twoPow 9 lane.val ∧
      (if rx then (k.spared rx lane.val).rxSpare else (k.spared rx lane.val).txSpare) = BitVec.ofNat 4 lane.val := by
  cases rx with
  | false =>
    have marked : k.badTx ||| BitVec.twoPow 9 lane.val = BitVec.twoPow 9 lane.val := by
      rw [show k.badTx = 0 from hbad]
      exact BitVec.zero_or
    exact ⟨marked, (congrArg spareFor marked).trans (spareFor_twoPow lane hlane)⟩
  | true =>
    have marked : k.badRx ||| BitVec.twoPow 9 lane.val = BitVec.twoPow 9 lane.val := by
      rw [show k.badRx = 0 from hbad]
      exact BitVec.zero_or
    exact ⟨marked, (congrArg spareFor marked).trans (spareFor_twoPow lane hlane)⟩

theorem record_unitOf (s : State) (p : Part) (host : Bool) (score : W16) (u : Nat) :
    (s.record p host score).unitOf u = s.unitOf u := by
  unfold State.record
  split
  · rfl
  · split
    · rfl
    · obtain ⟨rings, thread, raised⟩ := raise_frame
        { s with darn := { s.darn with unrecorded := s.darn.unrecorded ++ [p], patchFull := true } } .alarm 468 0
        srcModule none [w64 p.kind.toNat, w64 p.t0.toNat, w64 p.t1.toNat, w64 p.t2.toNat, w64 p.t3.toNat]
      rw [raised]
      rfl

/-- R322: a degrading lane of an ACTIVE unit is announced, counted and recorded. -/
theorem switchLane_lanes {s : State} {u : Nat} {rx : Bool} {lane : Fin 9} (host : Bool)
    (hactive : (s.unitOf u).state = .active) (hbad : (s.unitOf u).bad rx = 0) (hlane : lane.val < 8) :
    ((s.switchLane u rx lane host).unitOf u).lanes = { (s.unitOf u).spared rx lane.val with
      txq := (s.unitOf u).txq ++ [OutMsg.link (.laneCopy lane)] : LinkUnit }.lanes := by
  have switches : ¬ ((s.unitOf u).state ≠ .active ∨ lane.val = 8 ∨ (s.unitOf u).bad rx ≠ 0) := by
    rintro (h | h | h)
    · exact h hactive
    · omega
    · exact h hbad
  have state : ((s.unitOf u).spared rx lane.val).state = .active := by
    cases rx
    · exact hactive
    · exact hactive
  have queue : ((s.unitOf u).spared rx lane.val).txq = (s.unitOf u).txq := by cases rx <;> rfl
  have put : (s.putUnit u ((s.unitOf u).spared rx lane.val)).unitOf u = (s.unitOf u).spared rx lane.val :=
    State.putUnit_same ..
  have sent := transmit_sending (s.putUnit u ((s.unitOf u).spared rx lane.val)) u 0 (.link (.laneCopy lane))
  rw [put, queue] at sent
  unfold State.switchLane
  dsimp only
  rw [if_neg switches, record_unitOf, State.scoreUnit, modUnit_unitOf, linkBump_unitOf]
  have goes : (s.putUnit u ((s.unitOf u).spared rx lane.val)).unitSend u (.link (.laneCopy lane)) =
      (s.putUnit u ((s.unitOf u).spared rx lane.val)).transmit u 0 (.link (.laneCopy lane)) :=
    if_pos (.inl (by rw [put]; exact state))
  unfold LinkUnit.spared at goes sent ⊢
  dsimp only at goes sent ⊢
  rw [goes]
  exact lanes_of_sending sent

/-! ## The time base (R326 to R328) -/

/-- R326: an exchange changes the time base alone, which no context has to follow by a jump. -/
theorem takeTime_keeps (s : State) (t1 t2 t3 t4 : W64) (depth : Byte) :
    let t := s.takeTime t1 t2 t3 t4 depth
    t = { s with time := t.time, timeStatus := t.timeStatus } ∧ t.timeStatus.depth = depth + 1 ∧
      ((∃ e ∈ s.ctxs, e.2.live = true) → t.time = s.time) := by
  unfold State.takeTime
  extract_lets offset rtt base t free locks u
  unfold u
  split
  case isTrue steps =>
    refine ⟨rfl, rfl, ?_⟩
    rintro ⟨e, he, live⟩
    have none_live : free = true := by
      simp only [Bool.and_eq_true] at steps
      exact steps.1.2
    have dead := List.all_eq_true.mp none_live e he
    rw [live] at dead
    cases dead
  case isFalse => exact ⟨rfl, rfl, fun _ => rfl⟩

section
variable {s : State} (hworks : s.mode.works = true) {u : UnitId} (hactive : (s.unitOf u.val).state = .active)
include hworks hactive

theorem timeMsg_guard : ¬ (!s.mode.works || (s.unitOf u.val).state != .active) = true := by
  rw [hworks, hactive]
  decide

theorem timeMsg_request (t1 : W64) : execTimeMsg u (.request t1) s = .next (s.transmit u.val 0
    (.time (.answer t1 s.time s.time 0 s.timeStatus.depth))) :=
  (if_neg (timeMsg_guard hworks hactive)).trans (congrArg Host.Outcome.next (unitSend_active hactive _))

theorem timeMsg_answer (hparent : s.parentUnit = some u.val) (t1 t2 t3 t4 : W64) (depth : Byte) :
    execTimeMsg u (.answer t1 t2 t3 t4 depth) s = .next (s.takeTime t1 t2 t3 t4 depth) :=
  (if_neg (timeMsg_guard hworks hactive)).trans (if_pos hparent)

theorem timeExchange_asks (hparent : s.parentUnit = some u.val) (hstate : s.timeStatus.state ≠ .free) :
    execTimeExchange s = .next (s.transmit u.val 0 (.time (.request s.time))) := by
  unfold execTimeExchange
  rw [hparent]
  dsimp only
  rw [hworks, if_neg (by decide), if_neg hstate]
  exact congrArg Host.Outcome.next (unitSend_active hactive _)

end

/-- Settles O43. Each event goes on from the state of its unit; a message sent leaves all but the transmitter's flits
and the queue as they were. -/
theorem linksAndTimeBase : Obligations.LinksAndTimeBase := by
  unfold Obligations.LinksAndTimeBase
  refine ⟨?links, ?time⟩
  case links =>
    intro s u lanes signal badTx badRx kind serial unit ns rx lane hworks k goes
    refine ⟨fun hstop => ⟨?wait, fun htrains hself => ⟨?lock, ?lockFast, ?eq, ?align, ?ident, ?rtt⟩⟩,
      fun htrains => ⟨?fail, ?thirdFail, ?fastFail⟩, ?restart, ?retrain, ?laneLoss, ?switch, ?switched,
      fun hactive => ⟨?laneCopy, ?check, fun m => transmit_txq s u.val 0 m⟩, ?equaliser⟩
    case wait =>
      exact fun hstate hsignal => (exec_trainingStage ..).trans (trainingStage_wait hworks hstop hstate hsignal)
    case lock =>
      exact fun hstage hslow => (exec_trainingStage ..).trans
        (trainingStage_lock hworks hstop htrains lanes hstage hslow hself)
    case lockFast =>
      exact fun hstage hfast => (exec_trainingStage ..).trans
        (trainingStage_lockFast hworks hstop htrains lanes hstage hfast)
    case eq =>
      exact fun hstage => (exec_trainingStage ..).trans
        (trainingStage_eq hworks hstop htrains lanes hstage hself)
    case align =>
      exact fun hstage hfast => (exec_trainingStage ..).trans
        (trainingStage_align hworks hstop htrains badTx badRx hstage hfast)
    case ident =>
      exact fun hstage hkind => (exec_trainingStage ..).trans
        (trainingStage_ident hworks hstop htrains serial unit hstage hkind)
    case rtt =>
      exact fun hstage hchild => (exec_trainingStage ..).trans
        (trainingStage_rtt hworks hstop htrains ns hstage hchild)
    case fail =>
      exact fun hfast hfew => (exec_trainingStageFail ..).trans ((trainingStageFail_fails hworks htrains).trans
        (congrArg Host.Outcome.next ((if_neg (fun h => Bool.false_ne_true (hfast.symm.trans h))).trans
          (if_neg (Nat.not_le.mpr hfew)))))
    case thirdFail =>
      exact fun hfast hthird => (exec_trainingStageFail ..).trans ((trainingStageFail_fails hworks htrains).trans
        (congrArg Host.Outcome.next ((if_neg (fun h => Bool.false_ne_true (hfast.symm.trans h))).trans
          (if_pos hthird))))
    case fastFail =>
      exact fun hfast => (exec_trainingStageFail ..).trans ((trainingStageFail_fails hworks htrains).trans
        (congrArg Host.Outcome.next (if_pos hfast)))
    case restart =>
      exact fun hdown hon hcause => (exec_trainingRestart ..).trans (trainingRestart_begins hworks hdown hon hcause)
    case retrain => exact fun hactive hbacks => (exec_fastRetrain ..).trans (fastRetrain_begins hworks hactive hbacks)
    case laneLoss => exact fun hactive => (exec_laneLoss ..).trans (laneLoss_active hworks hactive rx lane)
    case switch => exact (exec_laneSpareSwitch ..).trans (if_pos hworks)
    case switched =>
      intro hactive hbad hlane
      have lanes := switchLane_lanes false hactive hbad hlane
      obtain ⟨bad, spare⟩ := spared_lanes hbad hlane
      exact ⟨_, (exec_laneSpareSwitch ..).trans (if_pos hworks), (bad_of_lanes lanes rx).trans bad,
        (spare_of_lanes lanes rx).trans spare, txq_of_lanes lanes⟩
    case laneCopy =>
      exact (exec_linkMsg ..).trans ((if_neg (by rw [hworks]; decide)).trans
        (congrArg Host.Outcome.next (unitSend_active hactive _)))
    case check => exact (exec_equaliserCheck ..).trans (equaliserCheck_sends hworks hactive)
    case equaliser => exact (exec_linkMsg ..).trans (if_neg (by rw [hworks]; decide))
  case time =>
    intro s u t1 t2 t3 t4 depth hworks k
    refine ⟨fun hactive => ⟨?request, ?answer, ?exchange⟩, ?noParent, ?holdover⟩
    case request => exact (exec_timeMsg ..).trans (timeMsg_request hworks hactive t1)
    case answer =>
      exact fun hparent => ⟨_, (exec_timeMsg ..).trans (timeMsg_answer hworks hactive hparent t1 t2 t3 t4 depth),
        takeTime_keeps s t1 t2 t3 t4 depth⟩
    case exchange =>
      exact fun hparent hstate => (exec_timeExchange s).trans (timeExchange_asks hworks hactive hparent hstate)
    case noParent =>
      intro hnone
      refine (exec_timeExchange s).trans ?_
      unfold execTimeExchange
      rw [hnone]
    case holdover =>
      refine fun hlocked => (exec_holdover s).trans (if_pos ?_)
      rw [hworks, hlocked]
      rfl

end Sys2Proof.Machine
end

section
/-! PROOFS. The command loop (R357, R369 to R372, R375): what a completion writes, and the checks that come before every
host command. -/

set_option linter.unusedVariables false

namespace Sys2Proof.Machine

open Sys2Proof

/-! ## A completion (R357, R371, R372) -/

/-- R371: what the completion of a held command writes. -/
theorem complete_held {s : State} {h : Hdr} {e : HeldCmd} (st : Byte) (d : W32) (nan : Bool) (r : List W64)
    (he : (s.mboxOf h.mbox.val).held.find? (fun e => e.hdr.seq == h.seq) = some e) :
    s.complete h st d nan r = { s.putMbox h.mbox.val { s.mboxOf h.mbox.val with
        held := (s.mboxOf h.mbox.val).held.filter (fun e => e.hdr.seq != h.seq),
        tail := (s.mboxOf h.mbox.val).tail + 1 } with
      hostOut := s.hostOut ++ (.completion
        { seq := h.seq, opcode := e.opcode, status := st, nan := nan, ctx := e.hdr.ctx, mbox := h.mbox,
          job := e.hdr.job, detail := d, time := s.time, result := r,
          phase := (s.mboxOf h.mbox.val).tail.toNat / 64 % 2 == 0, onB := s.throughB (s.mboxOf h.mbox.val) } ::
        (if e.irq && (s.mboxOf h.mbox.val).irqEn then [.vector (s.mboxOf h.mbox.val).vector] else [])) } := by
  unfold State.complete
  dsimp only
  rw [he]
  rfl

/-! ## The checks of R369 -/

section
variable {s : State} {h : Hdr} {r : CmdRow}

/-- R365, R369: the mailbox may not send the command. -/
theorem refusedMbox_iff : s.refusedMbox h r.admin = true ↔
    (r.admin = true ∧ (s.mboxOf h.mbox.val).admin = false ∧ h.mbox.val ≠ 0) ∨
      (h.ctx.toNat < 8 ∧ (s.mboxOf h.mbox.val).ctxMask.getLsbD h.ctx.toNat = false) := by
  simp only [State.refusedMbox, Bool.or_eq_true, Bool.and_eq_true, Bool.not_eq_true', Bool.or_eq_false_iff,
    beq_eq_false_iff_ne, decide_eq_true_eq]

/-- R368, R369: CTX or JOB is wrong, by the rule of the row for CTX. -/
theorem badJob_iff {c : CtxRule} : s.badJob h c = true ↔
    ((c = .names ∨ c = .creates) ∧ ¬ h.ctx.toNat < 8 ∨ c = .none ∧ h.ctx.toNat < 8) ∨
      (h.ctx.toNat < 8 ∧ c ≠ .creates ∧ h.job ≠ (s.ctxOf h.ctx.toNat).job ∨ ¬ h.ctx.toNat < 8 ∧ h.job ≠ 0) := by
  by_cases named : h.ctx.toNat < 8
  · cases c <;> simp [State.badJob, named]
  · cases c <;> simp [State.badJob, named]

/-- R375: the module is in no state of the row. -/
theorem outside_iff : (!r.states.contains s.mode || (s.mgmt.recovery && !r.recovery)) = true ↔
    s.mode ∉ r.states ∨ (s.mgmt.recovery = true ∧ r.recovery = false) := by
  rw [Bool.or_eq_true, Bool.and_eq_true, Bool.not_eq_true', Bool.not_eq_true', ← Bool.not_eq_true,
    List.contains_iff_mem]

variable (body : State → CmdEnd)

/-- R370: a command that is not to be taken does nothing. -/
theorem hostCommand_untaken (htakes : s.takes h r.opcode = false) : s.hostCommand h r body = .next s := by
  rw [State.hostCommand, htakes]
  rfl

variable (htakes : s.takes h r.opcode = true)
include htakes

/-- R369: a command that a check of its row stops completes with that check's status. -/
theorem hostCommand_stopped {b : Bad} (hbad : s.rowChecks h r = some b) :
    s.hostCommand h r body = s.finishes h b.1 b.2 := by
  rw [State.hostCommand, htakes, hbad]
  rfl

theorem hostCommand_refused (hrefused : s.refusedMbox h r.admin = true) :
    s.hostCommand h r body = s.finishes h stREFUSED := by
  refine hostCommand_stopped body htakes (b := (stREFUSED, noDetail)) ?_
  rw [State.rowChecks, hrefused]
  rfl

variable (hadmitted : ¬ s.refusedMbox h r.admin = true)
include hadmitted

theorem hostCommand_badJob (hbad : s.badJob h r.ctx = true) : s.hostCommand h r body = s.finishes h stBAD_ARG := by
  refine hostCommand_stopped body htakes (b := (stBAD_ARG, noDetail)) ?_
  rw [State.rowChecks, Bool.eq_false_of_not_eq_true hadmitted, hbad]
  rfl

variable (hjob : ¬ s.badJob h r.ctx = true)
include hjob

theorem hostCommand_outside (houtside : (!r.states.contains s.mode || (s.mgmt.recovery && !r.recovery)) = true) :
    s.hostCommand h r body = s.finishes h stNOT_READY := by
  refine hostCommand_stopped body htakes (b := (stNOT_READY, noDetail)) ?_
  rw [State.rowChecks, Bool.eq_false_of_not_eq_true hadmitted, Bool.eq_false_of_not_eq_true hjob, houtside]
  rfl

/-- R15: a reserved field that is set is the first of a command's own checks, where it has that check. -/
theorem hostCommand_reserved (hinside : ¬ (!r.states.contains s.mode || (s.mgmt.recovery && !r.recovery)) = true)
    (hlive : r.ctx = .names → (s.ctxOf h.ctx.toNat).live = true) (hset : h.rsv = true)
    (hchecked : r.rsvChecked = true) :
    s.hostCommand h r body = s.useFree.finishes h stBAD_ARG (BitVec.ofNat 32 s.rsvDetail) := by
  have named : (r.ctx == .names && !(s.ctxOf h.ctx.toNat).live) = false :=
    Bool.and_eq_false_imp.mpr fun names => by rw [hlive (eq_of_beq names)]; rfl
  have passes : s.rowChecks h r = none := by
    rw [State.rowChecks, Bool.eq_false_of_not_eq_true hadmitted, Bool.eq_false_of_not_eq_true hjob,
      Bool.eq_false_of_not_eq_true hinside, named]
    rfl
  rw [State.hostCommand, htakes, passes, hset, hchecked]
  rfl

end

/-- R369, R370, R375: what every host command does before its own rule. -/
theorem hostCommand_loop (s : State) (h : Hdr) (r : CmdRow) (body : State → CmdEnd) :
    let m := s.mboxOf h.mbox.val
    let named := h.ctx.toNat < 8
    let refused := (r.admin = true ∧ m.admin = false ∧ h.mbox.val ≠ 0) ∨
      (named ∧ m.ctxMask.getLsbD h.ctx.toNat = false)
    let badCtx := (r.ctx = .names ∨ r.ctx = .creates) ∧ ¬ named ∨ r.ctx = .none ∧ named
    let badJob := named ∧ r.ctx ≠ .creates ∧ h.job ≠ (s.ctxOf h.ctx.toNat).job ∨ ¬ named ∧ h.job ≠ 0
    let outside := s.mode ∉ r.states ∨ (s.mgmt.recovery = true ∧ r.recovery = false)
    (s.takes h r.opcode = false → s.hostCommand h r body = .next s) ∧
    (s.takes h r.opcode = true →
      (refused → s.hostCommand h r body = s.finishes h stREFUSED) ∧
      (¬ refused → badCtx ∨ badJob → s.hostCommand h r body = s.finishes h stBAD_ARG) ∧
      (¬ refused → ¬ (badCtx ∨ badJob) → outside → s.hostCommand h r body = s.finishes h stNOT_READY) ∧
      (¬ refused → ¬ (badCtx ∨ badJob) → ¬ outside → (r.ctx = .names → (s.ctxOf h.ctx.toNat).live = true) →
        h.rsv = true → r.rsvChecked = true →
        ∃ d, s.hostCommand h r body = (s.useFree).finishes h stBAD_ARG d)) := by
  intro m named refused badCtx badJob outside
  have refused_iff : s.refusedMbox h r.admin = true ↔ refused := refusedMbox_iff
  have bad_iff : s.badJob h r.ctx = true ↔ badCtx ∨ badJob := badJob_iff
  have outside_iff : (!r.states.contains s.mode || (s.mgmt.recovery && !r.recovery)) = true ↔ outside := outside_iff
  rw [← refused_iff, ← bad_iff, ← outside_iff]
  exact ⟨hostCommand_untaken body, fun htakes => ⟨hostCommand_refused body htakes,
    hostCommand_badJob body htakes, hostCommand_outside body htakes,
    fun hadmitted hjob hinside hlive hset hchecked =>
      ⟨_, hostCommand_reserved body htakes hadmitted hjob hinside hlive hset hchecked⟩⟩⟩

/-- Settles O44. Every host command is one row of the loop with a body of its own. -/
theorem hostCommandLoop : Obligations.HostCommandLoop := by
  unfold Obligations.HostCommandLoop
  refine ⟨?complete, ?rows⟩
  case complete =>
    intro s h e st d nan r m he t
    have written : t = _ := complete_held st d nan r he
    rw [written]
    refine ⟨rfl, State.putMbox_same .., fun n hn => State.putMbox_ne _ _ hn, ?_⟩
    rfl
  case rows =>
    intro s h cc ba rec rs pa ts wb sw bg step ca pw slot ctx key ls mask ps us fs wa kb ak addr len at_ fw fv ta mo re
      W M A m named e he
    obtain ⟨body, row⟩ : ∃ body, exec e.1 s = s.hostCommand h e.2 body := by
      fin_cases he <;> (dsimp only [exec, execMarkBad, execRestore, execHarden, State.darnCommand]; exact ⟨_, rfl⟩)
    rw [row]
    exact hostCommand_loop s h e.2 body

end Sys2Proof.Machine
end

section
/-! PROOFS. Mailboxes and the window (R357 to R369, R391, R504 to R507): doorbells, the configuration of a mailbox,
descriptors, accesses that fail, window writes, the records sent out of the rings, the mirror and the sample. -/

set_option linter.unusedVariables false

namespace Sys2Proof.Machine

open Sys2Proof

theorem exec_sqDb (m : MboxId) (v : W64) (n : Nat) (s : State) : exec (.sqDb m v n) s = execSqDb m v n s := rfl
theorem exec_cqDb (m : MboxId) (v : W64) (n : Nat) (s : State) : exec (.cqDb m v n) s = execCqDb m v n s := rfl
theorem exec_mboxCtrl (m : MboxId) (v : W64) (s : State) : exec (.mboxCtrl m v) s = execMboxCtrl m v s := rfl
theorem exec_descriptorFetch (m : MboxId) (d : Descriptor) (s : State) :
    exec (.descriptorFetch m d) s = execDescriptorFetch m d s := rfl
theorem exec_hostAccessDeadline (a : HostAccess) (s : State) :
    exec (.hostAccessDeadline a) s = execHostAccessDeadline a s := rfl
theorem exec_registerWrite (off : W16) (v : W64) (n : Nat) (s : State) :
    exec (.registerWrite off v n) s = execRegisterWrite off v n s := rfl
theorem exec_expCtrl (c : Fin 4) (v : W64) (s : State) : exec (.expCtrl c v) s = execExpCtrl c v s := rfl
theorem exec_expCons (c : Fin 4) (v : W64) (s : State) : exec (.expCons c v) s = execExpCons c v s := rfl
theorem exec_eventExport (c : Fin 4) (ok : Bool) (s : State) :
    exec (.eventExport c ok) s = execEventExport c ok s := rfl
theorem exec_mirrorUpdate (s : State) : exec .mirrorUpdate s = execMirrorUpdate s := rfl
theorem exec_civlinkPortDown (b : Bool) (s : State) : exec (.civlinkPortDown b) s = execCivlinkPortDown b s := rfl
theorem exec_civlinkPortActive (b : Bool) (s : State) :
    exec (.civlinkPortActive b) s = execCivlinkPortActive b s := rfl
theorem exec_telemSample (s : State) : exec .telemSample s = execTelemSample s := rfl

/-! ## Fields of a register -/

/-- A field of a register, as a shift and a cut or as an extract. -/
theorem setWidth_shift (v : W64) (start len : Nat) : (v >>> start).setWidth len = v.extractLsb' start len :=
  BitVec.eq_of_toNat_eq (by simp)

theorem low16_eq (v : W64) : low16 v = v.extractLsb' 0 16 := setWidth_shift v 0 16

/-! ## Doorbells (R364) -/

theorem windowUp_on {s : State} (hup : s.windowUp = true) : s.mode ≠ .off := by
  obtain ⟨-, on⟩ := Bool.and_eq_true_iff.mp hup
  exact bne_iff_ne.mp on

section
variable {s : State} (hup : s.windowUp = true) (m : MboxId) (v : W64) {n : Nat}
include hup

theorem sqDb_rings (hn : n = 8 ∨ n = 4) : execSqDb m v n s = .next (s.ringSq m.val (v.extractLsb' 0 16)) := by
  have size : doorbellSize n = true := by obtain rfl | rfl := hn <;> rfl
  rw [execSqDb, hup, size, low16_eq]
  rfl

theorem cqDb_rings (hn : n = 8 ∨ n = 4) : execCqDb m v n s = .next (s.ringCq m.val (v.extractLsb' 0 16)) := by
  have size : doorbellSize n = true := by obtain rfl | rfl := hn <;> rfl
  rw [execCqDb, hup, size, low16_eq]
  rfl

/-- R364: a doorbell of any other size counts in WIN_ERR. -/
theorem doorbell_size (h8 : n ≠ 8) (h4 : n ≠ 4) :
    execSqDb m v n s = .next s.winErr ∧ execCqDb m v n s = .next s.winErr := by
  have size : doorbellSize n = false := by simp [doorbellSize, h8, h4]
  rw [execSqDb, execCqDb, hup, size]
  exact ⟨rfl, rfl⟩

end

/-! ## The configuration of a mailbox (R365, R366) -/

/-- A mailbox with the configuration that a write of MBOX_CTRL gives. -/
def Mbox.configured (b : Mbox) (m : Nat) (v : W64) : Mbox :=
  { b with
    admin := m == 0 || v.getLsbD 1, preferB := v.getLsbD 2, irqEn := v.getLsbD 3, vector := v.extractLsb' 4 5,
    ctxMask := v.extractLsb' 16 8, seq0 := v.extractLsb' 32 32 }

theorem fixed_iff (b : Mbox) : b.fixed = true ↔ b.enable = true ∨ b.held ≠ [] := by
  rw [Mbox.fixed, Bool.or_eq_true, bne_iff_ne]

theorem not_fixed {b : Mbox} (hoff : b.enable = false) (hidle : b.held = []) : b.fixed = false := by
  rw [Mbox.fixed, hoff, hidle]
  rfl

/-- R365: while the configuration is fixed only the interrupt is set, and ENABLE and ERR are cleared. -/
theorem control_fixed {b : Mbox} (hfixed : b.fixed = true) (m : Nat) (v : W64) : b.control m v =
    if v.getLsbD 0 = false then { b with irqEn := v.getLsbD 3, enable := false, err := false, errCause := 0 }
    else if b.enable then { b with irqEn := v.getLsbD 3 }
    else if b.sqBase.toNat % 16384 ≠ 0 ∨ b.cqBase.toNat % 4096 ≠ 0 then
      { b with irqEn := v.getLsbD 3, err := true, errCause := 3 }
    else { b with irqEn := v.getLsbD 3, enable := true, expectSeq := b.seq0 } := by
  unfold Mbox.control
  dsimp only
  rw [if_pos hfixed]
  cases v.getLsbD 0 <;> rfl

/-- R365, R366: a mailbox that is idle and not enabled takes its configuration, and is enabled where its rings are
aligned. -/
theorem control_free {b : Mbox} (hoff : b.enable = false) (hidle : b.held = []) (m : Nat) {v : W64}
    (hset : v.getLsbD 0 = true) : b.control m v =
      if b.sqBase.toNat % 16384 ≠ 0 ∨ b.cqBase.toNat % 4096 ≠ 0 then
        { b.configured m v with err := true, errCause := 3 }
      else { b.configured m v with enable := true, expectSeq := v.extractLsb' 32 32 } := by
  have plain : ¬ b.fixed = true := by rw [not_fixed hoff hidle]; exact Bool.false_ne_true
  have disabled : ¬ b.enable = true := by rw [hoff]; exact Bool.false_ne_true
  unfold Mbox.control
  dsimp only
  rw [if_neg plain, hset, if_neg (by decide), if_neg disabled, setWidth_shift, setWidth_shift, setWidth_shift]
  rfl

theorem mboxCtrl_controls {s : State} (hup : s.windowUp = true) (m : MboxId) (v : W64) :
    execMboxCtrl m v s = .next (s.putMbox m.val ((s.mboxOf m.val).control m.val v)) := if_pos hup

/-! ## Descriptors (R367 to R369) -/

/-- R369: a descriptor that fails part of the first check. -/
theorem descriptorOk_of_bad {d : Descriptor} {expect : W32}
    (hbad : d.seq ≠ expect ∨ d.hcheck ≠ crc16 (descriptorBytes d) ∨ d.flags &&& 0xF8 ≠ 0 ∨ d.rsv9 ≠ 0 ∨
      (8 ≤ d.ctx.toNat ∧ d.ctx ≠ 0xFF) ∨ optBits d.opcode = none) : descriptorOk d expect = false := by
  refine Bool.eq_false_of_not_eq_true fun ok => ?_
  simp only [descriptorOk, Bool.and_eq_true, Bool.or_eq_true, beq_iff_eq, decide_eq_true_eq] at ok
  obtain ⟨⟨⟨⟨⟨⟨⟨⟨⟨⟨hcheck, flags⟩, rsv9⟩, -⟩, -⟩, -⟩, ctx⟩, opt⟩, seq⟩, -⟩, -⟩ := ok
  rcases hbad with h | h | h | h | ⟨h, h'⟩ | h
  · exact h seq
  · exact h hcheck
  · exact h flags
  · exact h rsv9
  · exact ctx.elim (Nat.not_lt.mpr h) h'
  · rw [h] at opt
    cases opt

section
variable {s : State} {m : MboxId} {d : Descriptor} (hup : s.windowUp = true)
  (hen : (s.mboxOf m.val).enable = true) (herr : (s.mboxOf m.val).err = false)
  (hmore : (s.mboxOf m.val).producer ≠ (s.mboxOf m.val).head)
  (hroom : ((s.mboxOf m.val).head - (s.mboxOf m.val).consumer).toNat < 64) (hhold : s.mode ≠ .hold)
  (hrecovery : s.mgmt.recovery = false)
include hup hen herr hmore hroom hhold hrecovery

/-- R367: the mailbox has a descriptor to be fetched. -/
theorem descriptorFetch_guard : ¬ (!s.windowUp || s.mode == .hold ||
    !((s.mboxOf m.val).enable && !(s.mboxOf m.val).err && (s.mboxOf m.val).producer != (s.mboxOf m.val).head &&
      decide (((s.mboxOf m.val).head - (s.mboxOf m.val).consumer).toNat < 64)) ||
    (s.mgmt.recovery && m.val != 0)) = true := by
  rw [hup, beq_eq_false_iff_ne.mpr hhold, hen, herr, bne_iff_ne.mpr hmore, decide_eq_true hroom, hrecovery]
  exact Bool.false_ne_true

theorem descriptorFetch_failed (hd : d.fetch = .failed) : execDescriptorFetch m d s =
    .next (s.putMbox m.val { s.mboxOf m.val with err := true, errCause := 2 }) := by
  refine (if_neg (descriptorFetch_guard hup hen herr hmore hroom hhold hrecovery)).trans ?_
  rw [hd]
  rfl

theorem descriptorFetch_late (hd : d.fetch = .late) : execDescriptorFetch m d s =
    .next (s.putMbox m.val { s.mboxOf m.val with err := true, errCause := 1 }) := by
  refine (if_neg (descriptorFetch_guard hup hen herr hmore hroom hhold hrecovery)).trans ?_
  rw [hd]
  rfl

/-- R369: a descriptor that passes the first check is held. -/
theorem descriptorFetch_held (hd : d.fetch = .ok) (hok : descriptorOk d (s.mboxOf m.val).expectSeq = true) :
    execDescriptorFetch m d s = .next (s.putMbox m.val { s.mboxOf m.val with
      head := (s.mboxOf m.val).head + 1, expectSeq := (s.mboxOf m.val).expectSeq + 1,
      held := (s.mboxOf m.val).held ++ [{
        opcode := d.opcode, order := d.flags.getLsbD 0, irq := d.flags.getLsbD 2,
        hdr := { mbox := m, seq := d.seq, ctx := d.ctx, job := d.job, opt := d.opt } }] }) := by
  refine (if_neg (descriptorFetch_guard hup hen herr hmore hroom hhold hrecovery)).trans ?_
  rw [hd]
  exact if_pos hok

/-- R369: a descriptor that does not pass it completes at once. -/
theorem descriptorFetch_refused (hd : d.fetch = .ok) (hbad : descriptorOk d (s.mboxOf m.val).expectSeq = false) :
    ∃ t, execDescriptorFetch m d s = .next t ∧ t = { s with mboxes := t.mboxes, hostOut := t.hostOut } ∧
      t.mboxOf m.val = { s.mboxOf m.val with
        head := (s.mboxOf m.val).head + 1, expectSeq := (s.mboxOf m.val).expectSeq + 1,
        tail := (s.mboxOf m.val).tail + 1 } ∧
      ∃ c rest, t.hostOut = s.hostOut ++ .completion c :: rest ∧ c.seq = d.seq ∧ c.opcode = d.opcode ∧
        c.status = stBAD_ARG ∧ c.mbox = m := by
  have bad : ¬ descriptorOk d (s.mboxOf m.val).expectSeq = true := by rw [hbad]; exact Bool.false_ne_true
  unfold execDescriptorFetch
  dsimp only
  rw [if_neg (descriptorFetch_guard hup hen herr hmore hroom hhold hrecovery), hd]
  dsimp only
  rw [if_neg bad]
  refine ⟨_, rfl, ?_, ?_, ?_⟩
  · rfl
  · exact State.putMbox_same ..
  · exact ⟨_, _, rfl, rfl, rfl, rfl, rfl⟩

end

/-! ## Accesses that fail (R358, R372) -/

/-- R372: the completion whose write has failed is lost. -/
theorem loseCompletion_keeps {s : State} {c : Completion} (late : Bool) :
    let t := s.loseCompletion c.mbox c.seq late
    t = { s with mboxes := t.mboxes, hostOut := t.hostOut } ∧ HostOut.completion c ∉ t.hostOut ∧
      (t.mboxOf c.mbox.val).err = true ∧ (t.mboxOf c.mbox.val).errCause = if late then 1 else 2 := by
  intro t
  have mbox : ∃ tail, t.mboxOf c.mbox.val =
      { s.mboxOf c.mbox.val with err := true, errCause := accessCause late, tail := tail } :=
    ⟨_, State.putMbox_same ..⟩
  obtain ⟨tail, mbox⟩ := mbox
  refine ⟨rfl, fun kept => ?_, congrArg Mbox.err mbox, congrArg Mbox.errCause mbox⟩
  have passes := (List.mem_filter.mp kept).2
  simp at passes

theorem completionDeadline_loses {s : State} {c : Completion} (hc : HostOut.completion c ∈ s.hostOut) (late : Bool) :
    execHostAccessDeadline (.completion c.mbox c.seq late) s = .next (s.loseCompletion c.mbox c.seq late) :=
  if_pos (List.any_eq_true.mpr ⟨_, hc, by simp⟩)

theorem descriptorDeadline_fails {s : State} {m : MboxId} (hup : s.windowUp = true)
    (hen : (s.mboxOf m.val).enable = true) (herr : (s.mboxOf m.val).err = false) (late : Bool) :
    execHostAccessDeadline (.descriptor m late) s =
      .next (s.putMbox m.val { s.mboxOf m.val with err := true, errCause := accessCause late }) :=
  if_pos (by rw [hup, hen, herr]; rfl)

/-! ## Window writes (R359) -/

section
variable {s : State} (hup : s.windowUp = true) {off : W16} {v : W64}
include hup

theorem registerWrite_aligned (haligned : off.toNat % 8 = 0) :
    execRegisterWrite off v 8 s = .next (s.writeWindow off.toNat v) :=
  (if_neg (by rw [hup]; decide)).trans (if_pos ⟨haligned, .inl rfl⟩)

theorem registerWrite_unaligned (hunaligned : off.toNat % 8 ≠ 0) : execRegisterWrite off v 8 s = .next s.winErr :=
  (if_neg (by rw [hup]; decide)).trans (if_neg fun both => hunaligned both.1)

end

theorem writeWindow_low (s : State) {off : Nat} (hoff : off < 0x100) (v : W64) : s.writeWindow off v = s.winErr := by
  rw [State.writeWindow, if_neg (by omega), if_neg (by omega), if_neg (by omega), if_neg (by omega)]

theorem writeWindow_traceMask (s : State) (v : W64) : s.writeWindow 0x1100 v = { s with traceMask := v } := rfl

/-- R365: the bases of a mailbox's rings. -/
theorem writeWindow_sqBase (s : State) (m : MboxId) (v : W64) : s.writeWindow (0x200 + 64 * m.val) v =
    if (s.mboxOf m.val).fixed then s else s.putMbox m.val { s.mboxOf m.val with sqBase := v } := by
  have number : (0x200 + 64 * m.val - 0x200) / 64 = m.val := by omega
  have place : (0x200 + 64 * m.val) % 64 = 0 := by omega
  rw [State.writeWindow, if_neg (by omega), if_pos (by omega), number, place]
  rfl

theorem writeWindow_cqBase (s : State) (m : MboxId) (v : W64) : s.writeWindow (0x208 + 64 * m.val) v =
    if (s.mboxOf m.val).fixed then s else s.putMbox m.val { s.mboxOf m.val with cqBase := v } := by
  have number : (0x208 + 64 * m.val - 0x200) / 64 = m.val := by omega
  have place : (0x208 + 64 * m.val) % 64 = 8 := by omega
  rw [State.writeWindow, if_neg (by omega), if_pos (by omega), number, place]
  rfl

/-- R504: the base of a ring. -/
theorem writeWindow_ringBase (s : State) (c : Fin 4) (v : W64) : s.writeWindow (0x1000 + 64 * c.val) v =
    if (s.ringOf c.val).enable then s.winErr else s.putRing c.val { s.ringOf c.val with base := v } := by
  have number : (0x1000 + 64 * c.val - 0x1000) / 64 = c.val := by omega
  have place : (0x1000 + 64 * c.val) % 64 = 0 := by omega
  rw [State.writeWindow, if_neg (by omega), if_neg (by omega), if_pos (by omega), number, place]
  rfl

/-! ## Event records sent out (R504, R505) -/

theorem writeExpCtrl_eq (s : State) (c : Nat) (v : W64) : s.writeExpCtrl c v = s.putRing c { s.ringOf c with
    enable := v.getLsbD 0, irqEn := v.getLsbD 1, vector := v.extractLsb' 2 5 } := by
  rw [← setWidth_shift]
  rfl

theorem writeExpCons_eq (s : State) (c : Nat) (v : W64) : s.writeExpCons c v =
    if precedes (s.ringOf c).prod (v.extractLsb' 0 32) = true ∨ unordered (s.ringOf c).prod (v.extractLsb' 0 32) = true
    then s.winErr else s.putRing c { s.ringOf c with cons := v.extractLsb' 0 32 } := by
  have cut : v.setWidth 32 = v.extractLsb' 0 32 := setWidth_shift v 0 32
  unfold State.writeExpCons
  dsimp only
  rw [cut]
  exact if_congr (Bool.or_eq_true _ _ ▸ Iff.rfl) rfl rfl

theorem eventExport_guard {s : State} {g : Ring} (hup : s.windowUp = true) (hhold : s.mode ≠ .hold)
    (hen : g.enable = true) : ¬ (!s.windowUp || s.mode == .hold || !g.enable) = true := by
  rw [hup, beq_eq_false_iff_ne.mpr hhold, hen]
  decide

section
variable {s : State} {cls : Fin 4} {last : EventRec} (hup : s.windowUp = true) (hhold : s.mode ≠ .hold)
  (hen : (s.ringOf cls.val).enable = true) (hlast : (s.ringOf cls.val).exportable.getLast? = some last)
include hup hhold hen hlast

theorem eventExport_copies : execEventExport cls true s = .next { (s.putRing cls.val { s.ringOf cls.val with
      unread := (s.ringOf cls.val).unread.drop (s.ringOf cls.val).exportable.length, prod := last.seq + 1 }) with
    hostOut := s.hostOut ++
      (s.ringOf cls.val).exportable.map (fun e =>
        HostOut.event ((s.ringOf cls.val).base + BitVec.ofNat 64 (64 * (e.seq.toNat % 1024))) cls e) ++
      (if (s.ringOf cls.val).irqEn then [.vector (s.ringOf cls.val).vector] else []) } := by
  unfold execEventExport
  dsimp only
  rw [hlast]
  exact (if_neg (eventExport_guard hup hhold hen)).trans (if_neg (by decide))

theorem eventExport_failed : execEventExport cls false s = .next (s.exportFails cls.val) := by
  unfold execEventExport
  dsimp only
  rw [hlast]
  exact (if_neg (eventExport_guard hup hhold hen)).trans (if_pos rfl)

end

/-! ## The mirror and the sample (R360, R361, R507) -/

theorem updateMirror_rows (s : State) (m : MboxId) : s.updateMirror.mirror.heads[m] = (s.mboxOf m.val).head ∧
    s.updateMirror.mirror.tails[m] = (s.mboxOf m.val).tail :=
  ⟨Vector.getElem_ofFn .., Vector.getElem_ofFn ..⟩

/-- Settles O45. Doorbells, registers, descriptors and exports are decided by the mailbox or the ring that they name. -/
theorem mailboxesAndWindow : Obligations.MailboxesAndWindow := by
  unfold Obligations.MailboxesAndWindow
  refine ⟨?mailboxes, ?window⟩
  case mailboxes =>
    intro s m v bytes d hup b p put
    refine ⟨fun hn => ⟨?sq, ?sqBeyond, ?cq, ?cqBeyond⟩, fun h8 h4 => doorbell_size hup m v h8 h4, ?control,
      fun hen herr hmore hroom hhold hrecovery => ?fetch, fun hen herr => ?deadline, fun c late hc hm => ?lost,
      fun cls hen => (exec_hostAccessDeadline ..).trans (if_pos hen)⟩
    case sq =>
      exact fun near => (exec_sqDb ..).trans ((sqDb_rings hup m v hn).trans
        (congrArg Host.Outcome.next (if_neg (Nat.not_lt.mpr near))))
    case sqBeyond =>
      exact fun far => (exec_sqDb ..).trans ((sqDb_rings hup m v hn).trans (congrArg Host.Outcome.next (if_pos far)))
    case cq =>
      exact fun near => (exec_cqDb ..).trans ((cqDb_rings hup m v hn).trans
        (congrArg Host.Outcome.next (if_neg (Nat.not_lt.mpr near))))
    case cqBeyond =>
      exact fun far => (exec_cqDb ..).trans ((cqDb_rings hup m v hn).trans (congrArg Host.Outcome.next (if_pos far)))
    case control =>
      intro set_ aligned
      have controls {b' : Mbox} (h : b.control m.val v = b') : exec (.mboxCtrl m v) s = put b' :=
        (exec_mboxCtrl ..).trans ((mboxCtrl_controls hup m v).trans
          (congrArg (fun b' => Host.Outcome.next (s.putMbox m.val b')) h))
      have misaligned : (b.sqBase.toNat % 16384 ≠ 0 ∨ b.cqBase.toNat % 4096 ≠ 0) ↔ ¬ aligned := not_and_or.symm
      refine ⟨fun hset hoff hidle => ⟨fun h => ?_, fun h => ?_⟩, fun hset hen => ?_, fun hclear hfixed => ?_⟩
      · exact controls ((control_free hoff hidle m.val hset).trans (if_neg (fun bad => misaligned.mp bad h)))
      · exact controls ((control_free hoff hidle m.val hset).trans (if_pos (misaligned.mpr h)))
      · have kept : ¬ v.getLsbD 0 = false := by rw [hset]; decide
        exact controls ((control_fixed ((fixed_iff b).mpr (.inl hen)) m.val v).trans
          ((if_neg kept).trans (if_pos hen)))
      · exact controls ((control_fixed ((fixed_iff b).mpr hfixed) m.val v).trans (if_pos hclear))
    case fetch =>
      intro taken
      refine ⟨fun hd => ?_, fun hd => ?_, fun hd hok => ?_, fun hd hbad => ?_⟩
      · exact (exec_descriptorFetch ..).trans (descriptorFetch_failed hup hen herr hmore hroom hhold hrecovery hd)
      · exact (exec_descriptorFetch ..).trans (descriptorFetch_late hup hen herr hmore hroom hhold hrecovery hd)
      · exact (exec_descriptorFetch ..).trans (descriptorFetch_held hup hen herr hmore hroom hhold hrecovery hd hok)
      · exact descriptorFetch_refused hup hen herr hmore hroom hhold hrecovery hd (descriptorOk_of_bad hbad)
    case deadline =>
      exact ⟨(exec_hostAccessDeadline ..).trans (descriptorDeadline_fails hup hen herr true),
        (exec_hostAccessDeadline ..).trans (descriptorDeadline_fails hup hen herr false)⟩
    case lost =>
      subst hm
      exact ⟨_, (exec_hostAccessDeadline ..).trans (completionDeadline_loses hc late), loseCompletion_keeps late⟩
  case window =>
    intro s off v portB cls hup n g write
    have on := windowUp_on hup
    have writes (haligned : n % 8 = 0) : write = .next (s.writeWindow n v) :=
      (exec_registerWrite ..).trans (registerWrite_aligned hup haligned)
    have unaligned (h : n % 8 ≠ 0) : write = .next s.winErr :=
      (exec_registerWrite ..).trans (registerWrite_unaligned hup h)
    refine ⟨fun hn => ?trace, fun hn => ?low, unaligned, fun m hn => ?sqBase, fun m hn => ?cqBase, fun hn hoff => ?base,
      ?expCtrl, ?expCons, ?exports, ?mirror, rfl, rfl, rfl, ?portA, ?portB, fun hhold => ?sample⟩
    case trace =>
      rw [writes (by rw [hn]), hn, writeWindow_traceMask]
    case low =>
      by_cases haligned : n % 8 = 0
      · rw [writes haligned, writeWindow_low s hn]
      · exact unaligned haligned
    case sqBase =>
      intro b
      have goes := writes (by omega)
      rw [hn, writeWindow_sqBase] at goes
      refine ⟨fun hoff hidle => goes.trans (congrArg Host.Outcome.next (if_neg ?_)),
        fun hen => goes.trans (congrArg Host.Outcome.next (if_pos ((fixed_iff b).mpr (.inl hen))))⟩
      rw [not_fixed hoff hidle]
      exact Bool.false_ne_true
    case cqBase =>
      intro b hoff hidle
      have goes := writes (by omega)
      rw [hn, writeWindow_cqBase] at goes
      refine goes.trans (congrArg Host.Outcome.next (if_neg ?_))
      rw [not_fixed hoff hidle]
      exact Bool.false_ne_true
    case base =>
      refine (writes (by omega)).trans (congrArg Host.Outcome.next ?_)
      rw [hn, writeWindow_ringBase, if_neg (fun en => Bool.false_ne_true (hoff.symm.trans en))]
    case expCtrl =>
      exact (exec_expCtrl ..).trans ((if_pos hup).trans (congrArg Host.Outcome.next (writeExpCtrl_eq ..)))
    case expCons =>
      intro c beyond
      have goes : exec (.expCons cls v) s =
          .next (if beyond then s.winErr else s.putRing cls.val { g with cons := c }) :=
        (exec_expCons ..).trans ((if_pos hup).trans (congrArg Host.Outcome.next (writeExpCons_eq ..)))
      exact ⟨fun h => goes.trans (congrArg Host.Outcome.next (if_neg h)),
        fun h => goes.trans (congrArg Host.Outcome.next (if_pos h))⟩
    case exports =>
      intro out hhold hen last hlast
      exact ⟨(exec_eventExport ..).trans (eventExport_copies hup hhold hen hlast),
        (exec_eventExport ..).trans (eventExport_failed hup hhold hen hlast)⟩
    case mirror =>
      exact ⟨s.updateMirror, (exec_mirrorUpdate s).trans (if_neg on), rfl, rfl, rfl, updateMirror_rows s⟩
    case portA => exact (exec_civlinkPortActive ..).trans (if_neg on)
    case portB => exact (exec_civlinkPortActive ..).trans (if_neg on)
    case sample =>
      exact ⟨_, (exec_telemSample s).trans (if_neg (not_or.mpr ⟨on, hhold⟩)), rfl, rfl, rfl, rfl,
        fun x => Vector.getElem_ofFn ..⟩

end Sys2Proof.Machine
end
